-- ==== Sys2Proof/Word.lean ====
section
/-! DEFINITION. The widths the spec works in: bytes, the deck's scalar, vector and predicate words,
and an octet of data that travels with its poison mark. -/

namespace Sys2Proof

/-- One byte. -/
abbrev Byte := BitVec 8

/-- A string of bytes, lowest address first. -/
abbrev Bytes := List Byte

/-- A deck scalar register, a slot of a bundle (R188). -/
abbrev Scalar := BitVec 64

/-- A deck vector register (08_decks.md, Registers). -/
abbrev VecReg := BitVec 512

/-- A deck predicate register (08_decks.md, Registers). -/
abbrev PredReg := BitVec 64

/-- A byte as a master sees it: its value and its poison mark (R14, R109, R133, R192). -/
structure Octet where
  val : Byte
  bad : Bool
  deriving DecidableEq, Repr, Inhabited

end Sys2Proof
end

