-- ==== Sys2Proof/Syntax.lean ====
section
/-! DEFINITION. The commands of the block: one constructor of Instr for each row of
spec/opcode_table.json, and the types of their operands. -/

namespace Sys2Proof

/-- The dictionary channels of R37: one for the privileged mailbox, one per tenant mailbox, the
sideband (I3C and I2C), and the channel of frames forwarded by the pilot. -/
inductive Channel where
  | priv
  | tenant (t : Fin 64)
  | side
  | fwd
  deriving DecidableEq, Repr

/-- What REGISTER_WRITE addresses: an object with no row of its own, or bytes of BAR0. -/
inductive RegTarget where
  | object (ch : Channel) (idx sub : Nat) (val : Bytes)
  | bar0 (offset : Nat) (data : Bytes)
  deriving DecidableEq, Repr

/-- A legacy I2C transfer at the static address (R45). -/
inductive I2cTransfer where
  | write (data : Bytes)
  | read (n : Nat)
  deriving DecidableEq, Repr

/-- What starts a host reset (R81). -/
inductive HostResetCause where
  | perst
  | hotReset
  | linkDown
  deriving DecidableEq, Repr

/-- The tamper sources of R100. -/
inductive TamperSource where
  | pin
  | voltageGlitch
  | clockGlitch
  deriving DecidableEq, Repr

/-- The two descriptor queues of the weight flash (05_weight_flash.md, Descriptor queues). -/
inductive QueueId where
  | helm
  | priv
  deriving DecidableEq, Repr

/-- The kinds of access that R136 tells apart. -/
inductive AccessKind where
  | fetch
  | stream
  | read
  | write
  deriving DecidableEq, Repr

/-- What the LPDDR link ECC makes of a read (R146): clean, corrected, good on the repeat, or failed
twice. -/
inductive LinkEcc where
  | clean
  | corrected
  | repeatGood
  | failedTwice
  deriving DecidableEq, Repr

/-- A master's access to the device physical address space (R136). The length table of a coded
flash block is the one named by `lengths` where the access carries one (a weight stream does). -/
structure Access where
  master : Fin 25
  tenant : Option (Fin 64)
  kind : AccessKind
  addr : Nat
  len : Nat
  data : List Octet
  lengths : Option Nat
  link : LinkEcc
  deriving DecidableEq, Repr

/-- The four slots of a bundle (R188). -/
inductive Slot where
  | c
  | m
  | v
  | x
  deriving DecidableEq, Repr

/-- The deck units that a sequenced operation holds (R189). -/
inductive SeqUnit where
  | vector
  | arrays
  deriving DecidableEq, Repr

/-- Which part of a ring doorbell a host write touches (10_rings_and_turns.md, Doorbells). -/
inductive BellPart where
  | both
  | tail
  | head
  deriving DecidableEq, Repr

/-- A full-rate ferry packet as received: the 16-byte header, the payload and the CRC-32. -/
structure Packet where
  header : Bytes
  payload : Bytes
  crc : BitVec 32
  deriving DecidableEq, Repr

/-- The media pipelines that start frames at boundaries (R322). -/
inductive Pipeline where
  | decode
  | encode
  deriving DecidableEq, Repr

/-- An area of a picture, in luma samples. -/
structure Rect where
  x : Nat
  y : Nat
  w : Nat
  h : Nat
  deriving DecidableEq, Repr

/-- What the video coding standard makes of one picture: the standards are outside the spec, so the
command carries their result. `profile` (coded as in a context record, 0 any other), `level` in tenths, and
`interlaced` (a field picture or an MBAFF frame) are the stream's own, and `randomAccess` tells that decoding can
begin with the picture. `luma` and `chroma` are the decoded (or reconstructed) planes of width by
height samples without pitch, two bytes a sample where `deep`; `damaged` the areas that could not be
decoded; `order` its place in display order, `outputs` how many decoded frames the standard outputs once
it is decoded; `dropped` the buffers it removes from the reference set; `coded` the coded picture of an
encode. -/
structure PictureFacts where
  profile : Nat
  level : Nat
  interlaced : Bool
  randomAccess : Bool
  width : Nat
  height : Nat
  deep : Bool
  luma : Bytes
  chroma : Bytes
  damaged : List Rect
  poison : Bool
  grain : Bool
  asReference : Bool
  longTerm : Bool
  dropped : List Nat
  coded : Bytes
  shown : Bool
  order : Nat
  outputs : Nat
  deriving DecidableEq, Repr

/-- What the packet-header ECC of CSI-2 makes of a header (R333). -/
inductive HeaderEcc where
  | good
  | corrected
  | bad
  deriving DecidableEq, Repr

/-- A CSI-2 short packet. -/
structure ShortPacket where
  vc : Fin 4
  ecc : HeaderEcc
  number : Nat
  lp11 : Bool
  deriving DecidableEq, Repr

/-- A CSI-2 long packet: virtual channel, data type, payload and whether its CRC passes (R333). -/
structure LongPacket where
  vc : Fin 4
  dataType : Nat
  ecc : HeaderEcc
  payload : Bytes
  crcGood : Bool
  deriving DecidableEq, Repr

/-- The PCIe device states (03_watch_and_power.md, The host link while asleep). -/
inductive DState where
  | d0
  | d3hot
  | d3cold
  deriving DecidableEq, Repr

/-- A host configuration write of CONFIGURATION_REQUEST (R65, R150). -/
inductive CfgRequest where
  | aspm (l1 l12 : Bool)
  | dstate (d : DState)
  | completionTimeout (ms : Nat)
  deriving DecidableEq, Repr

/-- The commands the block takes, one constructor for each row of spec/opcode_table.json. -/
inductive Instr where
  /-- EXPEDITED_READ (R30): A request frame with op 0x01 returns a whole object of at most 48 bytes in one response, after the checks of R40. -/
  | expeditedRead (ch : Channel) (frame : Bytes)
  /-- EXPEDITED_WRITE (R30): A request frame with op 0x02 writes a whole value of at most 48 bytes, after the checks of R40. -/
  | expeditedWrite (ch : Channel) (frame : Bytes)
  /-- SEGMENTED_READ (R31): A request frame with op 0x03 returns one 48-byte segment of an object; it consumes or advances consuming objects only when byte L − 1 is sent. -/
  | segmentedRead (ch : Channel) (frame : Bytes)
  /-- SEGMENTED_WRITE (R33): A request frame with op 0x04 carries one segment; the frame holding byte L − 1 applies the value atomically. -/
  | segmentedWrite (ch : Channel) (frame : Bytes)
  /-- ABORT (R35): A request frame with op 0x05 closes the open segmented transfer it names and records the requester's code. -/
  | abortFrame (ch : Channel) (frame : Bytes)
  /-- REGISTER_WRITE (R40): A write to a dictionary object or BAR0 register field that has no row of its own is checked and stored, or cleared where the field is write-1-to-clear. -/
  | registerWrite (t : RegTarget)
  /-- SEGMENT_TIMEOUT (R36): A segmented transfer idle longer than Segment Timeout is closed, and its transfer_id is kept for the timed-out answer. -/
  | segmentTimeout (ch : Channel)
  /-- I3C_PRIVATE_WRITE (R43): A 64-byte private write delivers a request frame to the sideband channel; other lengths, and writes while the channel is busy, are discarded and counted. -/
  | i3cPrivateWrite (ddr : Option Byte) (data : Bytes)
  /-- I3C_PRIVATE_READ (R44): A 64-byte private read returns the ready response, and is NACKed until a response is ready. -/
  | i3cPrivateRead (ddr : Option Byte) (n : Nat)
  /-- I2C_LEGACY_TRANSFER (R45): A legacy I2C 64-byte write or read at the static address carries a frame; only ops 0x01, 0x03 and 0x05 are served. -/
  | i2cLegacyTransfer (t : I2cTransfer)
  /-- FORWARD_TIMEOUT (R47): A forwarded frame whose response has not returned to the pilot within 20 ms is answered with member timed out. -/
  | forwardTimeout (origin : Channel)
  /-- HOST_RANGE (R48): A write of the host driver's level range negotiates Chosen Level, or is refused and sets Chosen Level to 0. -/
  | hostRange (ch : Channel) (val : Bytes)
  /-- STORE_PARAMETERS (R51): Writing 0x5357_0001 to Store Command starts copying the stored set into the next parameter sector. -/
  | storeParameters (ch : Channel) (val : Bytes)
  /-- STORE_DONE (R51): The parameter store completes: the new copy is committed, the older copy is erased and the response is posted. -/
  | storeDone (programmed : Bool)
  /-- RESTORE_DEFAULTS (R52): Writing 0x5357_0002 to Restore Command invalidates both copies of the stored set without changing the values in force. -/
  | restoreDefaults (ch : Channel) (val : Bytes)
  /-- DOZE_NOW (R65): State Command 0x03 is accepted and makes the device enter DOZE at the first turn barrier at which R18 holds. -/
  | dozeNow (ch : Channel) (val : Bytes)
  /-- WATCH_NOW (R65): State Command 0x04 is accepted if L1.2 or D3hot is enabled, and makes the device enter DOZE and then WATCH once the link permits. -/
  | watchNow (ch : Channel) (val : Bytes)
  /-- OFF_PREPARE (R66): State Command 0x05 stops admission and starts draining, journalling and LPDDR self-refresh towards OFF_READY. -/
  | offPrepare (ch : Channel) (val : Bytes)
  /-- OFF_PREPARE_DONE (R66): Preparation completes, Power State Current becomes OFF_READY and an IBI 0xD4 is raised if enabled. -/
  | offPrepareDone
  /-- READY_TIMEOUT (R60): No berth has been runnable for Ready Timeout, so the device goes from ACTIVE to READY at the next turn barrier. -/
  | readyTimeout
  /-- DOZE_TIMEOUT (R60): READY has been held for Doze Timeout, so DOZE entry is due. -/
  | dozeTimeout
  /-- WATCH_TIMEOUT (R60): DOZE has been held for Watch Timeout, so WATCH entry is due. -/
  | watchTimeout
  /-- DOZE_ENTRY (R18): At a turn barrier with no runnable berth, drained store buffers and an idle tier mover, the device starts DOZE entry. -/
  | dozeEntry
  /-- DOZE_ENTRY_DONE (R18): DOZE entry completes: fast PLLs stop and ASPM L1 entry is initiated if enabled. -/
  | dozeEntryDone
  /-- WATCH_ENTRY (R59): From DOZE, with the link state and tier-1 quotas permitting, the device starts WATCH entry by moving tier-0 tensors and saving the serving state. -/
  | watchEntry
  /-- WATCH_ENTRY_DONE (R62): Power to every domain except the watch domain is removed, RAIL_EN goes low and WATCH entry is complete. -/
  | watchEntryDone
  /-- WAKE_SOURCE (R70): An unmasked wake source is latched; it aborts an entry in progress or starts an exit, and is recorded in Last Wake Source. -/
  | wakeSource (bits : BitVec 32)
  /-- DOZE_EXIT_DONE (R71): DOZE exit completes, the device is in READY and admits the latched work. -/
  | dozeExitDone
  /-- WATCH_EXIT_DONE (R63): WATCH exit completes after the PLLs relock, the saved set is restored and helm code is reloaded; the device is in READY. -/
  | watchExitDone
  /-- HOST_L1_EXIT (R68): Assertion of CLKREQ_N by the host takes the link out of L1.2 and acts as a wake source. -/
  | hostL1Exit
  /-- HELD_OUTPUT_TIMER (R72): The oldest unreported staged record has waited Timer, so the host is woken. -/
  | heldOutputTimer (b : Nat)
  /-- HOST_WAKE_COALESCE (R73): The 100 µs window that combines host wakes ends and one host wake is sent for the combined events. -/
  | hostWakeCoalesce
  /-- WATCH_DEADLINE_TIMER (R74): The held-output deadline timer expires in WATCH, so the device leaves WATCH and wakes the host. -/
  | watchDeadlineTimer
  /-- POINT_CHANGE_DONE (R77): A raising operating-point change completes its LDO ramp and PLL relock, and the held turn barrier is released. -/
  | pointChangeDone
  /-- THERMAL_SAMPLE (R78): The sensors are sampled and the hottest reading is updated; emergency or trip action is taken when its level is crossed. -/
  | thermalSample (readings : List Int) (avg1s avg10ms : Nat)
  /-- POWER_ON_RESET (R81): The rails rise through their thresholds and a power-on reset clears everything; it completes at the first RST_N rising edge. -/
  | powerOnReset
  /-- RST_N_ASSERT (R82): RST_N held low starts a pin reset that clears what the reset table states. -/
  | rstNAssert
  /-- RST_N_RELEASE (R87): The rising edge of RST_N samples the straps and runs start-up to READY or harbour mode within 80 ms. -/
  | rstNRelease
  /-- WARM (R83): Reset Command 0x5357_0010 is accepted and a warm reset is scheduled 1 ms after the response. -/
  | warmReset (ch : Channel) (val : Bytes)
  /-- COLD (R83): Reset Command 0x5357_0011 is accepted and a cold reset is scheduled 1 ms after the response. -/
  | coldReset (ch : Channel) (val : Bytes)
  /-- HARBOUR (R83): Reset Command 0x5357_0012 is accepted and a warm reset into harbour mode is scheduled 1 ms after the response. -/
  | harbourReset (ch : Channel) (val : Bytes)
  /-- RESET_DELAY (R83): The 1 ms after an accepted reset command expires and the reset begins. -/
  | resetDelay
  /-- HOST_RESET (R85): PERST_N assertion, a PCIe hot reset or a link-down stops admission, drops the mailbox channels and clears the serving plane after the current turn commits. -/
  | hostReset (why : HostResetCause)
  /-- HELM_WATCHDOG (R86): The helm watchdog expires and causes a warm reset with cause 0x06. -/
  | helmWatchdog
  /-- COMMIT_COMMAND (R92): Writing 0x5357_0020 advances counters 0 and 1 to the security versions of the running firmware. -/
  | commitCommand (ch : Channel) (val : Bytes)
  /-- LIFECYCLE_TO_FACTORY (R96): Transition command 0x5357_1001 moves BLANK to FACTORY by advancing counter 2. -/
  | lifecycleToFactory (ch : Channel) (val : Bytes)
  /-- LIFECYCLE_TO_DEVELOPMENT (R96): Transition command 0x5357_1002 moves FACTORY to DEVELOPMENT by advancing counter 3. -/
  | lifecycleToDevelopment (ch : Channel) (val : Bytes)
  /-- LIFECYCLE_TO_DEPLOYED (R96): Transition command 0x5357_1003 moves FACTORY to DEPLOYED by advancing counter 2. -/
  | lifecycleToDeployed (ch : Channel) (val : Bytes)
  /-- LIFECYCLE_TO_SERVICE (R96): Transition command 0x5357_1004 with a valid authorisation moves DEPLOYED to SERVICE by advancing counter 4. -/
  | lifecycleToService (ch : Channel) (val : Bytes)
  /-- LIFECYCLE_LEAVE_SERVICE (R96): Transition command 0x5357_1005 moves SERVICE back to DEPLOYED by advancing counter 4. -/
  | lifecycleLeaveService (ch : Channel) (val : Bytes)
  /-- LIFECYCLE_TO_END (R96): Transition command 0x5357_100E moves any state except END to END by advancing counter 5. -/
  | lifecycleToEnd (ch : Channel) (val : Bytes)
  /-- SERVICE_AUTHORISATION (R97): An 80-byte signed authorisation is checked and, if good, held for one transition. -/
  | serviceAuthorisation (ch : Channel) (val : Bytes)
  /-- TAMPER (R100): A tamper event wipes the secure hold, advances counter 7, queues a record and may force a warm reset into harbour mode. -/
  | tamperEvent (src : TamperSource)
  /-- JOURNAL_RECORD_WRITTEN (R105): A journal record's commit word is programmed, and the next queued event or LOST_EVENTS record is taken. -/
  | journalRecordWritten
  /-- FLASH_READ (R118): A submitted READ descriptor copies stored, unexpanded flash bytes into its buffer. -/
  | flashRead (ch : Channel) (val : Bytes)
  /-- FLASH_PROGRAM (R120): A submitted PROGRAM descriptor reads its buffer, checks every target word and programs erased words. -/
  | flashProgram (ch : Channel) (val : Bytes)
  /-- FLASH_ERASE (R126): A submitted ERASE descriptor erases whole sectors through the marker sequence. -/
  | flashErase (ch : Channel) (val : Bytes)
  /-- BLANK_CHECK (R118): A submitted BLANK_CHECK descriptor checks that every word of its range is erased. -/
  | flashBlankCheck (ch : Channel) (val : Bytes)
  /-- FLASH_VERIFY (R121): A submitted VERIFY descriptor compares flash words with its buffer. -/
  | flashVerify (ch : Channel) (val : Bytes)
  /-- CRC32 (R118): A submitted CRC32 descriptor computes the IEEE 802.3 CRC over the stored bytes of its range. -/
  | flashCrc32 (ch : Channel) (val : Bytes)
  /-- DESCRIPTOR_START (R122): A queued descriptor starts once earlier descriptors on its banks, or all earlier ones under fence, have completed. -/
  | descriptorStart (q : QueueId) (seq : Nat)
  /-- PROGRAM_PULSE_DONE (R112): A program pulse ends; pending WAIT reads are served, and the next pulse starts or the descriptor completes. -/
  | programPulseDone (bank : Fin 64) (verified : Bool)
  /-- ERASE_DONE (R126): A sector erase finishes its data array and marker, or fails, and the descriptor continues or completes. -/
  | eraseDone (bank : Fin 64) (completed : Bool)
  /-- ERASE_RESUME (R112): No WAIT read has been pending for Resume Idle, so the suspended erase resumes. -/
  | eraseResume (bank : Fin 64)
  /-- COMPLETION_POST (R124): A finished descriptor's completion is posted in submission order once space frees, with MSI-X and IBI 0xD5 if notify is set. -/
  | completionPost
  /-- FLASH_FLUSH (R125): Flush Command 0x5357_0030 completes every descriptor not yet started as ABORTED. -/
  | flashFlush (ch : Channel) (val : Bytes)
  /-- REGION_WRITE (R116): A write to a protection region value is checked and held until it can take effect. -/
  | regionWrite (ch : Channel) (n : Fin 16) (val : Bytes)
  /-- REGION_CHANGE_EFFECT (R117): Once started descriptors complete and clearing erases finish, a region change takes effect. -/
  | regionChangeEffect (n : Fin 16)
  /-- MEMORY_ACCESS (R136): A master's read or write is checked line by line against its region entries, flash kinds and sealed ranges, and served or refused. -/
  | memoryAccess (a : Access)
  /-- SCRUB_READ (R134): The patrol scrubber reads a hold word in an unclaimed bank cycle and corrects or counts any error. -/
  | scrubRead (addr : Nat)
  /-- REGION_ENTRY_BASE (R138): A write to a region entry base word is held as pending and does not change the entry. -/
  | regionEntryBase (ch : Channel) (m : Fin 25) (e : Fin 16) (val : Bytes)
  /-- REGION_ENTRY_LIMIT (R139): A write to a region entry limit word applies the pending or current base word with the new limit as one change. -/
  | regionEntryLimit (ch : Channel) (m : Fin 25) (e : Fin 16) (val : Bytes)
  /-- WINDOW_UPDATE (R149): A 24-byte window update record sets or invalidates one host window entry. -/
  | windowUpdate (ch : Channel) (val : Bytes)
  /-- HOST_READ_TIMEOUT (R150): A read of host memory not answered within the PCIe completion timeout returns poison and raises a memory error. -/
  | hostReadTimeout (m : Fin 25) (addr : Nat)
  /-- CREATE (R152): Tensor command CREATE makes a tensor object with home 1 or 3 after quota and table checks. -/
  | tensorCreate (ch : Channel) (val : Bytes)
  /-- DESTROY (R152): Tensor command DESTROY removes an unpinned tensor, freeing its space at the next turn barrier. -/
  | tensorDestroy (ch : Channel) (val : Bytes)
  /-- SET_HINT (R155): Tensor command SET_HINT changes a tensor's hint, releasing or taking the NEAR_PIN pin. -/
  | tensorSetHint (ch : Channel) (val : Bytes)
  /-- PIN (R155): Tensor command PIN adds one pin to a tensor. -/
  | tensorPin (ch : Channel) (val : Bytes)
  /-- UNPIN (R155): Tensor command UNPIN removes one pin from a tensor. -/
  | tensorUnpin (ch : Channel) (val : Bytes)
  /-- TIER_QUOTA_WRITE (R159): A write to a tier quota or device reserve is checked against the pools and may start evictions of the tenant's RO copies. -/
  | tierQuotaWrite (ch : Channel) (idx sub : Nat) (val : Bytes)
  /-- TIER_MOVE_START (R156): The tier mover starts the next move, copy or eviction in class order. -/
  | tierMoveStart
  /-- TIER_MOVE_DONE (R157): A tensor move or copy completes; its new home takes effect at the next turn barrier. -/
  | tierMoveDone
  /-- NOP (R188): Slot operation 0x00 does nothing. -/
  | nop (k : Fin 16) (slot : Slot) (w : BitVec 64) (last : Bool)
  /-- ADD (R188): C-slot ADD writes s[a] + s[b] to s[d], wrapping. -/
  | add (k : Fin 16) (w : BitVec 64) (last : Bool)
  /-- SUB (R188): C-slot SUB writes s[a] − s[b] to s[d], wrapping. -/
  | sub (k : Fin 16) (w : BitVec 64) (last : Bool)
  /-- AND (R188): C-slot AND writes s[a] AND s[b] to s[d]. -/
  | andOp (k : Fin 16) (w : BitVec 64) (last : Bool)
  /-- OR (R188): C-slot OR writes s[a] OR s[b] to s[d]. -/
  | orOp (k : Fin 16) (w : BitVec 64) (last : Bool)
  /-- XOR (R188): C-slot XOR writes s[a] XOR s[b] to s[d]. -/
  | xorOp (k : Fin 16) (w : BitVec 64) (last : Bool)
  /-- SHL (R188): C-slot SHL shifts s[a] left by s[b][5:0]. -/
  | shl (k : Fin 16) (w : BitVec 64) (last : Bool)
  /-- SHR (R188): C-slot SHR shifts s[a] right logically by s[b][5:0]. -/
  | shr (k : Fin 16) (w : BitVec 64) (last : Bool)
  /-- SRA (R188): C-slot SRA shifts s[a] right arithmetically by s[b][5:0]. -/
  | sra (k : Fin 16) (w : BitVec 64) (last : Bool)
  /-- MUL (R188): C-slot MUL writes the low 64 bits of s[a] × s[b]. -/
  | mul (k : Fin 16) (w : BitVec 64) (last : Bool)
  /-- MULHU (R188): C-slot MULHU writes the high 64 bits of the unsigned product. -/
  | mulhu (k : Fin 16) (w : BitVec 64) (last : Bool)
  /-- SLT (R188): C-slot SLT sets s[d] to 1 if s[a] is below s[b] signed. -/
  | slt (k : Fin 16) (w : BitVec 64) (last : Bool)
  /-- SLTU (R188): C-slot SLTU sets s[d] to 1 if s[a] is below s[b] unsigned. -/
  | sltu (k : Fin 16) (w : BitVec 64) (last : Bool)
  /-- SEQ (R188): C-slot SEQ sets s[d] to 1 if s[a] equals s[b]. -/
  | seq (k : Fin 16) (w : BitVec 64) (last : Bool)
  /-- ADDI (R188): C-slot ADDI adds a sign-extended immediate to s[a]. -/
  | addi (k : Fin 16) (w : BitVec 64) (last : Bool)
  /-- ANDI (R188): C-slot ANDI ANDs s[a] with a sign-extended immediate. -/
  | andi (k : Fin 16) (w : BitVec 64) (last : Bool)
  /-- ORI (R188): C-slot ORI ORs s[a] with a sign-extended immediate. -/
  | ori (k : Fin 16) (w : BitVec 64) (last : Bool)
  /-- MOVHI (R188): C-slot MOVHI places the immediate in the upper 32 bits above the low half of s[a]. -/
  | movhi (k : Fin 16) (w : BitVec 64) (last : Bool)
  /-- BR (R188): C-slot BR branches by imm × 32 when s[a] ≠ 0 XOR fl[0], after the whole bundle. -/
  | br (k : Fin 16) (w : BitVec 64) (last : Bool)
  /-- JMP (R188): C-slot JMP jumps to PC + imm × 32. -/
  | jmp (k : Fin 16) (w : BitVec 64) (last : Bool)
  /-- CALL (R188): C-slot CALL writes PC + 32 to s[d] and jumps to PC + imm × 32. -/
  | call (k : Fin 16) (w : BitVec 64) (last : Bool)
  /-- JR (R188): C-slot JR jumps to s[a]. -/
  | jr (k : Fin 16) (w : BitVec 64) (last : Bool)
  /-- PSET (R188): C-slot PSET sets p[d] to all ones if s[a] ≠ 0, else to zero. -/
  | pset (k : Fin 16) (w : BitVec 64) (last : Bool)
  /-- PAND (R188): C-slot PAND writes p[a] AND p[b] to p[d]. -/
  | pand (k : Fin 16) (w : BitVec 64) (last : Bool)
  /-- POR (R188): C-slot POR writes p[a] OR p[b] to p[d]. -/
  | por (k : Fin 16) (w : BitVec 64) (last : Bool)
  /-- PNOT (R188): C-slot PNOT writes NOT p[a] to p[d]. -/
  | pnot (k : Fin 16) (w : BitVec 64) (last : Bool)
  /-- PGET (R188): C-slot PGET copies p[a] to s[d]. -/
  | pget (k : Fin 16) (w : BitVec 64) (last : Bool)
  /-- PPUT (R188): C-slot PPUT copies s[a] to p[d]. -/
  | pput (k : Fin 16) (w : BitVec 64) (last : Bool)
  /-- GETS (R187): C-slot GETS reads the logical deck, turn count, rows, layer index or deck count into s[d]. -/
  | gets (k : Fin 16) (w : BitVec 64) (last : Bool)
  /-- DONE (R207): C-slot DONE ends the layer program, drains the store buffer and stops every stream. -/
  | doneOp (k : Fin 16) (w : BitVec 64) (last : Bool)
  /-- DECK_COMPLETION (R207): After DONE has drained its store buffer, the deck reports completion to the helm. -/
  | deckCompletion (k : Fin 16)
  /-- LD (R205): M-slot LD loads 1, 2, 4 or 8 bytes into s[d], forwarding from pending stores. -/
  | ld (k : Fin 16) (w : BitVec 64) (last : Bool)
  /-- ST (R205): M-slot ST places the low bytes of s[b] into the store buffer. -/
  | st (k : Fin 16) (w : BitVec 64) (last : Bool)
  /-- VLD (R205): M-slot VLD loads 64 bytes into v[d]. -/
  | vld (k : Fin 16) (w : BitVec 64) (last : Bool)
  /-- VST (R191): M-slot VST stores v[b] under byte predication through the store buffer. -/
  | vst (k : Fin 16) (w : BitVec 64) (last : Bool)
  /-- VLDR (R188): M-slot VLDR loads eight strided 8-byte rows into v[d]. -/
  | vldr (k : Fin 16) (w : BitVec 64) (last : Bool)
  /-- VSTR (R202): M-slot VSTR stores eight strided rows of v[b], suppressing masked rows. -/
  | vstr (k : Fin 16) (w : BitVec 64) (last : Bool)
  /-- WSLD (R193): M-slot WSLD loads and checks a weight stream descriptor and starts the stream, or joins a shared stream. -/
  | wsld (k : Fin 16) (w : BitVec 64) (last : Bool)
  /-- WSEND (R188): M-slot WSEND stops a weight stream and discards its undelivered steps. -/
  | wsend (k : Fin 16) (w : BitVec 64) (last : Bool)
  /-- RMLD (R202): M-slot RMLD loads the 32-byte rowmap. -/
  | rmld (k : Fin 16) (w : BitVec 64) (last : Bool)
  /-- KVPUT (R203): M-slot KVPUT writes uncommitted KV codes or scales of unmasked rows, taking new sets under the quota. -/
  | kvput (k : Fin 16) (w : BitVec 64) (last : Bool)
  /-- FENCE (R205): M-slot FENCE stalls until the store buffer is empty. -/
  | fence (k : Fin 16) (w : BitVec 64) (last : Bool)
  /-- SEMSIG (R259): M-slot SEMSIG signals a local or remote semaphore once, taking effect at the turn's commit point. -/
  | semsig (k : Fin 16) (w : BitVec 64) (last : Bool)
  /-- SEMWAIT (R259): M-slot SEMWAIT stalls until a local semaphore holds at least s[b]. -/
  | semwait (k : Fin 16) (w : BitVec 64) (last : Bool)
  /-- VADD (R166): V-slot VADD adds elements of type et. -/
  | vadd (k : Fin 16) (w : BitVec 64) (last : Bool)
  /-- VSUB (R166): V-slot VSUB subtracts elements of type et. -/
  | vsub (k : Fin 16) (w : BitVec 64) (last : Bool)
  /-- VMUL (R166): V-slot VMUL multiplies elements of type et. -/
  | vmul (k : Fin 16) (w : BitVec 64) (last : Bool)
  /-- VMAX (R188): V-slot VMAX takes the element maximum. -/
  | vmax (k : Fin 16) (w : BitVec 64) (last : Bool)
  /-- VMIN (R188): V-slot VMIN takes the element minimum. -/
  | vmin (k : Fin 16) (w : BitVec 64) (last : Bool)
  /-- VAND (R188): V-slot VAND is a bitwise AND. -/
  | vand (k : Fin 16) (w : BitVec 64) (last : Bool)
  /-- VOR (R188): V-slot VOR is a bitwise OR. -/
  | vor (k : Fin 16) (w : BitVec 64) (last : Bool)
  /-- VXOR (R188): V-slot VXOR is a bitwise XOR. -/
  | vxor (k : Fin 16) (w : BitVec 64) (last : Bool)
  /-- VFMA (R166): V-slot VFMA computes v[a] × v[b] + v[c] with one rounding. -/
  | vfma (k : Fin 16) (w : BitVec 64) (last : Bool)
  /-- VABS (R188): V-slot VABS writes element magnitudes. -/
  | vabs (k : Fin 16) (w : BitVec 64) (last : Bool)
  /-- VNEG (R188): V-slot VNEG negates elements. -/
  | vneg (k : Fin 16) (w : BitVec 64) (last : Bool)
  /-- VCVT (R167): V-slot VCVT converts elements to another type under the narrowing and saturation rules. -/
  | vcvt (k : Fin 16) (w : BitVec 64) (last : Bool)
  /-- VCMPLT (R188): V-slot VCMPLT sets predicate bits where v[a] is less than v[b]. -/
  | vcmplt (k : Fin 16) (w : BitVec 64) (last : Bool)
  /-- VCMPEQ (R188): V-slot VCMPEQ sets predicate bits where v[a] equals v[b]. -/
  | vcmpeq (k : Fin 16) (w : BitVec 64) (last : Bool)
  /-- VSEL (R188): V-slot VSEL selects bytes of v[a] or v[b] by p[c]. -/
  | vsel (k : Fin 16) (w : BitVec 64) (last : Bool)
  /-- VBCAST (R188): V-slot VBCAST broadcasts the low bytes of s[a]. -/
  | vbcast (k : Fin 16) (w : BitVec 64) (last : Bool)
  /-- VEXTR (R188): V-slot VEXTR extracts one element into s[d]. -/
  | vextr (k : Fin 16) (w : BitVec 64) (last : Bool)
  /-- VPERM (R188): V-slot VPERM permutes bytes of v[a] by v[b]. -/
  | vperm (k : Fin 16) (w : BitVec 64) (last : Bool)
  /-- VRCP (R166): V-slot VRCP computes fp32 reciprocals with one rounding. -/
  | vrcp (k : Fin 16) (w : BitVec 64) (last : Bool)
  /-- VRSQRT (R166): V-slot VRSQRT computes fp32 reciprocal square roots with one rounding. -/
  | vrsqrt (k : Fin 16) (w : BitVec 64) (last : Bool)
  /-- VEXP2 (R166): V-slot VEXP2 computes fp32 powers of two with one rounding. -/
  | vexp2 (k : Fin 16) (w : BitVec 64) (last : Bool)
  /-- VRED (R188): V-slot VRED sums or takes the maximum of enabled elements in order. -/
  | vred (k : Fin 16) (w : BitVec 64) (last : Bool)
  /-- QROW (R201): V-slot QROW quantises eight rows to int8 tiles and scales, under R175 or, with fl[0], R176. -/
  | qrow (k : Fin 16) (w : BitVec 64) (last : Bool)
  /-- MMA (R198): X-slot MMA takes one stream step and accumulates into a bank, closing the group into fp32 when close is set. -/
  | mma (k : Fin 16) (w : BitVec 64) (last : Bool)
  /-- ACCZ (R188): X-slot ACCZ zeroes a bank's partial and accumulator in every array. -/
  | accz (k : Fin 16) (w : BitVec 64) (last : Bool)
  /-- ACCST (R200): X-slot ACCST stores a bank's unmasked rows, optionally scaled, narrowed and cleared. -/
  | accst (k : Fin 16) (w : BitVec 64) (last : Bool)
  /-- SEQUENCED_OPERATION_DONE (R189): A sequenced QROW, ACCST or bf16/fp16 MMA completes and releases its unit to stalled bundles. -/
  | sequencedOperationDone (k : Fin 16) (u : SeqUnit)
  /-- STORE_DRAIN (R205): The oldest store-buffer entry drains to memory in program order. -/
  | storeDrain (k : Fin 16)
  /-- STREAM_STEP (R194): A weight stream delivers its next step, with group scales on closing steps, to its decks' buffers. -/
  | streamStep (k : Fin 16) (ws : Fin 4)
  /-- TIME_LIMIT (R210): A layer program runs longer than Layer Time Limit and raises TIME_LIMIT. -/
  | timeLimit (k : Fin 16)
  /-- DECK_RESET (R208): Deck Reset 0x5357_0040 resets the deck at the next turn barrier. -/
  | deckReset (ch : Channel) (k : Fin 16) (val : Bytes)
  /-- TURN_BARRIER (R17): At the turn barrier pending cancels, swaps, sleeps, point, margin and layout changes take effect and the next batch is formed. -/
  | turnBarrier
  /-- LAYER_DISPATCH (R213): The helm loads code areas, resolves arguments and starts a layer's programs on their decks. -/
  | layerDispatch
  /-- ROUTING_STEP (R280): After the router programs are done, the serving plane routes unmasked rows and writes the dispatch table. -/
  | routingStep
  /-- SAMPLING (R250): The sampler draws each token-yielding berth's token on two units and compares them. -/
  | sampling (tag : Nat) (logits : Nat) (mismatches : Nat)
  /-- COMMIT_POINT (R248): After every integrity check passes, positions advance, tokens are delivered, sets are published and completions are posted. -/
  | commitPoint
  /-- ATTEMPT_ABANDON (R350): A failed attempt is abandoned once its layer's decks are done, and the turn is replayed on non-suspect decks. -/
  | attemptAbandon
  /-- INSTALL (R217): Image command INSTALL checks the image and starts writing its runs into a WEIGHT_ONLY region. -/
  | installImage (ch : Channel) (val : Bytes)
  /-- LOAD (R220): Image command LOAD checks the image and starts placing it in tier 1 and a sealed range. -/
  | loadImage (ch : Channel) (val : Bytes)
  /-- REMOVE (R224): Image command REMOVE makes the slot REMOVING and erases or releases the image. -/
  | removeImage (ch : Channel) (val : Bytes)
  /-- IMAGE_VERIFY (R226): Image command VERIFY rehashes every tensor from its home through the mover's hash unit. -/
  | imageVerify (ch : Channel) (val : Bytes)
  /-- COMMIT_VERSION (R227): Image command COMMIT_VERSION advances the image's anti-rollback counter and revokes older slots. -/
  | commitVersion (ch : Channel) (val : Bytes)
  /-- IMAGE_COMMAND_DONE (R216): An image command ends; Command Result is set and MSI-X and IBI 0xD6 are raised. -/
  | imageCommandDone
  /-- SWAP_REQUEST (R228): A swap request is checked and, if accepted, starts staging the first changed layer. -/
  | swapRequest (ch : Channel) (val : Bytes)
  /-- SWAP_LAYER_STAGED (R229): A changed layer is staged and hashed, and its in-place copy waits for the next barrier. -/
  | swapLayerStaged
  /-- SWAP_COPY_DONE (R229): The in-place copy of a layer completes, tier-0 copies are dropped and the barrier is released. -/
  | swapCopyDone
  /-- SWAP_ABORT (R231): Swap Command ABORT cancels a swap before its first replacement. -/
  | swapAbort (ch : Channel) (val : Bytes)
  /-- SWAP_RESUME (R231): Swap Command RESUME restarts staging of a stalled swap at the failed layer. -/
  | swapResume (ch : Channel) (val : Bytes)
  /-- DOORBELL (R236): A ring doorbell write updates sq_tail or cq_head, or is ignored and counted. -/
  | doorbell (ring : Nat) (part : BellPart) (val : BitVec 64)
  /-- RING_RECORD (R235): A write to the selected ring record sets up or changes a ring, resetting its counts when enabled. -/
  | ringRecord (ch : Channel) (t : Fin 64) (val : Bytes)
  /-- GENERATE (R241): A fetched GENERATE entry is checked, looks up prefixes and takes a berth. -/
  | generateReq (ring : Nat)
  /-- CANCEL (R255): A fetched CANCEL is accepted at once and cancels its target or completes late. -/
  | cancelReq (ring : Nat)
  /-- CONTINUE (R244): A fetched CONTINUE makes a parked berth live again with a new prompt. -/
  | continueReq (ring : Nat)
  /-- CLOSE (R244): A fetched CLOSE frees a parked berth, or cancels and frees a live one. -/
  | closeReq (ring : Nat)
  /-- SEM_SIGNAL (R259): A fetched SEM_SIGNAL adds its amount to a semaphore and completes. -/
  | semSignal (ring : Nat)
  /-- SEM_WAIT (R259): A fetched SEM_WAIT holds its ring's later fetches until the semaphore reaches its level. -/
  | semWait (ring : Nat)
  /-- SEM_WAIT_SATISFIED (R258): A pending wait's semaphore reaches its level, so the wait completes and fetching resumes. -/
  | semWaitSatisfied (ring : Nat)
  /-- PARK_LIMIT (R244): A berth has been parked for Park Limit and is freed without a completion. -/
  | parkLimit (b : Nat)
  /-- COALESCE_TIME (R262): coalesce_time has passed since the first unsignalled completion, so the ring's MSI-X message is sent. -/
  | coalesceTime (ring : Nat)
  /-- HOST_SLEEP_IDLE (R251): With Host Sleep Hint set, 100 µs without host memory traffic makes the device initiate L1 entry. -/
  | hostSleepIdle
  /-- HELD_OUTPUT_FLUSH (R252): When the link leaves L1.2, staged records and held completions are written to host memory in order. -/
  | heldOutputFlush
  /-- PARTITION_SETS (R265): A write to Partition Sets withdraws the slot's prefix nodes and places the KV partition anew. -/
  | partitionSets (ch : Channel) (slot : Fin 8) (val : Bytes)
  /-- KV_PAGE_QUOTA (R278): A write to a KV Page Quota is checked and may evict the tenant's evictable sets. -/
  | kvPageQuota (ch : Channel) (t : Fin 64) (val : Bytes)
  /-- RING_SIZE (R290): A write to Ring Size empties the expert record ring, if the reserve can take the new size. -/
  | ringSize (ch : Channel) (val : Bytes)
  /-- BIAS_VECTOR (R292): A bias vector write replaces all E biases of a layer from the next turn barrier. -/
  | biasVector (ch : Channel) (layer : Fin 255) (val : Bytes)
  /-- LINK_TRAINED (R295): A ferry port completes training at x4, x2 or x1, or returns from slow crossing to full rate. -/
  | linkTrained (port : Fin 3) (failed : List (Fin 4))
  /-- IDLE (R298): An IDLE packet returns link_ack and credits. -/
  | idlePacket (port : Fin 3) (p : Packet)
  /-- NAK (R298): A NAK makes the sender resend every unacknowledged packet in order. -/
  | nakPacket (port : Fin 3) (p : Packet)
  /-- RETRY_TIMEOUT (R298): 10 µs without link_ack progress makes the sender resend; after eight such resends the link is down. -/
  | retryTimeout (port : Fin 3)
  /-- HELLO (R303): A HELLO packet is received, relayed to the other ports and taken into the join decision. -/
  | helloPacket (port : Fin 3) (p : Packet)
  /-- JOIN_DECISION (R303): 5 ms after the last new HELLO, the pilot decides the join outcomes and sends JOIN packets. -/
  | joinDecision
  /-- JOIN (R304): A JOIN packet makes a device a member, with its routes and broadcast tree, or refuses it. -/
  | joinPacket (port : Fin 3) (p : Packet)
  /-- DICT_PACKET (R46): A DICT packet carries a forwarded dictionary frame to a member, or its response back. -/
  | dictPacket (port : Fin 3) (p : Packet)
  /-- BERTH (R308): A BERTH packet places a request on a node, forwards a cancel, or clears the pilot's berths. -/
  | berthPacket (port : Fin 3) (p : Packet)
  /-- BATCH_TABLE (R311): A TURN packet carrying a batch table starts a pipeline turn at a stage. -/
  | batchTable (port : Fin 3) (p : Packet)
  /-- COMMIT_REPORT (R307): The pilot accepts a commit report, which is the turn's commit point, posts results and sends turn-commit. -/
  | commitReport (port : Fin 3) (p : Packet)
  /-- TURN_COMMIT (R307): A turn-commit makes a device advance positions and publish sets for berths not in the discard map. -/
  | turnCommit (port : Fin 3) (p : Packet)
  /-- SEMSIG_PACKET (R312): A SEMSIG packet signals a semaphore if the source node is allowed, else it is dropped. -/
  | semsigPacket (port : Fin 3) (p : Packet)
  /-- WRITE_PACKET (R313): A WRITE packet writes bytes through ferry inbound, or feeds a broadcast install or load. -/
  | writePacket (port : Fin 3) (p : Packet)
  /-- READ_PACKET (R313): A READ packet reads through ferry inbound and returns READ_DATA. -/
  | readPacket (port : Fin 3) (p : Packet)
  /-- READ_DATA (R313): A READ_DATA packet completes a deck's remote read, marked poison where poisoned. -/
  | readData (port : Fin 3) (p : Packet)
  /-- DOWNSHIFT (R296): A DOWNSHIFT packet drops the link to slow crossing. -/
  | downshift (port : Fin 3) (p : Packet)
  /-- LOSS (R316): A LOSS packet tells a member that a node has been lost. -/
  | lossPacket (port : Fin 3) (p : Packet)
  /-- KEEPALIVE (R302): A KEEPALIVE frame is received over slow crossing. -/
  | keepalive (port : Fin 3) (f : Bytes)
  /-- KEEPALIVE_PERIOD (R302): Each Keep-alive Period a KEEPALIVE frame is sent on every slow-crossing link. -/
  | keepalivePeriod
  /-- KEEPALIVE_SILENCE (R302): Ten periods without a valid frame take the port down. -/
  | keepaliveSilence (port : Fin 3)
  /-- WAKE (R302): A slow-crossing WAKE frame reaching its destination is wake source bit 3 or 4. -/
  | wakeFrame (port : Fin 3) (f : Bytes)
  /-- DICT_REQ (R314): A DICT_REQ frame carries a forwarded dictionary frame over slow crossing. -/
  | dictReq (port : Fin 3) (f : Bytes)
  /-- DICT_RSP (R314): A DICT_RSP frame returns a forwarded response over slow crossing. -/
  | dictRsp (port : Fin 3) (f : Bytes)
  /-- LAYOUT (R306): A Layout write at the idle pilot is applied to every joined node in one step. -/
  | layoutWrite (ch : Channel) (val : Bytes)
  /-- STAGE_MAP (R310): A Stage Map write assigns decoder layers of a slot to nodes. -/
  | stageMap (ch : Channel) (slot : Fin 8) (val : Bytes)
  /-- CONTEXT_OPEN (R321): Context command OPEN checks the record and LIVE limits and opens the context. -/
  | contextOpen (ch : Channel) (val : Bytes)
  /-- CONTEXT_PAUSE (R322): Context command PAUSE stops new frames of the context. -/
  | contextPause (ch : Channel) (val : Bytes)
  /-- CONTEXT_RESUME (R322): Context command RESUME reopens a paused context. -/
  | contextResume (ch : Channel) (val : Bytes)
  /-- CONTEXT_CLOSE (R338): Context command CLOSE closes the context at its next frame boundary and aborts its jobs. -/
  | contextClose (ch : Channel) (val : Bytes)
  /-- CONTEXT_FLUSH (R320): Context command FLUSH completes every queued job ABORTED and clears reference marks. -/
  | contextFlush (ch : Channel) (val : Bytes)
  /-- CONTEXT_RECORD (R337): A context record write sets a closed context, or changes the class, rate or rate control of an open one. -/
  | contextRecord (ch : Channel) (val : Bytes)
  /-- JOB (R323): A 32-byte job is queued for a decode or encode context. -/
  | mediaJob (ch : Channel) (val : Bytes)
  /-- REGISTER (R324): A buffer descriptor registers or unregisters a frame buffer. -/
  | registerBuffer (ch : Channel) (val : Bytes)
  /-- RELEASE (R325): Writing a buffer index to Release clears its held mark. -/
  | releaseBuffer (ch : Channel) (val : Bytes)
  /-- NEXT_FRAME_START (R322): At a frame boundary a pipeline starts the next ready frame, LIVE first by waiting time, then FILE in turn. -/
  | nextFrameStart (pipe : Pipeline)
  /-- JOB_CONSUMED (R323): The decoder has read a chunk in full and posts JOB_CONSUMED. -/
  | jobConsumed (c : Fin 32)
  /-- FRAME_DONE (R327): A decode, encode or camera frame completes, its completion is posted and its buffer is marked held, with a semaphore signal if set. -/
  | frameDone (c : Fin 32) (facts : PictureFacts)
  /-- FRAME_BUDGET (R329): A decode frame runs past Frame Budget, is concealed and completes TIMEOUT. -/
  | frameBudget (c : Fin 32) (facts : PictureFacts)
  /-- RECEIVER_SETTING (R336): A Receiver Setting or channel record write is staged until the next Frame Start. -/
  | receiverSetting (ch : Channel) (idx sub : Nat) (val : Bytes)
  /-- FRAME_START (R335): A CSI-2 Frame Start short packet begins a camera frame, ends a frame in progress and applies staged settings. -/
  | frameStart (h : ShortPacket)
  /-- FRAME_END (R335): A CSI-2 Frame End short packet ends a camera frame, padding or flagging its length. -/
  | frameEnd (h : ShortPacket)
  /-- LINE_START (R335): A CSI-2 Line Start short packet begins a line. -/
  | lineStart (h : ShortPacket)
  /-- LINE_END (R335): A CSI-2 Line End short packet ends a line, which is measured against width. -/
  | lineEnd (h : ShortPacket)
  /-- LONG_PACKET (R333): A CSI-2 long packet of line data is checked and processed by the front end, or replaced on a CRC failure. -/
  | longPacket (p : LongPacket)
  /-- CLEAR_STEPS (R358): Margin command CLEAR_STEPS sets a deck's steps to its Vmin steps at the next barrier. -/
  | clearSteps (ch : Channel) (val : Bytes)
  /-- RETIRE (R358): Margin command RETIRE retires a deck at the next barrier. -/
  | retireDeck (ch : Channel) (val : Bytes)
  /-- RESTORE (R358): Margin command RESTORE returns a retired deck to service at the next barrier. -/
  | restoreDeck (ch : Channel) (val : Bytes)
  /-- INJECT (R361): An Inject write arms one fault for the next turn's first attempt on a deck. -/
  | injectFault (ch : Channel) (val : Bytes)
  /-- ERROR_REPORT_COALESCE (R349): The 100 µs window of error records ends and one Error Vector message and IBI 0xD7 are sent. -/
  | errorReportCoalesce
  /-- SW_PGOOD (R364): SW_PGOOD rises after RAIL_EN, and WATCH exit may restart the switched domains. -/
  | swPgood
  /-- SW_PGOOD_TIMEOUT (R364): SW_PGOOD is not high within 10 ms, so RAIL_EN is lowered and a POWER record is queued. -/
  | swPgoodTimeout
  /-- RAIL_RETRY (R364): Every 100 ms with the wake source latched, the device raises RAIL_EN again. -/
  | railRetry
  /-- POWER_LOSS (R366): Rails fall outside RAIL_EN low or out of order; this is a brown-out with no promise. -/
  | powerLoss
  /-- CONFIGURATION_REQUEST (R65): A host PCIe configuration write enables ASPM L1 and its L1.2 substate, moves the device between D0, D3hot and D3cold, or sets the completion timeout in Device Control 2. -/
  | configurationRequest (r : CfgRequest)
  /-- LINK_L1_2_ENTRY (R67): The PCIe link completes its entry into L1.2 (or into L2 with the device in D3cold) after the device initiated L1 entry. -/
  | linkL12Entry
  /-- PERST_N_RELEASE (R87): PERST_N rises and the device starts PCIe link training within 20 ms of the later of the RST_N and PERST_N rising edges. -/
  | perstNRelease
  /-- PCIE_LINK_UP (R69): PCIe link training completes and the link is up, after which a pending PME message is sent and host accesses can reach the device. -/
  | pcieLinkUp
  /-- TAMPER_N_RELEASE (R100): TAMPER_N returns high, ending the discarding of secure-hold writes and the zero reads, and arming the pin so a new assertion counts as a new event. -/
  | tamperNRelease
  /-- WATCH_FLL_LOCK (R55): The watch FLL locks after SLOWCLK reaches a stable amplitude, and DOZE, WATCH and slow crossing become permitted. -/
  | watchFllLock
  /-- DYNAMIC_ADDRESS_ASSIGNMENT (R43): The I3C controller assigns the device's dynamic address, which is then reported in Dynamic Address. -/
  | dynamicAddressAssignment (addr : BitVec 7)
  /-- RAILS_REMOVED (R366): The integrator removes the rails in OFF_READY and the device goes from OFF_READY to OFF. -/
  | railsRemoved
  deriving DecidableEq, Repr

end Sys2Proof
end

