-- ==== Sys2Proof/Decode.lean ====
section
/-! DEFINITION. The host's numbering of command words: no row of spec/opcode_table.json gives a bit, so
no word spells a command. -/

namespace Sys2Proof

/-- The command a word spells by the table's bits: none, since no row of the table gives bits. -/
def decodeTableWord (_nbits _w : Nat) : Option Instr := none

end Sys2Proof
end

