-- ==== Sys2Proof/Machine/Bytes.lean ====
section
/-! DEFINITION. Helpers over bytes and lists: little-endian fields (R5), bit fields, slices, and
finite maps kept as lists of pairs. -/

namespace Sys2Proof.Machine

/-- The number a byte string spells, byte 0 least significant (R5). -/
def leNat : Bytes → Nat
  | [] => 0
  | b :: bs => b.toNat + 256 * leNat bs

/-- The n bytes of v, byte 0 least significant (R5). -/
def leBytes : Nat → Nat → Bytes
  | 0, _ => []
  | n + 1, v => BitVec.ofNat 8 v :: leBytes n (v / 256)

/-- The number a byte string spells, byte 0 most significant (R375). -/
def beNat (bs : Bytes) : Nat := bs.foldl (fun a b => a * 256 + b.toNat) 0

/-- The n bytes of v, byte 0 most significant. -/
def beBytes (n v : Nat) : Bytes := (leBytes n v).reverse

/-- Bytes off to off + len − 1 of a string. -/
def slice (bs : Bytes) (off len : Nat) : Bytes := (bs.drop off).take len

/-- A little-endian field of a structure: len bytes at off. -/
def fld (bs : Bytes) (off len : Nat) : Nat := leNat (slice bs off len)

/-- Whether len bytes at off are all zero (a reserved field, R6). -/
def zeroAt (bs : Bytes) (off len : Nat) : Bool := (slice bs off len).all (· == 0)

/-- Bits [hi:lo] of a number. -/
def bitsOf (v hi lo : Nat) : Nat := v / 2 ^ lo % 2 ^ (hi + 1 - lo)

/-- Bit n of a number. -/
def bitOf (v n : Nat) : Bool := v.testBit n

/-- A string cut or padded with zeros to n bytes. -/
def padTo (n : Nat) (bs : Bytes) : Bytes := (bs ++ List.replicate n 0).take n

/-- Put the string `new` over the bytes of bs from off on. -/
def overlay (bs : Bytes) (off : Nat) (new : Bytes) : Bytes :=
  bs.take off ++ new ++ bs.drop (off + new.length)

/-- A Bool as 0 or 1. -/
def b2n (b : Bool) : Nat := if b then 1 else 0

/-- Round v up to a multiple of m. -/
def alignUp (v m : Nat) : Nat := (v + m - 1) / m * m

/-- Whether two ranges of bytes, first and length, share one. -/
def overlaps (a la b lb : Nat) : Bool := decide (a < b + lb) && decide (b < a + la)

/-! ## Finite maps as lists of pairs -/

/-- The value kept under a key. -/
def aget {α β : Type} [DecidableEq α] (l : List (α × β)) (k : α) : Option β :=
  (l.find? (fun p => decide (p.1 = k))).map (·.2)

/-- The value kept under a key, or a default. -/
def agetD {α β : Type} [DecidableEq α] (l : List (α × β)) (k : α) (d : β) : β := (aget l k).getD d

/-- Forget a key. -/
def adel {α β : Type} [DecidableEq α] (l : List (α × β)) (k : α) : List (α × β) :=
  l.filter (fun p => !decide (p.1 = k))

/-- Keep a value under a key. -/
def aset {α β : Type} [DecidableEq α] (l : List (α × β)) (k : α) (v : β) : List (α × β) :=
  (k, v) :: adel l k

/-- Change the value kept under a key, leaving the order of the map. -/
def amod {α β : Type} [DecidableEq α] (l : List (α × β)) (k : α) (f : β → β) : List (α × β) :=
  l.map (fun p => if p.1 = k then (p.1, f p.2) else p)

/-- The least number that is not in a list. -/
def leastFree (l : List Nat) : Nat := ((List.range (l.length + 1)).find? (fun n => !l.contains n)).getD 0

/-- Put an element into its place in a sorted list, after those that are not greater. -/
def insertBy {α : Type} (le : α → α → Bool) (x : α) : List α → List α
  | [] => [x]
  | y :: r => if le y x then y :: insertBy le x r else x :: y :: r

/-- Sort a list; equal elements keep their order. -/
def sortBy {α : Type} (le : α → α → Bool) (l : List α) : List α := l.foldl (fun r x => insertBy le x r) []

/-- Sort numbers. -/
def sortNat (l : List Nat) : List Nat := sortBy (fun a b => decide (a ≤ b)) l

/-- Put a range, first and end, into its place by its first. -/
def insertRange (p : Nat × Nat) : List (Nat × Nat) → List (Nat × Nat)
  | [] => [p]
  | q :: r => if p.1 ≤ q.1 then p :: q :: r else q :: insertRange p r

/-- Join ranges, first and end, that meet or touch; the list rises by first. -/
def joinRanges : List (Nat × Nat) → List (Nat × Nat)
  | [] => []
  | p :: r =>
    match joinRanges r with
    | [] => [p]
    | q :: t => if q.1 ≤ p.2 then (p.1, max p.2 q.2) :: t else p :: q :: t

/-- The least set of ranges that covers the given ones. -/
def mergeRanges (l : List (Nat × Nat)) : List (Nat × Nat) := joinRanges (l.foldl (fun r p => insertRange p r) [])

/-- Change element n of a list. -/
def lmod {α : Type} (l : List α) (n : Nat) (f : α → α) : List α :=
  match l, n with
  | [], _ => []
  | a :: r, 0 => f a :: r
  | a :: r, n + 1 => a :: lmod r n f

/-! ## Check sums -/

/-- One step of the reflected CRC-32 of IEEE 802.3 on a bit. -/
def crc32Bit (c : BitVec 32) : BitVec 32 :=
  if c.getLsbD 0 then (c >>> 1) ^^^ 0xEDB88320#32 else c >>> 1

/-- The CRC-32 register after one byte. -/
def crc32Byte (c : BitVec 32) (b : Byte) : BitVec 32 :=
  let x := c ^^^ b.zeroExtend 32
  crc32Bit (crc32Bit (crc32Bit (crc32Bit (crc32Bit (crc32Bit (crc32Bit (crc32Bit x)))))))

/-- The IEEE 802.3 CRC-32 of a string (R105, R118, R297). -/
def crc32 (bs : Bytes) : BitVec 32 := ~~~ (bs.foldl crc32Byte 0xFFFFFFFF#32)

end Sys2Proof.Machine
end

