-- ==== Sys2Proof/Machine/BlockCode.lean ====
section
/-! DEFINITION. The block code (07_numbers_and_block_code.md, R177 to R181): decoding with its damage
checks, and the LPDDR encoder. -/

namespace Sys2Proof.Machine

/-! ## Decoding (R178, R179) -/

/-- A bit stream being taken: the bits left as a number, the next bit least significant, and how many
bits are left up to the end of the last declared burst. -/
abbrev BitsLeft := Nat × Nat

/-- Take w bits, least significant first; none beyond the end. -/
def takeBits (w : Nat) (p : BitsLeft) : Option (Nat × BitsLeft) :=
  if w ≤ p.2 then some (p.1 % 2 ^ w, (p.1 / 2 ^ w, p.2 - w)) else none

/-- A w-bit two's complement field as a byte. -/
def signByte (w v : Nat) : Byte :=
  if v < 2 ^ (w - 1) then BitVec.ofNat 8 v else BitVec.ofNat 8 (v + (2 ^ 8 - 2 ^ w))

/-- Take n fields of w bits as bytes; an overrun is damage 0x09. -/
def takeFields (f : Nat → Except Nat Byte) (w : Nat) : Nat → BitsLeft → Except Nat (Bytes × BitsLeft)
  | 0, p => .ok ([], p)
  | n + 1, p =>
    match takeBits w p with
    | none => .error 9
    | some (v, q) =>
      match f v with
      | .error e => .error e
      | .ok b =>
        match takeFields f w n q with
        | .error e => .error e
        | .ok (bs, r) => .ok (b :: bs, r)

/-- A dictionary index as its entry; an index at or above dict_size is damage 0x08. -/
def dictByte (dict : Bytes) (x : Nat) : Except Nat Byte :=
  match dict[x]? with
  | some b => .ok b
  | none => .error 8

/-- Decode one strip (Strip modes). -/
def decodeStrip (dict : Bytes) (mode : Nat) (p : BitsLeft) : Except Nat (Bytes × BitsLeft) :=
  match mode with
  | 0 => .ok (List.replicate 64 0, p)
  | 1 =>
    match takeBits 512 p with
    | none => .error 9
    | some (v, q) => .ok (leBytes 64 v, q)
  | 2 =>
    match takeBits 3 p with
    | none => .error 9
    | some (w, q) => if w = 0 then .error 7 else takeFields (fun v => .ok (signByte w v)) w 64 q
  | _ => takeFields (dictByte dict) 4 64 p

/-- Decode strips in order, by their modes. -/
def decodeStrips (dict : Bytes) : List Nat → BitsLeft → Except Nat (Bytes × BitsLeft)
  | [], p => .ok ([], p)
  | m :: ms, p =>
    match decodeStrip dict m p with
    | .error e => .error e
    | .ok (bs, q) =>
      match decodeStrips dict ms q with
      | .error e => .error e
      | .ok (r, t) => .ok (bs ++ r, t)

/-- The modes of the 64 strips, two bits each (Mode map). -/
def stripModes (map : Nat) : List Nat := (List.range 64).map (fun i => map / 4 ^ i % 4)

/-- Damage checks 0x02 to 0x06 on the header (R179). -/
def headerDamage (stored : Bytes) (lt : Nat) : Option Nat :=
  if fld stored 0 1 ≠ 0xB1 then some 2
  else if fld stored 1 1 ≠ 1 then some 3
  else if fld stored 2 1 ≠ 0 ∨ fld stored 5 3 ≠ 0 then some 4
  else if 16 < fld stored 4 1 then some 5
  else if fld stored 3 1 = 0 ∨ 63 < fld stored 3 1 ∨ fld stored 3 1 ≠ lt then some 6
  else none

/-- Decode a coded block from its declared bursts: the 4,096 bytes, or the code of the first failing
damage check (R178, R179). -/
def decodeCoded (stored : Bytes) (lt : Nat) : Except Nat Bytes :=
  match headerDamage stored lt with
  | some c => .error c
  | none =>
    let n := fld stored 4 1
    let payload := slice stored (24 + n) (64 * lt - (24 + n))
    match decodeStrips (slice stored 24 n) (stripModes (fld stored 8 16)) (leNat payload, 8 * payload.length) with
    | .error e => .error e
    | .ok (out, rest) =>
      if out.length ≠ 4096 then .error 0x0A
      else if rest.1 ≠ 0 then .error 0x0B
      else .ok out

/-- What the expander makes of a slot and its length-table value (R178): damage 0x01 for 0 and 65 to
255, the slot itself for 64, else the decoding of the declared bursts. -/
def decodeBlock (slot : Bytes) (lt : Nat) : Except Nat Bytes :=
  if lt = 0 ∨ 64 < lt then .error 1
  else if lt = 64 then .ok (slice slot 0 4096)
  else decodeCoded (slice slot 0 (64 * lt)) lt

/-! ## Encoding (R181) -/

/-- The 64 strips of a block. -/
def stripsOf (b : Bytes) : List Bytes := (List.range 64).map (fun i => slice b (64 * i) 64)

/-- A byte fits w-bit two's complement. -/
def byteFits (w : Nat) (b : Byte) : Bool :=
  decide (b.toNat < 2 ^ (w - 1)) || decide (2 ^ 8 - 2 ^ (w - 1) ≤ b.toNat)

/-- Least width in 1 to 8 that every byte of a strip fits, 0 for an all-zero strip. -/
def stripWidth (s : Bytes) : Nat :=
  if s.all (· == 0) then 0
  else ((List.range 8).map (· + 1)).find? (fun w => s.all (byteFits w)) |>.getD 8

/-- Put a byte into an ascending set. -/
def insertByte (b : Byte) : Bytes → Bytes
  | [] => [b]
  | c :: r => if b.toNat < c.toNat then b :: c :: r else if b = c then c :: r else c :: insertByte b r

/-- The union of an ascending set and a strip's values. -/
def unionBytes (d s : Bytes) : Bytes := s.foldl (fun d b => insertByte b d) d

/-- The dictionary of a block: strips of width 4 or more join in order while it stays within 16. -/
def dictOf (strips : List Bytes) : Bytes :=
  strips.foldl (fun d s =>
    if 4 ≤ stripWidth s then (if (unionBytes d s).length ≤ 16 then unionBytes d s else d) else d) []

/-- Mode of a strip: the cheapest, ties going to zero, narrow, dict, raw in that order. -/
def stripMode (d s : Bytes) : Nat :=
  let w := stripWidth s
  let inDict := s.all (fun b => d.contains b)
  if w = 0 then 0
  else if w ≤ 7 ∧ (3 + 64 * w ≤ 256 ∨ !inDict) ∧ 3 + 64 * w ≤ 512 then 2
  else if inDict then 3
  else 1

/-- Payload bits of a strip in a mode. -/
def stripBits (s : Bytes) (mode : Nat) : Nat :=
  match mode with
  | 0 => 0
  | 1 => 512
  | 2 => 3 + 64 * stripWidth s
  | _ => 256

/-- Fields of a bit stream, each a width and a value, packed from bit 0 on. -/
def packFields : List (Nat × Nat) → Nat
  | [] => 0
  | (w, v) :: r => v % 2 ^ w + 2 ^ w * packFields r

/-- Index of a byte in the dictionary. -/
def dictIndex (d : Bytes) (b : Byte) : Nat := (d.findIdx? (· == b)).getD 0

/-- Payload fields of a strip in a mode. -/
def stripFields (d s : Bytes) (mode : Nat) : List (Nat × Nat) :=
  match mode with
  | 0 => []
  | 1 => [(512, leNat s)]
  | 2 => (3, stripWidth s) :: s.map (fun b => (stripWidth s, b.toNat))
  | _ => s.map (fun b => (4, dictIndex d b))

/-- A block's stored bytes and its length-table value: coded, or raw where coding needs 64 bursts
(R181). -/
def encodeBlock (b : Bytes) : Bytes × Nat :=
  let strips := stripsOf b
  let d := dictOf strips
  let modes := strips.map (stripMode d)
  let bits := 8 * (24 + d.length) + ((strips.zip modes).map (fun p => stripBits p.1 p.2)).foldr (· + ·) 0
  let bursts := (bits + 511) / 512
  if 64 ≤ bursts then (b, 64)
  else
    let map := packFields (modes.map (fun m => (2, m)))
    let payload := packFields ((strips.zip modes).flatMap (fun p => stripFields d p.1 p.2))
    ([0xB1, 0x01, 0x00, BitVec.ofNat 8 bursts, BitVec.ofNat 8 d.length, 0, 0, 0] ++ leBytes 16 map ++ d
      ++ leBytes (64 * bursts - (24 + d.length)) payload, bursts)

end Sys2Proof.Machine
end

