-- ==== Sys2Proof/Config.lean ====
section
/-! DEFINITION. What one implementation fixes and the spec leaves open: opaque constants, about which
nothing can be proved, so that every claim holds whatever their value. -/

namespace Sys2Proof.Config

/-- Sweholt's firmware signing key, x then y (04_start_up_and_custody.md, Firmware slots: the boot ROM
holds its hash; the spec gives no value). -/
opaque firmwareKey : Bytes

/-- The firmware pair that slots A and B hold as delivered, by byte of the slot: the spec gives its layout
and not its contents (log 42). -/
opaque firmware : Nat → Byte

/-- Sweholt's service key (R97). -/
opaque serviceKey : Bytes

/-- Sweholt's image key, object 0x2702:01, key slot 0 (R215). -/
opaque imageKey : Bytes

/-- Code of a journal event within its class: the spec names the events, not their codes (log 16). -/
opaque journalCode : Nat → Nat → Nat

/-- The 32 data bytes of a journal event whose layout the spec does not give, from what the event tells
(log 16). -/
opaque journalData : Nat → Nat → List Nat → Bytes

/-- SLOWCLK periods since start-up at the n-th moment the model reads them (journal record ticks). -/
opaque ticks : Nat → Nat

/-- A time in microseconds or clock cycles that only the clock could tell (0x2D05:04, 0x2710:04, 0x4000:07). -/
opaque elapsed : Nat → Nat

/-- The value a flash word holds after a pulse that did not verify (R121), by draw and byte. -/
opaque failedWord : Nat → Nat → Byte

/-- Whether such a word, or one caught by a power loss, reads as poison (R121, R128). -/
opaque failedWordPoison : Nat → Nat → Bool

/-- Whether a word that verified is read back different from what was programmed, by draw and word (R121). -/
opaque wordDiffers : Nat → Nat → Bool

/-- How far a word that was being programmed had come when power went, by draw and word: 0 untouched, 1 complete, else
partly programmed (R128). -/
opaque cutWord : Nat → Nat → Nat

/-- A byte of the WATCH save area, by draw and offset: the spec gives its contents and no layout (R58, R144; log 109). -/
opaque savedByte : Nat → Nat → Byte

/-- Whether the link of a device in D3cold ends in L3, not in L2 (R67: either; log 69). -/
opaque coldLinkOff : Nat → Bool

/-- What goes wrong inside the device while it has no command to serve: 1 the helm firmware stops (R86), 2 a PLL loses
lock (R84), 3 and 4 the next LPDDR link transfer is disturbed (R146), 5 and 6 a deck errs silently (R340, R342), any other
number nothing (log 15). -/
opaque mishap : Nat → Nat

/-- Where such a silent error strikes: physical deck, then MAC array, by draw (log 15). -/
opaque mishapPlace : Nat → Fin 16 × Fin 32

/-- Words of a journal record that had been programmed when it was cut off, 0 to 4 (R105). -/
opaque recordWords : Nat → Nat

/-- Whether a started non-volatile change had taken hold when power was lost (R51, R96, R128). -/
opaque tookHold : Nat → Bool

/-- A byte of memory whose contents were lost and that the spec gives no value for. -/
opaque lostByte : Nat → Nat → Byte

/-- Whether a word caught half-programmed with more than three bit errors is caught by its check
code (R109). -/
opaque checkCatches : Nat → Bool

/-- A floating-point maximum (or minimum) with a NaN operand or of zeros of unlike signs: the spec states no
result (log 22). -/
opaque extremeOpen : Bool → Nat → Nat → Nat → Nat

/-- The absolute value or negation of the most negative integer of a width (log 22). -/
opaque negateOpen : Nat → Nat

/-- An int32 value outside int8's range converted to int8 (log 22). -/
opaque narrowOpen : Nat → Nat

/-- Element type that VEXTR, whose form names none, takes its elements to be of (log 25). -/
opaque extractType : Nat

/-- What VEXTR gives for an element number beyond the register, by immediate (log 25). -/
opaque extractOpen : Nat → Nat

/-- The maximum VRED gives where no element is enabled, by element type (log 22). -/
opaque emptyMax : Nat → Nat

/-- Expert from which the poisoned selections of a row count, by draw: the spec says the row's selection is
poison, not which slots then carry it (log 39). -/
opaque poisonedExpert : Nat → Nat

/-- Length-table address given for a tensor whose home for the turn lies in the hold, where there is none, by
tensor (log 40). -/
opaque noLengthTable : Nat → Nat

/-- The node that a port of another device leads to, 0 none, by draw, node and port: HELLO tells hops, not the links
beyond the neighbours (log 46). -/
opaque farLink : Nat → Nat → Nat → Nat

/-- Whether a node beyond the neighbours is still heard of by a port after a link between other devices has gone down,
by draw, port and node (log 46). -/
opaque stillHeard : Nat → Nat → Nat → Bool

/-- Whether a hop beyond the first of a route to a node is in slow crossing, by draw and node (log 79). -/
opaque farHopSlow : Nat → Nat → Bool

/-- Whether a node that has joined again holds its layers of a slot, by node and slot (R316, log 45). -/
opaque holdsLayers : Nat → Nat → Nat → Bool

/-- Whether an address of a node's window lies in one of that node's KV partitions, by node and offset (log 114). -/
opaque farPartition : Nat → Nat → Bool

/-- What an object reads as where the spec states no value: a sequence number of an empty log, a tenant's own
figures for a requester that is no tenant, the state of a context while a camera channel is selected (log 48). -/
opaque unstatedRead : Nat → Nat → Nat

/-- The same of an object read as a string of bytes (log 48). -/
opaque unstatedBytes : Nat → Nat → Bytes

end Sys2Proof.Config
end

