-- ==== Sys2Proof/Machine/State.lean ====
section
/-! DEFINITION. The state of the block as plain data, what stops it, and the state after reset.
Every field's comment names the rule that gives it, its width and its value at reset; INVENTORY.md lists them all. -/

namespace Sys2Proof.Machine

/-! ## Part and board -/

/-- The two speed grades (R1). -/
inductive Grade where
  | t
  | l
  deriving DecidableEq, Repr

/-- What the die holds in fuses (R1, 02_object_dictionary.md 0x1000). -/
structure Part where
  /-- 0x1000:03 Grade; R1; factory; DESIGN CHOICE 7210-T (log 2). -/
  grade : Grade
  /-- 0x1000:05 Unique Id, 64 bits; R1; factory; DESIGN CHOICE 0 (log 2). -/
  uniqueId : Nat
  /-- 0x1000:09 Date Code, 32 bits; factory; DESIGN CHOICE 0 (log 2). -/
  dateCode : Nat
  /-- 0x1001:03 Boot ROM Version, 32 bits; factory; DESIGN CHOICE 0 (log 2). -/
  bootRomVersion : Nat
  /-- T_POWER_ON of the L1 PM Substates capability, µs; R67; 1,200. -/
  tPowerOn : Nat
  deriving DecidableEq, Repr

/-- Levels of the input pins and what is fitted on the board (16_electrical.md, R82, R142, R369). -/
structure Board where
  /-- PILOT strap pin, 1 bit; R82, R369; an open strap reads 0. -/
  pilot : Bool
  /-- NODE_ID[2:0] strap pins, 0 to 7; R82, R369; 0. -/
  nodeId : Nat
  /-- I3C_ADDR[1:0] strap pins, 0 to 3; R82, R369; 0. -/
  i3cAddr : Nat
  /-- BOOT_SEL strap pin; R82, R369; 0. -/
  bootSel : Bool
  /-- LPDDR capacity found by training, GiB; R142, R143; DESIGN CHOICE 16 (log 3). -/
  lpddrGiB : Nat
  /-- Ranks per channel; R142; DESIGN CHOICE 1 (log 3). -/
  ranks : Nat
  /-- Devices identical on eight fitted channels; R142; DESIGN CHOICE true (log 3). -/
  uniform : Bool
  /-- Data rates at which training passes, MT/s; R143; DESIGN CHOICE all four (log 3). -/
  passing : List Nat
  /-- RST_N level; R82; high after reset. -/
  rstN : Bool
  /-- PERST_N level; R87; DESIGN CHOICE high (log 4). -/
  perstN : Bool
  /-- TAMPER_N level; R100, R369; pulled high. -/
  tamperN : Bool
  /-- SW_PGOOD level; R364; high while the switched rails are up. -/
  swPgood : Bool
  deriving DecidableEq, Repr

/-! ## Memory -/

/-- What a memory word is marked with: stored poison, a correctable or an uncorrectable error
(R109, R133, R146a). -/
inductive Mark where
  | poison
  | single
  | double
  deriving DecidableEq, Repr

/-- The device physical address space (R12): bytes in one canonical form, and marked words. A mark is
kept at the first address of its word (8 bytes in the hold and deck stores, 16 in the flash) or of its
4 KiB block (LPDDR). -/
structure Mem where
  /-- Bytes that differ from what an unlisted address reads as; R12; empty at reset. -/
  cells : List Host.Cell
  /-- Marked words; R109, R133, R146a; none at reset. -/
  marks : List (Nat × Mark)
  deriving DecidableEq, Repr

/-- Host memory as PCIe reads and writes find it (10_rings_and_turns.md, Rings; R150): not device
state but the other end of the link, held so that what the device reads and writes there is data. -/
structure HostMem where
  /-- Bytes of host memory, canonical, an unlisted byte 0 (log 5). -/
  cells : List Host.Cell
  /-- 4 KiB pages of host memory whose reads fail (PCIe error, poison or timeout; R150). -/
  badRead : List Nat
  /-- 4 KiB pages of host memory whose writes fail (R248). -/
  badWrite : List Nat
  deriving DecidableEq, Repr

/-! ## Dictionary channels -/

/-- An open segmented transfer (R31, R33). -/
structure Transfer where
  /-- transfer_id, 16 bits; R38. -/
  id : Nat
  /-- op 0x04 if true, op 0x03 if false; R34. -/
  write : Bool
  /-- Object index; R31, R33. -/
  idx : Nat
  /-- Sub-index. -/
  sub : Nat
  /-- total_length fixed at offset 0; R31. -/
  total : Nat
  /-- Offset of the next expected segment; R34. -/
  next : Nat
  /-- Snapshot being read, or bytes written so far; R32, R33. -/
  data : Bytes
  /-- A DOMAIN object served as it stands when each segment is served; R32. -/
  live : Bool
  /-- Cursor or count the snapshot was taken from, for consuming objects; R32. -/
  upto : Nat
  deriving DecidableEq, Repr

/-- How a request frame came: the usual way of its channel, over legacy I2C (R45), or as a DICT_REQ frame in slow crossing
(R314). -/
inductive Way where
  | usual
  | legacyI2c
  | slowCrossing
  deriving DecidableEq, Repr

/-- One dictionary channel (R37, R38) and, for a mailbox, its page (R42a). -/
structure Chan where
  /-- Open segmented transfer; R37; none. -/
  xfer : Option Transfer
  /-- transfer_id and op of a transfer closed by timeout; R36; none. -/
  timedOut : Option (Nat × Bool)
  /-- Last request frame served and its response; R38; none. -/
  last : Option (Bytes × Bytes)
  /-- Objects held per channel (Ring Select, Query Handle and the like), by object key; none. -/
  selects : List (Nat × Nat)
  /-- Mailbox request buffer, 64 bytes; 02 Mailbox layout; zero (log 6). -/
  request : Bytes
  /-- Response buffer, 64 bytes; R42a, R44; zero (log 6). -/
  response : Bytes
  /-- mailbox_status busy; R42a; 0. For the sideband: a request is being served (R43). -/
  busy : Bool
  /-- mailbox_status response_ready; R42a; 0. For the sideband: a response is ready (R44). -/
  ready : Bool
  /-- mailbox_status overrun; R42a; 0. -/
  overrun : Bool
  /-- Request taken up by the server whose answer is still to be posted; R46, R51; none. -/
  latched : Option Bytes
  /-- How that request came; R45, R314; the usual way. -/
  way : Way
  deriving DecidableEq, Repr

/-- A request frame that has arrived and that the server has not taken up (R41, R42a, R88). -/
structure Arrival where
  ch : Channel
  frame : Bytes
  /-- How it came; R45, R314. -/
  way : Way
  deriving DecidableEq, Repr

/-! ## Power -/

/-- The power states of 03_watch_and_power.md, and the part held in reset or without rails. -/
inductive PowerState where
  | off
  | held
  | active
  | ready
  | doze
  | watch
  | offReady
  deriving DecidableEq, Repr

/-- A pending State Command (R65). -/
inductive SleepCommand where
  | dozeNow
  | watchNow
  | offPrepare
  deriving DecidableEq, Repr

/-- An entry in progress (R62, R66). -/
inductive Entry where
  | doze
  | watch
  | offReady
  deriving DecidableEq, Repr

/-- PCIe link states (R67). -/
inductive LinkState where
  | l0
  | l1
  | l12
  | l2
  | l3
  | down
  deriving DecidableEq, Repr

/-- Why the host is woken (R72, interrupt and wake status page). -/
inductive WakeReason where
  | threshold
  | finish
  | timer
  | full
  deriving DecidableEq, Repr

/-- Where the RAIL_EN handshake of a WATCH exit stands (R364). -/
inductive RailPhase where
  | idle
  | waiting
  | retrying
  deriving DecidableEq, Repr

/-- The watch domain, the clocks, the link and the operating point (03_watch_and_power.md). -/
structure Power where
  /-- Power state; 0x2001; R60; READY after start-up (R87). -/
  state : PowerState
  /-- Pending State Command; R65; none. -/
  command : Option SleepCommand
  /-- Entry in progress; R62, R66; none. -/
  entering : Option Entry
  /-- Exit in progress, from the state named; R71; none. -/
  exiting : Option PowerState
  /-- Ready Timeout has run out since the last turn; R60; false. -/
  readyDue : Bool
  /-- Doze Timeout has run out; R60; false. -/
  dozeDue : Bool
  /-- Watch Timeout has run out; R60; false. -/
  watchDue : Bool
  /-- Latched wake sources, 32 bits; R70, R71; 0. -/
  latched : BitVec 32
  /-- REFCLK policy the WATCH period was entered with; R56; false. -/
  watchFast : Bool
  /-- SLOWCLK input mode in effect; R55; crystal. -/
  slowInput : Bool
  /-- 0x2004:01 Watch FLL Locked; 1 bit; DESIGN CHOICE true (log 7). -/
  fllLocked : Bool
  /-- 0x2004:02 REFCLK Running; 1 bit; true after start-up (R87). -/
  refclk : Bool
  /-- PCIe link state; R67; DESIGN CHOICE L0 (log 4). -/
  link : LinkState
  /-- PCIe device state; R67; D0. -/
  dState : DState
  /-- Host has enabled ASPM L1; R65; false. -/
  aspmL1 : Bool
  /-- Host has enabled the L1.2 substate; R65; false. -/
  aspmL12 : Bool
  /-- PCIe completion timeout, ms; R150; 50. -/
  completionMs : Nat
  /-- The device has asked for L1 entry; R67, R251; false. -/
  l1Asked : Bool
  /-- PME message due once the link is up; R69; false. -/
  pme : Bool
  /-- Host wakes gathered in the 100 µs window, oldest first; R73; none. -/
  wakes : List (Nat × WakeReason)
  /-- Berth whose held-output deadline is the earliest; R74; none. -/
  deadline : Option Nat
  /-- RW tensors moved to tier 1 for WATCH; R59; none. -/
  movedDown : List Nat
  /-- NEAR_PIN copies to fetch again before the first turn; R59; none. -/
  refetch : List Nat
  /-- 0x2020:02 Point In Force; R75; the requested point after reset. -/
  point : Nat
  /-- Codes taken off by throttling; R78; 0. -/
  thermSteps : Nat
  /-- Codes taken off by power limits; R80; 0. -/
  powerSteps : Nat
  /-- Consecutive 100 µs samples at or below Throttle Level − 5 °C; R78; 0. -/
  coolSamples : Nat
  /-- Consecutive 100 µs samples with both power averages below their limits; R80; 0. -/
  calmSamples : Nat
  /-- Emergency dividers in force; R78; false. -/
  emergency : Bool
  /-- Decks and helm stopped by the trip, THERMTRIP_N low; R78; false. -/
  tripped : Bool
  /-- Watch-domain flag of a trip, journalled at the next start-up; R78; false. -/
  tripFlag : Bool
  /-- 0x2031 sensor readings, 20 of 32 bits, m°C; R78; DESIGN CHOICE 0 (log 8). -/
  readings : List Int
  /-- 1 s average of package power, mW; R80; DESIGN CHOICE 0 (log 8). -/
  avg1s : Nat
  /-- 0x2032:03, 10 ms average of package power, mW; R80; DESIGN CHOICE 0 (log 8). -/
  avg10ms : Nat
  /-- Point a held barrier is being raised to; R77; none. -/
  raising : Option Nat
  /-- RAIL_EN level; R363; high in READY. -/
  railEn : Bool
  /-- RAIL_EN handshake; R364; idle. -/
  rail : RailPhase
  /-- A PLL has lost lock, so the fabric and memory clocks do not run; R84; false. -/
  pllLost : Bool
  deriving DecidableEq, Repr

/-! ## Custody: resets, counters, lifecycle, journal, store -/

/-- The base word of a counter sector (R102): erased, not valid, or valid with its base. -/
inductive CtrBase where
  | erased
  | invalid
  | valid (n : Nat)
  deriving DecidableEq, Repr

/-- One of the two sectors of a counter (R102). -/
structure CtrSector where
  /-- Left indeterminate by an interrupted erase; R102; false. -/
  indeterminate : Bool
  /-- Word 0; R102. -/
  base : CtrBase
  /-- Consumed words among words 1 to 255, in order; R102. -/
  consumed : Nat
  /-- One more word is partly programmed; R102; false. -/
  partialWord : Bool
  deriving DecidableEq, Repr

/-- A monotonic counter: its twin sectors (R103). -/
structure Counter where
  a : CtrSector
  b : CtrSector
  deriving DecidableEq, Repr

/-- A journal event waiting in the watch domain (R107). -/
structure JEvent where
  cls : Nat
  flags : Nat
  code : Nat
  ticks : Nat
  data : Bytes
  /-- One of the LOST_EVENTS records, which have two entries of their own; R107. -/
  lostRecord : Bool
  deriving DecidableEq, Repr

/-- A journal record in the flash ring (R105). -/
structure JRecord where
  seq : Nat
  slot : Nat
  boot : Nat
  event : JEvent
  deriving DecidableEq, Repr

/-- The journal (04_start_up_and_custody.md, The journal). -/
structure Journal where
  /-- Records in the ring, oldest first, at most 4,096; R105; kept in flash; none (log 9). -/
  records : List JRecord
  /-- Next slot to write, 0 to 4,095; R105; 0. -/
  slot : Nat
  /-- Sequence of the next record, 32 bits; R105; 0. -/
  nextSeq : Nat
  /-- Events waiting, at most 128, and 2 LOST_EVENTS; R107; none. -/
  queue : List JEvent
  /-- Lost counters by class, 16 bits each; R107; 0. -/
  lost : List (Nat × Nat)
  /-- Ticks of the last loss; R107; 0. -/
  lastLoss : Nat
  /-- 0x2120:04 Read Cursor, 32 bits; R108; DESIGN CHOICE 0 (log 9). -/
  cursor : Nat
  /-- A sector of the ring is being erased; R106; false. -/
  erasing : Bool
  /-- Slots that hold data words and no valid commit word; R105; none. -/
  torn : List Nat
  deriving DecidableEq, Repr

/-- One copy of the stored set (R51). -/
structure StoredCopy where
  /-- Which copy is newer. -/
  serial : Nat
  /-- Object keys and values. -/
  values : List (Nat × Nat)
  deriving DecidableEq, Repr

/-- An accepted reset command (R83). -/
inductive ResetCommand where
  | warm
  | cold
  | harbour
  deriving DecidableEq, Repr

/-- The lifecycle states (R96). -/
inductive Lifecycle where
  | blank
  | factory
  | development
  | deployed
  | service
  | final
  deriving DecidableEq, Repr

/-- Resets, start-up, firmware, lifecycle, tamper, counters and journal. -/
structure Custody where
  /-- 0x2100:02 Last Reset Cause, 8 bits; power-on 0x01. -/
  cause : Nat
  /-- 0x2104:01 Strap Value, 7 bits, sampled; R82; 0. -/
  straps : Nat
  /-- 0x2103:01 Harbour Cause, 8 bits; R93; 0x00. -/
  harbour : Nat
  /-- 0x2102:01 Slot A Result; R90; 0 chosen. -/
  resultA : Nat
  /-- 0x2102:02 Slot B Result; R90; 6 not tried. -/
  resultB : Nat
  /-- 0x1001:04 Active Slot; R90; 0x00. -/
  activeSlot : Nat
  /-- 0x1001:01 Helm Version, 32 bits; DESIGN CHOICE 0 (log 2). -/
  helmVersion : Nat
  /-- 0x1001:02 Watch Version, 32 bits; DESIGN CHOICE 0 (log 2). -/
  watchVersion : Nat
  /-- Security version of the running helm image; R92; DESIGN CHOICE 0 (log 2). -/
  helmSecurity : Nat
  /-- Security version of the running watch image; R92; DESIGN CHOICE 0 (log 2). -/
  watchSecurity : Nat
  /-- 0x1001:05 Feature Level, 16 bits; DESIGN CHOICE 0 (log 2). -/
  feature : Nat
  /-- 0x1001:06 Watch ABI, 16 bits; DESIGN CHOICE 0 (log 2). -/
  watchAbi : Nat
  /-- Features unknown to forward-compatible firmware are off; R91; false. -/
  gated : Bool
  /-- Accepted reset command not begun; R83; none. -/
  resetPending : Option ResetCommand
  /-- Lifecycle transition waiting for the barrier (counter to advance, from, to); R98; none. -/
  transition : Option (Nat × Lifecycle × Lifecycle)
  /-- Accepted service authorisation held; R97; false. -/
  serviceAuth : Bool
  /-- The 16 monotonic counters, two sectors each; R102; counter 2 at 2, counter 6 at 1 (log 10). -/
  counters : List Counter
  /-- 0x2112:01 Tamper Harbour, kept with the region table; R101; false. -/
  tamperHarbour : Bool
  /-- 0x2112:03 Last Tamper Source; R100; 0. -/
  lastTamper : Nat
  /-- Stores lost at the last reset, for the START record; R84; 0. -/
  storesLost : Nat
  /-- The last reset was unclean; R84; false. -/
  unclean : Bool
  /-- A planned power-down came before; R66; false. -/
  planned : Bool
  /-- A counter was repaired at start-up; R104; false. -/
  repaired : Bool
  /-- Helm firmware has stopped and the watchdog runs; R86; false. -/
  helmStopped : Bool
  /-- The two copies of the stored set in the parameter area; R51; none valid. -/
  storedA : Option StoredCopy
  /-- The other copy; R51. -/
  storedB : Option StoredCopy
  /-- A store in progress: the channel to answer and the copy; R51, R53; none. -/
  storing : Option (Channel × StoredCopy)
  /-- 0x1202:02 Store Count, 32 bits, over the part's life; DESIGN CHOICE 0 (log 2). -/
  storeCount : Nat
  /-- The journal; R105. -/
  journal : Journal
  deriving DecidableEq, Repr

/-! ## Weight flash -/

/-- Region kinds (R115). -/
inductive RegionKind where
  | unused
  | data
  | codeOnly
  | weightOnly
  deriving DecidableEq, Repr

/-- A protection region (R115). -/
structure Region where
  first : Nat
  last : Nat
  kind : RegionKind
  deriving DecidableEq, Repr

/-- A region change that waits (R116, R117). -/
structure RegionChange where
  /-- The accepted value. -/
  new : Region
  /-- Sector ranges still to be erased, first and last. -/
  toClear : List (Nat × Nat)
  /-- The clearing erases have been handed to the helm queue; 0x01 CLEARING is reported. -/
  clearing : Bool
  /-- Descriptors started before the change was accepted, which it waits for; R116. -/
  after : List Nat
  /-- Sectors whose retried erase failed too: tried again at each start-up. -/
  failed : List (Nat × Nat)
  deriving DecidableEq, Repr

/-- A completion of a descriptor (05_weight_flash.md, Completion). -/
structure FlashCompletion where
  tag : Nat
  status : Nat
  opcode : Nat
  flags : Nat
  done : Nat
  result : Nat
  deriving DecidableEq, Repr

/-- Where a held descriptor stands. -/
inductive DescState where
  | waiting
  | running
  | finished (c : FlashCompletion)
  deriving DecidableEq, Repr

/-- What a descriptor works for: the host's queue, the install flow, a region being cleared, a
re-erase, the journal (R106, R117, R127, R218, R219, R224). -/
inductive DescOwner where
  | host
  | flow (slot : Nat)
  | clearing (region : Nat)
  | reerase
  | removal (slot : Nat)
  | journal
  deriving DecidableEq, Repr

/-- A descriptor held by a queue (R122, R124). -/
structure FlashDesc where
  seq : Nat
  opcode : Nat
  flags : Nat
  tag : Nat
  length : Nat
  offset : Nat
  buffer : Nat
  /-- Source bytes the device supplies itself (install flow); none for host buffers. -/
  inline : Option Bytes
  owner : DescOwner
  st : DescState
  /-- Bytes to program, read in full before any word is checked; R119. -/
  source : Bytes
  /-- Bytes completed. -/
  done : Nat
  /-- An erased sector has passed 20,000 cycles; R130. -/
  worn : Bool
  /-- An erase was suspended under R112. -/
  suspended : Bool
  /-- The region table it was checked against when it started; R116. -/
  table : List Region
  deriving DecidableEq, Repr

/-- What becomes of a line of an access. -/
inductive Note where
  | ok
  /-- No memory there (R14). -/
  | unmapped
  /-- Refused by region entry, flash kind or sealed range (R137, R115, R147). -/
  | refused
  /-- A status line was returned for the bank (R114). -/
  | busy (bank : Nat)
  /-- The sector is marked by an interrupted erase: poison (R126). -/
  | indeterminate
  /-- The read waits for the bank (R111, R113). -/
  | stalled (bank : Nat)
  /-- The line lies in another node's window (R313). -/
  | remote
  deriving DecidableEq, Repr

/-- The program or erase a bank runs (R111, R112). -/
structure BankOp where
  queue : QueueId
  seq : Nat
  erase : Bool
  /-- Re-erase of an indeterminate sector; status line op 0x05. -/
  reerase : Bool
  /-- Sector being erased, or being programmed. -/
  sector : Nat
  /-- First byte offset of the line being programmed. -/
  offset : Nat
  suspended : Bool
  /-- Resumed, and 0x2231:02 Minimum Progress has not passed since; R112. -/
  fresh : Bool
  /-- Words done on this bank; R114. -/
  progress : Nat
  /-- Words in the operation on this bank; R114. -/
  total : Nat
  deriving DecidableEq, Repr

/-- The weight flash (05_weight_flash.md). Its array bytes lie in Mem. -/
structure Flash where
  /-- Protection regions 0 to 15; R115; 0 to 2 fixed, the others unused. -/
  regions : List Region
  /-- Accepted changes that wait, by region; R116; none. -/
  changes : List (Nat × RegionChange)
  /-- Helm queue, oldest first; R122; empty. -/
  helm : List FlashDesc
  /-- Privileged queue, oldest first, at most 16; R124; empty. -/
  priv : List FlashDesc
  /-- Install-flow descriptors waiting for a place in the privileged queue; R218; none. -/
  backlog : List FlashDesc
  /-- Number of the next descriptor. -/
  nextSeq : Nat
  /-- Unread completions, at most 16; R124; none. -/
  unread : List FlashCompletion
  /-- Completions that reads have consumed so far: the order number of the oldest unread one; R32; 0. -/
  consumed : Nat
  /-- Banks running a program or an erase; R111; none. -/
  banks : List (Nat × BankOp)
  /-- WAIT-mode reads stalled on a busy bank; R111; none. -/
  waiting : List Access
  /-- Sectors whose marker is neither erased: indeterminate; R126; none. -/
  indeterminate : List Nat
  /-- Erase counts by sector; R130, 0x2241:02; 0. -/
  wear : List (Nat × Nat)
  /-- Advances of counters that wait for bank 0: counter and words, oldest first; R103, R123; none. -/
  advances : List (Nat × Nat)
  /-- Which of the region table's two sectors holds it; R118; 0. -/
  tableCopy : Nat
  /-- The region table has changed and waits for bank 0 to be kept; R118, R123; false. -/
  tableDue : Bool
  /-- Calibration row, 4,096 bytes; R129; factory; DESIGN CHOICE a row that passes, zero trims (log 11). -/
  calRow : Bytes
  /-- 0x2211:01 Calibration Valid; R129; true. -/
  calValid : Bool
  deriving DecidableEq, Repr

/-! ## Tiers -/

/-- A host window entry (R149). -/
structure WindowEntry where
  owner : Nat
  coded : Bool
  hostAddress : Nat
  lengthTable : Nat
  deriving DecidableEq, Repr

/-- Tensor states (06_hold_and_tiers.md, Tensor objects). -/
inductive TensorState where
  | resident
  | movingUp
  | movingDown
  deriving DecidableEq, Repr

/-- A tensor object (R151). -/
structure Tensor where
  handle : Nat
  home : Nat
  st : TensorState
  hint : Nat
  rw : Bool
  weightOnly : Bool
  shared : Bool
  /-- Address of the home. -/
  homeAddr : Nat
  /-- Address of the tier-0 copy. -/
  copy0 : Option Nat
  /-- Address of the tier-1 copy. -/
  copy1 : Option Nat
  size : Nat
  pins : Nat
  /-- One of the pins is held by NEAR_PIN; R155. -/
  nearPin : Bool
  lastUsed : Nat
  /-- Consecutive turns that used it; R154. -/
  streak : Nat
  deriving DecidableEq, Repr

/-- What a piece of mover work does (R156, R157, R161). -/
inductive MoveKind where
  | copyUp (tier : Nat)
  | moveUp
  | moveDown
  | drop (tier : Nat)
  deriving DecidableEq, Repr

/-- A piece of mover work (R156). -/
structure Move where
  handle : Nat
  kind : MoveKind
  cls : Nat
  dest : Nat
  deriving DecidableEq, Repr

/-- A sealed range (R147). -/
structure Sealed where
  first : Nat
  pages : Nat
  deriving DecidableEq, Repr

/-- Region entries, LPDDR, the host window, tensors and the mover (06_hold_and_tiers.md). -/
structure Tiers where
  /-- Pending base words, by master × 16 + entry; R138; none. -/
  pendingBase : List (Nat × Nat)
  /-- Valid host window entries; R149; none. -/
  windows : List (Nat × WindowEntry)
  /-- Tensor objects, at most 65,536; R151; none. -/
  tensors : List Tensor
  /-- Mover work waiting, in request order; R156; none. -/
  queue : List Move
  /-- Move in progress; R156; none. -/
  current : Option Move
  /-- Completed moves that take effect at the next barrier; R157; none. -/
  landed : List Move
  /-- Places to free at the next barrier (tier, address, size); R152; none. -/
  toFree : List (Nat × Nat × Nat)
  /-- Places in use (tier, address, size). -/
  places : List (Nat × Nat × Nat)
  /-- Sealed ranges 1 to 8; R147, 0x2402; none in use. -/
  sealedRanges : List (Nat × Sealed)
  /-- Open blocks of the LPDDR write buffer, each with its length-table byte from before, least recently written first, at
  most 32; R145; none. -/
  openBlocks : List (Nat × Nat)
  /-- How the next read of the LPDDR array fares on its link; R146; clean. -/
  linkNext : LinkEcc
  /-- Blocks in the LPDDR expander's buffer, least recently used first, at most 64; R182; none. -/
  bufLpddr : List Nat
  /-- Decoded blocks in the flash expander's buffer, least recently used first, at most 128; R182; none. -/
  bufFlash : List (Nat × Bytes)
  /-- Decoded blocks in the host-window expander's buffer, at most 16; R182; none. -/
  bufWindow : List (Nat × Bytes)
  /-- Host-inbound transfers in progress (first and last byte), at most eight; R139; none. -/
  inbound : List (Nat × Nat)
  /-- 0x1000:07 LPDDR Fitted, GiB; R143; 16 (log 3). -/
  fitted : Nat
  /-- 0x2400:02 Data Rate In Use, MT/s; R143; 9,600 (log 3). -/
  rate : Nat
  /-- 0x2400:03 Training Result; R143; 0x00 passed. -/
  training : Nat
  /-- 0x2400:04 Ranks; 1 (log 3). -/
  ranks : Nat
  /-- Working-area words retired until the next warm reset; R352; none. -/
  retiredWords : List Nat
  deriving DecidableEq, Repr

/-! ## Decks -/

/-- Deck State, 0x4000:01 (08_decks.md). -/
inductive DeckStatus where
  | off
  | idle
  | running
  | halted
  | retired
  | paired
  deriving DecidableEq, Repr

/-- A slot operation of the bundle being issued: the slot and its 64-bit word (R188). -/
structure SlotWord where
  slot : Slot
  word : BitVec 64
  deriving DecidableEq, Repr

/-- One accumulator entry: int32 partial, its residue, fp32 accumulator, its residue, poison
(R198, R340, R192). -/
structure AccCell where
  part : BitVec 32
  rho : Nat
  facc : BitVec 32
  fres : Nat
  bad : Bool
  deriving DecidableEq, Repr

/-- What one lane receives in a step: eight weights for the lower row, eight for the upper row of an
int4 pair, and the closing scales (R194). Codes are raw bits of the format. -/
structure LaneStep where
  lower : List Nat
  upper : List Nat
  scaleLower : BitVec 32
  scaleUpper : BitVec 32
  zeroLower : Bool
  zeroUpper : Bool
  badLower : Bool
  badUpper : Bool
  deriving DecidableEq, Repr

/-- A delivered step of a weight stream (R194). -/
structure StreamStep where
  k : Nat
  col : Nat
  closing : Bool
  lanes : List LaneStep
  /-- Cause and address of the exception that its read met; R14, R137, R210. -/
  fault : Option (Nat × Nat)
  deriving DecidableEq, Repr

/-- A weight stream (R193, R194, R196). -/
structure Stream where
  base : Nat
  lengths : Nat
  nRows : Nat
  kLen : Nat
  n0 : Nat
  laneStride : Nat
  format : Nat
  reps : Nat
  kFirst : Nat
  kCount : Nat
  mask : Nat
  /-- The 64 descriptor bytes, compared between sharing decks; R196. -/
  raw : Bytes
  /-- Every deck of the mask has loaded it; R196. -/
  started : Bool
  /-- Index of the next step to fetch. -/
  pos : Nat
  /-- Steps delivered and not consumed, at most 64; R196. -/
  buffer : List StreamStep
  /-- STREAM_FAULT at the next MMA; R196. -/
  faulty : Bool
  /-- Its next step waits for a flash bank; R111, R112. -/
  waiting : Bool
  deriving DecidableEq, Repr

/-- One byte of a buffered store. -/
structure StoreByte where
  addr : Nat
  data : Octet
  deriving DecidableEq, Repr

/-- A store-buffer entry (R205). -/
structure StoreEntry where
  /-- 64-byte span an ST or VST may merge into. -/
  span : Option Nat
  bytes : List StoreByte
  /-- The entry has begun to drain. -/
  draining : Bool
  /-- Slot and set a KVPUT writes, for the damage mark; R270. -/
  sets : List (Nat × Nat)
  /-- A KVPUT entry, whose writes go to the KV pages on the serving plane's resolution; R203. -/
  kv : Bool
  deriving DecidableEq, Repr

/-- Deck exception record (R209). -/
structure ExcRecord where
  cause : Nat
  slot : Nat
  pc : Nat
  address : Nat
  turn : Nat
  layer : Nat
  logical : Nat
  deriving DecidableEq, Repr

/-- A register of a deck, as a slot names what it reads or writes. -/
inductive RegName where
  | s (n : Nat)
  | v (n : Nat)
  | p (n : Nat)
  | map (n : Nat)
  deriving DecidableEq, Repr

/-- One deck (08_decks.md). -/
structure Deck where
  /-- 0x4000:01 Deck State; idle after start-up (log 12). -/
  status : DeckStatus
  /-- Scalar registers s0 to s31, 64 bits; R185; zero. -/
  s : Vector (BitVec 64) 32
  /-- Poison marks of the scalars; R192; clear. -/
  sBad : BitVec 32
  /-- Vector registers v0 to v31, 512 bits; R185; zero. -/
  v : Vector (BitVec 512) 32
  /-- Poison marks of the vectors, one bit per byte; R192; clear. -/
  vBad : Vector (BitVec 64) 32
  /-- Predicates p0 to p7, 64 bits; R185; zero (p0 reads as ones). -/
  p : Vector (BitVec 64) 8
  /-- Poison marks of the predicates; R192; clear. -/
  pBad : BitVec 8
  /-- Rowmap, 8 entries of 32 bits; R185; tag 0xFFF. -/
  rowmap : Vector (BitVec 32) 8
  /-- Accumulator entries that are not zero, by bank, array, row and column; R185; none. -/
  acc : List (Nat × AccCell)
  /-- Weight streams ws0 to ws3; R185; idle. -/
  streams : Vector (Option Stream) 4
  /-- Store buffer, oldest first, at most 8; R205; empty. -/
  store : List StoreEntry
  /-- Code-area offset of the current bundle; R185; 0. -/
  pc : Nat
  /-- Slot operations of the bundle being issued; R188; none. -/
  bundle : List SlotWord
  /-- The bundle is complete and waits for what stalls it; R189, R205; false. -/
  stalled : Bool
  /-- Sequenced operations in progress: unit and the vector register it writes; R189; none. -/
  sequenced : List (SeqUnit × Option Nat)
  /-- DONE has been issued; R207; false. -/
  ending : Bool
  /-- Logical deck run; R185; 0. -/
  logical : Nat
  /-- Layer index given by GETS 3; R185; 0. -/
  layer : Nat
  /-- Logical decks in the dispatch, GETS 4; R185; 0. -/
  dispatched : Nat
  /-- Image slot whose program section the code area holds; R213; none. -/
  code : Option Nat
  /-- Last Exception; R209; zero. -/
  exc : ExcRecord
  /-- Latched residue mismatch: the array; R341; none. -/
  mismatch : Option Nat
  /-- Injected fault armed on the deck (class, array, no_step); R361; none. -/
  injected : Option (Nat × Nat × Bool)
  /-- A Deck Reset waits for the barrier; R208; false. -/
  resetDue : Bool
  /-- LDO setting in tenths of a millivolt, 0 when off; R76. -/
  ldo : Nat
  /-- Pulse-swallow divider in sixteenths; R76; 16. -/
  divider : Nat
  deriving DecidableEq, Repr

/-! ## Images -/

/-- Image states (09_model_images.md, Image states and admission). -/
inductive ImageState where
  | empty
  | installing
  | loading
  | ready
  | swapping
  | swapStalled
  | suspect
  | verifying
  | broken
  | revoked
  | unsupported
  | removing
  deriving DecidableEq, Repr

/-- Header and manifest fields of an image (09_model_images.md, The container). -/
structure Manifest where
  modelId : Nat
  version : Nat
  security : Nat
  feature : Nat
  rollback : Nat
  keySlot : Nat
  headLength : Nat
  layers : Nat
  layerEntries : Nat
  hidden : Nat
  qHeads : Nat
  kvHeads : Nat
  blocksPerPage : Nat
  headDim : Nat
  ffn : Nat
  vocab : Nat
  maxContext : Nat
  baseVersion : Nat
  kvCompatible : Bool
  changed : List Nat
  layerOffset : Nat
  tensorOffset : Nat
  tensorCount : Nat
  moeOffset : Nat
  programOffset : Nat
  programLength : Nat
  deriving DecidableEq, Repr

/-- Layer table entry. -/
structure LayerEntry where
  kind : Nat
  decks : Nat
  layer : Nat
  entry : Nat
  args : List Nat
  deriving DecidableEq, Repr

/-- Tensor table entry. -/
structure TensorEntry where
  format : Nat
  weightOnly : Bool
  hint : Nat
  bank : Nat
  layer : Nat
  nRows : Nat
  kLen : Nat
  firstBlock : Nat
  blocks : Nat
  ltBlock : Nat
  ltByte : Nat
  hash : Bytes
  deriving DecidableEq, Repr

/-- Expert table entry (12_experts.md). -/
structure ExpertEntry where
  layer : Nat
  gateFn : Nat
  topK : Nat
  shared : Nat
  experts : Nat
  capacity : Nat
  pool : Nat
  routerEntry : Nat
  expertEntry : Nat
  mode : Nat
  logitsOffset : Nat
  tableOffset : Nat
  interval : Nat
  step : BitVec 32
  biasLimit : BitVec 32
  deriving DecidableEq, Repr

/-- A parsed head: what checks 1 to 7 have passed. -/
structure Head where
  man : Manifest
  bankBlocks : List Nat
  layerTable : List LayerEntry
  tensorTable : List TensorEntry
  experts : List ExpertEntry
  program : Bytes
  /-- The head section as it was checked. -/
  raw : Bytes
  deriving DecidableEq, Repr

/-- An image slot (09_model_images.md, Image entry). -/
structure Image where
  st : ImageState
  /-- 2 installed, 1 loaded, 0 empty. -/
  tier : Nat
  head : Option Head
  region : Nat
  bankFirst : Nat
  /-- A loaded image: address of each tensor, then of the head; R220. Empty for an installed one. -/
  bases : List Nat
  /-- Sealed range of a loaded image's weight-only tensors. -/
  sealedIndex : Option Nat
  replaced : Nat
  toReplace : Nat
  faults : Nat
  /-- Marked suspect or revoked since the last barrier: the detail its berths complete with. -/
  failing : Option Nat
  deriving DecidableEq, Repr

/-- Where an image command stands (R216 to R227). -/
inductive JobPhase where
  /-- A node source whose head has not arrived whole: checks 1 to 8 wait, and so does the answer. -/
  | checking
  | erasing
  | programming
  /-- A failed install erases its runs (R218). -/
  | cleaning
  | loading
  | verifying
  | removing
  | ended
  deriving DecidableEq, Repr

/-- An image command in progress (R216). -/
structure ImageJob where
  op : Nat
  slot : Nat
  source : Nat
  sourceAddress : Nat
  region : Nat
  bankFirst : Nat
  mask : Nat
  /-- The channel that wrote the command. -/
  ch : Channel
  phase : JobPhase
  /-- Pieces of the container that another node has sent, by offset; R222, R315. -/
  pieces : List (Nat × List Octet)
  /-- Outcome of the device's own copy so far: an abort code, 0 for none. -/
  failure : Nat
  /-- Members that still run the broadcast; R222. -/
  members : List Nat
  /-- A member's copy has failed, or the member is lost; R315. -/
  memberFailed : Bool
  deriving DecidableEq, Repr

/-- Where a swap stands (0x2710:03). -/
inductive SwapPhase where
  | staging
  | staged
  | copying
  | stalled
  deriving DecidableEq, Repr

/-- A swap in progress (R229). -/
structure SwapJob where
  slot : Nat
  source : Nat
  sourceAddress : Nat
  mask : Nat
  head : Head
  /-- Changed layers not yet replaced, in order. -/
  layers : List Nat
  replaced : Nat
  phase : SwapPhase
  /-- Staging area: first byte and size; R229. -/
  area : Nat × Nat
  sealedIndex : Option Nat
  /-- Pieces of the container that another node has sent. -/
  pieces : List (Nat × List Octet)
  deriving DecidableEq, Repr

/-- The image table, the keys and the jobs on them. -/
structure Images where
  /-- Slots 0 to 7; R216; EMPTY. -/
  slots : List Image
  /-- Author keys 1 to 3, kept with the region table; R215; empty. -/
  keys : List (Option Bytes)
  /-- Image command in progress; R216; none. -/
  job : Option ImageJob
  /-- Swap in progress; R228; none. -/
  swap : Option SwapJob
  /-- A swap request whose source node has not sent the head yet: its channel, bytes and pieces; R222; none. -/
  ask : Option (Channel × Bytes × List (Nat × List Octet))
  /-- A swap request to resume with: its source and address; R231; none. -/
  retry : Option (Nat × Nat)
  deriving DecidableEq, Repr

/-! ## Serving -/

/-- A semaphore wait on a ring (R259). -/
structure RingWait where
  sem : Nat
  level : Nat
  tag : Nat
  deriving DecidableEq, Repr

/-- A ring (R235, R236). Its completion phase follows from cqPosted (R239). -/
structure Ring where
  sqBase : Nat
  cqBase : Nat
  depthLog2 : Nat
  cls : Nat
  vector : Nat
  coalesceCount : Nat
  coalesceTime : Nat
  enabled : Bool
  sqFetched : Nat
  cqPosted : Nat
  sqTail : Nat
  cqHead : Nat
  /-- Slots reserved for final completions; R237. -/
  reserved : Nat
  /-- Completions since the last message; R262. -/
  unsignalled : Nat
  wait : Option RingWait
  /-- The entry last fetched, held at admission; R241; none. -/
  held : Option Bytes
  deriving DecidableEq, Repr

/-- Berth states (10_rings_and_turns.md, Berths). -/
inductive BerthState where
  | free
  | waiting
  | ready
  | parked
  | closing
  deriving DecidableEq, Repr

/-- The device-side context of a request (10_rings_and_turns.md). -/
structure Berth where
  num : Nat
  tenant : Nat
  ring : Nat
  tag : Nat
  slot : Nat
  cls : Nat
  keep : Bool
  autoReplay : Bool
  progress : Bool
  secret : Bool
  signal : Bool
  semaphore : Nat
  st : BerthState
  position : Nat
  /-- Every token fed or to be fed, by position: prompt, then what it generated. -/
  tokens : List Nat
  /-- Positions whose rows are prompt, not yet in KV pages, end here. -/
  promptEnd : Nat
  output : Nat
  maxNew : Nat
  delivered : Nat
  temperature : BitVec 32
  seed : Nat
  topK : Nat
  topP : Nat
  admitted : Nat
  lastTurn : Nat
  publishVersion : Nat
  shareKey : Nat
  /-- Page table: sets by page index; R267. -/
  table : List (Option Nat)
  /-- Sets taken in the current turn; R269. -/
  taken : List Nat
  /-- Context-full detail of the current turn, 0 none; R204. -/
  full : Nat
  /-- Token records staged while the link is in L1.2; R251. -/
  staging : List (Nat × Nat × Bool × Bool)
  /-- Staged records not yet reported to the host; R72. -/
  unreported : Nat
  /-- Turn that staged the oldest of them; R74. -/
  stagedAt : Nat
  /-- Detail with which the berth completes FAULT at the next barrier, 0 none. -/
  failing : Nat
  /-- Completed already: the berth is only being reclaimed. -/
  finished : Bool
  /-- Cascade node the berth is placed on, 0 local; R308. -/
  node : Nat
  deriving DecidableEq, Repr

/-- A completed entry in the duplicate window (R243, R257). -/
structure DoneEntry where
  tag : Nat
  status : Nat
  delivered : Nat
  position : Nat
  lateMark : Bool
  deriving DecidableEq, Repr

/-- A semaphore (R258): its counter and whether a deck waits on it. -/
structure Sem where
  value : Nat
  deriving DecidableEq, Repr

/-- A completion entry (10_rings_and_turns.md, Completion entry) and the ring it goes to. -/
structure Completion where
  ring : Nat
  tag : Nat
  status : Nat
  final : Bool
  parked : Bool
  berth : Nat
  delivered : Nat
  position : Nat
  detail : Nat
  turn : Nat
  deriving DecidableEq, Repr

/-- Tenants, rings, berths, semaphores and held output (10_rings_and_turns.md). -/
structure Serving where
  /-- Rings that have been set up; R235; none. -/
  rings : List (Nat × Ring)
  /-- Berths in use, at most 4,096; R241; none. -/
  berths : List Berth
  /-- Semaphore counters that are not zero; R258; 0. -/
  sems : List (Nat × Nat)
  /-- Duplicate window of each tenant, newest first, at most 1,024; R243; none. -/
  recent : List (Nat × List DoneEntry)
  /-- Completion hold, oldest first, at most 2,048; R251; empty. -/
  hold : List Completion
  /-- Interrupt and wake status page 0x000 bits [3:0]; R73; 0. -/
  wakePage : BitVec 64
  /-- tenant_pending; R262; 0. -/
  tenantPending : BitVec 64
  /-- block_pending; R262; 0. -/
  blockPending : BitVec 128
  /-- Admission and fetching are stopped; R66, R85, R98; false. -/
  stopped : Bool
  /-- The serving plane is to be cleared once the current turn has committed; R85; false. -/
  clearDue : Bool
  /-- Number of the next admission; R246. -/
  nextAdmission : Nat
  /-- A turn barrier has taken its effects and is held before it forms its batch; R77, R229; false. -/
  held : Bool
  deriving DecidableEq, Repr

/-! ## The turn -/

/-- A berth's place in the batch (11_kv_and_prefixes.md, Batch table). -/
structure BatchEntry where
  berth : Nat
  position : Nat
  rows : Nat
  firstRow : Nat
  prefill : Bool
  yields : Bool
  cancelled : Bool
  /-- A completion slot of the ring is kept for its TOKENS; R245. -/
  slotHeld : Bool
  deriving DecidableEq, Repr

/-- One group of a dispatch table, for the counters at commit (R288). -/
structure GroupCount where
  assigned : Nat
  overflow : Nat
  dropped : Nat
  padding : Nat
  deriving DecidableEq, Repr

/-- What a routing step did (R289). -/
structure Routing where
  layer : Nat
  rows : Nat
  poolUsed : Nat
  groups : List GroupCount
  deriving DecidableEq, Repr

/-- Why an attempt is to be abandoned (R210, R350). -/
inductive FailReason where
  | integrity
  | program (deck pc cause : Nat)
  | busy (bank : Nat)
  deriving DecidableEq, Repr

/-- A turn in progress (R15). -/
structure Turn where
  slot : Nat
  /-- Number that names the turn in a cascade; R307. -/
  number : Nat
  batch : List BatchEntry
  rows : Nat
  /-- Attempt number, 0 for the first; R348. -/
  attempt : Nat
  /-- Replays made: attempts after the first that no busy bank caused; R353. -/
  replays : Nat
  /-- Index of the next layer-table entry to dispatch. -/
  next : Nat
  /-- Logical decks of the running entry not yet started: logical and physical deck. -/
  queued : List (Nat × Nat)
  /-- Physical decks running a program of the entry. -/
  busy : List Nat
  /-- Layer of the routing step due before the next dispatch; R280. -/
  routeDue : Bool
  /-- Tokens drawn, by berth tag; R250. -/
  drawn : List (Nat × Nat)
  /-- Sampler reruns used; R343. -/
  reruns : Nat
  /-- First reason the attempt fails; R350. -/
  failing : Option FailReason
  /-- Decks suspect in an attempt of the turn; R351. -/
  suspects : List Nat
  /-- Suspects that a no_step injection leaves unstepped; R361. -/
  spared : List Nat
  /-- Source addresses of poison met in each failed attempt; R352. -/
  sources : List Nat
  /-- Source addresses met in the present attempt. -/
  metNow : List Nat
  /-- The program exception of the first attempt: deck, pc and cause; R210. -/
  program : Option (Nat × Nat × Nat)
  /-- Semaphore signals to apply at the commit: semaphore and node; R259, R312. -/
  signals : List (Nat × Nat)
  /-- Routing steps of the attempt; R288. -/
  routings : List Routing
  /-- Sets marked damaged for the attempt; R270. -/
  damaged : List Nat
  /-- Classes already journalled in the turn; R348. -/
  journalled : List Nat
  /-- The commit report has been sent and the turn waits for turn-commit; R307. -/
  reported : Bool
  /-- The turn is run for the pilot; R307. -/
  cascade : Bool
  /-- A stage's input activations have arrived; true for a turn that starts here; R311. -/
  inputs : Bool
  deriving DecidableEq, Repr

/-! ## KV pages and the tree -/

/-- Set states (11_kv_and_prefixes.md, Set descriptor). -/
inductive SetState where
  | free
  | opened
  | published
  | damaged
  deriving DecidableEq, Repr

/-- A set descriptor (R266). -/
structure KvSet where
  st : SetState
  tenant : Nat
  refs : Nat
  node : Option Nat
  deriving DecidableEq, Repr

/-- A node of the tree (R272). -/
structure Node where
  hash : Nat
  parent : Option Nat
  set : Nat
  slot : Nat
  block : Nat
  key : Nat
  version : Nat
  children : Nat
  tenant : Nat
  lastUsed : Nat
  deriving DecidableEq, Repr

/-- KV partitions, sets and the tree (11_kv_and_prefixes.md). -/
structure Kv where
  /-- Partition base by slot; R265, 0x2901; 0. -/
  bases : List (Nat × Nat)
  /-- Sets in use, by slot and set number; R266; none. -/
  sets : List ((Nat × Nat) × KvSet)
  /-- Nodes in use, by index; within a bucket the newest stands first; R272; none. -/
  nodes : List (Nat × Node)
  deriving DecidableEq, Repr

/-! ## Experts -/

/-- The settings, biases and counters of one expert layer (R291, R292). -/
structure ExpertLayer where
  mode : Nat
  interval : Nat
  step : BitVec 32
  limit : BitVec 32
  bias : List (BitVec 32)
  window : List Nat
  windowTurns : Nat
  totals : List GroupCount
  deriving DecidableEq, Repr

/-- A change of an expert layer that waits for the barrier (R292). -/
inductive ExpertChange where
  | mode (m : Nat)
  | interval (u : Nat)
  | step (x : BitVec 32)
  | limit (x : BitVec 32)
  | bias (b : List (BitVec 32))
  deriving DecidableEq, Repr

/-- An expert record (R289). -/
structure ExpertRecord where
  seq : Nat
  turn : Nat
  slot : Nat
  layer : Nat
  rows : Nat
  poolUsed : Nat
  mode : Nat
  update : Bool
  groups : List GroupCount
  deriving DecidableEq, Repr

/-- Expert routing (12_experts.md). -/
structure Experts where
  /-- Layers by slot and decoder layer; R292; none. -/
  layers : List ((Nat × Nat) × ExpertLayer)
  /-- Changes waiting for the barrier; R292; none. -/
  changes : List ((Nat × Nat) × ExpertChange)
  /-- Expert record ring, oldest first; R289; empty. -/
  records : List ExpertRecord
  /-- Sequence of the next record; R289; 0. -/
  nextSeq : Nat
  /-- 0x2A01:02 Read Cursor; R290; DESIGN CHOICE 0 (log 9). -/
  cursor : Nat
  deriving DecidableEq, Repr

/-! ## Ferry -/

/-- Port states (0x2B03). -/
inductive PortState where
  | down
  | slow
  | training
  | full
  deriving DecidableEq, Repr

/-- A packet waiting at a port, and the receive buffer it still fills if it is being passed on: the port and link_seq it
came by (R299, R300). -/
structure Waiting where
  packet : Packet
  held : Option (Nat × Nat)
  deriving DecidableEq, Repr

/-- A ferry port (R295, R298, R299). -/
structure Port where
  /-- 0x2B03 state; R295; down. -/
  st : PortState
  /-- Lanes in force; R295; 0. -/
  lanes : Nat
  /-- Neighbour node; 0x2B03; 0. -/
  neighbour : Nat
  /-- Next link_seq to send, mod 256; R298; 0. -/
  txSeq : Nat
  /-- Unacknowledged packets, oldest first, at most 64; R298; none. -/
  unacked : List Packet
  /-- Packets waiting for credit or window; R299; none. -/
  outbox : List Waiting
  /-- Next link_seq expected; R298; 0. -/
  rxSeq : Nat
  /-- A NAK has been sent for the present gap; R298; false. -/
  nakked : Bool
  /-- Resends in a row without progress; R298; 0. -/
  resends : Nat
  /-- Credits held per class; R299; 8, 64, 32, 16 at link-up. -/
  credits : List Nat
  /-- Buffers freed since the last return, per class; R299; 0. -/
  freed : List Nat
  /-- An acknowledgement is owed; R298; false. -/
  ackOwed : Bool
  /-- Keep-alive periods without a valid frame; R302; 0. -/
  silence : Nat
  /-- Wake frame asked for and full rate awaited; R296; false. -/
  wakeSent : Bool
  deriving DecidableEq, Repr

/-- A HELLO heard, and the port it came by (R303). -/
structure Hello where
  uniqueId : Nat
  node : Nat
  pilot : Bool
  harbour : Bool
  joined : Bool
  stepping : Nat
  lifecycle : Nat
  protoMin : Nat
  protoMax : Nat
  feature : Nat
  port : Nat
  hops : Nat
  deriving DecidableEq, Repr

/-- Roles of 0x2B00:01. -/
inductive Role where
  | unmoored
  | pilot
  | member
  deriving DecidableEq, Repr

/-- A forwarded frame awaiting its response (R46, R47). -/
structure Forward where
  origin : Channel
  node : Nat
  frame : Bytes
  deriving DecidableEq, Repr

/-- A remote access of a deck or a read being served (R313). -/
structure RemoteRead where
  node : Nat
  addr : Nat
  len : Nat
  /-- Bytes of the READ_DATA packets so far. -/
  got : List Octet
  /-- The last of them has arrived. -/
  whole : Bool
  deriving DecidableEq, Repr

/-- Ferry ports and the cascade (13_ferry_cascade.md). -/
structure Ferry where
  /-- Ports 0 to 2; R295; down. -/
  ports : List Port
  /-- 0x2B00:01 Role; R303; unmoored. -/
  role : Role
  /-- 0x2B00:02 Joined Nodes, bit n − 1; R303; 0. -/
  joined : BitVec 8
  /-- 0x2B00:03 Protocol Version; R303; 0. -/
  proto : Nat
  /-- 0x2B00:06 Unmoored Reason; R303; 0x01. -/
  reason : Nat
  /-- 0x2B00:07 Pilot Node; 0. -/
  pilotNode : Nat
  /-- HELLOs heard; R303; none. -/
  hellos : List Hello
  /-- 0x2B06 Routes: port by node, 1 to 8; R305; none. -/
  routes : List (Nat × Nat)
  /-- Ports of the broadcast tree's children; R305; none. -/
  children : List Nat
  /-- Next flow_seq to send, by node and class; R301; 0. -/
  flowTx : List ((Nat × Nat) × Nat)
  /-- Next flow_seq expected, by node and class; R301; 0. -/
  flowRx : List ((Nat × Nat) × Nat)
  /-- 0x2B02 Stage Maps by slot, 256 bytes; R310; even split. -/
  stageMaps : List (Nat × Bytes)
  /-- Frames forwarded and not answered; R46, R47; none. -/
  forwards : List Forward
  /-- Remote reads awaiting READ_DATA; R313; none. -/
  reads : List RemoteRead
  /-- Slots whose stage lay on a lost node; R316; none. -/
  orphaned : List Nat
  /-- Berths completing LINK_LOST at the next barrier; R316; none. -/
  lost : List Nat
  /-- Batch table whose turn has not started at this stage, and its berths cancelled since; R17, R311; none. -/
  batch : Option (Bytes × List Nat)
  /-- Layout in force, 0 replica, 1 pipeline: 0x2B01 as the last turn barrier took it; R17, R306; 0. -/
  layout : Nat
  /-- Pieces of a broadcast not yet on the branches of the tree; R315; none. -/
  broadcasts : List Packet
  /-- Control packets not acknowledged end to end, by destination; R301; none. -/
  sent : List (Nat × Packet)
  /-- Flows whose gap has been reported and whose rest is discarded, by source and class; R301; none. -/
  gaps : List (Nat × Nat)
  /-- KV tables as each stage has been told of them, by node and slot; R311; none. -/
  told : List ((Nat × Nat) × Kv)
  /-- Turn whose report the pilot has accepted last; R307; none. -/
  accepted : Option Nat
  /-- Messages whose last packet has not come yet, by source and kind; R297; none. -/
  messages : List ((Nat × Nat) × Bytes)
  deriving DecidableEq, Repr

/-! ## Media -/

/-- Context states (0x2C10:04). -/
inductive CtxState where
  | closed
  | opened
  | paused
  deriving DecidableEq, Repr

/-- A queued job (R323). -/
structure Job where
  flags : Nat
  tag : Nat
  buffer : Nat
  address : Nat
  length : Nat
  deriving DecidableEq, Repr

/-- A decoded frame that waits for its turn in display order (R327). -/
structure Reorder where
  order : Nat
  buffer : Nat
  status : Nat
  flags : Nat
  concealed : Nat
  deriving DecidableEq, Repr

/-- A media completion (14_video_and_camera.md, Completions). -/
structure MediaCompletion where
  tag : Nat
  status : Nat
  buffer : Nat
  flags : Nat
  concealed : Nat
  frame : Nat
  bytes : Nat
  /-- Order number among the completions the engine has posted, by which a read consumes what it served; R32. -/
  num : Nat
  deriving DecidableEq, Repr

/-- A stream context (R321). -/
structure Context where
  st : CtxState
  /-- The 32-byte record. -/
  record : Bytes
  /-- A record change that takes effect at the next frame boundary; R337. -/
  staged : Option Bytes
  /-- CLOSE waits for the frame boundary; R338. -/
  closing : Bool
  /-- FLUSH clears the marks at the frame boundary; R320. -/
  flushing : Bool
  jobs : List Job
  completions : List MediaCompletion
  frames : Nat
  /-- Boundaries waited with a frame ready; R322. -/
  waited : Nat
  /-- Buffer the frame in progress writes; R325. -/
  current : Option Nat
  /-- A frame is in progress; R322. -/
  running : Bool
  /-- Job of the encode frame in progress; R323. -/
  encoding : Option Job
  /-- Decoded frames not yet output; R327. -/
  awaiting : List Reorder
  /-- Long-term reference buffer of an encode context; R326. -/
  longTerm : Bool
  /-- Reference pictures by output order; R331. -/
  refs : List (Nat × Nat)
  /-- Decoding waits for the next random-access point whose sequence is supported; R320. -/
  skipping : Bool
  deriving DecidableEq, Repr

/-- A registered frame buffer and its marks (R324, R325). -/
structure FrameBuffer where
  format : Nat
  owner : Nat
  width : Nat
  height : Nat
  luma : Nat
  chroma : Nat
  pitch : Nat
  queued : Bool
  ref : Bool
  longTerm : Bool
  held : Bool
  deriving DecidableEq, Repr

/-- A camera channel (R335). Its record in force; the written record is object 0x2C30. -/
structure Camera where
  record : Bytes
  /-- A record staged until the next Frame Start; R336. -/
  staged : Option Bytes
  /-- A frame is in progress. -/
  inFrame : Bool
  buffer : Option Nat
  /-- Lines received, each the pixels of one line. -/
  lines : List (List Nat)
  flags : Nat
  frames : Nat
  /-- Line Start has opened the last of the lines; R335. -/
  inLine : Bool
  completions : List MediaCompletion
  deriving DecidableEq, Repr

/-- The video engine and the camera port (14_video_and_camera.md). -/
structure Media where
  /-- Contexts 0 to 31 that are not in their reset state; R321; closed. -/
  contexts : List (Nat × Context)
  /-- Registered buffers; R324; none. -/
  buffers : List (Nat × FrameBuffer)
  /-- Camera channels 0 and 1; R335; disabled. -/
  cameras : List Camera
  /-- Receiver Setting in force, 32 bits; R336; 0x0000_09C4. -/
  receiver : Nat
  /-- Receiver Setting staged; R336; none. -/
  staged : Option Nat
  /-- Last FILE context served by each pipeline; R322; none. -/
  lastFile : List (Nat × Nat)
  /-- Completions posted so far, the order number of the next; R32; 0. -/
  posted : Nat
  deriving DecidableEq, Repr

/-! ## Integrity -/

/-- An error record (R348). -/
structure ErrorRecord where
  seq : Nat
  cls : Nat
  master : Nat
  outcome : Nat
  flags : Nat
  address : Nat
  turn : Nat
  deck : Nat
  logical : Nat
  array : Nat
  attempt : Nat
  deriving DecidableEq, Repr

/-- A deck's margin, kept with the region table (R355, R358). -/
structure Margin where
  volt : Nat
  clock : Nat
  vmin : Nat
  retired : Bool
  offHere : Bool
  silent : Nat
  deriving DecidableEq, Repr

/-- Margin commands waiting for the barrier (R358). -/
inductive MarginCommand where
  | clear
  | retire
  | restore
  deriving DecidableEq, Repr

/-- Silent errors, faults and recovery (15_integrity.md). -/
structure Integrity where
  /-- Error log, oldest first, at most 64; R348; empty. -/
  log : List ErrorRecord
  /-- Sequence of the next record, 32 bits; R348; 0. -/
  nextSeq : Nat
  /-- 0x2D03:01 Read Cursor; DESIGN CHOICE 0 (log 9). -/
  cursor : Nat
  /-- 0x2D00:02 Mode In Force; R345; 0x00. -/
  mode : Nat
  /-- Margins of decks 0 to 15; R358; zero. -/
  margins : List Margin
  /-- Margin commands waiting for the barrier; R358; none. -/
  commands : List (Nat × MarginCommand)
  /-- Faults armed by Inject: deck, class, array, no_step; R361; none. -/
  armed : List (Nat × Nat × Nat × Bool)
  /-- A 100 µs report window is open; R349; false. -/
  window : Bool
  /-- Decks suspect in the turn that ended, to be stepped at the barrier; R355; none. -/
  suspects : List Nat
  deriving DecidableEq, Repr

/-! ## What the device sends -/

/-- What leaves the block: messages, interrupts, pins, packets and answers (the observable outputs). -/
inductive Out where
  | response (ch : Channel) (frame : Bytes)
  | wrote (ch : Channel) (idx sub status : Nat)
  | msix (vector : Nat)
  | ibi (byte : Byte)
  | nack
  | read (data : Bytes)
  | access (a : Access) (data : List Octet) (note : Note)
  | packet (port : Nat) (p : Packet)
  | slowFrame (port : Nat) (f : Bytes)
  | wakeN
  | clkreqN
  | pme
  | l1Request
  | railEn (level : Bool)
  | thermtripN (level : Bool)
  | token (ring tag n : Nat)
  | completion (c : Completion)
  deriving DecidableEq, Repr

/-! ## The whole state -/

/-- The block (everything the spec gives it), the queue of waiting commands, and the model's own
count of draws of free values. -/
structure State where
  /-- Fuses; R1. -/
  part : Part
  /-- Input pins and what the board fits; R82, R142. -/
  board : Board
  /-- Host memory at the other end of the link; R150. -/
  host : HostMem
  /-- Device physical address space; R12. -/
  mem : Mem
  /-- Objects that differ from their default, by index × 256 + sub: settings and counters; R22. -/
  obj : List (Nat × Nat)
  /-- Dictionary channels in use; R37. -/
  chans : List (Channel × Chan)
  /-- Request frames not yet taken up, in the order in which their final bytes arrived; R41; none. -/
  inbox : List Arrival
  /-- Power, clocks, link; R60. -/
  power : Power
  /-- Resets, lifecycle, counters, journal; R81. -/
  custody : Custody
  /-- Weight flash; R109. -/
  flash : Flash
  /-- Region entries, LPDDR, window, tensors; R131. -/
  tiers : Tiers
  /-- The 16 decks; R184. -/
  decks : Vector Deck 16
  /-- Images; R211. -/
  images : Images
  /-- Serving; R232. -/
  serving : Serving
  /-- Turn in progress; R15; none. -/
  turn : Option Turn
  /-- KV pages and tree; R263. -/
  kv : Kv
  /-- Experts; R279. -/
  experts : Experts
  /-- Ferry; R295. -/
  ferry : Ferry
  /-- Media; R318. -/
  media : Media
  /-- Integrity; R340. -/
  integrity : Integrity
  /-- What has left the block, oldest first. -/
  out : List Out
  /-- The model's own count of free values drawn; DESIGN CHOICE 0 (log 12). -/
  draws : Nat
  /-- Commands waiting, first in, first out; empty. -/
  pending : List Instr
  deriving DecidableEq, Repr

/-! ## What stops the block -/

/-- Why a step ends in a fault: no command does (log 21). -/
inductive Fault where
  deriving DecidableEq, Repr

/-- Why a step is refused. -/
inductive Refusal where
  /-- Raised by exec for a command that has no meaning yet; safe. -/
  | notModelled (mnemonic : String)
  deriving DecidableEq, Repr

/-! ## Reset -/

/-- A deck at the start of a layer program, and after reset (R185). -/
def Deck.reset (ldo : Nat) : Deck where
  status := .idle
  s := Vector.replicate 32 0
  sBad := 0
  v := Vector.replicate 32 0
  vBad := Vector.replicate 32 0
  p := Vector.replicate 8 0
  pBad := 0
  rowmap := Vector.replicate 8 0x0000_0FFF
  acc := []
  streams := Vector.replicate 4 none
  store := []
  pc := 0
  bundle := []
  stalled := false
  sequenced := []
  ending := false
  logical := 0
  layer := 0
  dispatched := 0
  code := none
  exc := ⟨0, 0, 0, 0, 0, 0, 0⟩
  mismatch := none
  injected := none
  resetDue := false
  ldo := ldo
  divider := 16

/-- A dictionary channel after reset (R37, R42a). -/
def Chan.reset : Chan where
  xfer := none
  timedOut := none
  last := none
  selects := []
  request := List.replicate 64 0
  response := List.replicate 64 0
  busy := false
  ready := false
  overrun := false
  latched := none
  way := .usual

/-- A ferry port that is down (R295). -/
def Port.reset : Port where
  st := .down
  lanes := 0
  neighbour := 0
  txSeq := 0
  unacked := []
  outbox := []
  rxSeq := 0
  nakked := false
  resends := 0
  credits := [8, 64, 32, 16]
  freed := [0, 0, 0, 0]
  ackOwed := false
  silence := 0
  wakeSent := false

/-- A camera channel after reset: disabled (R338). -/
def Camera.reset : Camera where
  record := List.replicate 32 0
  staged := none
  inFrame := false
  buffer := none
  lines := []
  flags := 0
  frames := 0
  inLine := false
  completions := []

/-- An empty image slot. -/
def Image.reset : Image where
  st := .empty
  tier := 0
  head := none
  region := 0
  bankFirst := 0
  bases := []
  sealedIndex := none
  replaced := 0
  toReplace := 0
  faults := 0
  failing := none

/-- A counter whose first sector holds base 0 and n consumed words (R102). -/
def Counter.at (n : Nat) : Counter where
  a := ⟨false, .valid 0, n, false⟩
  b := ⟨false, .erased, 0, false⟩

/-- The serving plane when it has been cleared (R81). -/
def Serving.reset : Serving where
  rings := []
  berths := []
  sems := []
  recent := []
  hold := []
  wakePage := 0
  tenantPending := 0
  blockPending := 0
  stopped := false
  clearDue := false
  nextAdmission := 0
  held := false

/-- The video engine and camera port after a reset that clears the serving plane (R338). -/
def Media.reset : Media where
  contexts := []
  buffers := []
  cameras := [Camera.reset, Camera.reset]
  receiver := 0x0000_09C4
  staged := none
  lastFile := []
  posted := 0

/-- The cascade state of an unmoored device with its ports down (R295, R303). -/
def Ferry.reset : Ferry where
  ports := [Port.reset, Port.reset, Port.reset]
  role := .unmoored
  joined := 0
  proto := 0
  reason := 1
  pilotNode := 0
  hellos := []
  routes := []
  children := []
  flowTx := []
  flowRx := []
  stageMaps := []
  forwards := []
  reads := []
  orphaned := []
  lost := []
  batch := none
  layout := 0
  broadcasts := []
  sent := []
  gaps := []
  told := []
  accepted := none
  messages := []

/-- Tier state with nothing placed and the LPDDR trained as the board allows. -/
def Tiers.reset (fitted rate training ranks : Nat) : Tiers where
  pendingBase := []
  windows := []
  tensors := []
  queue := []
  current := none
  landed := []
  toFree := []
  places := []
  sealedRanges := []
  openBlocks := []
  linkNext := .clean
  bufLpddr := []
  bufFlash := []
  bufWindow := []
  inbound := []
  fitted := fitted
  rate := rate
  training := training
  ranks := ranks
  retiredWords := []

/-- Power state after start-up (R87): READY, every clock running. -/
def Power.reset (point : Nat) : Power where
  state := .ready
  command := none
  entering := none
  exiting := none
  readyDue := false
  dozeDue := false
  watchDue := false
  latched := 0
  watchFast := false
  slowInput := false
  fllLocked := true
  refclk := true
  link := .l0
  dState := .d0
  aspmL1 := false
  aspmL12 := false
  completionMs := 50
  l1Asked := false
  pme := false
  wakes := []
  deadline := none
  movedDown := []
  refetch := []
  point := point
  thermSteps := 0
  powerSteps := 0
  coolSamples := 0
  calmSamples := 0
  emergency := false
  tripped := false
  tripFlag := false
  readings := List.replicate 20 0
  avg1s := 0
  avg10ms := 0
  raising := none
  railEn := true
  rail := .idle
  pllLost := false

/-- Regions 0 to 2 are fixed and the others unused (R115). -/
def Flash.fixedRegions : List Region :=
  [⟨0, 767, .codeOnly⟩, ⟨768, 1535, .codeOnly⟩, ⟨1536, 2047, .data⟩]

/-- A calibration row that passes R129 but for its CRC-32 check field, which `State.reset` completes:
magic, layout version, grade 7210-T, stepping B1, zero identity, zero trims, deck_vmin at the point's own
voltage (log 11). -/
def Flash.calBody : Bytes :=
  let vmin : Bytes := [0x26, 0x02, 0x8A, 0x02, 0xEE, 0x02, 0x00, 0x00]
  [0x1B, 0xCA, 0x57, 0x53, 0x01, 0x00, 0x01, 0xB1] ++ List.replicate 24 0
    ++ List.replicate 16 0
    ++ (List.replicate 16 vmin).flatten
    ++ List.replicate (0xFFC - 0xB0) 0

/-- The state right after reset: the part as delivered, started up by a power-on reset and in READY
(R87; logs 2 to 12 name every value the spec does not give). -/
def State.reset : State where
  part := ⟨.t, 0, 0, 0, 1200⟩
  board :=
    { pilot := false, nodeId := 0, i3cAddr := 0, bootSel := false, lpddrGiB := 16, ranks := 1,
      uniform := true, passing := [6400, 7500, 8533, 9600], rstN := true, perstN := true,
      tamperN := true, swPgood := true }
  host := ⟨[], [], []⟩
  mem := ⟨[], []⟩
  obj := []
  chans := []
  inbox := []
  power := Power.reset 2
  custody :=
    { cause := 1, straps := 0, harbour := 0, resultA := 0, resultB := 6, activeSlot := 0,
      helmVersion := 0, watchVersion := 0, helmSecurity := 0, watchSecurity := 0, feature := 0,
      watchAbi := 0, gated := false, resetPending := none, transition := none, serviceAuth := false,
      counters := [Counter.at 0, Counter.at 0, Counter.at 2] ++ List.replicate 3 (Counter.at 0)
        ++ [Counter.at 1] ++ List.replicate 9 (Counter.at 0),
      tamperHarbour := false, lastTamper := 0, storesLost := 0, unclean := false,
      planned := false, repaired := false, helmStopped := false, storedA := none, storedB := none,
      storing := none, storeCount := 0,
      journal := ⟨[], 0, 0, [], [], 0, 0, false, []⟩ }
  flash :=
    { regions := Flash.fixedRegions ++ List.replicate 13 ⟨0, 0, .unused⟩, changes := [], helm := [],
      priv := [], backlog := [], nextSeq := 0, unread := [], consumed := 0, banks := [], waiting := [],
      indeterminate := [], wear := [], advances := [], tableCopy := 0, tableDue := false, calRow := Flash.calBody ++ [0x3E, 0xF1, 0xD9, 0x4C], calValid := true }
  tiers := Tiers.reset 16 9600 0 1
  decks := Vector.replicate 16 (Deck.reset 7500)
  images := ⟨List.replicate 8 Image.reset, [none, none, none], none, none, none, none⟩
  serving := Serving.reset
  turn := none
  kv := ⟨[], [], []⟩
  experts := ⟨[], [], [], 0, 0⟩
  ferry := Ferry.reset
  media := Media.reset
  integrity := ⟨[], 0, 0, 0, List.replicate 16 ⟨0, 0, 0, false, false, 0⟩, [], [], false, []⟩
  out := []
  draws := 0
  pending := []

end Sys2Proof.Machine
end

