-- ==== Sys2Proof/Machine/Memory.lean ====
section
/-! DEFINITION. The device physical address space (R12): its areas, its bytes in one canonical form, and
the marks of its words. -/

namespace Sys2Proof.Machine

/-! ## The map (R12) -/

/-- First byte after the general hold. -/
def generalEnd : Nat := 0x0000_0200_0000
/-- First byte after the dual-port hold. -/
def dualEnd : Nat := 0x0000_0210_0000
/-- First byte after the secure hold. -/
def secureEnd : Nat := 0x0000_0220_0000
/-- First byte of deck 0's store; deck d's is d MiB on. -/
def deckBase : Nat := 0x0000_1000_0000
/-- First byte after the deck stores. -/
def deckEnd : Nat := 0x0000_1100_0000
/-- First byte of the LPDDR. -/
def lpddrBase : Nat := 0x0010_0000_0000
/-- First byte after the LPDDR range. -/
def lpddrEnd : Nat := 0x0018_0000_0000
/-- First byte of the weight flash. -/
def flashBase : Nat := 0x0020_0000_0000
/-- First byte after the weight flash. -/
def flashEnd : Nat := 0x0022_0000_0000
/-- First byte of the host window. -/
def windowBase : Nat := 0x0040_0000_0000
/-- First byte after the host window. -/
def windowEnd : Nat := 0x0080_0000_0000
/-- First byte after the last cascade node window. -/
def nodeEnd : Nat := 0x0100_0000_0000

/-- What an address lies in (R12). -/
inductive Area where
  | general
  | dualPort
  | secure
  | deckStore (d : Nat)
  | lpddr
  | flash
  | window (entry : Nat)
  | node (n : Nat)
  | unmapped
  deriving DecidableEq, Repr

/-- The area of an address, by the table of R12. -/
def areaOf (a : Nat) : Area :=
  if a < generalEnd then .general
  else if a < dualEnd then .dualPort
  else if a < secureEnd then .secure
  else if a < deckBase then .unmapped
  else if a < deckEnd then .deckStore ((a - deckBase) / 0x10_0000)
  else if a < lpddrBase then .unmapped
  else if a < lpddrEnd then .lpddr
  else if a < flashBase then .unmapped
  else if a < flashEnd then .flash
  else if a < windowBase then .unmapped
  else if a < windowEnd then .window ((a - windowBase) / 0x400_0000)
  else if a < nodeEnd then .node ((a - windowEnd) / 0x10_0000_0000 + 1)
  else .unmapped

/-- First flash byte after firmware slots A and B, 3 MiB each (04_start_up_and_custody.md, Firmware slots). -/
def firmwareEnd : Nat := flashBase + 0x60_0000

/-- What a byte that is not listed reads as: slots A and B hold the pair they are delivered with (log 42),
an erased flash word is all ones (R109), and every other memory reads zero until written (DESIGN CHOICE,
log 13). -/
def blankByte (a : Nat) : Byte :=
  if flashBase ≤ a ∧ a < flashEnd then
    (if a < firmwareEnd then Config.firmware ((a - flashBase) % 0x30_0000) else 0xFF)
  else 0

/-! ## Sorted maps -/

/-- Put a value, or nothing, under a key of a map kept sorted by key. -/
def sput {β : Type} : List (Nat × β) → Nat → Option β → List (Nat × β)
  | [], k, some v => [(k, v)]
  | [], _, none => []
  | (k', v') :: r, k, o =>
    if k < k' then
      match o with
      | some v => (k, v) :: (k', v') :: r
      | none => (k', v') :: r
    else if k = k' then
      match o with
      | some v => (k, v) :: r
      | none => r
    else (k', v') :: sput r k o

/-- The value under a key. -/
def sget {β : Type} : List (Nat × β) → Nat → Option β
  | [], _ => none
  | (k', v) :: r, k => if k = k' then some v else sget r k

/-- Whether the keys of a list rise strictly. -/
def rising {β : Type} : List (Nat × β) → Bool
  | [] => true
  | [_] => true
  | (a, _) :: (b, v) :: r => decide (a < b) && rising ((b, v) :: r)

/-! ## Bytes of memory -/

/-- The canonical form of a byte memory: rising addresses, and no entry equal to what an unlisted
address reads as. -/
def cellsWf (blank : Nat → Byte) (l : List Host.Cell) : Bool :=
  rising l && l.all (fun c => !decide (c.2 = blank c.1))

/-- Read one byte of a memory whose unlisted bytes are `blank`. -/
def cellGet (blank : Nat → Byte) (l : List Host.Cell) (a : Nat) : Byte := (sget l a).getD (blank a)

/-- Write one byte, keeping the canonical form. -/
def cellPut (blank : Nat → Byte) (l : List Host.Cell) (a : Nat) (b : Byte) : List Host.Cell :=
  sput l a (if b = blank a then none else some b)

/-- Write a string from an address on. -/
def cellPuts (blank : Nat → Byte) : List Host.Cell → Nat → Bytes → List Host.Cell
  | l, _, [] => l
  | l, a, b :: bs => cellPuts blank (cellPut blank l a b) (a + 1) bs

/-- The canonical form of the device's memory. -/
def Mem.wf (m : Mem) : Bool := cellsWf blankByte m.cells && rising m.marks

/-- The byte at a device physical address. -/
def Mem.byte (m : Mem) (a : Nat) : Byte := cellGet blankByte m.cells a

/-- The n bytes from an address on. -/
def Mem.bytes (m : Mem) (a n : Nat) : Bytes := (List.range n).map (fun i => m.byte (a + i))

/-- Write one byte. -/
def Mem.setByte (m : Mem) (a : Nat) (b : Byte) : Mem := { m with cells := cellPut blankByte m.cells a b }

/-- Write a string. -/
def Mem.setBytes (m : Mem) (a : Nat) (bs : Bytes) : Mem :=
  { m with cells := cellPuts blankByte m.cells a bs }

/-- Bytes of a range go back to what an unlisted byte reads as, and its marks go. -/
def Mem.clear (m : Mem) (first last : Nat) : Mem where
  cells := m.cells.filter (fun c => !(decide (first ≤ c.1) && decide (c.1 < last)))
  marks := m.marks.filter (fun c => !(decide (first ≤ c.1) && decide (c.1 < last)))

/-- The mark of the word that starts at an address. -/
def Mem.mark (m : Mem) (a : Nat) : Option Mark := sget m.marks a

/-- Set or clear the mark of the word that starts at an address. -/
def Mem.setMark (m : Mem) (a : Nat) (o : Option Mark) : Mem := { m with marks := sput m.marks a o }

/-- First address of the word a mark is kept for: 8 bytes in the hold and the deck stores (R133), 16 in
the flash (R109), a 4 KiB block in the LPDDR (R146a). -/
def wordOf (a : Nat) : Nat :=
  match areaOf a with
  | .flash => a / 16 * 16
  | .lpddr => a / 4096 * 4096
  | _ => a / 8 * 8

/-- Whether the word of an address is marked with poison or an uncorrectable error. -/
def Mem.badAt (m : Mem) (a : Nat) : Bool :=
  match m.mark (wordOf a) with
  | some .poison => true
  | some .double => true
  | _ => false

/-- Host memory reads a byte: unlisted bytes read zero (log 5). -/
def HostMem.byte (h : HostMem) (a : Nat) : Byte := cellGet (fun _ => 0) h.cells a

/-- Host memory reads a string. -/
def HostMem.bytes (h : HostMem) (a n : Nat) : Bytes := (List.range n).map (fun i => h.byte (a + i))

/-- Whether a read of host memory can be answered (R150). -/
def HostMem.readable (h : HostMem) (a n : Nat) : Bool :=
  !h.badRead.any (fun p => overlaps (p * 4096) 4096 a n)

/-- Whether host memory takes a write (R248). -/
def HostMem.writable (h : HostMem) (a n : Nat) : Bool :=
  !h.badWrite.any (fun p => overlaps (p * 4096) 4096 a n)

/-- A write to host memory. -/
def HostMem.setBytes (h : HostMem) (a : Nat) (bs : Bytes) : HostMem :=
  { h with cells := cellPuts (fun _ => 0) h.cells a bs }

end Sys2Proof.Machine
end

