-- ==== Sys2Proof/Machine/Objects.lean ====
section
/-! DEFINITION. The object dictionary's table of objects (R22): for every object its sub-indexes, type,
access, access classes, default, whether it is stored (R51) and the range its chapter states. -/

namespace Sys2Proof.Machine

/-- Type codes of objects (02_object_dictionary.md, Types). -/
inductive ObjType where
  | u8 | u16 | u32 | u64 | i32 | i64 | f32 | bool | str | domain
  deriving DecidableEq, Repr

/-- Access rights (02_object_dictionary.md, Access rights). -/
inductive ObjAccess where
  | ro | rw | wo | const | rwi
  deriving DecidableEq, Repr

/-- The range of values an object takes (R374), and the reserved bits it drops (R8). -/
inductive ObjRange where
  | any
  | within (lo hi mult : Nat)
  | orNone (lo hi none : Nat)
  | oneOf (l : List Nat)
  | masked (mask : Nat)
  deriving DecidableEq, Repr

/-- A row of an "Objects defined in this chapter" table: `count` indexes `step` apart from `base`, and
sub-indexes `lo` to `hi`. Classes are a mask: 1 P, 2 T, 4 S, 8 M. -/
structure ObjDef where
  base : Nat
  count : Nat
  step : Nat
  lo : Nat
  hi : Nat
  type : ObjType
  access : ObjAccess
  classes : Nat
  default : Nat
  stored : Bool
  range : ObjRange
  deriving DecidableEq, Repr

/-- Type code of the type table. -/
def ObjType.code : ObjType → Nat
  | .u8 => 0x10 | .u16 => 0x11 | .u32 => 0x12 | .u64 => 0x13 | .i32 => 0x18 | .i64 => 0x19
  | .f32 => 0x20 | .bool => 0x30 | .str => 0x40 | .domain => 0x41

/-- Size in bytes; 0 for STR and DOMAIN, whose length is the transfer's. -/
def ObjType.size : ObjType → Nat
  | .u8 => 1 | .u16 => 2 | .u32 => 4 | .u64 => 8 | .i32 => 4 | .i64 => 8 | .f32 => 4 | .bool => 1
  | .str => 0 | .domain => 0

/-- The objects of 02_object_dictionary.md. -/
def objects02 : List ObjDef :=
  [
    ⟨0x1000, 1, 1, 0, 0, .u8, .const, 15, 9, false, .any⟩,
    ⟨0x1000, 1, 1, 1, 1, .u32, .const, 15, 0x5357, false, .any⟩,
    ⟨0x1000, 1, 1, 2, 2, .u32, .const, 15, 0x7210, false, .any⟩,
    ⟨0x1000, 1, 1, 3, 3, .u8, .const, 15, 1, false, .any⟩,
    ⟨0x1000, 1, 1, 4, 4, .u8, .const, 15, 0xB1, false, .any⟩,
    ⟨0x1000, 1, 1, 5, 5, .u64, .const, 13, 0, false, .any⟩,
    ⟨0x1000, 1, 1, 6, 6, .u32, .const, 15, 0x2000, false, .any⟩,
    ⟨0x1000, 1, 1, 7, 7, .u16, .ro, 13, 0, false, .any⟩,
    ⟨0x1000, 1, 1, 8, 8, .u8, .ro, 13, 0, false, .any⟩,
    ⟨0x1000, 1, 1, 9, 9, .u32, .const, 13, 0, false, .any⟩,
    ⟨0x1001, 1, 1, 0, 0, .u8, .const, 15, 6, false, .any⟩,
    ⟨0x1001, 1, 1, 1, 1, .u32, .ro, 15, 0, false, .any⟩,
    ⟨0x1001, 1, 1, 2, 2, .u32, .ro, 13, 0, false, .any⟩,
    ⟨0x1001, 1, 1, 3, 3, .u32, .const, 13, 0, false, .any⟩,
    ⟨0x1001, 1, 1, 4, 4, .u8, .ro, 13, 0, false, .any⟩,
    ⟨0x1001, 1, 1, 5, 5, .u16, .ro, 15, 0, false, .any⟩,
    ⟨0x1001, 1, 1, 6, 6, .u16, .ro, 13, 0, false, .any⟩,
    ⟨0x1002, 1, 1, 0, 0, .u8, .const, 1, 4, false, .any⟩,
    ⟨0x1002, 1, 1, 1, 1, .u32, .wo, 1, 0, false, .any⟩,
    ⟨0x1002, 1, 1, 2, 2, .u16, .ro, 15, 0, false, .any⟩,
    ⟨0x1002, 1, 1, 3, 3, .u16, .const, 1, 1, false, .any⟩,
    ⟨0x1002, 1, 1, 4, 4, .u16, .const, 1, 2, false, .any⟩,
    ⟨0x1003, 1, 1, 0, 0, .str, .rw, 13, 1, true, .any⟩,
    ⟨0x1100, 1, 1, 0, 0, .u8, .const, 1, 3, false, .any⟩,
    ⟨0x1100, 1, 1, 1, 1, .u16, .rw, 1, 0, true, .within 0 255 1⟩,
    ⟨0x1100, 1, 1, 2, 2, .u32, .rw, 5, 0x3E8, true, .within 10 60000 1⟩,
    ⟨0x1100, 1, 1, 3, 3, .bool, .rw, 1, 1, true, .within 0 1 1⟩,
    ⟨0x1101, 1, 1, 0, 0, .u8, .const, 5, 4, false, .any⟩,
    ⟨0x1101, 1, 1, 1, 1, .u8, .ro, 5, 0, false, .any⟩,
    ⟨0x1101, 1, 1, 2, 2, .u8, .ro, 5, 0x30, false, .any⟩,
    ⟨0x1101, 1, 1, 3, 3, .bool, .rw, 5, 1, true, .within 0 1 1⟩,
    ⟨0x1101, 1, 1, 4, 4, .bool, .rw, 1, 1, true, .within 0 1 1⟩,
    ⟨0x1102, 1, 1, 0, 0, .u8, .const, 13, 5, false, .any⟩,
    ⟨0x1102, 1, 1, 1, 1, .u32, .ro, 13, 0, false, .any⟩,
    ⟨0x1102, 1, 1, 2, 2, .u32, .ro, 13, 0, false, .any⟩,
    ⟨0x1102, 1, 1, 3, 3, .u32, .ro, 13, 0, false, .any⟩,
    ⟨0x1102, 1, 1, 4, 4, .u32, .ro, 5, 0, false, .any⟩,
    ⟨0x1102, 1, 1, 5, 5, .u32, .ro, 5, 0, false, .any⟩,
    ⟨0x1200, 1, 1, 0, 0, .u8, .const, 1, 1, false, .any⟩,
    ⟨0x1200, 1, 1, 1, 1, .u32, .wo, 1, 0, false, .any⟩ ] ++
  [
    ⟨0x1201, 1, 1, 0, 0, .u8, .const, 1, 1, false, .any⟩,
    ⟨0x1201, 1, 1, 1, 1, .u32, .wo, 1, 0, false, .any⟩,
    ⟨0x1202, 1, 1, 0, 0, .u8, .const, 5, 3, false, .any⟩,
    ⟨0x1202, 1, 1, 1, 1, .bool, .ro, 5, 0, false, .within 0 1 1⟩,
    ⟨0x1202, 1, 1, 2, 2, .u32, .ro, 5, 0, false, .any⟩,
    ⟨0x1202, 1, 1, 3, 3, .u32, .ro, 5, 0, false, .any⟩ ]

/-- The objects of 03_watch_and_power.md. -/
def objects03 : List ObjDef :=
  [
    ⟨0x2000, 1, 1, 0, 0, .u8, .const, 13, 2, false, .any⟩,
    ⟨0x2000, 1, 1, 1, 1, .u8, .rw, 13, 0, true, .within 0 1 1⟩,
    ⟨0x2000, 1, 1, 2, 2, .u8, .wo, 13, 0, false, .any⟩,
    ⟨0x2001, 1, 1, 0, 0, .u8, .ro, 15, 0, false, .any⟩,
    ⟨0x2002, 1, 1, 0, 0, .u8, .const, 13, 3, false, .any⟩,
    ⟨0x2002, 1, 1, 1, 1, .u32, .rw, 13, 0x7D0, true, .within 100 1000000 1⟩,
    ⟨0x2002, 1, 1, 2, 2, .u32, .rw, 13, 0x14, true, .within 0 3600000 1⟩,
    ⟨0x2002, 1, 1, 3, 3, .u32, .rw, 13, 0x7D0, true, .within 0 3600000 1⟩,
    ⟨0x2003, 1, 1, 0, 0, .u8, .const, 13, 2, false, .any⟩,
    ⟨0x2003, 1, 1, 1, 1, .bool, .rw, 13, 0, true, .within 0 1 1⟩,
    ⟨0x2003, 1, 1, 2, 2, .u8, .rw, 13, 0, true, .within 0 1 1⟩,
    ⟨0x2004, 1, 1, 0, 0, .u8, .const, 13, 2, false, .any⟩,
    ⟨0x2004, 1, 1, 1, 1, .bool, .ro, 13, 0, false, .within 0 1 1⟩,
    ⟨0x2004, 1, 1, 2, 2, .bool, .ro, 13, 0, false, .within 0 1 1⟩,
    ⟨0x2010, 1, 1, 0, 0, .u8, .const, 13, 3, false, .any⟩,
    ⟨0x2010, 1, 1, 1, 1, .u32, .rw, 13, 0, true, .masked 0x1C⟩,
    ⟨0x2010, 1, 1, 2, 2, .u32, .ro, 13, 0, false, .any⟩,
    ⟨0x2010, 1, 1, 3, 3, .u8, .rw, 13, 3, true, .within 1 3 1⟩,
    ⟨0x2011, 1, 1, 0, 0, .u8, .const, 13, 3, false, .any⟩,
    ⟨0x2011, 1, 1, 1, 1, .u16, .rw, 13, 0x100, true, .within 1 512 1⟩,
    ⟨0x2011, 1, 1, 2, 2, .u32, .rw, 13, 0x3E8, true, .within 0 600000 1⟩,
    ⟨0x2011, 1, 1, 3, 3, .bool, .rw, 13, 1, true, .within 0 1 1⟩,
    ⟨0x2020, 1, 1, 0, 0, .u8, .const, 13, 3, false, .any⟩,
    ⟨0x2020, 1, 1, 1, 1, .u8, .rw, 13, 2, true, .any⟩,
    ⟨0x2020, 1, 1, 2, 2, .u8, .ro, 15, 0, false, .any⟩,
    ⟨0x2020, 1, 1, 3, 3, .u32, .ro, 13, 0, false, .any⟩,
    ⟨0x2030, 1, 1, 0, 0, .u8, .const, 13, 5, false, .any⟩,
    ⟨0x2030, 1, 1, 1, 1, .u8, .rw, 13, 0x5F, true, .within 70 100 1⟩,
    ⟨0x2030, 1, 1, 2, 2, .u8, .const, 13, 0x69, false, .any⟩,
    ⟨0x2030, 1, 1, 3, 3, .u8, .const, 13, 0x73, false, .any⟩,
    ⟨0x2030, 1, 1, 4, 4, .i32, .ro, 15, 0, false, .any⟩,
    ⟨0x2030, 1, 1, 5, 5, .u32, .ro, 13, 0, false, .any⟩,
    ⟨0x2031, 1, 1, 0, 0, .u8, .const, 13, 0x14, false, .any⟩,
    ⟨0x2031, 1, 1, 1, 20, .i32, .ro, 13, 0, false, .any⟩,
    ⟨0x2032, 1, 1, 0, 0, .u8, .const, 13, 3, false, .any⟩,
    ⟨0x2032, 1, 1, 1, 1, .u32, .rw, 13, 0x1770, true, .any⟩,
    ⟨0x2032, 1, 1, 2, 2, .u32, .rw, 13, 0x2328, true, .any⟩,
    ⟨0x2032, 1, 1, 3, 3, .u32, .ro, 13, 0, false, .any⟩ ]

/-- The objects of 04_start_up_and_custody.md. -/
def objects04 : List ObjDef :=
  [
    ⟨0x2100, 1, 1, 0, 0, .u8, .const, 13, 2, false, .any⟩,
    ⟨0x2100, 1, 1, 1, 1, .u32, .wo, 13, 0, false, .any⟩,
    ⟨0x2100, 1, 1, 2, 2, .u8, .ro, 13, 0, false, .any⟩,
    ⟨0x2101, 1, 1, 0, 0, .u8, .const, 1, 1, false, .any⟩,
    ⟨0x2101, 1, 1, 1, 1, .u32, .wo, 1, 0, false, .any⟩,
    ⟨0x2102, 1, 1, 0, 0, .u8, .const, 13, 2, false, .any⟩,
    ⟨0x2102, 1, 1, 1, 2, .u8, .ro, 13, 0, false, .any⟩,
    ⟨0x2103, 1, 1, 0, 0, .u8, .const, 13, 1, false, .any⟩,
    ⟨0x2103, 1, 1, 1, 1, .u8, .ro, 13, 0, false, .any⟩,
    ⟨0x2104, 1, 1, 0, 0, .u8, .const, 13, 1, false, .any⟩,
    ⟨0x2104, 1, 1, 1, 1, .u8, .ro, 13, 0, false, .any⟩,
    ⟨0x2105, 1, 1, 0, 0, .u8, .const, 1, 1, false, .any⟩,
    ⟨0x2105, 1, 1, 1, 1, .u32, .rw, 1, 0x64, true, .within 10 10000 1⟩,
    ⟨0x2110, 1, 1, 0, 0, .u8, .const, 13, 2, false, .any⟩,
    ⟨0x2110, 1, 1, 1, 1, .u8, .ro, 15, 0, false, .any⟩,
    ⟨0x2110, 1, 1, 2, 2, .u32, .wo, 1, 0, false, .any⟩,
    ⟨0x2111, 1, 1, 0, 0, .u8, .const, 1, 1, false, .any⟩,
    ⟨0x2111, 1, 1, 1, 1, .domain, .wo, 1, 0, false, .any⟩,
    ⟨0x2112, 1, 1, 0, 0, .u8, .const, 13, 3, false, .any⟩,
    ⟨0x2112, 1, 1, 1, 1, .bool, .rw, 1, 0, false, .within 0 1 1⟩,
    ⟨0x2112, 1, 1, 2, 2, .u64, .ro, 13, 0, false, .any⟩,
    ⟨0x2112, 1, 1, 3, 3, .u8, .ro, 13, 0, false, .any⟩,
    ⟨0x2120, 1, 1, 0, 0, .u8, .const, 13, 5, false, .any⟩,
    ⟨0x2120, 1, 1, 1, 1, .u32, .rw, 13, 0, true, .masked 0xFFFFFF00⟩,
    ⟨0x2120, 1, 1, 2, 2, .u32, .ro, 13, 0, false, .any⟩,
    ⟨0x2120, 1, 1, 3, 3, .u32, .ro, 13, 0, false, .any⟩,
    ⟨0x2120, 1, 1, 4, 4, .u32, .rw, 13, 0, false, .any⟩,
    ⟨0x2120, 1, 1, 5, 5, .u8, .ro, 13, 0, false, .any⟩,
    ⟨0x2121, 1, 1, 0, 0, .domain, .ro, 13, 0, false, .any⟩,
    ⟨0x2122, 1, 1, 0, 0, .u8, .const, 13, 0x20, false, .any⟩,
    ⟨0x2122, 1, 1, 1, 32, .u16, .ro, 13, 0, false, .any⟩,
    ⟨0x2130, 1, 1, 0, 0, .u8, .const, 13, 0x10, false, .any⟩,
    ⟨0x2130, 1, 1, 1, 16, .u64, .ro, 13, 0, false, .any⟩ ]

/-- The objects of 05_weight_flash.md. -/
def objects05 : List ObjDef :=
  [
    ⟨0x2200, 1, 1, 0, 0, .u8, .const, 9, 5, false, .any⟩,
    ⟨0x2200, 1, 1, 1, 1, .domain, .wo, 9, 0, false, .any⟩,
    ⟨0x2200, 1, 1, 2, 2, .domain, .ro, 9, 0, false, .any⟩,
    ⟨0x2200, 1, 1, 3, 3, .u32, .ro, 13, 0, false, .any⟩,
    ⟨0x2200, 1, 1, 4, 4, .u16, .rw, 9, 0xFFFF, true, .orNone 0 255 65535⟩,
    ⟨0x2200, 1, 1, 5, 5, .u32, .wo, 9, 0, false, .any⟩,
    ⟨0x2201, 1, 1, 0, 0, .u8, .const, 13, 2, false, .any⟩,
    ⟨0x2201, 1, 1, 1, 1, .u8, .ro, 13, 0, false, .any⟩,
    ⟨0x2201, 1, 1, 2, 2, .u64, .ro, 13, 0, false, .any⟩,
    ⟨0x2202, 1, 1, 0, 0, .u8, .const, 15, 4, false, .any⟩,
    ⟨0x2202, 1, 1, 1, 1, .u16, .const, 15, 0x40, false, .any⟩,
    ⟨0x2202, 1, 1, 2, 2, .u32, .const, 15, 0x8000, false, .any⟩,
    ⟨0x2202, 1, 1, 3, 3, .u32, .const, 15, 0x1000, false, .any⟩,
    ⟨0x2202, 1, 1, 4, 4, .u32, .const, 15, 0x800, false, .any⟩,
    ⟨0x2210, 1, 1, 0, 0, .domain, .ro, 13, 0, false, .any⟩,
    ⟨0x2211, 1, 1, 0, 0, .u8, .const, 13, 1, false, .any⟩,
    ⟨0x2211, 1, 1, 1, 1, .bool, .ro, 13, 0, false, .within 0 1 1⟩,
    ⟨0x2220, 16, 1, 0, 0, .u8, .const, 13, 2, false, .any⟩,
    ⟨0x2220, 16, 1, 1, 1, .u64, .rw, 9, 0, false, .any⟩,
    ⟨0x2220, 16, 1, 2, 2, .u8, .ro, 13, 0, false, .any⟩,
    ⟨0x2230, 1, 1, 0, 0, .u8, .const, 13, 3, false, .any⟩,
    ⟨0x2230, 1, 1, 1, 1, .u8, .rw, 9, 1, true, .within 0 1 1⟩,
    ⟨0x2230, 1, 1, 2, 2, .u8, .rw, 9, 0, true, .within 0 1 1⟩,
    ⟨0x2230, 1, 1, 3, 3, .u8, .rw, 9, 0, true, .within 0 1 1⟩,
    ⟨0x2231, 1, 1, 0, 0, .u8, .const, 13, 2, false, .any⟩,
    ⟨0x2231, 1, 1, 1, 1, .u32, .rw, 9, 0x64, true, .within 10 10000 1⟩,
    ⟨0x2231, 1, 1, 2, 2, .u32, .rw, 9, 0x1F4, true, .within 100 5000 1⟩,
    ⟨0x2240, 1, 1, 0, 0, .u8, .const, 13, 6, false, .any⟩,
    ⟨0x2240, 1, 1, 1, 1, .u64, .ro, 13, 0, false, .any⟩,
    ⟨0x2240, 1, 1, 2, 2, .u64, .ro, 13, 0, false, .any⟩,
    ⟨0x2240, 1, 1, 3, 3, .u32, .ro, 13, 0, false, .any⟩,
    ⟨0x2240, 1, 1, 4, 4, .u32, .ro, 13, 0, false, .any⟩,
    ⟨0x2240, 1, 1, 5, 5, .u32, .ro, 13, 0, false, .any⟩,
    ⟨0x2240, 1, 1, 6, 6, .u32, .ro, 13, 0, false, .any⟩,
    ⟨0x2241, 1, 1, 0, 0, .u8, .const, 13, 2, false, .any⟩,
    ⟨0x2241, 1, 1, 1, 1, .u32, .rw, 13, 0, false, .within 0 2097151 1⟩,
    ⟨0x2241, 1, 1, 2, 2, .u32, .ro, 13, 0, false, .any⟩ ]

/-- The objects of 06_hold_and_tiers.md. -/
def objects06 : List ObjDef :=
  [
    ⟨0x2300, 1, 1, 0, 0, .u8, .const, 1, 3, false, .any⟩,
    ⟨0x2300, 1, 1, 1, 1, .u32, .rwi, 1, 0x2000, true, .within 0 16384 256⟩,
    ⟨0x2300, 1, 1, 2, 2, .u32, .rwi, 1, 0, true, .within 0 8192 256⟩,
    ⟨0x2300, 1, 1, 3, 3, .u32, .rw, 1, 0xA, true, .within 0 3600 1⟩,
    ⟨0x2301, 1, 1, 0, 0, .u8, .const, 13, 4, false, .any⟩,
    ⟨0x2301, 1, 1, 1, 1, .u64, .ro, 13, 0, false, .any⟩,
    ⟨0x2301, 1, 1, 2, 2, .u64, .ro, 13, 0, false, .any⟩,
    ⟨0x2301, 1, 1, 3, 3, .u32, .ro, 13, 0, false, .any⟩,
    ⟨0x2301, 1, 1, 4, 4, .u32, .ro, 13, 0, false, .any⟩,
    ⟨0x2310, 25, 1, 0, 0, .u8, .const, 9, 0x20, false, .any⟩,
    ⟨0x2310, 25, 1, 1, 32, .u64, .rw, 9, 0, true, .any⟩,
    ⟨0x2400, 1, 1, 0, 0, .u8, .const, 13, 6, false, .any⟩,
    ⟨0x2400, 1, 1, 1, 1, .u16, .rw, 1, 0x2580, true, .oneOf [6400, 7500, 8533, 9600]⟩,
    ⟨0x2400, 1, 1, 2, 2, .u16, .ro, 13, 0, false, .any⟩,
    ⟨0x2400, 1, 1, 3, 3, .u8, .ro, 13, 0, false, .any⟩,
    ⟨0x2400, 1, 1, 4, 4, .u8, .ro, 13, 0, false, .any⟩,
    ⟨0x2400, 1, 1, 5, 5, .u64, .ro, 13, 0, false, .any⟩,
    ⟨0x2400, 1, 1, 6, 6, .u64, .ro, 13, 0, false, .any⟩,
    ⟨0x2401, 1, 1, 0, 0, .u8, .const, 13, 2, false, .any⟩,
    ⟨0x2401, 1, 1, 1, 1, .u64, .ro, 13, 0, false, .any⟩,
    ⟨0x2401, 1, 1, 2, 2, .u32, .ro, 13, 0, false, .any⟩,
    ⟨0x2402, 1, 1, 0, 0, .u8, .const, 13, 8, false, .any⟩,
    ⟨0x2402, 1, 1, 1, 8, .u64, .ro, 13, 0, false, .any⟩,
    ⟨0x2410, 1, 1, 0, 0, .u8, .const, 1, 3, false, .any⟩,
    ⟨0x2410, 1, 1, 1, 1, .domain, .wo, 1, 0, false, .any⟩,
    ⟨0x2410, 1, 1, 2, 2, .domain, .ro, 1, 0, false, .any⟩,
    ⟨0x2410, 1, 1, 3, 3, .u16, .ro, 5, 0, false, .any⟩,
    ⟨0x2420, 1, 1, 0, 0, .u8, .const, 3, 1, false, .any⟩,
    ⟨0x2420, 1, 1, 1, 1, .domain, .wo, 3, 0, false, .any⟩,
    ⟨0x2421, 1, 1, 0, 0, .u8, .const, 3, 2, false, .any⟩,
    ⟨0x2421, 1, 1, 1, 1, .u32, .rw, 3, 0, false, .any⟩,
    ⟨0x2421, 1, 1, 2, 2, .domain, .ro, 3, 0, false, .any⟩,
    ⟨0x2422, 1, 1, 0, 0, .u8, .const, 13, 3, false, .any⟩,
    ⟨0x2422, 1, 1, 1, 1, .u32, .ro, 13, 0, false, .any⟩,
    ⟨0x2422, 1, 1, 2, 2, .u64, .ro, 13, 0, false, .any⟩,
    ⟨0x2422, 1, 1, 3, 3, .u64, .ro, 13, 0, false, .any⟩,
    ⟨0x2423, 1, 1, 0, 0, .u8, .const, 3, 4, false, .any⟩,
    ⟨0x2423, 1, 1, 1, 4, .u32, .ro, 3, 0, false, .any⟩,
    ⟨0x2430, 1, 1, 0, 0, .u8, .const, 1, 0x40, false, .any⟩,
    ⟨0x2430, 1, 1, 1, 64, .u32, .rw, 1, 0, true, .any⟩ ] ++
  [
    ⟨0x2431, 1, 1, 0, 0, .u8, .const, 1, 0x40, false, .any⟩,
    ⟨0x2431, 1, 1, 1, 64, .u32, .rw, 1, 0, true, .any⟩,
    ⟨0x2432, 1, 1, 0, 0, .u8, .const, 1, 0x40, false, .any⟩,
    ⟨0x2432, 1, 1, 1, 64, .u64, .ro, 1, 0, false, .any⟩,
    ⟨0x2433, 1, 1, 0, 0, .u8, .const, 1, 2, false, .any⟩,
    ⟨0x2433, 1, 1, 1, 1, .u32, .rw, 1, 0, true, .any⟩,
    ⟨0x2433, 1, 1, 2, 2, .u32, .rw, 1, 0x40000, true, .any⟩,
    ⟨0x2434, 1, 1, 0, 0, .u8, .const, 1, 1, false, .any⟩,
    ⟨0x2434, 1, 1, 1, 1, .u32, .rw, 1, 0x800, true, .within 4 16384 1⟩ ]

/-- The objects of 07_numbers_and_block_code.md. -/
def objects07 : List ObjDef :=
  [
    ⟨0x2500, 1, 1, 0, 0, .u8, .const, 15, 3, false, .any⟩,
    ⟨0x2500, 1, 1, 1, 1, .u8, .const, 15, 1, false, .any⟩,
    ⟨0x2500, 1, 1, 2, 2, .u8, .const, 15, 1, false, .any⟩,
    ⟨0x2500, 1, 1, 3, 3, .u32, .const, 15, 7, false, .any⟩,
    ⟨0x2501, 1, 1, 0, 0, .u8, .const, 13, 3, false, .any⟩,
    ⟨0x2501, 1, 1, 1, 3, .u64, .ro, 13, 0, false, .any⟩,
    ⟨0x2502, 1, 1, 0, 0, .u8, .const, 13, 3, false, .any⟩,
    ⟨0x2502, 1, 1, 1, 3, .u64, .ro, 13, 0, false, .any⟩,
    ⟨0x2503, 1, 1, 0, 0, .u8, .const, 13, 3, false, .any⟩,
    ⟨0x2503, 1, 1, 1, 3, .u32, .ro, 13, 0, false, .any⟩,
    ⟨0x2504, 1, 1, 0, 0, .u8, .const, 13, 3, false, .any⟩,
    ⟨0x2504, 1, 1, 1, 1, .u8, .ro, 13, 0, false, .any⟩,
    ⟨0x2504, 1, 1, 2, 2, .u64, .ro, 13, 0, false, .any⟩,
    ⟨0x2504, 1, 1, 3, 3, .u8, .ro, 13, 0, false, .any⟩,
    ⟨0x2505, 1, 1, 0, 0, .u8, .const, 13, 3, false, .any⟩,
    ⟨0x2505, 1, 1, 1, 1, .u64, .ro, 13, 0, false, .any⟩,
    ⟨0x2505, 1, 1, 2, 2, .u64, .ro, 13, 0, false, .any⟩,
    ⟨0x2505, 1, 1, 3, 3, .u64, .ro, 13, 0, false, .any⟩,
    ⟨0x2506, 1, 1, 0, 0, .u8, .const, 13, 2, false, .any⟩,
    ⟨0x2506, 1, 1, 1, 1, .u64, .ro, 13, 0, false, .any⟩,
    ⟨0x2506, 1, 1, 2, 2, .u64, .ro, 13, 0, false, .any⟩ ]

/-- The objects of 08_decks.md. -/
def objects08 : List ObjDef :=
  [
    ⟨0x2600, 1, 1, 0, 0, .u8, .const, 13, 4, false, .any⟩,
    ⟨0x2600, 1, 1, 1, 1, .u8, .const, 15, 0x10, false, .any⟩,
    ⟨0x2600, 1, 1, 2, 2, .u16, .ro, 15, 0xFFFF, false, .any⟩,
    ⟨0x2600, 1, 1, 3, 3, .u32, .rw, 9, 0xC350, true, .within 1000 1000000 1⟩,
    ⟨0x2600, 1, 1, 4, 4, .u32, .ro, 13, 0, false, .any⟩,
    ⟨0x4000, 16, 256, 0, 0, .u8, .const, 13, 8, false, .any⟩,
    ⟨0x4000, 16, 256, 1, 1, .u8, .ro, 13, 0, false, .any⟩,
    ⟨0x4000, 16, 256, 2, 2, .domain, .ro, 13, 0, false, .any⟩,
    ⟨0x4000, 16, 256, 3, 3, .u32, .ro, 13, 0, false, .any⟩,
    ⟨0x4000, 16, 256, 4, 4, .u16, .ro, 13, 0, false, .any⟩,
    ⟨0x4000, 16, 256, 5, 5, .u64, .ro, 13, 0, false, .any⟩,
    ⟨0x4000, 16, 256, 6, 6, .u64, .ro, 13, 0, false, .any⟩,
    ⟨0x4000, 16, 256, 7, 7, .u64, .ro, 13, 0, false, .any⟩,
    ⟨0x4000, 16, 256, 8, 8, .u32, .wo, 9, 0, false, .any⟩ ]

/-- The objects of 09_model_images.md. -/
def objects09 : List ObjDef :=
  [
    ⟨0x2700, 1, 1, 0, 0, .u8, .const, 15, 8, false, .any⟩,
    ⟨0x2700, 1, 1, 1, 8, .domain, .ro, 15, 0, false, .any⟩,
    ⟨0x2701, 1, 1, 0, 0, .u8, .const, 9, 3, false, .any⟩,
    ⟨0x2701, 1, 1, 1, 1, .domain, .wo, 9, 0, false, .any⟩,
    ⟨0x2701, 1, 1, 2, 2, .u32, .ro, 13, 0, false, .any⟩,
    ⟨0x2701, 1, 1, 3, 3, .u16, .rw, 9, 0xFFFF, true, .orNone 0 255 65535⟩,
    ⟨0x2702, 1, 1, 0, 0, .u8, .const, 13, 4, false, .any⟩,
    ⟨0x2702, 1, 1, 1, 1, .domain, .const, 13, 0, false, .any⟩,
    ⟨0x2702, 1, 1, 2, 4, .domain, .rw, 1, 0, false, .any⟩,
    ⟨0x2710, 1, 1, 0, 0, .u8, .const, 9, 4, false, .any⟩,
    ⟨0x2710, 1, 1, 1, 1, .domain, .wo, 9, 0, false, .any⟩,
    ⟨0x2710, 1, 1, 2, 2, .u32, .wo, 9, 0, false, .any⟩,
    ⟨0x2710, 1, 1, 3, 3, .u32, .ro, 13, 0, false, .any⟩,
    ⟨0x2710, 1, 1, 4, 4, .u32, .ro, 13, 0, false, .any⟩,
    ⟨0x2711, 1, 1, 0, 0, .u8, .const, 13, 3, false, .any⟩,
    ⟨0x2711, 1, 1, 1, 1, .u32, .ro, 13, 0, false, .any⟩,
    ⟨0x2711, 1, 1, 2, 2, .u32, .ro, 13, 0, false, .any⟩,
    ⟨0x2711, 1, 1, 3, 3, .u32, .ro, 13, 0, false, .any⟩ ]

/-- The objects of 10_rings_and_turns.md. -/
def objects10 : List ObjDef :=
  [
    ⟨0x2800, 1, 1, 0, 0, .u8, .const, 13, 0x40, false, .any⟩,
    ⟨0x2800, 1, 1, 1, 64, .bool, .rwi, 9, 0, true, .within 0 1 1⟩,
    ⟨0x2801, 1, 1, 0, 0, .u8, .const, 9, 0x80, false, .any⟩,
    ⟨0x2801, 1, 1, 1, 128, .u8, .rwi, 9, 0xFF, true, .orNone 0 63 255⟩,
    ⟨0x2802, 1, 1, 0, 0, .u8, .const, 9, 0x40, false, .any⟩,
    ⟨0x2802, 1, 1, 1, 64, .u16, .rw, 9, 0, true, .within 0 4096 1⟩,
    ⟨0x2803, 1, 1, 0, 0, .u8, .const, 9, 4, false, .any⟩,
    ⟨0x2803, 1, 1, 1, 1, .u16, .rw, 9, 0, false, .within 0 1023 1⟩,
    ⟨0x2803, 1, 1, 2, 2, .u8, .rw, 9, 0xFF, true, .any⟩,
    ⟨0x2803, 1, 1, 3, 3, .u64, .rw, 9, 0, false, .any⟩,
    ⟨0x2803, 1, 1, 4, 4, .bool, .rw, 9, 0, true, .within 0 1 1⟩,
    ⟨0x2804, 1, 1, 0, 0, .u8, .const, 13, 3, false, .any⟩,
    ⟨0x2804, 1, 1, 1, 1, .u16, .rw, 9, 0x80, true, .within 16 256 16⟩,
    ⟨0x2804, 1, 1, 2, 2, .u16, .const, 15, 0x100, false, .any⟩,
    ⟨0x2804, 1, 1, 3, 3, .u16, .const, 15, 0x100, false, .any⟩,
    ⟨0x2805, 1, 1, 0, 0, .u8, .const, 13, 2, false, .any⟩,
    ⟨0x2805, 1, 1, 1, 1, .bool, .rw, 13, 0, true, .within 0 1 1⟩,
    ⟨0x2805, 1, 1, 2, 2, .u16, .ro, 13, 0, false, .any⟩,
    ⟨0x2806, 1, 1, 0, 0, .u8, .const, 13, 6, false, .any⟩,
    ⟨0x2806, 1, 1, 1, 1, .u64, .ro, 13, 0, false, .any⟩,
    ⟨0x2806, 1, 1, 2, 2, .u64, .ro, 13, 0, false, .any⟩,
    ⟨0x2806, 1, 1, 3, 3, .u32, .ro, 13, 0, false, .any⟩,
    ⟨0x2806, 1, 1, 4, 4, .u32, .ro, 13, 0, false, .any⟩,
    ⟨0x2806, 1, 1, 5, 5, .u32, .ro, 13, 0, false, .any⟩,
    ⟨0x2806, 1, 1, 6, 6, .u16, .ro, 15, 0, false, .any⟩,
    ⟨0x3000, 64, 64, 0, 0, .u8, .const, 3, 3, false, .any⟩,
    ⟨0x3000, 64, 64, 1, 1, .u16, .rw, 3, 0xFFFF, true, .orNone 0 255 65535⟩,
    ⟨0x3000, 64, 64, 2, 2, .u32, .rw, 3, 0, true, .within 0 86400 1⟩,
    ⟨0x3000, 64, 64, 3, 3, .u32, .rw, 1, 0x20000, true, .within 16 131072 1⟩,
    ⟨0x3001, 64, 64, 0, 0, .u8, .const, 3, 4, false, .any⟩,
    ⟨0x3001, 64, 64, 1, 4, .u32, .rw, 3, 0xFFFFFFFF, true, .any⟩,
    ⟨0x3002, 64, 64, 0, 0, .u8, .const, 3, 2, false, .any⟩,
    ⟨0x3002, 64, 64, 1, 1, .u32, .rw, 3, 0, false, .any⟩,
    ⟨0x3002, 64, 64, 2, 2, .domain, .rw, 3, 0, false, .any⟩,
    ⟨0x3003, 64, 64, 0, 0, .u8, .const, 3, 3, false, .any⟩,
    ⟨0x3003, 64, 64, 1, 1, .u16, .ro, 3, 0, false, .any⟩,
    ⟨0x3003, 64, 64, 2, 2, .u16, .ro, 3, 0, false, .any⟩,
    ⟨0x3003, 64, 64, 3, 3, .u64, .ro, 3, 0, false, .any⟩,
    ⟨0x3004, 64, 64, 0, 0, .u8, .const, 3, 2, false, .any⟩,
    ⟨0x3004, 64, 64, 1, 1, .u64, .rw, 3, 0, false, .any⟩ ] ++
  [
    ⟨0x3004, 64, 64, 2, 2, .domain, .ro, 3, 0, false, .any⟩,
    ⟨0x3005, 64, 64, 0, 0, .u8, .const, 3, 2, false, .any⟩,
    ⟨0x3005, 64, 64, 1, 1, .u16, .rw, 3, 0, false, .any⟩,
    ⟨0x3005, 64, 64, 2, 2, .u64, .rw, 3, 0, false, .any⟩ ]

/-- The objects of 11_kv_and_prefixes.md. -/
def objects11 : List ObjDef :=
  [
    ⟨0x2900, 1, 1, 0, 0, .u8, .const, 9, 8, false, .any⟩,
    ⟨0x2900, 1, 1, 1, 8, .u32, .rw, 9, 0, false, .any⟩,
    ⟨0x2901, 1, 1, 0, 0, .u8, .const, 13, 8, false, .any⟩,
    ⟨0x2901, 1, 1, 1, 8, .u64, .ro, 13, 0, false, .any⟩,
    ⟨0x2902, 1, 1, 0, 0, .u8, .const, 13, 8, false, .any⟩,
    ⟨0x2902, 1, 1, 1, 8, .u32, .ro, 13, 0, false, .any⟩,
    ⟨0x2903, 1, 1, 0, 0, .u8, .const, 1, 0x40, false, .any⟩,
    ⟨0x2903, 1, 1, 1, 64, .u32, .rw, 1, 0, true, .any⟩,
    ⟨0x2904, 1, 1, 0, 0, .u8, .const, 1, 0x40, false, .any⟩,
    ⟨0x2904, 1, 1, 1, 64, .u32, .ro, 1, 0, false, .any⟩,
    ⟨0x2905, 1, 1, 0, 0, .u8, .const, 3, 2, false, .any⟩,
    ⟨0x2905, 1, 1, 1, 2, .u32, .ro, 3, 0, false, .any⟩,
    ⟨0x2910, 1, 1, 0, 0, .u8, .const, 13, 8, false, .any⟩,
    ⟨0x2910, 1, 1, 1, 1, .u32, .ro, 13, 0, false, .any⟩,
    ⟨0x2910, 1, 1, 2, 2, .u64, .ro, 13, 0, false, .any⟩,
    ⟨0x2910, 1, 1, 3, 3, .u64, .ro, 13, 0, false, .any⟩,
    ⟨0x2910, 1, 1, 4, 4, .u64, .ro, 13, 0, false, .any⟩,
    ⟨0x2910, 1, 1, 5, 5, .u64, .ro, 13, 0, false, .any⟩,
    ⟨0x2910, 1, 1, 6, 6, .u64, .ro, 13, 0, false, .any⟩,
    ⟨0x2910, 1, 1, 7, 7, .u32, .ro, 13, 0, false, .any⟩,
    ⟨0x2910, 1, 1, 8, 8, .u32, .ro, 13, 0, false, .any⟩,
    ⟨0x2911, 1, 1, 0, 0, .u8, .const, 1, 0x40, false, .any⟩,
    ⟨0x2911, 1, 1, 1, 64, .u8, .rw, 1, 0xFF, true, .orNone 0 254 255⟩,
    ⟨0x2912, 1, 1, 0, 0, .u8, .const, 3, 2, false, .any⟩,
    ⟨0x2912, 1, 1, 1, 1, .u64, .rw, 3, 0, false, .any⟩,
    ⟨0x2912, 1, 1, 2, 2, .domain, .ro, 3, 0, false, .any⟩ ]

/-- The objects of 12_experts.md. -/
def objects12 : List ObjDef :=
  [
    ⟨0x2A00, 1, 1, 0, 0, .u8, .const, 13, 2, false, .any⟩,
    ⟨0x2A00, 1, 1, 1, 1, .u8, .rw, 13, 0, false, .within 0 7 1⟩,
    ⟨0x2A00, 1, 1, 2, 2, .u64, .ro, 13, 0, false, .any⟩,
    ⟨0x2A01, 1, 1, 0, 0, .u8, .const, 13, 5, false, .any⟩,
    ⟨0x2A01, 1, 1, 1, 1, .u32, .rw, 9, 0x400, true, .within 0 65536 1⟩,
    ⟨0x2A01, 1, 1, 2, 2, .u32, .rw, 13, 0, false, .any⟩,
    ⟨0x2A01, 1, 1, 3, 3, .u32, .ro, 13, 0, false, .any⟩,
    ⟨0x2A01, 1, 1, 4, 4, .u32, .ro, 13, 0, false, .any⟩,
    ⟨0x2A01, 1, 1, 5, 5, .u32, .ro, 13, 0, false, .any⟩,
    ⟨0x2A02, 1, 1, 0, 0, .domain, .ro, 13, 0, false, .any⟩,
    ⟨0x2A10, 6, 1, 0, 0, .u8, .const, 13, 0xFF, false, .any⟩,
    ⟨0x2A10, 1, 1, 1, 255, .u8, .rw, 13, 0, false, .within 0 2 1⟩,
    ⟨0x2A11, 1, 1, 1, 255, .u16, .rw, 9, 0, false, .within 1 4096 1⟩,
    ⟨0x2A12, 1, 1, 1, 255, .f32, .rw, 9, 0, false, .any⟩,
    ⟨0x2A13, 1, 1, 1, 255, .f32, .rw, 9, 0, false, .any⟩,
    ⟨0x2A14, 1, 1, 1, 255, .domain, .rw, 13, 0, false, .any⟩,
    ⟨0x2A15, 1, 1, 1, 255, .domain, .ro, 13, 0, false, .any⟩ ]

/-- The objects of 13_ferry_cascade.md. -/
def objects13 : List ObjDef :=
  [
    ⟨0x2B00, 1, 1, 0, 0, .u8, .const, 13, 7, false, .any⟩,
    ⟨0x2B00, 1, 1, 1, 1, .u8, .ro, 13, 0, false, .any⟩,
    ⟨0x2B00, 1, 1, 2, 2, .u8, .ro, 13, 0, false, .any⟩,
    ⟨0x2B00, 1, 1, 3, 3, .u16, .ro, 13, 0, false, .any⟩,
    ⟨0x2B00, 1, 1, 4, 4, .u16, .const, 13, 1, false, .any⟩,
    ⟨0x2B00, 1, 1, 5, 5, .u16, .const, 13, 1, false, .any⟩,
    ⟨0x2B00, 1, 1, 6, 6, .u8, .ro, 13, 1, false, .any⟩,
    ⟨0x2B00, 1, 1, 7, 7, .u8, .ro, 13, 0, false, .any⟩,
    ⟨0x2B01, 1, 1, 0, 0, .u8, .rwi, 9, 0, true, .within 0 1 1⟩,
    ⟨0x2B02, 1, 1, 0, 0, .u8, .const, 9, 8, false, .any⟩,
    ⟨0x2B02, 1, 1, 1, 8, .domain, .rwi, 9, 0, false, .any⟩,
    ⟨0x2B03, 1, 1, 0, 0, .u8, .const, 13, 3, false, .any⟩,
    ⟨0x2B03, 1, 1, 1, 3, .u32, .ro, 13, 0, false, .any⟩,
    ⟨0x2B04, 1, 1, 0, 0, .u8, .const, 13, 3, false, .any⟩,
    ⟨0x2B04, 1, 1, 1, 3, .u64, .ro, 13, 0, false, .any⟩,
    ⟨0x2B05, 1, 1, 0, 0, .u8, .const, 13, 3, false, .any⟩,
    ⟨0x2B05, 1, 1, 1, 3, .u64, .ro, 13, 0, false, .any⟩,
    ⟨0x2B06, 1, 1, 0, 0, .domain, .ro, 13, 0, false, .any⟩,
    ⟨0x2B10, 1, 1, 0, 0, .u8, .const, 13, 3, false, .any⟩,
    ⟨0x2B10, 1, 1, 1, 1, .u32, .ro, 13, 0, false, .any⟩,
    ⟨0x2B10, 1, 1, 2, 2, .u32, .ro, 13, 0, false, .any⟩,
    ⟨0x2B10, 1, 1, 3, 3, .u32, .ro, 13, 0, false, .any⟩,
    ⟨0x2B20, 1, 1, 0, 0, .u8, .const, 9, 2, false, .any⟩,
    ⟨0x2B20, 1, 1, 1, 1, .u16, .rw, 9, 0, false, .within 0 1023 1⟩,
    ⟨0x2B20, 1, 1, 2, 2, .u8, .rw, 9, 0, true, .any⟩,
    ⟨0x2B30, 1, 1, 0, 0, .u8, .const, 13, 2, false, .any⟩,
    ⟨0x2B30, 1, 1, 1, 1, .u8, .rw, 5, 7, true, .masked 7⟩,
    ⟨0x2B30, 1, 1, 2, 2, .u16, .rw, 13, 0x64, true, .within 10 1000 1⟩ ]

/-- The objects of 14_video_and_camera.md. -/
def objects14 : List ObjDef :=
  [
    ⟨0x2C00, 1, 1, 0, 0, .u8, .const, 13, 4, false, .any⟩,
    ⟨0x2C00, 1, 1, 1, 1, .u32, .const, 13, 0xED4E000, false, .any⟩,
    ⟨0x2C00, 1, 1, 2, 2, .u32, .const, 13, 0x76A7000, false, .any⟩,
    ⟨0x2C00, 1, 1, 3, 3, .u8, .const, 13, 0x20, false, .any⟩,
    ⟨0x2C00, 1, 1, 4, 4, .u8, .const, 13, 0x80, false, .any⟩,
    ⟨0x2C01, 1, 1, 0, 0, .u8, .const, 9, 4, false, .any⟩,
    ⟨0x2C01, 1, 1, 1, 1, .domain, .wo, 9, 0, false, .any⟩,
    ⟨0x2C01, 1, 1, 2, 2, .u8, .rw, 9, 0, false, .within 0 127 1⟩,
    ⟨0x2C01, 1, 1, 3, 3, .u32, .ro, 9, 0, false, .any⟩,
    ⟨0x2C01, 1, 1, 4, 4, .u8, .wo, 9, 0, false, .any⟩,
    ⟨0x2C10, 1, 1, 0, 0, .u8, .const, 9, 4, false, .any⟩,
    ⟨0x2C10, 1, 1, 1, 1, .u8, .rw, 9, 0, false, .within 0 33 1⟩,
    ⟨0x2C10, 1, 1, 2, 2, .domain, .rw, 9, 0, false, .any⟩,
    ⟨0x2C10, 1, 1, 3, 3, .u32, .wo, 9, 0, false, .any⟩,
    ⟨0x2C10, 1, 1, 4, 4, .u8, .ro, 13, 0, false, .any⟩,
    ⟨0x2C11, 1, 1, 0, 0, .u8, .const, 9, 1, false, .any⟩,
    ⟨0x2C11, 1, 1, 1, 1, .domain, .wo, 9, 0, false, .any⟩,
    ⟨0x2C12, 1, 1, 0, 0, .u8, .const, 9, 2, false, .any⟩,
    ⟨0x2C12, 1, 1, 1, 1, .domain, .ro, 9, 0, false, .any⟩,
    ⟨0x2C12, 1, 1, 2, 2, .u16, .rw, 9, 0xFFFF, true, .orNone 0 255 65535⟩,
    ⟨0x2C20, 1, 1, 0, 0, .u8, .const, 9, 1, false, .any⟩,
    ⟨0x2C20, 1, 1, 1, 1, .u32, .rw, 9, 0x42, true, .within 5 1000 1⟩,
    ⟨0x2C30, 1, 1, 0, 0, .u8, .const, 9, 2, false, .any⟩,
    ⟨0x2C30, 1, 1, 1, 2, .domain, .rw, 9, 0, true, .any⟩,
    ⟨0x2C32, 1, 1, 0, 0, .u8, .const, 9, 1, false, .any⟩,
    ⟨0x2C32, 1, 1, 1, 1, .u32, .rw, 9, 0x9C4, true, .any⟩,
    ⟨0x2C40, 1, 1, 0, 0, .u8, .const, 13, 5, false, .any⟩,
    ⟨0x2C40, 1, 1, 1, 1, .u64, .ro, 13, 0, false, .any⟩,
    ⟨0x2C40, 1, 1, 2, 2, .u32, .ro, 13, 0, false, .any⟩,
    ⟨0x2C40, 1, 1, 3, 3, .u32, .ro, 13, 0, false, .any⟩,
    ⟨0x2C40, 1, 1, 4, 4, .u32, .ro, 13, 0, false, .any⟩,
    ⟨0x2C40, 1, 1, 5, 5, .u32, .ro, 13, 0, false, .any⟩ ]

/-- The objects of 15_integrity.md. -/
def objects15 : List ObjDef :=
  [
    ⟨0x2D00, 1, 1, 0, 0, .u8, .const, 13, 2, false, .any⟩,
    ⟨0x2D00, 1, 1, 1, 1, .u8, .rw, 13, 0, true, .within 0 2 1⟩,
    ⟨0x2D00, 1, 1, 2, 2, .u8, .ro, 15, 0, false, .any⟩,
    ⟨0x2D01, 1, 1, 0, 0, .u8, .const, 13, 3, false, .any⟩,
    ⟨0x2D01, 1, 1, 1, 1, .u16, .rw, 9, 0xFFFF, true, .orNone 0 255 65535⟩,
    ⟨0x2D01, 1, 1, 2, 2, .u32, .rw, 13, 0, true, .masked 0x00007FFE⟩,
    ⟨0x2D01, 1, 1, 3, 3, .u8, .rw, 9, 3, true, .within 1 8 1⟩,
    ⟨0x2D02, 1, 1, 0, 0, .u8, .const, 13, 0xE, false, .any⟩,
    ⟨0x2D02, 1, 1, 1, 14, .u32, .ro, 13, 0, false, .any⟩,
    ⟨0x2D03, 1, 1, 0, 0, .u8, .const, 13, 3, false, .any⟩,
    ⟨0x2D03, 1, 1, 1, 1, .u32, .rw, 13, 0, false, .any⟩,
    ⟨0x2D03, 1, 1, 2, 2, .u32, .ro, 13, 0, false, .any⟩,
    ⟨0x2D03, 1, 1, 3, 3, .u32, .ro, 13, 0, false, .any⟩,
    ⟨0x2D04, 1, 1, 0, 0, .domain, .ro, 13, 0, false, .any⟩,
    ⟨0x2D05, 1, 1, 0, 0, .u8, .const, 13, 4, false, .any⟩,
    ⟨0x2D05, 1, 1, 1, 1, .u64, .ro, 13, 0, false, .any⟩,
    ⟨0x2D05, 1, 1, 2, 2, .u64, .ro, 13, 0, false, .any⟩,
    ⟨0x2D05, 1, 1, 3, 3, .u32, .ro, 13, 0, false, .any⟩,
    ⟨0x2D05, 1, 1, 4, 4, .u32, .ro, 13, 0, false, .any⟩,
    ⟨0x2D10, 1, 1, 0, 0, .u8, .const, 13, 0x10, false, .any⟩,
    ⟨0x2D10, 1, 1, 1, 16, .u32, .ro, 13, 0, false, .any⟩,
    ⟨0x2D11, 1, 1, 0, 0, .u8, .const, 9, 2, false, .any⟩,
    ⟨0x2D11, 1, 1, 1, 1, .u8, .rw, 9, 0, false, .within 0 15 1⟩,
    ⟨0x2D11, 1, 1, 2, 2, .u32, .wo, 9, 0, false, .any⟩,
    ⟨0x2D30, 1, 1, 0, 0, .u8, .const, 1, 1, false, .any⟩,
    ⟨0x2D30, 1, 1, 1, 1, .u32, .wo, 1, 0, false, .any⟩ ]

/-- Every object (R22). -/
def objects : List ObjDef :=
  objects02 ++ objects03 ++ objects04 ++ objects05 ++ objects06 ++ objects07 ++ objects08 ++ objects09 ++ objects10 ++ objects11 ++ objects12 ++ objects13 ++ objects14 ++ objects15

/-- Whether a row defines the object idx:sub. -/
def ObjDef.covers (d : ObjDef) (idx sub : Nat) : Bool :=
  decide (d.base ≤ idx) && decide ((idx - d.base) % d.step = 0)
    && decide ((idx - d.base) / d.step < d.count) && decide (d.lo ≤ sub) && decide (sub ≤ d.hi)

/-- The row of the object idx:sub, if it exists (R22). -/
def objectAt (idx sub : Nat) : Option ObjDef := objects.find? (·.covers idx sub)

/-- The key an object's value is kept under. -/
def objKey (idx sub : Nat) : Nat := idx * 256 + sub

end Sys2Proof.Machine
end

