-- ==== Sys2Proof/Machine/Ops.lean ====
section
/-! DEFINITION. The shared operations every command is built of: values of objects, channels, what the
device sends, free values, monotonic counters, the lifecycle, journal events, error records, and the
checks and the answer of a dictionary write. -/

namespace Sys2Proof.Machine

/-! ## Values of objects -/

/-- Default of an object: the table's, but for the rows that depend on the grade (R2, R3, R75, R80). -/
def objDefault (g : Grade) (idx sub : Nat) : Nat :=
  match g, idx, sub with
  | .l, 0x2002, 3 => 0
  | .l, 0x2020, 1 => 3
  | .l, 0x2032, 1 => 15000
  | .l, 0x2032, 2 => 20000
  | _, _, _ => ((objectAt idx sub).map (·.default)).getD 0

/-- The value of a setting or counter. -/
def State.val (s : State) (idx sub : Nat) : Nat :=
  (aget s.obj (objKey idx sub)).getD (objDefault s.part.grade idx sub)

/-- Set a setting or counter. -/
def State.setVal (s : State) (idx sub v : Nat) : State := { s with obj := aset s.obj (objKey idx sub) v }

/-- The value of a counter whose default is 0. -/
def State.count (s : State) (idx sub : Nat) : Nat := agetD s.obj (objKey idx sub) 0

/-- Add n to a counter of the given width, which wraps. -/
def State.bumpBy (s : State) (idx sub bits n : Nat) : State :=
  s.setVal idx sub ((s.count idx sub + n) % 2 ^ bits)

/-- Add one to a 32-bit counter. -/
def State.bump (s : State) (idx sub : Nat) : State := s.bumpBy idx sub 32 1

/-- Add one to a 32-bit counter that stops at its greatest value (0x2D02). -/
def State.bumpSat (s : State) (idx sub : Nat) : State :=
  s.setVal idx sub (min (s.count idx sub + 1) 0xFFFF_FFFF)

/-! ## Channels -/

/-- A dictionary channel (R37). -/
def State.chan (s : State) (ch : Channel) : Chan := agetD s.chans ch Chan.reset

/-- Change a dictionary channel. -/
def State.setChan (s : State) (ch : Channel) (c : Chan) : State := { s with chans := aset s.chans ch c }

/-- An object held per channel. -/
def State.sel (s : State) (ch : Channel) (idx sub : Nat) : Nat :=
  agetD (s.chan ch).selects (objKey idx sub) (objDefault s.part.grade idx sub)

/-- Set an object held per channel. -/
def State.setSel (s : State) (ch : Channel) (idx sub v : Nat) : State :=
  s.setChan ch { s.chan ch with selects := aset (s.chan ch).selects (objKey idx sub) v }

/-- The access class of a channel, as the mask of the object table (Access classes). -/
def chanClass : Channel → Nat
  | .priv => 1
  | .tenant _ => 2
  | .side => 4
  | .fwd => 8

/-- The tenant of a tenant mailbox. -/
def chanTenant : Channel → Option Nat
  | .tenant t => some t.val
  | _ => none

/-! ## What the device sends, and free values -/

/-- Something leaves the block. -/
def State.emit (s : State) (o : Out) : State := { s with out := s.out ++ [o] }

/-- The next free value is drawn: its number is s.draws (log 12). -/
def State.draw (s : State) : State := { s with draws := s.draws + 1 }

/-- An MSI-X message; vector 0xFFFF is none. -/
def State.msix (s : State) (v : Nat) : State := if v = 0xFFFF then s else s.emit (.msix v)

/-- An in-band interrupt, if 0x1101:03 IBI Enable is true. -/
def State.ibi (s : State) (b : Byte) : State := if s.val 0x1101 3 = 1 then s.emit (.ibi b) else s

/-! ## Modes -/

/-- The device runs in harbour mode (R93). -/
def State.inHarbour (s : State) : Bool := !decide (s.custody.harbour = 0)

/-- The dictionary server runs: not in reset, asleep, entering sleep, tripped (R78) or with the helm
stopped (R86). -/
def State.serves (s : State) : Bool :=
  (match s.power.state with
   | .active => true | .ready => true | .offReady => true
   | _ => false)
  && (match s.power.entering with
      | some .doze => false
      | some .watch => false
      | _ => true)
  && !s.power.tripped && !s.custody.helmStopped

/-- The clocks run and turns may run: ACTIVE or READY, no trip, helm running, not in harbour mode. -/
def State.running (s : State) : Bool :=
  (match s.power.state with
   | .active => true | .ready => true
   | _ => false)
  && !s.power.tripped && !s.custody.helmStopped && !s.inHarbour

/-- Own node id: NODE_ID + 1 (0x1000:08). -/
def State.nodeId (s : State) : Nat := s.custody.straps / 2 % 8 + 1

/-- A live berth holds a request that has not completed (10_rings_and_turns.md, Berths). -/
def Berth.live (b : Berth) : Bool :=
  !b.finished && (match b.st with
    | .waiting => true | .ready => true | .closing => true | _ => false)

/-- Some berth is live. -/
def State.anyLive (s : State) : Bool := s.serving.berths.any Berth.live

/-! ## Monotonic counters (R102 to R104) -/

/-- Value of a sector with a valid base (R102). -/
def CtrSector.value (c : CtrSector) : Option Nat :=
  match c.indeterminate, c.base with
  | false, .valid n => some (n + c.consumed + b2n c.partialWord)
  | _, _ => none

/-- A sector that is fully erased. -/
def CtrSector.isErased (c : CtrSector) : Bool :=
  !c.indeterminate && decide (c.base = .erased) && decide (c.consumed = 0) && !c.partialWord

/-- An erased sector. -/
def CtrSector.blank : CtrSector := ⟨false, .erased, 0, false⟩

/-- Value of a counter: the greater of its valid sectors (R104). -/
def Counter.value? (c : Counter) : Option Nat :=
  match c.a.value, c.b.value with
  | some x, some y => some (max x y)
  | some x, none => some x
  | none, some y => some y
  | none, none => none

/-- Value of a counter, 0 where no sector is valid. -/
def Counter.value (c : Counter) : Nat := c.value?.getD 0

/-- Consume the next word of the active sector, whose value is v; a sector full with it is switched to
its twin (R103). -/
def Counter.consume (c : CtrSector) (twin : CtrSector) (v : Nat) : CtrSector × CtrSector :=
  if c.consumed + b2n c.partialWord + 1 < 255 then
    ({ c with consumed := c.consumed + b2n c.partialWord + 1, partialWord := false }, twin)
  else (CtrSector.blank, ⟨false, .valid (v + 1), 0, false⟩)

/-- Advance a counter by one word program (R103): the active sector's next word is consumed; when word
255 has been consumed the twin takes the value as its base and the full sector is erased. A counter with
no valid sector is left alone. -/
def Counter.step (c : Counter) : Counter :=
  match c.a.value, c.b.value with
  | some x, some y =>
    if y ≤ x then let p := Counter.consume c.a c.b x; ⟨p.1, p.2⟩
    else let p := Counter.consume c.b c.a y; ⟨p.2, p.1⟩
  | some x, none => let p := Counter.consume c.a c.b x; ⟨p.1, p.2⟩
  | none, some y => let p := Counter.consume c.b c.a y; ⟨p.2, p.1⟩
  | none, none => c

/-- Advance a counter by n (R103). -/
def Counter.advance (c : Counter) : Nat → Counter
  | 0 => c
  | n + 1 => (c.step).advance n

/-- Value of counter n. -/
def State.counter (s : State) (n : Nat) : Nat := ((s.custody.counters[n]?).map Counter.value).getD 0

/-- A step of a counter erases a sector that was not (R103). -/
def CtrSector.wiped (old new : CtrSector) : Bool := new.isErased && !old.isErased

/-- Erases of a counter's two sectors in an advance by n (R130). -/
def Counter.erasures (c : Counter) : Nat → Nat × Nat
  | 0 => (0, 0)
  | n + 1 =>
    let r := c.step.erasures n
    (r.1 + b2n (c.a.wiped c.step.a), r.2 + b2n (c.b.wiped c.step.b))

/-- Count n erases of a sector (R130); the count stops at its greatest value. -/
def wearOf (wear : List (Nat × Nat)) (sector n : Nat) : List (Nat × Nat) :=
  if n = 0 then wear else aset wear sector (min (agetD wear sector 0 + n) 0xFFFF_FFFF)

/-- Bank 0, which holds the system area, runs no program and no erase: one operation at a time (R123). -/
def State.systemFree (s : State) : Bool := (aget s.flash.banks 0).isNone

/-- Erase counts after counter n has been advanced by k. -/
def counterWear (s : State) (n k : Nat) : List (Nat × Nat) :=
  let e := ((s.custody.counters[n]?).map (·.erasures k)).getD (0, 0)
  wearOf (wearOf s.flash.wear (1536 + 2 * n) e.1) (1537 + 2 * n) e.2

/-- Advance counter n by k through the helm queue (R103): at once, or when bank 0 is free again (R123). -/
def State.advanceCounter (s : State) (n k : Nat) : State :=
  let l := if s.systemFree then lmod s.custody.counters n (·.advance k) else s.custody.counters
  { s with
    custody := { s.custody with counters := l }
    flash :=
      if s.systemFree then { s.flash with wear := counterWear s n k }
      else { s.flash with advances := s.flash.advances ++ [(n, k)] } }

/-- Keep the region table, and what is kept with it, in the sector of the two that does not hold it, and erase the other
(R101, R118, R215, R358): at once, or when bank 0 is free again (R123). -/
def State.keepTable (s : State) : State :=
  let kept := { s.flash with
    tableDue := false, tableCopy := 1 - s.flash.tableCopy, wear := wearOf s.flash.wear (1634 + s.flash.tableCopy) 1 }
  { s with flash := if s.systemFree then kept else { s.flash with tableDue := true } }

/-- The device's own operations that waited for bank 0 (R123). -/
def State.ownOperations (s : State) : State :=
  if s.systemFree then
    let s1 := s.flash.advances.foldl (fun s p => s.advanceCounter p.1 p.2) { s with flash := { s.flash with advances := [] } }
    if s1.flash.tableDue then s1.keepTable else s1
  else s

/-! ## Lifecycle (04_start_up_and_custody.md, Lifecycle) -/

/-- The lifecycle state the counters give. -/
def lifecycleOf (c2 c3 c4 c5 : Nat) : Lifecycle :=
  if c5 ≥ 1 then .final
  else if c2 = 0 then .blank
  else if c2 = 1 then (if c3 = 0 then .factory else .development)
  else if c4 % 2 = 0 then .deployed else .service

/-- The lifecycle state in force. -/
def State.lifecycle (s : State) : Lifecycle :=
  lifecycleOf (s.counter 2) (s.counter 3) (s.counter 4) (s.counter 5)

/-- Code in 0x2110:01. -/
def Lifecycle.code : Lifecycle → Nat
  | .blank => 0 | .factory => 1 | .development => 2 | .deployed => 3 | .service => 4 | .final => 5

/-! ## Journal events (R105 to R107) -/

/-- Entries of the event queue other than LOST_EVENTS. -/
def Journal.waiting (j : Journal) : Nat := (j.queue.filter (fun e => !e.lostRecord)).length

/-- Add an event to the queue, or count it lost (R107). -/
def Journal.push (j : Journal) (e : JEvent) : Journal :=
  if j.waiting < 128 then { j with queue := j.queue ++ [e] }
  else { j with lost := aset j.lost e.cls (min (agetD j.lost e.cls 0 + 1) 0xFFFF), lastLoss := e.ticks }

/-- Change the journal. -/
def State.setJournal (s : State) (j : Journal) : State :=
  { s with custody := { s.custody with journal := j } }

/-- Queue an event whose code and data are at hand, unless 0x2120:01 Class Mask suppresses its class. -/
def State.pushEvent (s : State) (cls flags code : Nat) (data : Bytes) : State :=
  if bitOf (s.val 0x2120 1) cls then s
  else (s.setJournal (s.custody.journal.push ⟨cls, flags, code, Config.ticks s.draws, padTo 32 data, false⟩)).draw

/-- Queue an event of a class. The spec gives the class and what the event tells, but no code and no
layout of its data, which are free (log 16): `kind` names the event among its class's. -/
def State.event (s : State) (cls flags kind : Nat) (facts : List Nat) : State :=
  s.pushEvent cls flags (Config.journalCode cls kind) (Config.journalData cls kind facts)

/-! ## Flash kinds and sealed ranges as other chapters ask for them -/

/-- Kind of the region a flash sector lies in; a sector in no region is DATA (R115). -/
def State.sectorKind (s : State) (sector : Nat) : RegionKind :=
  ((s.flash.regions.find? (fun r => !decide (r.kind = .unused) && decide (r.first ≤ sector)
      && decide (sector ≤ r.last))).map (·.kind)).getD .data

/-- Whether an LPDDR address lies in a sealed range (R147). -/
def State.isSealed (s : State) (a : Nat) : Bool :=
  decide (lpddrBase ≤ a) && decide (a < lpddrEnd) &&
    s.tiers.sealedRanges.any (fun p =>
      decide (p.2.first ≤ (a - lpddrBase) / 4096) && decide ((a - lpddrBase) / 4096 < p.2.first + p.2.pages))

/-- Whether contents at an address are for weight streams alone: a weight-only region or a sealed range. -/
def State.isSecret (s : State) (a : Nat) : Bool :=
  (decide (flashBase ≤ a) && decide (a < flashEnd)
    && decide (s.sectorKind ((a - flashBase) / 4096) = .weightOnly)) || s.isSealed a

/-! ## Error records (R347 to R349) -/

/-- Device turn count, 0x2806:01. -/
def State.turns (s : State) : Nat := s.count 0x2806 1

/-- Change the integrity state. -/
def State.setIntegrity (s : State) (i : Integrity) : State := { s with integrity := i }

/-- What of an error goes into its record. -/
structure ErrorFacts where
  cls : Nat
  master : Nat
  outcome : Nat
  flags : Nat
  address : Nat
  deck : Nat
  logical : Nat
  array : Nat
  deriving DecidableEq, Repr

/-- An error of a class against a master at an address, with no deck. -/
def ErrorFacts.plain (cls master outcome address : Nat) : ErrorFacts :=
  ⟨cls, master, outcome, 0, address, 0xFF, 0xFF, 0xFF⟩

/-- The record of an error: the address is rounded down to its block where it is secret (R348). -/
def State.errorOf (s : State) (e : ErrorFacts) : ErrorRecord where
  seq := s.integrity.nextSeq
  cls := e.cls
  master := e.master
  outcome := e.outcome
  flags := e.flags
  address := if s.isSecret e.address then e.address / 4096 * 4096 else e.address
  turn := s.turns % 2 ^ 32
  deck := e.deck
  logical := e.logical
  array := e.array
  attempt := (s.turn.map (·.attempt)).getD 0

/-- Whether a record is journalled: the first of its class in the turn, or persistent or retired (R348). -/
def State.journals (s : State) (e : ErrorFacts) : Bool :=
  bitOf e.flags 2 || bitOf e.flags 3 ||
    (match s.turn with
     | some t => !t.journalled.contains e.cls
     | none => true)

/-- Mark a class journalled in the turn. -/
def State.markJournalled (s : State) (cls : Nat) : State :=
  { s with turn := s.turn.map (fun t => { t with journalled := cls :: t.journalled }) }

/-- A sequence lies among the n from a on, 32 bits. -/
def inSpan (a n x : Nat) : Bool := decide ((x + 2 ^ 32 - a) % 2 ^ 32 < n)

/-- A read cursor older than the oldest entry is moved to it (R108, R290, 0x2D03:01). -/
def movedCursor (oldest : Option Nat) (cursor : Nat) : Nat :=
  match oldest with
  | some o => if inSpan o (2 ^ 31) cursor then cursor else o
  | none => cursor

/-- Set the journal's read cursor (R108). -/
def Journal.withCursor (j : Journal) (n : Nat) : Journal :=
  { j with cursor := movedCursor (j.records.head?.map (·.seq)) n }

/-- Set the read cursor of the expert records (R290). -/
def Experts.withCursor (e : Experts) (n : Nat) : Experts :=
  { e with cursor := movedCursor (e.records.head?.map (·.seq)) n }

/-- Set the read cursor of the error log (0x2D03:01). -/
def Integrity.withCursor (i : Integrity) (n : Nat) : Integrity :=
  { i with cursor := movedCursor (i.log.head?.map (·.seq)) n }

/-- Write the record of an error into the log of 64, and open a report window unless its class is
masked (R348, R349). -/
def State.logError (s : State) (e : ErrorFacts) : State :=
  let i := s.integrity
  let log := i.log ++ [s.errorOf e]
  let i1 := { i with
    log := log.drop (log.length - 64)
    nextSeq := (i.nextSeq + 1) % 2 ^ 32
    window := i.window || !bitOf (s.val 0x2D01 2) e.cls }
  s.setIntegrity (i1.withCursor i.cursor)

/-- An error at a source that failed an earlier attempt of the turn is persistent, and its record says so (R348, R352). -/
def State.factsOf (s : State) (e : ErrorFacts) : ErrorFacts :=
  match s.turn with
  | some t => if t.sources.contains e.address then { e with flags := e.flags ||| 8 } else e
  | none => e

/-- Record an error and, where it is due, journal it (R348). -/
def State.record (s : State) (e : ErrorFacts) : State :=
  let s1 := s.logError e
  if s.journals e then
    (s1.event 10 0 e.cls [e.cls, e.master, e.outcome, e.flags, e.deck, e.address]).markJournalled e.cls
  else s1

/-- An error: counted in its class; recorded, reported and journalled unless it is
MEMORY_CORRECTED (R347, R348). -/
def State.error (s : State) (e : ErrorFacts) : State :=
  let s1 := s.bumpSat 0x2D02 e.cls
  if e.cls = 6 then s1 else s1.record (s.factsOf e)

/-! ## Abort codes (R54) -/

/-- Malformed frame or structure. -/
def abMalformed : Nat := 0x5A01_0001
/-- Too large for an expedited transfer. -/
def abTooLarge : Nat := 0x5A01_0002
/-- Unknown transfer. -/
def abUnknown : Nat := 0x5A01_0003
/-- Segment out of order. -/
def abOrder : Nat := 0x5A01_0004
/-- Length mismatch. -/
def abLength : Nat := 0x5A01_0005
/-- Transfer busy. -/
def abTransferBusy : Nat := 0x5A01_0006
/-- Segmented transfer timed out. -/
def abTimedOut : Nat := 0x5A01_0007
/-- Object does not exist. -/
def abExists : Nat := 0x5A02_0001
/-- Access class not permitted. -/
def abClass : Nat := 0x5A02_0002
/-- Write to a RO or CONST object. -/
def abReadOnly : Nat := 0x5A02_0003
/-- Read of a WO object. -/
def abWriteOnly : Nat := 0x5A02_0004
/-- Forbidden in the current lifecycle state. -/
def abLifecycle : Nat := 0x5A02_0005
/-- Type mismatch. -/
def abType : Nat := 0x5A03_0001
/-- Value out of range. -/
def abRange : Nat := 0x5A03_0002
/-- Wrong command signature. -/
def abSignature : Nat := 0x5A03_0003
/-- Value inconsistent with other objects. -/
def abInconsistent : Nat := 0x5A03_0004
/-- Owning block not idle. -/
def abNotIdle : Nat := 0x5A04_0001
/-- Not available in harbour mode. -/
def abHarbour : Nat := 0x5A04_0002
/-- Interface level not agreed. -/
def abNotAgreed : Nat := 0x5A04_0003
/-- Interface level not supported. -/
def abNotSupported : Nat := 0x5A04_0004
/-- Device busy with an earlier command. -/
def abBusy : Nat := 0x5A04_0005
/-- Swap already in progress. -/
def abSwap : Nat := 0x5A04_0006
/-- Node not present. -/
def abNode : Nat := 0x5A05_0001
/-- Forwarding not permitted. -/
def abForward : Nat := 0x5A05_0002
/-- Member timed out. -/
def abMember : Nat := 0x5A05_0003
/-- Tenant quota exceeded. -/
def abQuota : Nat := 0x5A06_0001
/-- No free entry in a device table. -/
def abNoEntry : Nat := 0x5A06_0002
/-- Flash program or erase failed. -/
def abFlash : Nat := 0x5A06_0003
/-- Internal fault. -/
def abInternal : Nat := 0x5A06_0004
/-- Image feature level exceeds the firmware's. -/
def abFeature : Nat := 0x5A07_0001
/-- Image signature invalid. -/
def abSigned : Nat := 0x5A07_0002
/-- Image version below the anti-rollback counter. -/
def abRollback : Nat := 0x5A07_0003
/-- Image not compatible. -/
def abCompat : Nat := 0x5A07_0004

/-! ## A dictionary write (R40) -/

/-- What serving a write comes to: an answer with a status, or an answer that follows later (R51). -/
inductive Applied where
  | done (status : Nat) (s : State)
  | later (s : State)
  deriving DecidableEq, Repr

/-- Whether a frame of a class may know that idx:sub exists (R22, R25); a disabled tenant sees the identity
objects alone (R232). -/
def visible (s : State) (ch : Channel) (idx : Nat) (d : ObjDef) : Bool :=
  match ch with
  | .tenant t =>
    bitOf d.classes 1 && (!(decide (0x3000 ≤ idx) && decide (idx < 0x4000)) || decide ((idx - 0x3000) / 0x40 = t.val))
      && (decide (s.val 0x2800 (t.val + 1) = 1) || (decide (0x1000 ≤ idx) && decide (idx ≤ 0x10FF)))
  | _ => true

/-- The read-only rows among the objects whose other rows are writable: protection regions 0 to 2 (R116)
and the region entries that the host may not program (R139). -/
def readOnlyRow (idx sub : Nat) : Bool :=
  (decide (0x2220 ≤ idx) && decide (idx ≤ 0x2222) && decide (sub = 1))
  || (decide (0x2310 ≤ idx) && decide (idx ≤ 0x2328)
      && !(decide (16 < sub) && decide (0x2310 + 18 ≤ idx) && decide (idx ≤ 0x2310 + 23)))

/-- The access classes that may write idx:sub: those of its row, but for the bias vector, which P and M alone write
(R292), and the region entries open to the host, which P alone writes (R139). -/
def ObjDef.writers (d : ObjDef) (idx sub : Nat) : Nat :=
  if d.base = 0x2A14 then 9
  else if d.base = 0x2310 ∧ 16 < sub ∧ !readOnlyRow idx sub then 1
  else d.classes

/-- Steps 4 to 7 and the length check of step 8 of R40, for a write of len bytes: the code of the first
that fails, or the object's row. -/
def writeChecks (s : State) (ch : Channel) (idx sub len : Nat) : Except Nat ObjDef :=
  if (chanTenant ch).isSome && decide (s.val 0x1002 2 = 0) then .error abNotAgreed
  else match objectAt idx sub with
    | none => .error abExists
    | some d =>
      if !visible s ch idx d then .error abExists
      else if d.writers idx sub &&& chanClass ch = 0 then .error abClass
      else match d.access with
        | .ro => .error abReadOnly
        | .const => .error abReadOnly
        | _ =>
          if readOnlyRow idx sub then .error abReadOnly
          else if d.type = .str then (if len ≤ 64 then .ok d else .error abLength)
          else if d.type = .domain then .ok d
          else if len = d.type.size then .ok d else .error abLength

/-- Step 9 of R40 for harbour mode: only 0x1000 to 0x22FF are answered (R94). -/
def harbourRefuses (s : State) (idx : Nat) : Bool := s.inHarbour && decide (0x22FF < idx)

/-- Serve a write of a value to idx:sub: the checks of R40, then what the owner does. -/
def serveWrite (ch : Channel) (idx sub : Nat) (val : Bytes) (apply : State → Applied) (s : State) : Applied :=
  match writeChecks s ch idx sub val.length with
  | .error code => .done code s
  | .ok _ => if harbourRefuses s idx then .done abHarbour s else apply s

/-- Count a served request, and its abort if it has one (0x1102:01, 0x1102:02; R38). -/
def State.countServed (s : State) (status : Nat) : State :=
  let s1 := s.bump 0x1102 1
  if status = 0 then s1 else s1.bump 0x1102 2

/-- The answer to a write leaves the device. -/
def answerWrite (ch : Channel) (idx sub : Nat) : Applied → State
  | .done status s => (s.countServed status).emit (.wrote ch idx sub status)
  | .later s => (s.bump 0x1102 1).setChan ch { s.chan ch with busy := true }

/-- A command that is a write of an object with a row of its own: not served while the dictionary
server does not run. -/
def objectWrite (ch : Channel) (idx sub : Nat) (val : Bytes) (apply : State → Applied) (s : State) :
    Host.Outcome State Fault Refusal :=
  if s.serves then .next (answerWrite ch idx sub (serveWrite ch idx sub val apply s)) else .next s

/-- A U32 command object: the signature decides (R54). -/
def command (val : Bytes) (sig : Nat) (act : State → Applied) (s : State) : Applied :=
  if leNat val = sig then act s else .done abSignature s

/-- An owner's refusal. -/
def refuse (code : Nat) (s : State) : Applied := .done code s

/-- An owner's acceptance. -/
def accept (s : State) : Applied := .done 0 s

/-- A set of checks in order: the code of the first that does not hold. -/
def firstFail : List (Bool × Nat) → Option Nat
  | [] => none
  | (ok, code) :: r => if ok then firstFail r else some code

/-- Run an action if every check holds, else refuse with the first that fails. -/
def guarded (checks : List (Bool × Nat)) (act : State → Applied) (s : State) : Applied :=
  match firstFail checks with
  | some code => refuse code s
  | none => act s

end Sys2Proof.Machine
end

