-- ==== Sys2Proof/Machine/Margin.lean ====
section
/-! DEFINITION. Deck supplies, margins and retirement (R75, R76, R355 to R358), from the calibration
row (R129). -/

namespace Sys2Proof.Machine

/-- Voltage of an operating-point code in tenths of a millivolt (Deck operating points). -/
def pointVolts : Nat → Nat
  | 0 => 5500 | 1 => 6500 | 2 => 7500 | _ => 8500

/-- Deck PLL clock of an operating-point code in kHz. -/
def pointKHz : Nat → Nat
  | 0 => 400000 | 1 => 800000 | 2 => 1100000 | _ => 1500000

/-- Highest operating-point code of a grade (R2). -/
def topPoint : Grade → Nat
  | .t => 2 | .l => 3

/-- deck_ldo_trim of a deck, in steps of 12.5 mV (R129). -/
def calTrim (row : Bytes) (d : Nat) : Int := (BitVec.ofNat 8 (fld row (0x20 + d) 1)).toInt

/-- deck_vmin of a deck at a point in tenths of a millivolt; 0 where the grade does not allow it (R129). -/
def calVmin (row : Bytes) (d point : Nat) : Nat := fld row (0x30 + d * 8 + point * 2) 2 * 10

/-- LDO setting of a deck with n voltage steps, tenths of a millivolt (R76). -/
def ldoOf (row : Bytes) (d point n : Nat) : Nat :=
  ((pointVolts point : Int) + calTrim row d * 125 + (n : Int) * 125).toNat

/-- Fewest voltage steps that reach deck_vmin (R356). -/
def vminSteps (row : Bytes) (d point : Nat) : Nat :=
  (calVmin row d point - ldoOf row d point 0 + 124) / 125

/-- Apply R356 to a margin when its deck is powered at a point: Vmin steps are added, or the deck stays
off where four do not reach. -/
def Margin.atPoint (m : Margin) (row : Bytes) (d point : Nat) : Margin :=
  let n := vminSteps row d point
  if 4 < n then { m with vmin := 0, offHere := true }
  else { m with vmin := n, volt := max m.volt n, offHere := false }

/-- Margin of a deck. -/
def State.margin (s : State) (d : Nat) : Margin := (s.integrity.margins[d]?).getD ⟨0, 0, 0, false, false, 0⟩

/-- Change a deck's margin. -/
def State.setMargin (s : State) (d : Nat) (m : Margin) : State :=
  s.setIntegrity { s.integrity with margins := lmod s.integrity.margins d (fun _ => m) }

/-- Set a deck's margin, and keep it with the region table (R358). -/
def State.keepMargin (s : State) (d : Nat) (m : Margin) : State := (s.setMargin d m).keepTable

/-- Change a deck. -/
def State.setDeck (s : State) (k : Fin 16) (d : Deck) : State := { s with decks := s.decks.set k.val d }

/-- State a deck takes when it is powered or its margin changes (R344, R356, R357): retired, off at this
point, off beside a retired partner in paired mode, second of a pair, else idle or what it was. -/
def deckStatus (s : State) (d : Nat) (old : DeckStatus) : DeckStatus :=
  let partner := if d % 2 = 0 then d + 1 else d - 1
  if (s.margin d).retired then .retired
  else if (s.margin d).offHere then .off
  else if s.integrity.mode = 1 ∧ (s.margin partner).retired then .off
  else if s.integrity.mode = 1 ∧ d % 2 = 1 then .paired
  else match old with
    | .off => .idle | .retired => .idle | .paired => .idle
    | o => o

/-- Divider of a deck in sixteenths (R76), at most 8 in an emergency (R78). -/
def deckDivider (s : State) (d : Nat) : Nat :=
  let n := 16 - (s.margin d).clock
  if s.power.emergency then min n 8 else n

/-- Power a deck at the point in force: its state, its LDO and its divider (R76, R356, R357). -/
def powerDeck (s : State) (k : Fin 16) : State :=
  let s1 := s.setMargin k.val ((s.margin k.val).atPoint s.flash.calRow k.val s.power.point)
  let st := deckStatus s1 k.val (s1.decks.get k).status
  let on := !(decide (st = .retired) || decide (st = .off))
  s1.setDeck k { s1.decks.get k with
    status := st
    ldo := if on then ldoOf s1.flash.calRow k.val s1.power.point (s1.margin k.val).volt else 0
    divider := deckDivider s1 k.val }

/-- Power every deck (R76, R356). -/
def powerDecks (s : State) : State := (List.finRange 16).foldl powerDeck s

/-- Reload every deck's divider (R77, R78). -/
def reloadDividers (s : State) : State :=
  (List.finRange 16).foldl (fun s k => s.setDeck k { s.decks.get k with divider := deckDivider s k.val }) s

/-- Switch every deck's LDO off and forget its registers (R58, Retention by state). -/
def unpowerDecks (s : State) : State :=
  { s with decks := s.decks.map (fun d =>
      { Deck.reset 0 with
        status := (match d.status with | .retired => .retired | _ => .off)
        divider := d.divider, exc := d.exc }) }

/-- Forget the contents of the deck stores: treated as empty (R63, DOZE and WATCH). -/
def clearDeckStores (s : State) : State := { s with mem := s.mem.clear deckBase deckEnd }

/-- A deck takes part in turns: neither retired nor off (0x2600:02). -/
def inService (s : State) (d : Nat) : Bool :=
  match (s.decks.toList[d]?).map Deck.status with
  | some .retired => false
  | some .off => false
  | some _ => true
  | none => false

/-- 0x2600:02 Decks In Service. -/
def decksInService (s : State) : Nat :=
  (List.range 16).foldl (fun a d => a + b2n (inService s d) * 2 ^ d) 0

/-- Class of the newest error record of a deck, RESIDUE where it has none (log 14). -/
def deckErrorClass (s : State) (d : Nat) : Nat :=
  ((s.integrity.log.reverse.find? (fun r => decide (r.deck = d))).map (·.cls)).getD 1

/-- Write the record of a retirement (R357). -/
def retireRecord (s : State) (d : Nat) : State :=
  s.error ⟨deckErrorClass s d, 2 + d, 1, 4, 0, d, 0xFF, 0xFF⟩

/-- Retire a deck (R357). -/
def retire (s : State) (d : Nat) : State :=
  retireRecord (s.keepMargin d { s.margin d with retired := true }) d

/-- Set a flag in the newest error record of a deck. -/
def flagRecord (s : State) (d bit : Nat) : State :=
  let i := s.integrity
  match i.log.reverse.findIdx? (fun r => decide (r.deck = d)) with
  | none => s
  | some n =>
    let k := i.log.length - 1 - n
    s.setIntegrity { i with log := lmod i.log k (fun r => { r with flags := r.flags ||| 2 ^ bit }) }

/-- One margin step (R355): voltage while below four steps and 0.95 V, else clock, else retirement. -/
def stepDeck (s : State) (d : Nat) : State :=
  let m := s.margin d
  if m.retired then s
  else if m.volt < 4 ∧ ldoOf s.flash.calRow d s.power.point (m.volt + 1) ≤ 9500 then
    flagRecord (s.keepMargin d { m with volt := m.volt + 1 }) d 0
  else if m.clock < 4 then flagRecord (s.keepMargin d { m with clock := m.clock + 1 }) d 1
  else retire s d

/-- Count a silent error of a deck: 0x2D10 [31:16], saturating. -/
def silentError (s : State) (d : Nat) : State :=
  s.setMargin d { s.margin d with silent := min ((s.margin d).silent + 1) 0xFFFF }

/-- 0x2D10: margin of a deck as it reads. -/
def marginWord (s : State) (d : Nat) : Nat :=
  let m := s.margin d
  m.volt + m.clock * 16 + m.vmin * 256 + b2n m.retired * 2 ^ 12 + b2n m.offHere * 2 ^ 13 + m.silent * 2 ^ 16

/-- A margin command waiting for the barrier takes effect (R358). RETIRE of a retired deck and RESTORE of one in service
change nothing (log 117). -/
def applyMargin (s : State) (p : Nat × MarginCommand) : State :=
  let m := s.margin p.1
  match p.2 with
  | .clear => s.keepMargin p.1 { m with volt := m.vmin, clock := 0 }
  | .retire => if m.retired then s else retire s p.1
  | .restore => if m.retired then s.keepMargin p.1 { m with retired := false, volt := m.vmin, clock := 0 } else s

/-- The check of a margin command's deck: 0 to 15 (R358). -/
def marginChecks (s : State) (ch : Channel) : List (Bool × Nat) :=
  [(decide (s.sel ch 0x2D11 1 < 16), abRange)]

/-- Queue a margin command for the barrier (R358). -/
def queueMargin (ch : Channel) (c : MarginCommand) (s : State) : Applied :=
  accept (s.setIntegrity { s.integrity with commands := s.integrity.commands ++ [(s.sel ch 0x2D11 1, c)] })

/-- CLEAR_STEPS (R358): accepted in every lifecycle state except END. -/
def applyClearSteps (ch : Channel) (s : State) : Applied :=
  guarded ((!decide (s.lifecycle = .final), abLifecycle) :: marginChecks s ch) (queueMargin ch .clear) s

/-- RETIRE (R358). -/
def applyRetire (ch : Channel) (s : State) : Applied := guarded (marginChecks s ch) (queueMargin ch .retire) s

/-- Lifecycle states in which RESTORE is accepted (R358). -/
def restoreAllowed : Lifecycle → Bool
  | .blank => true | .factory => true | .development => true | .service => true
  | .deployed => false | .final => false

/-- RESTORE (R358). -/
def applyRestore (ch : Channel) (s : State) : Applied :=
  guarded ((restoreAllowed s.lifecycle, abLifecycle) :: marginChecks s ch) (queueMargin ch .restore) s

/-- Every write of 0x2D11:02 (R358). -/
def applyMarginCommand (ch : Channel) (val : Bytes) (s : State) : Applied :=
  match leNat val with
  | 0x5357_0070 => applyClearSteps ch s
  | 0x5357_0071 => applyRetire ch s
  | 0x5357_0072 => applyRestore ch s
  | _ => refuse abSignature s

/-- CLEAR_STEPS. -/
def execClearSteps (ch : Channel) (val : Bytes) (s : State) : Host.Outcome State Fault Refusal :=
  objectWrite ch 0x2D11 2 val (command val 0x5357_0070 (applyClearSteps ch)) s

/-- RETIRE. -/
def execRetireDeck (ch : Channel) (val : Bytes) (s : State) : Host.Outcome State Fault Refusal :=
  objectWrite ch 0x2D11 2 val (command val 0x5357_0071 (applyRetire ch)) s

/-- RESTORE. -/
def execRestoreDeck (ch : Channel) (val : Bytes) (s : State) : Host.Outcome State Fault Refusal :=
  objectWrite ch 0x2D11 2 val (command val 0x5357_0072 (applyRestore ch)) s

/-! ## Fault injection (R361) -/

/-- Checks of an Inject value: lifecycle, reserved classes, and a sampler mismatch on another deck than 15, which is out of
range (log 117). -/
def injectChecks (v : Nat) (s : State) : List (Bool × Nat) :=
  [((match s.lifecycle with | .blank => true | .factory => true | .development => true | _ => false), abLifecycle),
   (decide (bitsOf v 7 0 = 1) || decide (bitsOf v 7 0 = 3) || decide (bitsOf v 7 0 = 4), abMalformed),
   (!decide (bitsOf v 7 0 = 4) || decide (bitsOf v 11 8 = 15), abRange)]

/-- Arm the fault an Inject value names, for the next turn in which its deck takes part; reserved bits of
a dictionary object are ignored (R8, R361). A deck that carries a fault already takes the new one. -/
def applyInject (val : Bytes) (s : State) : Applied :=
  let v := leNat val
  let deck := bitsOf v 11 8
  guarded (injectChecks v s)
    (fun s => accept (s.setIntegrity { s.integrity with
      armed := (s.integrity.armed.filter (fun p => !decide (p.1 = deck ∧ p.2.1 = bitsOf v 7 0)))
        ++ [(deck, bitsOf v 7 0, bitsOf v 20 16, bitOf v 31)] })) s

/-- INJECT. -/
def execInjectFault (ch : Channel) (val : Bytes) (s : State) : Host.Outcome State Fault Refusal :=
  objectWrite ch 0x2D30 1 val (applyInject val) s

end Sys2Proof.Machine
end

