-- ==== Sys2Proof/Machine/DeviceArea.lean ====
section
/-! DEFINITION. The LPDDR device area and what a read of it finds: the length tables of the tier-1 pool, the WATCH
save area and the serving-plane tables (R144, R145, R266, R267, R272). -/

namespace Sys2Proof.Machine

/-- Device Area Base, 0x2401:01: 0 while the LPDDR is untrained (R144). -/
def areaBase (s : State) : Nat :=
  if s.tiers.fitted = 0 then 0 else lpddrBase + s.tiers.fitted * 0x4000_0000 - 0x1000_0000

/-- Size of the tier-1 pool in bytes (R144). -/
def tier1Size (s : State) : Nat := if s.tiers.fitted = 0 then 0 else s.tiers.fitted * 0x4000_0000 - 0x1000_0000

/-- An address of the LPDDR lies in the device area. -/
def inArea (s : State) (a : Nat) : Bool := decide (areaBase s ≤ a)

/-- Length-table value of a block's contents: 0 where it is poisoned, else the bursts its coding needs, 64 raw (R145,
R146a, R181). -/
def storedLength (s : State) (b : Nat) : Nat := if s.mem.badAt b then 0 else (encodeBlock (s.mem.bytes b 4096)).2

/-- Length-table byte of a block of the tier-1 pool: that of an open block is updated as it closes (R145). -/
def lengthByte (s : State) (b : Nat) : Nat := (aget s.tiers.openBlocks b).getD (storedLength s b)

/-- 0xFFFF_FFFF for no index. -/
def indexWord (o : Option Nat) : Nat := o.getD 0xFFFF_FFFF

/-- Bucket of a node (R272). -/
def Node.bucket (x : Node) : Nat := x.hash % 2 ^ 20

/-- The 64 bytes of prefix node i; an index not in use has its flag clear (Prefix node). -/
def nodeBytes (s : State) (i : Nat) : Bytes :=
  match aget s.kv.nodes i with
  | none => List.replicate 64 0
  | some x =>
    let after := (s.kv.nodes.dropWhile (fun p => !decide (p.1 = i))).drop 1
    let next := (after.find? (fun p => decide (p.2.bucket = x.bucket))).map (·.1)
    padTo 64 (leBytes 8 x.hash ++ leBytes 4 (indexWord x.parent) ++ leBytes 4 (indexWord next) ++ leBytes 4 x.set
      ++ leBytes 1 x.slot ++ leBytes 1 x.block ++ leBytes 2 x.key ++ leBytes 4 x.version ++ leBytes 2 x.children
      ++ leBytes 1 x.tenant ++ leBytes 1 1 ++ leBytes 4 x.lastUsed)

/-- Bucket n: the index of its newest node. -/
def bucketWord (s : State) (n : Nat) : Nat :=
  indexWord ((s.kv.nodes.find? (fun p => decide (p.2.bucket = n))).map (·.1))

/-- Entry e of berth n's page table (Page-table entry). -/
def berthEntry (s : State) (n e : Nat) : Nat :=
  match (s.serving.berths.find? (fun b => decide (b.num = n))).bind (fun b => (b.table[e]?).join) with
  | some set => set + 2 ^ 31
  | none => 0

/-- Code of a set's state. -/
def SetState.code : SetState → Nat
  | .free => 0 | .opened => 1 | .published => 2 | .damaged => 3

/-- The slot and set that a set number through the partitions names: partitions follow one another in slot order. -/
def setNumber (s : State) : List Nat → Nat → Option (Nat × Nat)
  | [], _ => none
  | slot :: r, i =>
    let n := s.val 0x2900 (slot + 1)
    if i < n then some (slot, i) else setNumber s r (i - n)

/-- The 8 bytes of set descriptor i (Set descriptor). -/
def setBytes8 (s : State) (i : Nat) : Bytes :=
  match (setNumber s (List.range 8) i).bind (aget s.kv.sets) with
  | some x => leBytes 1 x.st.code ++ leBytes 1 x.tenant ++ leBytes 2 x.refs ++ leBytes 4 (indexWord x.node)
  | none => leBytes 4 0 ++ leBytes 4 0xFFFF_FFFF

/-- Byte of the serving-plane tables (table of R267). -/
def servingByte (s : State) (o : Nat) : Byte :=
  if o < 0x400_0000 then (nodeBytes s (o / 64)).getD (o % 64) 0
  else if o < 0x440_0000 then (leBytes 4 (bucketWord s ((o - 0x400_0000) / 4))).getD (o % 4) 0
  else if o < 0xC40_0000 then (leBytes 4 (berthEntry s ((o - 0x440_0000) / 0x8000) (o % 0x8000 / 4))).getD (o % 4) 0
  else if o < 0xD40_0000 then (setBytes8 s ((o - 0xC40_0000) / 8)).getD (o % 8) 0
  else 0

/-- Byte of the device area at an offset (table of R144). The spec names what the WATCH save area holds and gives it no
layout, so its bytes are free values (log 109). -/
def areaByte (s : State) (o : Nat) : Byte :=
  if o < 0x80_0000 then
    (if o * 4096 < tier1Size s then BitVec.ofNat 8 (lengthByte s (lpddrBase + o * 4096)) else 0)
  else if o < 0x280_0000 then Config.savedByte s.draws o
  else servingByte s (o - 0x280_0000)

/-- Octets of a range of the device area. -/
def areaOctets (s : State) (a n : Nat) : List Octet :=
  (List.range n).map (fun i => ⟨areaByte s (a + i - areaBase s), false⟩)

end Sys2Proof.Machine
end

