-- ==== Sys2Proof/Machine/Access.lean ====
section
/-! DEFINITION. Accesses to the device physical address space: region entries, flash kinds, sealed
ranges, busy banks, check codes, the expanders and the LPDDR write buffer (R12 to R14, R109 to R115,
R131 to R150, R177 to R182). -/

namespace Sys2Proof.Machine

/-- Change memory. -/
def State.setMem (s : State) (m : Mem) : State := { s with mem := m }

/-- Change the tier state. -/
def State.setTiers (s : State) (t : Tiers) : State := { s with tiers := t }

/-- Change the flash state. -/
def State.setFlash (s : State) (f : Flash) : State := { s with flash := f }

/-! ## Areas of the map that depend on settings -/

/-- End of the working area (R135). -/
def workEnd (s : State) : Nat := generalEnd - (s.val 0x2300 1 + s.val 0x2300 2) * 1024

/-- End of the tensor pool, start of the host scratch (R135). -/
def poolEnd (s : State) : Nat := generalEnd - s.val 0x2300 2 * 1024

/-- Whether node n's window is mapped: joined to the cascade and not the device itself (R13). -/
def nodeMapped (s : State) (n : Nat) : Bool :=
  !decide (s.ferry.role = .unmoored) && !decide (n = s.nodeId) && decide (1 ≤ n) && decide (n ≤ 8)
    && s.ferry.joined.toNat.testBit (n - 1)

/-- Whether an address is mapped (R12, R13). -/
def mapped (s : State) (a : Nat) : Bool :=
  match areaOf a with
  | .unmapped => false
  | .lpddr => decide (a - lpddrBase < s.tiers.fitted * 0x4000_0000)
  | .window e => (aget s.tiers.windows e).isSome
  | .node n => nodeMapped s n
  | _ => true

/-! ## Region entries (R136 to R140) -/

/-- A region entry in force: pages, grants and tenant, 0x7F for every access. -/
structure RegionEntry where
  first : Nat
  last : Nat
  r : Bool
  w : Bool
  x : Bool
  s : Bool
  tenant : Nat
  deriving DecidableEq, Repr

/-- An entry over bytes first to last − 1 for every access. -/
def entryOf (first last : Nat) (r w x s : Bool) : RegionEntry := ⟨first / 4096, (last - 1) / 4096, r, w, x, s, 0x7F⟩

/-- Frame buffers of open contexts that belong to a media master: contexts for the video engine, with the
input buffer of a frame being encoded, and camera channels for the camera front end (R139; R324). -/
def bufferEntries (s : State) (camera : Bool) : List RegionEntry :=
  (s.media.buffers.filter (fun p =>
      if camera then decide (0x20 ≤ p.2.owner)
      else (match aget s.media.contexts p.2.owner with
        | some c => !decide (c.st = .closed)
        | none => false)
        || s.media.contexts.any (fun c => decide (c.2.encoding.map (·.buffer) = some p.1)))).flatMap (fun p =>
    let b := p.2
    let rows := if b.format = 1 ∨ b.format = 2 then b.height / 2 else b.height
    [entryOf b.luma (b.luma + b.pitch * b.height) true true false false,
     entryOf b.chroma (b.chroma + b.pitch * rows) true true false false])

/-- The parts of a host-inbound destination that an entry may open: none of the LPDDR device area (R139). -/
def outsideArea (s : State) (a b : Nat) : List (Nat × Nat × Bool × Bool × Bool × Bool) :=
  if areaBase s = 0 then [(a, b, false, true, false, false)]
  else
    [(a, min b (areaBase s), false, true, false, false),
     (max a (areaBase s + 0x1000_0000), b, false, true, false, false)]

/-- What the device-owned entries of a master grant (table of R139, and R184 for a deck's own store); empty
ranges have no entry. -/
def deviceEntries (s : State) (m : Nat) : List RegionEntry :=
  let raw : List (Nat × Nat × Bool × Bool × Bool × Bool) :=
    if m = 0 then
      (if s.inHarbour then [] else
        [(flashBase + s.custody.activeSlot * 0x30_0000, flashBase + (s.custody.activeSlot + 1) * 0x30_0000,
          false, false, true, false)])
    else if m = 1 then
      [(0, secureEnd, true, true, false, false), (deckBase, deckEnd, true, true, false, false),
       (lpddrBase, lpddrBase + s.tiers.fitted * 0x4000_0000, true, true, false, false),
       (flashBase, flashEnd, true, false, false, false)]
    else if m ≤ 17 then
      [(deckBase + (m - 2) * 0x10_0000, deckBase + (m - 2) * 0x10_0000 + 0x2_0000, true, false, true, false),
       (deckBase + (m - 2) * 0x10_0000 + 0x2_0000, deckBase + (m - 1) * 0x10_0000, true, true, false, false),
       (0, poolEnd s, true, true, false, false),
       (lpddrBase, lpddrBase + tier1Size s, true, true, false, true),
       (flashBase, flashEnd, true, false, false, true),
       (windowBase, windowEnd, true, false, false, true),
       (windowEnd, nodeEnd, true, false, false, false)]
    else if m = 20 then s.tiers.inbound.flatMap (fun p => outsideArea s p.1 (p.2 + 1))
    else if 21 ≤ m ∧ m ≤ 23 then
      (if s.ferry.role = .unmoored then [] else
        [(0, workEnd s, true, true, false, false), (lpddrBase, lpddrBase + tier1Size s, true, true, false, false)])
    else if m = 24 then
      [(workEnd s, poolEnd s, true, true, false, false),
       (lpddrBase, lpddrBase + s.tiers.fitted * 0x4000_0000, true, true, false, false),
       (flashBase, flashEnd, true, false, false, false), (windowBase, windowEnd, true, false, false, false)]
    else []
  let fixed := (raw.filter (fun e => decide (e.1 < e.2.1))).map
    (fun e => entryOf e.1 e.2.1 e.2.2.1 e.2.2.2.1 e.2.2.2.2.1 e.2.2.2.2.2)
  if m = 18 then bufferEntries s false else if m = 19 then bufferEntries s true else fixed

/-- An entry's base word and limit word as a region entry; none if it is not valid. -/
def entryOfWords (base limit : Nat) : Option RegionEntry :=
  if bitOf base 63 then
    some ⟨bitsOf base 35 0, bitsOf limit 35 0, bitOf base 40, bitOf base 41, bitOf base 42, bitOf base 43,
      bitsOf base 50 44⟩
  else none

/-- The host-programmable entries 8 to 15 of masters 18 to 23 (R139). -/
def hostEntries (s : State) (m : Nat) : List RegionEntry :=
  if 18 ≤ m ∧ m ≤ 23 then
    (List.range 8).filterMap (fun i =>
      entryOfWords (s.val (0x2310 + m) (2 * (8 + i) + 1)) (s.val (0x2310 + m) (2 * (8 + i) + 2)))
  else []

/-- The entry covers the line's page and matches the access's tenant (R136). -/
def RegionEntry.covers (e : RegionEntry) (tenant : Option Nat) (a : Nat) : Bool :=
  decide (e.first ≤ a / 4096) && decide (a / 4096 ≤ e.last)
    && (decide (e.tenant = 0x7F) || decide (tenant = some e.tenant))

/-- The entry grants a kind of access (R136). -/
def RegionEntry.grants (e : RegionEntry) : AccessKind → Bool
  | .fetch => e.x
  | .stream => e.s
  | .read => e.r
  | .write => e.w

/-- The region entries permit a line: the first matching entry decides (R136); the secure hold is for
the helm data master alone (R140). -/
def regionPermits (s : State) (m : Nat) (tenant : Option Nat) (kind : AccessKind) (a : Nat) : Bool :=
  if areaOf a = .secure ∧ m ≠ 1 then false
  else match (deviceEntries s m ++ hostEntries s m).find? (·.covers tenant a) with
    | some e => e.grants kind
    | none => false

/-! ## Queries and what becomes of them -/

/-- An access under way: who makes it and how. `special` marks the tier mover's copies of weight-only
data and its hash unit, a load of a weight-only image and a weight broadcast (R115, R147). -/
structure Query where
  master : Nat
  tenant : Option Nat
  kind : AccessKind
  lengths : Option Nat
  link : LinkEcc
  waits : Bool
  special : Bool
  deriving DecidableEq, Repr

/-- Whether a master's reads of the flash wait for a busy bank (Read channels, R111). -/
def channelWaits (s : State) (m : Nat) (kind : AccessKind) : Bool :=
  match kind with
  | .stream => true
  | _ =>
    if m = 24 then true
    else if 2 ≤ m ∧ m ≤ 17 then decide (s.val 0x2230 1 = 1)
    else if 21 ≤ m ∧ m ≤ 23 then decide (s.val 0x2230 2 = 1)
    else false

/-- The query of a master for no tenant. -/
def query (s : State) (m : Nat) (kind : AccessKind) : Query :=
  ⟨m, none, kind, none, .clean, channelWaits s m kind, false⟩

/-- The first note that is not ok. -/
def Note.first : Note → Note → Note
  | .ok, n => n
  | n, _ => n

/-- n poisoned bytes. -/
def poison (n : Nat) : List Octet := List.replicate n ⟨0, true⟩

/-- Deck of a deck master, else 0xFF. -/
def masterDeck (m : Nat) : Nat := if 2 ≤ m ∧ m ≤ 17 then m - 2 else 0xFF

/-- An address or protection error against a master (R14, R137). -/
def accessError (cls m a : Nat) (s : State) : State := s.error ⟨cls, m, 2, 0, a, masterDeck m, 0xFF, 0xFF⟩

/-- Note the source of poison in the running attempt (R352). -/
def noteSource (a : Nat) (s : State) : State :=
  { s with turn := s.turn.map (fun t => if t.metNow.contains a then t else { t with metNow := t.metNow ++ [a] }) }

/-- A memory, damage or host-read error, whose data is poison (R347). -/
def sourceError (cls m a : Nat) (s : State) : State := noteSource a (accessError cls m a s)

/-- Octets of a range as memory holds them; a byte of a bad word is poison. -/
def octetsAt (m : Mem) (a n : Nat) : List Octet :=
  (List.range n).map (fun i => if m.badAt (a + i) then ⟨0, true⟩ else ⟨m.byte (a + i), false⟩)

/-! ## Hold and deck stores (R133) -/

/-- Marked words that a range of a memory touches, words of `size` bytes. -/
def marksIn (m : Mem) (size a n : Nat) : List (Nat × Mark) := m.marks.filter (fun p => overlaps p.1 size a n)

/-- Check one marked word as it is read (R133). -/
def checkHoldWord (master : Nat) (s : State) (p : Nat × Mark) : State :=
  match p.2 with
  | .single => ((s.setMem (s.mem.setMark p.1 none)).bumpBy 0x2301 1 64 1).error (.plain 6 master 2 p.1)
  | .double => sourceError 5 master p.1 (s.bumpBy 0x2301 2 64 1)
  | .poison => noteSource p.1 s

/-- Read a line of the hold or a deck store. -/
def readHold (q : Query) (s : State) (a n : Nat) : State × List Octet :=
  if areaOf a = .secure ∧ s.board.tamperN = false then (s, List.replicate n ⟨0, false⟩)
  else ((marksIn s.mem 8 a n).foldl (checkHoldWord q.master) s, octetsAt s.mem a n)

/-- Write the part of a range that lies in one 8-byte word (R133). -/
def writeHoldWord (master : Nat) (s : State) (a : Nat) (octs : List Octet) : State :=
  let w := a / 8 * 8
  let bad := octs.any (·.bad)
  let m := s.mem.setBytes a (octs.map (·.val))
  if octs.length = 8 then s.setMem (m.setMark w (if bad then some .poison else none))
  else match s.mem.mark w with
    | some .poison => accessError 5 master w s
    | some .double => accessError 5 master w ((s.setMem (s.mem.setMark w (some .poison))).bumpBy 0x2301 2 64 1)
    | some .single =>
      ((s.setMem (m.setMark w (if bad then some .poison else none))).bumpBy 0x2301 1 64 1).error (.plain 6 master 2 w)
    | none => s.setMem (m.setMark w (if bad then some .poison else none))

/-- A range cut at multiples of `unit`: pieces of address and length, at most `fuel`. -/
def cuts (unit : Nat) : Nat → Nat → Nat → List (Nat × Nat)
  | 0, _, _ => []
  | _, _, 0 => []
  | fuel + 1, a, n =>
    let k := min n (unit - a % unit)
    (a, k) :: cuts unit fuel (a + k) (n - k)

/-- A range cut into 256-byte lines. -/
def linesOf (a n : Nat) : List (Nat × Nat) := cuts 256 (n / 256 + 2) a n

/-- Write a line of the hold or a deck store; the secure hold discards writes while TAMPER_N is low
(R100). -/
def writeHold (q : Query) (s : State) (a : Nat) (octs : List Octet) : State :=
  if areaOf a = .secure ∧ s.board.tamperN = false then s
  else (cuts 8 (octs.length / 8 + 2) a octs.length).foldl
    (fun s p => writeHoldWord q.master s p.1 ((octs.drop (p.1 - a)).take p.2)) s

/-! ## Counting what an expander does (0x2501 to 0x2504) -/

/-- Count bursts fetched by controller c: 1 LPDDR, 2 flash, 3 host window. -/
def countBursts (c n : Nat) (s : State) : State := s.bumpBy 0x2502 c 64 n

/-- Count a block decoded. -/
def countDecoded (c : Nat) (s : State) : State := s.bumpBy 0x2501 c 64 1

/-- Record a damaged block (R179). -/
def damaged (c m block code : Nat) (s : State) : State :=
  sourceError 7 m block
    ((((s.bump 0x2503 c).setVal 0x2504 1 c).setVal 0x2504 2 block).setVal 0x2504 3 code)

/-- Bursts that hold the bytes of a range. -/
def burstsOf (a n : Nat) : Nat := if n = 0 then 0 else (a + n - 1) / 64 - a / 64 + 1

/-- A block becomes the most recently used of a buffer of `cap` blocks (R182). -/
def bufferPut (cap : Nat) (l : List (Nat × Bytes)) (b : Nat) (data : Bytes) : List (Nat × Bytes) :=
  let l' := adel l b ++ [(b, data)]
  l'.drop (l'.length - cap)

/-! ## LPDDR (R144 to R147) -/

/-- Close one open block: coded, raw or, when poisoned, with length-table value 0 (R145, R146a, R181). -/
def closeBlock (s : State) (b : Nat) : State :=
  let s1 := s.setTiers { s.tiers with openBlocks := adel s.tiers.openBlocks b }
  match storedLength s b with
  | 0 => s1.bumpBy 0x2505 3 64 1
  | 64 => s1.bumpBy 0x2505 2 64 1
  | _ => s1.bumpBy 0x2505 1 64 1

/-- Close every open block. -/
def closeAllBlocks (s : State) : State := (s.tiers.openBlocks.map (·.1)).foldl closeBlock s

/-- Open a block for writing: the least recently written of 32 makes room; the expander's copy is
dropped (R145, R182). -/
def openBlock (s : State) (b : Nat) : State :=
  let s1 :=
    if (aget s.tiers.openBlocks b).isSome ∨ s.tiers.openBlocks.length < 32 then s
    else match s.tiers.openBlocks with
      | x :: _ => closeBlock s x.1
      | [] => s
  s1.setTiers { s1.tiers with
    openBlocks := adel s1.tiers.openBlocks b ++ [(b, lengthByte s1 b)]
    bufLpddr := s1.tiers.bufLpddr.filter (fun x => !decide (x = b)) }

/-- Sealed-range rule on a line (R147). -/
def sealedPermits (s : State) (q : Query) (a : Nat) : Bool :=
  !s.isSealed a || q.special || (match q.kind with | .stream => true | _ => false)

/-- Fetch a closed block through the expander (R177, R182): bursts counted, a coded block buffered. -/
def fetchLpddr (s : State) (b a n : Nat) : State :=
  let lt := lengthByte s b
  if lt = 64 then countBursts 1 (burstsOf a n) s
  else
    let s1 := countDecoded 1 (countBursts 1 lt s)
    let l := s1.tiers.bufLpddr ++ [b]
    s1.setTiers { s1.tiers with bufLpddr := l.drop (l.length - 64) }

/-- How a read of the LPDDR array fares on its link: as its command says, or as the disturbance that waits for the next
read of any master says, which it uses up (log 74). -/
def linkOf (q : Query) (s : State) : LinkEcc × State :=
  match q.link, s.tiers.linkNext with
  | .clean, .clean => (.clean, s)
  | .clean, e => (e, s.setTiers { s.tiers with linkNext := .clean })
  | e, _ => (e, s)

/-- Link ECC of a read (R146): whether it is poison, and what is counted. -/
def linkCheck (q : Query) (s0 : State) (a : Nat) : Bool × State :=
  let l := linkOf q s0
  let s := l.2
  match l.1 with
  | .clean => (false, s)
  | .repeatGood => (false, s)
  | .corrected => (false, (s.bumpBy 0x2400 5 64 1).error (.plain 6 q.master 2 a))
  | .failedTwice => (true, sourceError 5 q.master a (s.bumpBy 0x2400 6 64 1))

/-- Read a line of the LPDDR: what stands in the device area, or a line of the tier-1 pool from the open-block buffer, the
expander's buffer, or the memory. -/
def readLpddr (q : Query) (s : State) (a n : Nat) : State × List Octet :=
  let b := a / 4096 * 4096
  if inArea s a then
    let r := linkCheck q s a
    if r.1 then (r.2, poison n) else (r.2.draw, areaOctets r.2 a n)
  else if (aget s.tiers.openBlocks b).isSome then (s, octetsAt s.mem a n)
  else if s.mem.badAt b then (noteSource b s, poison n)
  else if s.tiers.bufLpddr.contains b then
    (s.setTiers { s.tiers with bufLpddr := s.tiers.bufLpddr.filter (fun x => !decide (x = b)) ++ [b] },
      octetsAt s.mem a n)
  else
    let r := linkCheck q s a
    if r.1 then (r.2, poison n) else (fetchLpddr r.2 b a n, octetsAt s.mem a n)

/-- Write a line of the LPDDR (R145, R146a). The device area is no part of the block-coded pool; its tables are what the
State holds, whatever the device's own masters store there (log 109). -/
def writeLpddr (s : State) (a : Nat) (octs : List Octet) : State :=
  let b := a / 4096 * 4096
  if inArea s a then s.setMem (s.mem.setBytes a (octs.map (·.val)))
  else
  let s1 := openBlock s b
  let s2 := s1.setMem (s1.mem.setBytes a (octs.map (·.val)))
  if octs.any (·.bad) then closeBlock (s2.setMem (s2.mem.setMark b (some .poison))) b else s2


/-! ## Weight flash (R109 to R115) -/

/-- Sector of a flash address. -/
def sectorOf (a : Nat) : Nat := (a - flashBase) / 4096

/-- Bank of a sector. -/
def bankOf (sector : Nat) : Nat := sector / 32768

/-- A region change is clearing a sector, or could not clear it (R117). -/
def isClearing (s : State) (sector : Nat) : Bool :=
  s.flash.changes.any (fun p => (p.2.toClear ++ p.2.failed).any (fun r => decide (r.1 ≤ sector) && decide (sector ≤ r.2)))

/-- The flash kind rules for a read (R115, R117). -/
def kindPermits (s : State) (q : Query) (sector : Nat) : Bool :=
  if isClearing s sector then false
  else match q.kind with
    | .fetch => decide (q.master = 0) && decide (s.sectorKind sector = .codeOnly)
    | .write => false
    | .stream => !decide (s.sectorKind sector = .codeOnly) && !(decide (1536 ≤ sector) && decide (sector < 2048))
    | .read =>
      match s.sectorKind sector with
      | .codeOnly => false
      | .weightOnly => q.special
      | _ => decide (q.master = 1) || !(decide (1536 ≤ sector) && decide (sector < 2048))

/-- Whether a bank can serve a query (R111 to R113). -/
inductive BankAnswer where
  | free
  | suspend
  | wait
  | status
  deriving DecidableEq, Repr

/-- What a bank answers to a read of a sector. A resumed erase runs for its Minimum Progress first (R112). A bank whose
erase is suspended serves the other sectors to every mode (DESIGN CHOICE, log 108: R111 speaks of a busy bank, and does
not say whether this one is). -/
def bankAnswer (s : State) (q : Query) (sector : Nat) : BankAnswer :=
  match aget s.flash.banks (bankOf sector) with
  | none => .free
  | some op =>
    if op.erase then
      if op.sector = sector then (if q.waits then .wait else .status)
      else if op.suspended then .free
      else if !q.waits then .status
      else if op.fresh then .wait else .suspend
    else if q.waits then .wait else .status

/-- Suspend the erase of a bank (R112): its descriptor's completion will say so. -/
def suspendErase (s : State) (bank : Nat) : State :=
  match aget s.flash.banks bank with
  | none => s
  | some op =>
    let mark (l : List FlashDesc) : List FlashDesc :=
      l.map (fun d => if d.seq = op.seq then { d with suspended := true } else d)
    s.setFlash { s.flash with
      banks := aset s.flash.banks bank { op with suspended := true }
      helm := mark s.flash.helm
      priv := mark s.flash.priv }

/-- Bytes of the status line of a bank's operation (R114). -/
def statusLine (op : BankOp) : Bytes :=
  padTo 256 (leBytes 4 0xB5B5_0001 ++ leBytes 1 (if op.reerase then 5 else if op.erase then 3 else 2)
    ++ leBytes 1 (if op.suspended then 2 else 1)
    ++ leBytes 2 (match op.queue with | .helm => 1 | .priv => 2)
    ++ leBytes 4 op.progress ++ leBytes 4 op.total ++ leBytes 4 op.sector)

/-- Check one marked flash word as it is read (R109). -/
def checkFlashWord (master : Nat) (s : State) (p : Nat × Mark) : State :=
  match p.2 with
  | .single => (s.bumpBy 0x2240 1 64 1).error (.plain 6 master 2 p.1)
  | _ => sourceError 5 master p.1 (s.bumpBy 0x2240 2 64 1)

/-- Check the marked words of a range. -/
def checkFlash (master : Nat) (s : State) (a n : Nat) : State :=
  (marksIn s.mem 16 a n).foldl (checkFlashWord master) s

/-- Some word of a range cannot be corrected. -/
def flashBad (m : Mem) (a n : Nat) : Bool :=
  (marksIn m 16 a n).any (fun p => match p.2 with | .single => false | _ => true)

/-- First byte of the run an installed image has in a bank: in bank 0 it follows the head (R217). -/
def bankRun (im : Image) (bank : Nat) : Nat :=
  flashBase + bank * 0x800_0000 + im.bankFirst * 4096
    + (if bank = 0 then ((im.head.map (·.man.headLength)).getD 0) else 0)

/-- Address of the length-table byte of a flash block, where the block belongs to a tensor of an
installed image; other flash blocks are read raw (DESIGN CHOICE, log 18). -/
def imageLength (s : State) (block : Nat) : Option Nat :=
  s.images.slots.findSome? (fun im =>
    match im.head with
    | none => none
    | some h =>
      if im.tier = 2 then
        h.tensorTable.findSome? (fun t =>
          let base := bankRun im t.bank + t.firstBlock * 4096
          if base ≤ block ∧ block < base + t.blocks * 4096 then
            some (bankRun im t.bank + t.ltBlock * 4096 + t.ltByte + (block - base) / 4096)
          else none)
      else none)

/-- Give the decoded part of a coded flash block, from the buffer or the array (R177 to R182). -/
def expandFlash (q : Query) (s : State) (block lta a n : Nat) : State × List Octet :=
  match aget s.tiers.bufFlash block with
  | some data =>
    (s.setTiers { s.tiers with bufFlash := bufferPut 128 s.tiers.bufFlash block data },
      (slice data (a - block) n).map (⟨·, false⟩))
  | none =>
    if flashBad s.mem lta 1 then (checkFlash q.master s lta 1, poison n)
    else
      let lt := (s.mem.byte lta).toNat
      if lt = 64 then
        let from' := a / 64 * 64
        let len := 64 * burstsOf a n
        (countBursts 2 (burstsOf a n) (checkFlash q.master s from' len),
          if flashBad s.mem from' len then poison n else octetsAt s.mem a n)
      else if lt = 0 ∨ 64 < lt then (damaged 2 q.master block 1 s, poison n)
      else if flashBad s.mem block (64 * lt) then
        (countBursts 2 lt (checkFlash q.master s block (64 * lt)), poison n)
      else
        let s1 := countBursts 2 lt (checkFlash q.master s block (64 * lt))
        match decodeBlock (s.mem.bytes block (64 * lt)) lt with
        | .error c => (damaged 2 q.master block c s1, poison n)
        | .ok data =>
          ((countDecoded 2 s1).setTiers { s1.tiers with bufFlash := bufferPut 128 s1.tiers.bufFlash block data },
            (slice data (a - block) n).map (⟨·, false⟩))

/-- Address of the length-table byte a read of a flash block uses: the stream's own table, or the
image's. -/
def lengthFor (s : State) (q : Query) (block : Nat) : Option Nat :=
  match q.lengths with
  | some l => some l
  | none => imageLength s block

/-- Read a line of the flash once its banks can serve it. -/
def serveFlash (q : Query) (s : State) (a n : Nat) : State × List Octet :=
  let block := a / 4096 * 4096
  match lengthFor s q block with
  | some lta => expandFlash q s block lta a n
  | none => (countBursts 2 (burstsOf a n) (checkFlash q.master s a n), octetsAt s.mem a n)

/-- Addresses a read of the flash needs: none where the expander holds its block (R182), else its own and that of the
block's length-table byte (R177). -/
def flashNeeds (q : Query) (s : State) (a : Nat) : List Nat :=
  match lengthFor s q (a / 4096 * 4096) with
  | none => [a]
  | some lta => if (aget s.tiers.bufFlash (a / 4096 * 4096)).isSome then [] else [a, lta]

/-- A sector is being erased, suspended or not. -/
def isErasing (s : State) (sector : Nat) : Bool :=
  match aget s.flash.banks (bankOf sector) with
  | some op => op.erase && decide (op.sector = sector)
  | none => false

/-- Every read of a sector marked by an interrupted erase is poison (R126); while the device erases it again, R113 answers
instead, with the stall or the status line (DESIGN CHOICE, log 108). -/
def markedSector (s : State) (sector : Nat) : Bool := s.flash.indeterminate.contains sector && !isErasing s sector

/-- A flash address that a read needs may be read: a length table lies in the flash (DESIGN CHOICE, log 108), in a sector
whose kind permits the read (R115). -/
def needPermits (s : State) (q : Query) (a : Nat) : Bool :=
  decide (flashBase ≤ a) && decide (a < flashEnd) && kindPermits s q (sectorOf a)

/-- Suspend the erases of the banks that a read needs (R112). -/
def suspendNeeds (q : Query) (needs : List Nat) (s : State) : State :=
  needs.foldl (fun s a => match bankAnswer s q (sectorOf a) with
    | .suspend => suspendErase s (bankOf (sectorOf a))
    | _ => s) s

/-- The first bank, of those a read needs, that gives an answer. -/
def bankWith (s : State) (q : Query) (needs : List Nat) (ans : BankAnswer) : Option Nat :=
  (needs.find? (fun a => decide (bankAnswer s q (sectorOf a) = ans))).map (fun a => bankOf (sectorOf a))

/-- Read a line of the weight flash: refused by kind, poison from a marked sector, a stall or a status line of a busy
bank, or served. -/
def readFlash (q : Query) (s : State) (a n : Nat) : State × List Octet × Note :=
  let needs := flashNeeds q s a
  match (a :: needs).find? (fun p => !needPermits s q p) with
  | some p => (accessError 10 q.master p (s.bump 0x2240 3), poison n, .refused)
  | none =>
    if needs.any (fun p => markedSector s (sectorOf p)) then (noteSource a s, poison n, .indeterminate)
    else match bankWith s q needs .wait, bankWith s q needs .status with
      | some bank, _ => (s, poison n, .stalled bank)
      | none, some bank =>
        let raw := (lengthFor s q (a / 4096 * 4096)).isNone
        let line := ((aget s.flash.banks bank).map statusLine).getD []
        (s, if raw then (slice line (a % 256) n).map (⟨·, true⟩) else poison n, .busy bank)
      | none, none =>
        let r := serveFlash q (suspendNeeds q needs s) a n
        (r.1, r.2, .ok)

/-! ## Host window (R149, R150) -/

/-- Read through a coded window entry (R20, R150). -/
def expandWindow (q : Query) (s : State) (e : WindowEntry) (entryIndex a n : Nat) : State × List Octet :=
  let block := a / 4096 * 4096
  match aget s.tiers.bufWindow block with
  | some data =>
    (s.setTiers { s.tiers with bufWindow := bufferPut 16 s.tiers.bufWindow block data },
      (slice data (a - block) n).map (⟨·, false⟩))
  | none =>
    let off := block - (windowBase + entryIndex * 0x400_0000)
    let lta := e.lengthTable + off / 4096
    if !s.host.readable lta 1 then (sourceError 8 q.master a s, poison n)
    else
      let lt := (s.host.byte lta).toNat
      let src := e.hostAddress + off
      if lt = 64 then
        if s.host.readable (e.hostAddress + off + (a - block)) n then
          (countBursts 3 (burstsOf a n) s, (s.host.bytes (src + (a - block)) n).map (⟨·, false⟩))
        else (sourceError 8 q.master a (countBursts 3 (burstsOf a n) s), poison n)
      else if lt = 0 ∨ 64 < lt then (damaged 3 q.master block 1 s, poison n)
      else if !s.host.readable src (64 * lt) then (sourceError 8 q.master a (countBursts 3 lt s), poison n)
      else
        let s1 := countBursts 3 lt s
        match decodeBlock (s.host.bytes src (64 * lt)) lt with
        | .error c => (damaged 3 q.master block c s1, poison n)
        | .ok data =>
          ((countDecoded 3 s1).setTiers { s1.tiers with bufWindow := bufferPut 16 s1.tiers.bufWindow block data },
            (slice data (a - block) n).map (⟨·, false⟩))

/-- Read a line through the host window. -/
def readWindow (q : Query) (s : State) (i a n : Nat) : State × List Octet :=
  match aget s.tiers.windows i with
  | none => (s, poison n)
  | some e =>
    if e.coded then expandWindow q s e i a n
    else
      let src := e.hostAddress + (a - (windowBase + i * 0x400_0000))
      if s.host.readable src n then (s, (s.host.bytes src n).map (⟨·, false⟩))
      else (sourceError 8 q.master a s, poison n)

/-! ## One line, and a range -/

/-- Refuse a line by its region entries or a sealed range (R137). -/
def refuseLine (q : Query) (s : State) (a : Nat) : State := accessError 10 q.master a (s.bump 0x2301 4)

/-- Read one line (R136): unmapped first, then the entries, then the memory's own rules. -/
def readLine (q : Query) (s : State) (a n : Nat) : State × List Octet × Note :=
  if !mapped s a then (accessError 9 q.master a s, poison n, .unmapped)
  else if !regionPermits s q.master q.tenant q.kind a then (refuseLine q s a, poison n, .refused)
  else match areaOf a with
    | .lpddr =>
      if sealedPermits s q a then let r := readLpddr q s a n; (r.1, r.2, .ok)
      else (refuseLine q s a, poison n, .refused)
    | .flash => readFlash q s a n
    | .window i => let r := readWindow q s i a n; (r.1, r.2, .ok)
    | .node _ => (s, poison n, .remote)
    | _ => let r := readHold q s a n; (r.1, r.2, .ok)

/-- Where a write to an RW tensor is also made: its new home, once a move has put its bytes there and until the barrier
(R157). -/
def mirrorOf (s : State) (a : Nat) : Option Nat :=
  s.tiers.landed.findSome? (fun m =>
    match m.kind, s.tiers.tensors.find? (fun t => decide (t.handle = m.handle)) with
    | .copyUp _, _ => none
    | .drop _, _ => none
    | _, some t => if t.homeAddr ≤ a ∧ a < t.homeAddr + t.size then some (m.dest + (a - t.homeAddr)) else none
    | _, none => none)

/-- Store a line in the LPDDR, the hold or a deck store. -/
def storeLine (q : Query) (s : State) (a : Nat) (octs : List Octet) : State :=
  match areaOf a with
  | .lpddr => writeLpddr s a octs
  | _ => writeHold q s a octs

/-- Store a line, in both homes of a tensor that is moving (R157). -/
def storeBoth (q : Query) (s : State) (a : Nat) (octs : List Octet) : State :=
  match mirrorOf s a with
  | some b => storeLine q (storeLine q s a octs) b octs
  | none => storeLine q s a octs

/-- Write one line (R110, R136, R137, R147, R150): unmapped first, then the entries, then what lies there. -/
def writeLine (q : Query) (s : State) (a : Nat) (octs : List Octet) : State × Note :=
  if !mapped s a then (accessError 9 q.master a s, .unmapped)
  else if !regionPermits s q.master q.tenant q.kind a then (refuseLine q s a, .refused)
  else match areaOf a with
    | .flash => (accessError 10 q.master a s, .refused)
    | .window _ => (accessError 10 q.master a s, .refused)
    | .node _ => (s, .remote)
    | _ => if !s.isSealed a || q.special then (storeBoth q s a octs, .ok) else (refuseLine q s a, .refused)

/-- A block of the LPDDR is clean. -/
def clearBlock (s : State) (b : Nat) : State := if areaOf b = .lpddr then s.setMem (s.mem.setMark b none) else s

/-- A clean write of a whole block clears its poison mark (R146a), in both homes of a tensor that is moving. -/
def clearFullBlocks (s : State) (a : Nat) (octs : List Octet) : State :=
  (cuts 4096 (octs.length / 4096 + 2) a octs.length).foldl
    (fun s p =>
      if p.2 = 4096 ∧ !((octs.drop (p.1 - a)).take p.2).any (·.bad) then
        (p.1 :: (mirrorOf s p.1).toList).foldl clearBlock s
      else s) s

/-- Read a range, line by line: the state after, the bytes, and the first note that is not ok. -/
def memRead (q : Query) (s : State) (a n : Nat) : State × List Octet × Note :=
  (linesOf a n).foldl
    (fun acc p =>
      let r := readLine q acc.1 p.1 p.2
      (r.1, acc.2.1 ++ r.2.1, acc.2.2.first r.2.2))
    (s, [], .ok)

/-- Write a range, line by line. -/
def memWrite (q : Query) (s : State) (a : Nat) (octs : List Octet) : State × Note :=
  let r := (linesOf a octs.length).foldl
    (fun acc p =>
      let w := writeLine q acc.1 p.1 ((octs.drop (p.1 - a)).take p.2)
      (w.1, acc.2.first w.2))
    (s, Note.ok)
  match r.2 with
  | .ok => (clearFullBlocks r.1 a octs, .ok)
  | _ => r

/-- What the device writes on its own behalf (helm data master) into memory it reaches. -/
def poke (s : State) (a : Nat) (bs : Bytes) : State :=
  (memWrite (query s 1 .write) s a (bs.map (⟨·, false⟩))).1

/-- Whether any octet of a list is poison. -/
def anyBad (l : List Octet) : Bool := l.any (·.bad)

/-- The values of octets. -/
def vals (l : List Octet) : Bytes := l.map (·.val)

/-- Drop every block from the expanders' buffers (R182). -/
def dropBuffers (s : State) : State := s.setTiers { s.tiers with bufLpddr := [], bufFlash := [], bufWindow := [] }

/-- Drop the blocks of a flash sector from the expander's buffer (R182). -/
def dropSector (s : State) (sector : Nat) : State :=
  s.setTiers { s.tiers with bufFlash := adel s.tiers.bufFlash (flashBase + sector * 4096) }

/-! ## The patrol scrubber (R134) -/

/-- SCRUB_READ: a general or dual-port hold word is read; errors are corrected or counted, against no
master. -/
def execScrubRead (addr : Nat) (s : State) : Host.Outcome State Fault Refusal :=
  if s.running && !decide (s.val 0x2300 3 = 0) && decide (addr < dualEnd) then
    match s.mem.mark (addr / 8 * 8) with
    | some .single =>
      .next (((s.setMem (s.mem.setMark (addr / 8 * 8) none)).bumpBy 0x2301 1 64 1).error (.plain 6 0xFF 2 (addr / 8 * 8)))
    | some .double => .next ((s.bumpBy 0x2301 2 64 1).error (.plain 5 0xFF 2 (addr / 8 * 8)))
    | _ => .next s
  else .next s

/-! ## Layers of an image that the device holds (R265, R310) -/

/-- Joined nodes in node id order. -/
def joinedNodes (s : State) : List Nat := (List.range 8).filterMap (fun i => if s.ferry.joined.toNat.testBit i then some (i + 1) else none)

/-- Decoder layers of the image in a slot. -/
def imageLayers (s : State) (slot : Nat) : Nat :=
  match (s.images.slots[slot]?).bind (·.head) with
  | some h => h.man.layers
  | none => 0

/-- Layers each of k stages holds when n layers are split as evenly as possible, earlier stages taking
any extra layer (R310). -/
def evenStages (n k : Nat) : List Nat := (List.range k).map (fun i => n / k + b2n (decide (i < n % k)))

/-- The even split: the node of each layer. -/
def evenMap (n : Nat) (nodes : List Nat) : List Nat :=
  ((nodes.zip (evenStages n nodes.length)).map (fun p => List.replicate p.2 p.1)).flatten

/-- The stage map of a slot in force: as written, or the even split (R310). -/
def stageNodes (s : State) (slot : Nat) : List Nat :=
  match aget s.ferry.stageMaps slot with
  | some m => (m.take (imageLayers s slot)).map (·.toNat)
  | none => evenMap (imageLayers s slot) (joinedNodes s)

/-- The cascade works in pipeline layout: 0x2B01 as the last turn barrier took it (R17, R306). -/
def inPipeline (s : State) : Bool := !decide (s.ferry.role = .unmoored) && decide (s.ferry.layout = 1)

/-- Decoder layers of a slot's image that this device holds. -/
def heldLayers (s : State) (slot : Nat) : List Nat :=
  let all := List.range (imageLayers s slot)
  if inPipeline s then all.filter (fun l => decide ((stageNodes s slot)[l]? = some s.nodeId)) else all

/-- Bytes of one set of a slot (R263, R265): a 16 KiB page for each layer held. -/
def setBytes (s : State) (slot : Nat) : Nat := (heldLayers s slot).length * 16384

/-- Bytes of a slot's KV partition (R265). -/
def partitionBytes (s : State) (slot : Nat) : Nat := s.val 0x2900 (slot + 1) * setBytes s slot

/-- Base address of a slot's KV partition, 0x2901. -/
def partitionBase (s : State) (slot : Nat) : Nat := agetD s.kv.bases slot 0

/-- Bytes of the tier-1 pool given to KV pages (R159, R265). -/
def kvBytes (s : State) : Nat := ((List.range 8).map (partitionBytes s)).sum

end Sys2Proof.Machine
end

