-- ==== Sys2Proof/Machine/Crypto.lean ====
section
/-! DEFINITION. The cryptography of R375: SHA-256 (FIPS 180-4) and ECDSA over P-256 (FIPS 186-5, SEC 1),
and the CRC-16 of the journal (R105). The constants are the standards'. -/

namespace Sys2Proof.Machine

/-! ## SHA-256 -/

/-- The prime numbers below n, each divisible by no earlier one. -/
def primesBelow (n : Nat) : List Nat :=
  (List.range n).foldl (fun l m => if m < 2 || l.any (fun q => decide (m % q = 0)) then l else l ++ [m]) []

/-- The greatest number whose k-th power does not exceed n and that agrees with `acc` above its lowest i bits: one bit a
step, from the highest. -/
def rootBits (k n : Nat) : Nat → Nat → Nat
  | 0, acc => acc
  | i + 1, acc => rootBits k n i (if (acc + 2 ^ i) ^ k ≤ n then acc + 2 ^ i else acc)

/-- The first 32 bits of the fractional part of the k-th root of a prime, from which FIPS 180-4 takes its constants. -/
def rootWord (k p : Nat) : BitVec 32 := BitVec.ofNat 32 (rootBits k (p * 2 ^ (32 * k)) 40 0)

/-- The round constants of SHA-256: the cube roots of the first 64 primes. -/
def shaK : List (BitVec 32) := (primesBelow 312).map (rootWord 3)

/-- The eight working words of SHA-256. -/
structure ShaWords where
  a : BitVec 32
  b : BitVec 32
  c : BitVec 32
  d : BitVec 32
  e : BitVec 32
  f : BitVec 32
  g : BitVec 32
  h : BitVec 32
  deriving DecidableEq, Repr

/-- The initial hash value: the square roots of the first eight primes. -/
def shaInit : ShaWords :=
  ⟨rootWord 2 2, rootWord 2 3, rootWord 2 5, rootWord 2 7, rootWord 2 11, rootWord 2 13, rootWord 2 17, rootWord 2 19⟩

/-- One round. -/
def shaRound (s : ShaWords) (kw : BitVec 32 × BitVec 32) : ShaWords :=
  let s1 := s.e.rotateRight 6 ^^^ s.e.rotateRight 11 ^^^ s.e.rotateRight 25
  let chx := (s.e &&& s.f) ^^^ (~~~ s.e &&& s.g)
  let t1 := s.h + s1 + chx + kw.1 + kw.2
  let s0 := s.a.rotateRight 2 ^^^ s.a.rotateRight 13 ^^^ s.a.rotateRight 22
  let maj := (s.a &&& s.b) ^^^ (s.a &&& s.c) ^^^ (s.b &&& s.c)
  ⟨t1 + (s0 + maj), s.a, s.b, s.c, s.d + t1, s.e, s.f, s.g⟩

/-- The message schedule: n more words after the window of the last sixteen. -/
def shaSchedule : Nat → List (BitVec 32) → List (BitVec 32)
  | 0, _ => []
  | n + 1, win =>
    let w (i : Nat) : BitVec 32 := (win[i]?).getD 0
    let x1 := w 1
    let x14 := w 14
    let s0 := x1.rotateRight 7 ^^^ x1.rotateRight 18 ^^^ (x1 >>> 3)
    let s1 := x14.rotateRight 17 ^^^ x14.rotateRight 19 ^^^ (x14 >>> 10)
    let v := w 0 + s0 + w 9 + s1
    v :: shaSchedule n (win.drop 1 ++ [v])

/-- The sixteen big-endian words of a 64-byte block. -/
def shaBlockWords (blk : Bytes) : List (BitVec 32) :=
  (List.range 16).map (fun i => BitVec.ofNat 32 (beNat (slice blk (4 * i) 4)))

/-- The compression function. -/
def shaBlock (s : ShaWords) (blk : Bytes) : ShaWords :=
  let w := shaBlockWords blk
  let r := (shaK.zip (w ++ shaSchedule 48 w)).foldl shaRound s
  ⟨s.a + r.a, s.b + r.b, s.c + r.c, s.d + r.d, s.e + r.e, s.f + r.f, s.g + r.g, s.h + r.h⟩

/-- A message padded to whole blocks. -/
def shaPad (m : Bytes) : Bytes :=
  m ++ [0x80] ++ List.replicate ((119 - m.length % 64) % 64) 0 ++ beBytes 8 (8 * m.length)

/-- Hash n blocks. -/
def shaBlocks : Nat → ShaWords → Bytes → ShaWords
  | 0, s, _ => s
  | n + 1, s, m => shaBlocks n (shaBlock s (m.take 64)) (m.drop 64)

/-- SHA-256, as the 32-byte string the standard produces (R375). -/
def sha256 (m : Bytes) : Bytes :=
  let p := shaPad m
  let s := shaBlocks (p.length / 64) shaInit p
  [s.a, s.b, s.c, s.d, s.e, s.f, s.g, s.h].flatMap (fun w => beBytes 4 w.toNat)

/-! ## P-256 -/

/-- The field prime of P-256. -/
def p256p : Nat := 0xffffffff00000001000000000000000000000000ffffffffffffffffffffffff
/-- The group order of P-256. -/
def p256n : Nat := 0xffffffff00000000ffffffffffffffffbce6faada7179e84f3b9cac2fc632551
/-- The coefficient b of P-256. -/
def p256b : Nat := 0x5ac635d8aa3a93e7b3ebbd55769886bc651d06b0cc53b0f63bce3c3e27d2604b
/-- The base point's x. -/
def p256gx : Nat := 0x6b17d1f2e12c4247f8bce6e563a440f277037d812deb33a0f4a13945d898c296
/-- The base point's y. -/
def p256gy : Nat := 0x4fe342e2fe1a7f9b8ee7eb4a7c0f9e162bce33576b315ececbb6406837bf51f5

/-- b to the e modulo m, by the low k bits of e. -/
def powMod : Nat → Nat → Nat → Nat → Nat
  | 0, _, _, m => 1 % m
  | k + 1, b, e, m => (if e % 2 = 1 then b else 1) * powMod k (b * b % m) (e / 2) m % m

/-- The inverse modulo a prime of 256 bits. -/
def invMod (a m : Nat) : Nat := powMod 256 (a % m) (m - 2) m

/-- A point of the curve; none is the point at infinity. -/
abbrev EcPoint := Option (Nat × Nat)

/-- The sum of two points. -/
def ecAdd (p q : EcPoint) : EcPoint :=
  match p, q with
  | none, q => q
  | p, none => p
  | some (x1, y1), some (x2, y2) =>
    if x1 = x2 ∧ (y1 + y2) % p256p = 0 then none
    else
      let l :=
        if x1 = x2 ∧ y1 = y2 then (3 * x1 * x1 + (p256p - 3)) * invMod (2 * y1) p256p % p256p
        else (y2 + (p256p - y1)) * invMod (x2 + (p256p - x1)) p256p % p256p
      let x3 := (l * l + (p256p - x1) + (p256p - x2)) % p256p
      some (x3, (l * (x1 + (p256p - x3)) + (p256p - y1)) % p256p)

/-- A multiple of a point, by the low k bits of the scalar. -/
def ecMul : Nat → Nat → EcPoint → EcPoint
  | 0, _, _ => none
  | k + 1, e, p => ecAdd (if e % 2 = 1 then p else none) (ecMul k (e / 2) (ecAdd p p))

/-- A 64-byte public key is a point of the curve (R375). -/
def keyOnCurve (key : Bytes) : Bool :=
  let x := beNat (slice key 0 32)
  let y := beNat (slice key 32 32)
  decide (key.length = 64) && decide (x < p256p) && decide (y < p256p)
    && decide (y * y % p256p = (x * x * x + (p256p - 3) * x + p256b) % p256p)

/-- An ECDSA signature of 64 bytes checks against a digest and a key (R375). -/
def ecdsaOk (key digest sig : Bytes) : Bool :=
  let r := beNat (slice sig 0 32)
  let t := beNat (slice sig 32 32)
  let w := invMod t p256n
  let q : EcPoint := some (beNat (slice key 0 32), beNat (slice key 32 32))
  let x := ecAdd (ecMul 256 (beNat digest * w % p256n) (some (p256gx, p256gy))) (ecMul 256 (r * w % p256n) q)
  decide (0 < r) && decide (r < p256n) && decide (0 < t) && decide (t < p256n) && keyOnCurve key
    && (match x with
        | some (a, _) => decide (a % p256n = r)
        | none => false)

/-- A signature over the SHA-256 hash of a message (R375). -/
def signed (key msg sig : Bytes) : Bool := ecdsaOk key (sha256 msg) sig

/-! ## CRC-16 (R105) -/

/-- One step on a bit, most significant first. -/
def crc16Bit (c : BitVec 16) : BitVec 16 :=
  if c.getMsbD 0 then (c <<< 1) ^^^ 0x1021#16 else c <<< 1

/-- The register after one byte. -/
def crc16Byte (c : BitVec 16) (b : Byte) : BitVec 16 :=
  let x := c ^^^ (b.zeroExtend 16 <<< 8)
  crc16Bit (crc16Bit (crc16Bit (crc16Bit (crc16Bit (crc16Bit (crc16Bit (crc16Bit x)))))))

/-- CRC-16, polynomial 0x1021, initial value 0xFFFF, no reflection, no final XOR (R105). -/
def crc16 (bs : Bytes) : BitVec 16 := bs.foldl crc16Byte 0xFFFF#16

end Sys2Proof.Machine
end

