-- ==== Sys2Proof/Machine/Sleep.lean ====
section
/-! DEFINITION. Wake sources, the link while asleep, state commands, idle timeouts, the temperature and
power samples and operating points (03_watch_and_power.md; R363, R364). -/

namespace Sys2Proof.Machine

/-- Change the power state record. -/
def State.setPower (s : State) (p : Power) : State := { s with power := p }

/-- Change the cascade state. -/
def State.setFerry (s : State) (f : Ferry) : State := { s with ferry := f }

/-- Links in slow crossing start retraining to full rate (R296). -/
def ferryRetrain (s : State) : State :=
  s.setFerry { s.ferry with ports := s.ferry.ports.map (fun p => if p.st = .slow then { p with st := .training } else p) }

/-! ## Waking -/

/-- Sources that a wake mask may hold back: bits 2, 3 and 4 (Wake sources). -/
def wakeMask (s : State) : BitVec 32 := BitVec.ofNat 32 (s.val 0x2010 1) &&& 0x1C#32

/-- Latch sources (R70). -/
def latchWake (s : State) (bits : BitVec 32) : State :=
  s.setPower { s.power with latched := s.power.latched ||| (bits &&& 0xFF#32) }

/-- Record the source of an exit or of an aborted entry in 0x2010:02 (R70). -/
def recordWake (s : State) (bits : BitVec 32) : State := s.setVal 0x2010 2 (bits &&& 0xFF#32).toNat

/-- Raise RAIL_EN and wait for SW_PGOOD, if it is not already high (R364). -/
def raiseRails (s : State) : State :=
  (s.setPower { s.power with
    railEn := true
    rail := if s.board.swPgood then .idle else .waiting }).emit (.railEn true)

/-- A DOZE or WATCH entry is aborted: the device is in READY with what DOZE retains, and a pending
command is cancelled (R62, R65). -/
def abortEntry (s : State) : State :=
  powerDecks (s.setPower { s.power with
    state := .ready, entering := none, command := none, readyDue := false, dozeDue := false,
    watchDue := false, latched := 0 })

/-- An unmasked source acts (R70, R71): it aborts an entry or starts an exit; during an exit it stays latched. An
aborted WATCH entry began with the ferry links in slow crossing, and READY has them at full rate. A wake while the
device waits in DOZE aborts no entry, so a pending WATCH_NOW stays (R65, log 69). -/
def actWake (s : State) (bits : BitVec 32) : State :=
  match s.power.entering with
  | some .doze => abortEntry (recordWake s bits)
  | some .watch => ferryRetrain (abortEntry (recordWake s bits))
  | some .offReady => s
  | none =>
    match s.power.exiting with
    | some _ => s
    | none =>
      match s.power.state with
      | .doze => recordWake (s.setPower { s.power with exiting := some .doze }) bits
      | .watch => raiseRails (recordWake (s.setPower { s.power with exiting := some .watch }) bits)
      | _ => s

/-- Whether a wake source matters: asleep, or on the way there. -/
def asleep (s : State) : Bool :=
  (match s.power.state with | .doze => true | .watch => true | _ => false)
  || (match s.power.entering with | some .doze => true | some .watch => true | _ => false)

/-- Wake sources are latched, and act unless all of them are masked (R70). -/
def wake (bits : BitVec 32) (s : State) : State :=
  if asleep s then
    if bits &&& 0xFF#32 &&& ~~~ wakeMask s = 0 then latchWake s bits
    else actWake (latchWake s bits) bits
  else s

/-! ## RAIL_EN and SW_PGOOD (R363, R364) -/

/-- SW_PGOOD: the switched rails are within range, and a WATCH exit that waits goes on. -/
def execSwPgood (s : State) : Host.Outcome State Fault Refusal :=
  .next { s with
    board := { s.board with swPgood := true }
    power := { s.power with rail := (match s.power.rail with | .waiting => .idle | r => r) } }

/-- SW_PGOOD_TIMEOUT: RAIL_EN goes low again and a POWER record is queued. -/
def execSwPgoodTimeout (s : State) : Host.Outcome State Fault Refusal :=
  match s.power.rail with
  | .waiting =>
    .next (((s.setPower { s.power with railEn := false, rail := .retrying }).emit (.railEn false)).event 5 0 5 [])
  | _ => .next s

/-- RAIL_RETRY: RAIL_EN is raised again while the wake source stays latched. -/
def execRailRetry (s : State) : Host.Outcome State Fault Refusal :=
  match s.power.rail with
  | .retrying => if s.power.latched = 0 then .next s else .next (raiseRails s)
  | _ => .next s

/-! ## The link, the pins, the clock -/

/-- The block is in reset or without rails. -/
def isDown (s : State) : Bool := match s.power.state with | .off => true | .held => true | _ => false

/-- What a configuration write changes (R65, R150). -/
def configure (r : CfgRequest) (p : Power) : Power :=
  match r with
  | .aspm l1 l12 => { p with aspmL1 := l1, aspmL12 := l12 }
  | .dstate d => { p with dState := d }
  | .completionTimeout ms => { p with completionMs := ms }

/-- The link is trained: in L0 or one of the L1 substates. -/
def linkTrained (p : Power) : Bool := match p.link with | .l0 => true | .l1 => true | .l12 => true | _ => false

/-- LINK_L1_2_ENTRY (R67): L1.2 if the host has enabled it, else L1, where the device has asked for L1; with the
device in D3cold the host takes the link down to L2 or L3, whichever its supply allows (a free value, log 69). -/
def execLinkL12Entry (s : State) : Host.Outcome State Fault Refusal :=
  match s.power.dState with
  | .d3cold =>
    if linkTrained s.power then
      .next (s.setPower { s.power with
        l1Asked := false, link := if Config.coldLinkOff s.draws then .l3 else .l2 }).draw
    else .next s
  | _ =>
    if s.power.l1Asked then
      .next (s.setPower { s.power with l1Asked := false, link := if s.power.aspmL12 then .l12 else .l1 })
    else .next s

/-- A PCIe access comes over a link in L0: one that was in L1 has returned to it (R67). -/
def linkActive (s : State) : State :=
  match s.power.link with
  | .l1 => s.setPower { s.power with link := .l0 }
  | _ => s

/-- PERST_N_RELEASE (R87): PERST_N is high and link training starts. -/
def execPerstNRelease (s : State) : Host.Outcome State Fault Refusal :=
  .next { s with
    board := { s.board with perstN := true }
    power := { s.power with link := .down } }

/-- PCIE_LINK_UP (R69): the link is in L0 and a pending PME message is sent. -/
def execPcieLinkUp (s : State) : Host.Outcome State Fault Refusal :=
  if isDown s || !s.board.perstN then .next s
  else
    let s1 := s.setPower { s.power with link := .l0, dState := .d0, pme := false }
    .next (if s.power.pme then s1.emit .pme else s1)

/-- TAMPER_N_RELEASE (R100): secure-hold accesses work again, and a new assertion counts. -/
def execTamperNRelease (s : State) : Host.Outcome State Fault Refusal :=
  .next { s with board := { s.board with tamperN := true } }

/-- WATCH_FLL_LOCK (R55). -/
def execWatchFllLock (s : State) : Host.Outcome State Fault Refusal :=
  if isDown s then .next s else .next (s.setPower { s.power with fllLocked := true })

/-- DYNAMIC_ADDRESS_ASSIGNMENT (R43): 0x1101:01. -/
def execDynamicAddressAssignment (addr : BitVec 7) (s : State) : Host.Outcome State Fault Refusal :=
  if isDown s then .next s else .next (s.setVal 0x1101 1 addr.toNat)

/-! ## Idle timeouts (R60, R64) -/

/-- Whether a berth can be scheduled (R245): ready, and its staging area not full (R72). -/
def Berth.runnable (b : Berth) : Bool :=
  (match b.st with | .ready => true | _ => false) && decide (b.staging.length < 512)

/-- A ring that has not been set up. -/
def Ring.off : Ring where
  sqBase := 0
  cqBase := 0
  depthLog2 := 0
  cls := 0
  vector := 0
  coalesceCount := 0
  coalesceTime := 0
  enabled := false
  sqFetched := 0
  cqPosted := 0
  sqTail := 0
  cqHead := 0
  reserved := 0
  unsignalled := 0
  wait := none
  held := none

/-- A ring. -/
def ringOf (s : State) (r : Nat) : Ring := agetD s.serving.rings r Ring.off

/-- Entries of a ring. -/
def Ring.depth (r : Ring) : Nat := 2 ^ r.depthLog2

/-- Held completions of a ring that have no slot reserved: those that are not final. -/
def heldProgress (s : State) (r : Nat) : Nat :=
  (s.serving.hold.filter (fun c => decide (c.ring = r) && !c.final)).length

/-- Completion slots of a ring that are free and not reserved (R237). -/
def freeSlots (s : State) (r : Nat) : Nat :=
  let x := ringOf s r
  x.depth - ((x.cqPosted + 2 ^ 32 - x.cqHead) % 2 ^ 32 + x.reserved + heldProgress s r)

/-- Image state of a slot. -/
def imageState (s : State) (slot : Nat) : ImageState := ((s.images.slots[slot]?).map (·.st)).getD .empty

/-- The image of a slot admits turns: READY, or SWAPPING while its KV stays compatible or nothing has been replaced
(R230); not while a stage of it is lost (R316). -/
def imageRuns (s : State) (slot : Nat) : Bool :=
  !s.ferry.orphaned.contains slot && (match imageState s slot with
    | .ready => true
    | .swapping =>
      match s.images.swap with
      | some j => !decide (j.slot = slot) || j.head.man.kvCompatible || (decide (j.replaced = 0) && !decide (j.phase = .copying))
      | none => true
    | _ => false)

/-- A berth has a completion slot for its TOKENS, if it asked for them. One that is only being refilled posts none. -/
def progressRoom (s : State) (b : Berth) : Bool :=
  b.finished || !b.progress || decide (65536 ≤ b.ring) || decide (0 < freeSlots s b.ring)

/-- A berth of this device is runnable (R245). -/
def canRun (s : State) (b : Berth) : Bool :=
  b.runnable && decide (b.failing = 0) && decide (b.node = 0) && imageRuns s b.slot && progressRoom s b

/-- Some berth is runnable, or at a stage the pilot's next turn waits to start (R311). -/
def anyRunnable (s : State) : Bool := s.serving.berths.any (canRun s) || s.ferry.batch.isSome

/-- READY_TIMEOUT (R60): READY is due at the next barrier. -/
def execReadyTimeout (s : State) : Host.Outcome State Fault Refusal :=
  match s.power.state with
  | .active => if anyRunnable s then .next s else .next (s.setPower { s.power with readyDue := true })
  | _ => .next s

/-- Timeouts may send the device down: AUTO policy and a non-zero Doze Timeout (R60, R64). -/
def timeoutsApply (s : State) : Bool := decide (s.val 0x2000 1 = 0) && !decide (s.val 0x2002 2 = 0)

/-- DOZE_TIMEOUT (R60, R64): DOZE entry is due. -/
def execDozeTimeout (s : State) : Host.Outcome State Fault Refusal :=
  match s.power.state with
  | .ready => if timeoutsApply s then .next (s.setPower { s.power with dozeDue := true }) else .next s
  | _ => .next s

/-- WATCH_TIMEOUT (R60, R64): WATCH entry is due. -/
def execWatchTimeout (s : State) : Host.Outcome State Fault Refusal :=
  match s.power.state with
  | .doze =>
    if timeoutsApply s && !decide (s.val 0x2002 3 = 0) then .next (s.setPower { s.power with watchDue := true })
    else .next s
  | _ => .next s

/-! ## State commands (R65, R94) -/

/-- A new command replaces a pending one (R65): a preparation for power removal that it replaces ends, and admission
goes on. OFF_READY is left by reset or power removal alone (R66). -/
def replaceCommand (c : SleepCommand) (s : State) : State :=
  match s.power.state, s.power.entering with
  | .offReady, _ => s
  | _, some .offReady => { s with
      power := { s.power with command := some c, entering := none }
      custody := { s.custody with planned := false }
      serving := { s.serving with stopped := s.serving.clearDue || s.custody.transition.isSome } }
  | _, _ => s.setPower { s.power with command := some c }

/-- DOZE_NOW: pending until the first barrier at which R18 holds; harbour mode refuses it. -/
def applyDozeNow (s : State) : Applied :=
  guarded [(!s.inHarbour, abHarbour)]
    (fun s => accept (replaceCommand .dozeNow s)) s

/-- The host has enabled what WATCH_NOW needs (R65). -/
def watchAllowed (s : State) : Bool :=
  (s.power.aspmL1 && s.power.aspmL12) || decide (s.power.dState = .d3hot)

/-- WATCH_NOW. -/
def applyWatchNow (s : State) : Applied :=
  guarded [(!s.inHarbour, abHarbour), (watchAllowed s, abInconsistent)]
    (fun s => accept (replaceCommand .watchNow s)) s

/-- No berth is live and no stream context is open (R65). -/
def idleForOff (s : State) : Bool :=
  !s.anyLive
    && s.media.contexts.all (fun p => decide (p.2.st = .closed))

/-- OFF_PREPARE: admission stops and draining starts (R66). -/
def applyOffPrepare (s : State) : Applied :=
  guarded [(idleForOff s, abNotIdle)]
    (fun s => accept (match s.power.state with
      | .offReady => s
      | _ => { s with
        power := { s.power with command := some .offPrepare, entering := some .offReady }
        serving := { s.serving with stopped := true } })) s

/-- Every write of 0x2000:02. -/
def applyStateCommand (val : Bytes) (s : State) : Applied :=
  match leNat val with
  | 3 => applyDozeNow s
  | 4 => applyWatchNow s
  | 5 => applyOffPrepare s
  | _ => if s.inHarbour then refuse abHarbour s else refuse abRange s

/-- DOZE_NOW. -/
def execDozeNow (ch : Channel) (val : Bytes) (s : State) : Host.Outcome State Fault Refusal :=
  objectWrite ch 0x2000 2 val (fun s => if leNat val = 3 then applyDozeNow s else refuse abRange s) s

/-- WATCH_NOW. -/
def execWatchNow (ch : Channel) (val : Bytes) (s : State) : Host.Outcome State Fault Refusal :=
  objectWrite ch 0x2000 2 val (fun s => if leNat val = 4 then applyWatchNow s else refuse abRange s) s

/-- OFF_PREPARE. -/
def execOffPrepare (ch : Channel) (val : Bytes) (s : State) : Host.Outcome State Fault Refusal :=
  objectWrite ch 0x2000 2 val (fun s => if leNat val = 5 then applyOffPrepare s else refuse abRange s) s

/-! ## Temperature, power and operating points -/

/-- The hottest reading, m°C (0x2030:04). -/
def hottest (l : List Int) : Int := l.foldl max (l.headD 0)

/-- Count a sample at or below Throttle Level − 5 °C (R78). -/
def coolAfter (s : State) (readings : List Int) : Nat :=
  if hottest readings ≤ ((s.val 0x2030 1 : Nat) : Int) * 1000 - 5000 then s.power.coolSamples + 1 else 0

/-- Count a sample with both averages below their limits (R80). -/
def calmAfter (s : State) (avg1s avg10ms : Nat) : Nat :=
  if avg1s < s.val 0x2032 1 ∧ avg10ms < s.val 0x2032 2 then s.power.calmSamples + 1 else 0

/-- Emergency entry at 105 °C: every divider at most 8/16, and IBI 0xD3 (R78, R79). -/
def emergencyEntry (s : State) : State :=
  if s.power.emergency then s
  else (reloadDividers (s.setPower { s.power with emergency := true })).ibi 0xD3

/-- Thermal trip at 115 °C: decks and helm stop, THERMTRIP_N goes low, the flag is set (R78). -/
def tripEntry (s : State) : State :=
  if s.power.tripped then s
  else (s.setPower { s.power with tripped := true, tripFlag := true }).emit (.thermtripN false)

/-- A sample of the 20 sensors and the power averages in a state with the clocks running (R78, R80). -/
def fullSample (readings : List Int) (avg1s avg10ms : Nat) (s : State) : State :=
  let s1 := s.setPower { s.power with
    readings := readings, avg1s := avg1s, avg10ms := avg10ms,
    coolSamples := coolAfter s readings, calmSamples := calmAfter s avg1s avg10ms }
  if 105000 ≤ hottest readings then emergencyEntry s1 else s1

/-- THERMAL_SAMPLE (R78): all sensors are sampled in ACTIVE and READY (and in OFF_READY, log 71). While the device
sleeps the watch domain's one sensor serves the trip alone: its sample counts toward no step, enters no emergency and
leaves the power averages, and it is the hottest reading (0x2030:04). -/
def execThermalSample (readings : List Int) (avg1s avg10ms : Nat) (s : State) :
    Host.Outcome State Fault Refusal :=
  let trip (s : State) : State := if 115000 ≤ hottest readings then tripEntry s else s
  match s.power.state with
  | .off => .next s
  | .held => .next s
  | .doze => .next (trip (s.setPower { s.power with readings := readings }))
  | .watch => .next (trip (s.setPower { s.power with readings := readings }))
  | _ => .next (trip (fullSample readings avg1s avg10ms s))

/-- A throttling step at a barrier: up, down or none, by the condition to lower and the 100 ms condition to raise
(R78, R80). One sample stands for 100 µs. A raise does not start the 100 ms again: while the condition holds, each later
barrier raises by one more code (DESIGN CHOICE, log 71). -/
def stepsAfter (steps requested : Nat) (lower : Bool) (calm : Nat) : Nat :=
  if lower then (if steps < requested then steps + 1 else steps)
  else if 1000 ≤ calm then steps - 1 else steps

/-- Thermal steps after a barrier (R78). -/
def thermAfter (s : State) : Nat :=
  stepsAfter s.power.thermSteps (s.val 0x2020 1)
    (decide (((s.val 0x2030 1 : Nat) : Int) * 1000 ≤ hottest s.power.readings)) s.power.coolSamples

/-- Power-limit steps after a barrier (R80). -/
def powerAfter (s : State) : Nat :=
  stepsAfter s.power.powerSteps (s.val 0x2020 1)
    (decide (s.val 0x2032 1 < s.power.avg1s) || decide (s.val 0x2032 2 < s.power.avg10ms)) s.power.calmSamples

/-- The point that steps leave (R75, R80): the lower point wins. -/
def pointAfter (s : State) : Nat := s.val 0x2020 1 - max s.power.thermSteps s.power.powerSteps

/-- Take the throttling steps of a barrier, counting each in 0x2030:05 (R78 to R80). -/
def throttleStep (s : State) : State :=
  let t := thermAfter s
  let p := powerAfter s
  let n := b2n (!decide (t = s.power.thermSteps)) + b2n (!decide (p = s.power.powerSteps))
  (s.setPower { s.power with thermSteps := t, powerSteps := p }).bumpBy 0x2030 5 32 n

/-- Below 105 °C the dividers return to their margin values (R78). -/
def emergencyExit (s : State) : State :=
  if s.power.emergency ∧ hottest s.power.readings < 105000 then
    reloadDividers (s.setPower { s.power with emergency := false })
  else s

/-- Put a point in force: LDOs and dividers follow (R76, R77). -/
def setPoint (s : State) (p : Nat) : State := powerDecks (s.setPower { s.power with point := p, raising := none })

/-- The operating point at a barrier (R77): a raise holds the barrier in ACTIVE; a lower point, or any
change made before the decks run, is taken at once. -/
def pointAtBarrier (s : State) : State :=
  let p := pointAfter s
  if p = s.power.point then s
  else if s.power.point < p ∧ s.power.state = .active then s.setPower { s.power with raising := some p }
  else setPoint s p

/-- POINT_CHANGE_DONE (R77): the raised point is in force and the barrier is released. -/
def execPointChangeDone (s : State) : Host.Outcome State Fault Refusal :=
  match s.power.raising with
  | some p => .next (setPoint s p)
  | none => .next s

end Sys2Proof.Machine
end

