-- ==== Sys2Proof/Machine/Custody.lean ====
section
/-! DEFINITION. Reset commands, firmware commit, lifecycle commands, the journal, the stored set and the
interface level (04_start_up_and_custody.md; R48 to R53). -/

namespace Sys2Proof.Machine

/-- Change the custody record. -/
def State.setCustody (s : State) (c : Custody) : State := { s with custody := c }

/-! ## Reset commands (R83) -/

/-- Checks of a reset command: none accepted before it, then the signature. -/
def resetChecks (val : Bytes) (sig : Nat) (s : State) : List (Bool × Nat) :=
  [(s.custody.resetPending.isNone, abBusy), (decide (leNat val = sig), abSignature)]

/-- Accept a reset command: the reset begins 1 ms after the response. -/
def applyReset (c : ResetCommand) (val : Bytes) (sig : Nat) (s : State) : Applied :=
  guarded (resetChecks val sig s) (fun s => accept (s.setCustody { s.custody with resetPending := some c })) s

/-- Every write of 0x2100:01. -/
def applyResetCommand (val : Bytes) (s : State) : Applied :=
  match leNat val with
  | 0x5357_0010 => applyReset .warm val 0x5357_0010 s
  | 0x5357_0011 => applyReset .cold val 0x5357_0011 s
  | _ => applyReset .harbour val 0x5357_0012 s

/-- WARM (R83). -/
def execWarmReset (ch : Channel) (val : Bytes) (s : State) : Host.Outcome State Fault Refusal :=
  objectWrite ch 0x2100 1 val (applyReset .warm val 0x5357_0010) s

/-- COLD (R83). -/
def execColdReset (ch : Channel) (val : Bytes) (s : State) : Host.Outcome State Fault Refusal :=
  objectWrite ch 0x2100 1 val (applyReset .cold val 0x5357_0011) s

/-- HARBOUR (R83). -/
def execHarbourReset (ch : Channel) (val : Bytes) (s : State) : Host.Outcome State Fault Refusal :=
  objectWrite ch 0x2100 1 val (applyReset .harbour val 0x5357_0012) s

/-! ## Firmware commit (R92) -/

/-- COMMIT: counters 0 and 1 advance to the security versions of the running pair. -/
def applyCommit (val : Bytes) (s : State) : Applied :=
  guarded [(!s.inHarbour, abHarbour), (decide (leNat val = 0x5357_0020), abSignature)]
    (fun s =>
      let s1 := s.advanceCounter 0 (s.custody.helmSecurity - s.counter 0)
      let s2 := s1.advanceCounter 1 (s.custody.watchSecurity - s.counter 1)
      accept (s2.event 3 0 0 [max (s.counter 0) s.custody.helmSecurity, max (s.counter 1) s.custody.watchSecurity])) s

/-- COMMIT_COMMAND. -/
def execCommitCommand (ch : Channel) (val : Bytes) (s : State) : Host.Outcome State Fault Refusal :=
  objectWrite ch 0x2101 1 val (applyCommit val) s

/-! ## Lifecycle (R96 to R98) -/

/-- A transition of the transition table: the state it leaves and enters and the counter it advances. -/
structure Transition where
  command : Nat
  counter : Nat
  enters : Lifecycle
  deriving DecidableEq, Repr

/-- BLANK to FACTORY. -/
def toFactory : Transition := ⟨0x5357_1001, 2, .factory⟩
/-- FACTORY to DEVELOPMENT. -/
def toDevelopment : Transition := ⟨0x5357_1002, 3, .development⟩
/-- FACTORY to DEPLOYED. -/
def toDeployed : Transition := ⟨0x5357_1003, 2, .deployed⟩
/-- DEPLOYED to SERVICE. -/
def toService : Transition := ⟨0x5357_1004, 4, .service⟩
/-- SERVICE to DEPLOYED. -/
def leaveService : Transition := ⟨0x5357_1005, 4, .deployed⟩
/-- Any state except END to END. -/
def toEnd : Transition := ⟨0x5357_100E, 5, .final⟩

/-- Whether a transition is permitted from a state; SERVICE needs the authorisation (Lifecycle
transitions; a missing authorisation is DEDUCED to make it not permitted, log 17). -/
def permitted (t : Transition) (l : Lifecycle) (auth : Bool) : Bool :=
  match t.command, l with
  | 0x5357_1001, .blank => true
  | 0x5357_1002, .factory => true
  | 0x5357_1003, .factory => true
  | 0x5357_1004, .deployed => auth
  | 0x5357_1005, .service => true
  | 0x5357_100E, .final => false
  | 0x5357_100E, _ => true
  | _, _ => false

/-- Accept a transition: admission stops, and the rest of R98 runs at the next barrier. -/
def applyTransition (t : Transition) (val : Bytes) (s : State) : Applied :=
  guarded
    [(s.custody.transition.isNone, abBusy), (decide (leNat val = t.command), abSignature),
     (permitted t s.lifecycle s.custody.serviceAuth, abLifecycle)]
    (fun s => accept { s with
      custody := { s.custody with transition := some (t.counter, s.lifecycle, t.enters), serviceAuth := false }
      serving := { s.serving with stopped := true } }) s

/-- Every write of 0x2110:02. -/
def applyTransitionCommand (val : Bytes) (s : State) : Applied :=
  match leNat val with
  | 0x5357_1001 => applyTransition toFactory val s
  | 0x5357_1002 => applyTransition toDevelopment val s
  | 0x5357_1003 => applyTransition toDeployed val s
  | 0x5357_1004 => applyTransition toService val s
  | 0x5357_1005 => applyTransition leaveService val s
  | _ => applyTransition toEnd val s

/-- LIFECYCLE_TO_FACTORY. -/
def execLifecycleToFactory (ch : Channel) (val : Bytes) (s : State) : Host.Outcome State Fault Refusal :=
  objectWrite ch 0x2110 2 val (applyTransition toFactory val) s

/-- LIFECYCLE_TO_DEVELOPMENT. -/
def execLifecycleToDevelopment (ch : Channel) (val : Bytes) (s : State) : Host.Outcome State Fault Refusal :=
  objectWrite ch 0x2110 2 val (applyTransition toDevelopment val) s

/-- LIFECYCLE_TO_DEPLOYED. -/
def execLifecycleToDeployed (ch : Channel) (val : Bytes) (s : State) : Host.Outcome State Fault Refusal :=
  objectWrite ch 0x2110 2 val (applyTransition toDeployed val) s

/-- LIFECYCLE_TO_SERVICE. -/
def execLifecycleToService (ch : Channel) (val : Bytes) (s : State) : Host.Outcome State Fault Refusal :=
  objectWrite ch 0x2110 2 val (applyTransition toService val) s

/-- LIFECYCLE_LEAVE_SERVICE. -/
def execLifecycleLeaveService (ch : Channel) (val : Bytes) (s : State) : Host.Outcome State Fault Refusal :=
  objectWrite ch 0x2110 2 val (applyTransition leaveService val) s

/-- LIFECYCLE_TO_END. -/
def execLifecycleToEnd (ch : Channel) (val : Bytes) (s : State) : Host.Outcome State Fault Refusal :=
  objectWrite ch 0x2110 2 val (applyTransition toEnd val) s

/-- SERVICE_AUTHORISATION (R97). -/
def applyAuthorisation (val : Bytes) (s : State) : Applied :=
  guarded
    [(decide (val.length = 80), abLength), (zeroAt val 9 7, abMalformed),
     (decide (fld val 0 8 = s.part.uniqueId) && decide (fld val 8 1 = Lifecycle.code .service)
        && signed Config.serviceKey (slice val 0 16) (slice val 16 64), abSigned)]
    (fun s => accept (s.setCustody { s.custody with serviceAuth := true })) s

/-- SERVICE_AUTHORISATION. -/
def execServiceAuthorisation (ch : Channel) (val : Bytes) (s : State) : Host.Outcome State Fault Refusal :=
  objectWrite ch 0x2111 1 val (applyAuthorisation val) s

/-- Tamper Harbour may be written only in FACTORY and DEVELOPMENT (R101). -/
def applyTamperHarbour (val : Bytes) (s : State) : Applied :=
  guarded
    [((match s.lifecycle with | .factory => true | .development => true | _ => false), abLifecycle),
     (decide (leNat val < 2), abRange)]
    (fun s => accept (s.setCustody { s.custody with tamperHarbour := decide (leNat val = 1) }).keepTable) s

/-! ## The secure hold (R141) -/

/-- Wipe the secure hold: zero with valid check codes. -/
def wipeSecure (s : State) : State := { s with mem := s.mem.clear dualEnd secureEnd }

/-! ## The journal (R105 to R108) -/

/-- First flash sector of the journal's 64 (05_weight_flash.md, system area). -/
def journalSector : Nat := 1568

/-- Records of the journal sector after the one that the next slot lies in. -/
def Journal.nextSectorUsed (j : Journal) : Bool :=
  let n := (j.slot / 64 + 1) % 64
  j.records.any (fun r => decide (r.slot / 64 = n)) || j.torn.any (fun t => decide (t / 64 = n))

/-- Eight or fewer slots are free in the active sector and the next sector still holds records (R106). -/
def Journal.eraseDue (j : Journal) : Bool := decide (64 - j.slot % 64 ≤ 8) && j.nextSectorUsed && !j.erasing

/-- A journal sector is held by an open read of 0x2121 (R108): the transfer's snapshot starts at the
cursor and ends before `upto`. -/
def journalHeld (s : State) (sector : Nat) : Bool :=
  s.chans.any (fun p => match p.2.xfer with
    | some t => decide (t.idx = 0x2121) && s.custody.journal.records.any (fun r =>
        decide (r.slot / 64 = sector) && inSpan (t.upto + 2 ^ 32 - t.total / 64) (t.total / 64) r.seq)
    | none => false)

/-- Ask for the erase of the oldest journal sector through the helm queue (R106). -/
def journalErase (s : State) : State :=
  let j := s.custody.journal
  let n := (j.slot / 64 + 1) % 64
  if j.eraseDue && !journalHeld s n then
    let d : FlashDesc :=
      { seq := s.flash.nextSeq, opcode := 3, flags := 0, tag := 0, length := 4096,
        offset := (journalSector + n) * 4096, buffer := 0, inline := none, owner := .journal,
        st := .waiting, source := [], done := 0, worn := false, suspended := false, table := [] }
    { s with
      flash := { s.flash with helm := s.flash.helm ++ [d], nextSeq := s.flash.nextSeq + 1 }
      custody := { s.custody with journal := { j with erasing := true } } }
  else s

/-- A LOST_EVENTS record for classes first to first + 15, or none if their counters are zero (R107). -/
def lostRecord (j : Journal) (first code : Nat) : List JEvent :=
  let counts := (List.range 16).map (fun i => agetD j.lost (first + i) 0)
  if counts.all (· == 0) then []
  else [⟨6, 0, code, j.lastLoss, (counts.map (leBytes 2)).flatten, true⟩]

/-- Below 64 entries, non-zero lost counters go into LOST_EVENTS records and are zeroed (R107). -/
def Journal.reportLost (j : Journal) : Journal :=
  if j.queue.length < 64 then
    { j with queue := j.queue ++ lostRecord j 0 1 ++ lostRecord j 16 2, lost := [] }
  else j

/-- Whether a slot of the ring is erased. -/
def Journal.slotFree (j : Journal) (n : Nat) : Bool :=
  !(j.records.any (fun r => decide (r.slot = n))) && !j.torn.contains n

/-- The slot after the last one that is not fully erased (R105): past a slot of data words without a commit word. -/
def Journal.freeSlot (j : Journal) : Nat → Nat → Nat
  | 0, n => n
  | k + 1, n => if j.torn.contains n then j.freeSlot k ((n + 1) % 4096) else n

/-- Start-up finds the write position (R105): the record with the highest sequence is the newest. -/
def Journal.scan (j : Journal) : Journal :=
  { j with
    slot := j.freeSlot j.torn.length j.slot
    nextSeq := match j.records.getLast? with
      | some r => (r.seq + 1) % 2 ^ 32
      | none => j.nextSeq }

/-- Find the journal write position (start-up, step 8). -/
def scanJournal (s : State) : State := s.setJournal s.custody.journal.scan

/-- Write the record of the event at the front of the queue (R105). -/
def Journal.write (j : Journal) (boot : Nat) : Journal :=
  match j.queue with
  | [] => j
  | e :: r =>
    Journal.reportLost { j with
      queue := r
      records := j.records ++ [⟨j.nextSeq, j.slot, boot % 2 ^ 16, e⟩]
      slot := (j.slot + 1) % 4096
      nextSeq := (j.nextSeq + 1) % 2 ^ 32 }

/-- Write one record, unless the ring has no slot for it yet or bank 0 is busy (R123), and ask for the next erase. -/
def writeRecord (s : State) : State :=
  let j := s.custody.journal
  if s.systemFree && !j.erasing && j.slotFree j.slot then journalErase (s.setJournal (j.write (s.counter 6)))
  else journalErase s

/-- JOURNAL_RECORD_WRITTEN (R105): only while the watch domain is powered. -/
def execJournalRecordWritten (s : State) : Host.Outcome State Fault Refusal :=
  if isDown s then .next s else .next (writeRecord s)

/-- Empty the event queue into flash: at most n records (R66). -/
def flushJournal : Nat → State → State
  | 0, s => s
  | n + 1, s => if s.custody.journal.queue = [] then s else flushJournal n (writeRecord s)

/-- Fields of a structure, each a width in bytes and a value. -/
def fields (l : List (Nat × Nat)) : Bytes := (l.map (fun p => leBytes p.1 p.2)).flatten

/-- Queue the START record (The journal): cause, slot, harbour cause, lifecycle, slot results, boot
count, stores lost and flags. -/
def startRecord (s : State) : State :=
  let c := s.custody
  s.pushEvent 0 0 (Config.journalCode 0 0)
    (fields [(1, c.cause), (1, if s.inHarbour then 0xFF else c.activeSlot), (1, c.harbour), (1, s.lifecycle.code),
      (1, c.resultA), (1, c.resultB), (2, 0), (8, s.counter 6), (2, c.storesLost),
      (1, b2n s.power.tripFlag + 2 * b2n c.unclean + 4 * b2n c.planned + 8 * b2n c.repaired)])

/-- Oldest and newest sequence in the ring (0x2120:02, 0x2120:03). -/
def Journal.oldest (j : Journal) : Nat := ((j.records.head?).map (·.seq)).getD 0

/-- Newest sequence in the ring. -/
def Journal.newest (j : Journal) : Nat := ((j.records.getLast?).map (·.seq)).getD 0

/-- The 64 bytes of a record (Journal record). -/
def JRecord.bytes (r : JRecord) : Bytes :=
  let body := leBytes 4 r.seq ++ leBytes 1 r.event.cls ++ leBytes 1 r.event.flags ++ leBytes 2 r.event.code
    ++ leBytes 6 r.event.ticks ++ leBytes 2 r.boot ++ padTo 32 r.event.data
  body ++ leBytes 2 (crc16 body).toNat ++ leBytes 2 0xC0A5 ++ List.replicate 12 0

/-- The records a read of 0x2121 takes, from the cursor on, at most 256 (R108). -/
def journalRead (j : Journal) : List JRecord :=
  let from' := j.records.dropWhile (fun r => !inSpan j.cursor (2 ^ 31) r.seq)
  from'.take 256

/-! ## The stored set (R51 to R53) -/

/-- Whether a key's object is in the stored set; keys from index 0x1_0000 on are the records of single
semaphores and camera channels that 0x2803 and 0x2C30 select (R51). -/
def inStoredSet (key : Nat) : Bool :=
  decide (0x1_0000 ≤ key / 256) || ((objectAt (key / 256) (key % 256)).map (·.stored)).getD false

/-- The stored set as it stands: every object of it that differs from its default. -/
def storedSet (s : State) : List (Nat × Nat) := s.obj.filter (fun p => inStoredSet p.1)

/-- Serial number of the newer copy. -/
def newestSerial (s : State) : Nat :=
  max ((s.custody.storedA.map (·.serial)).getD 0) ((s.custody.storedB.map (·.serial)).getD 0)

/-- The newer valid copy. -/
def newestCopy (s : State) : Option StoredCopy :=
  match s.custody.storedA, s.custody.storedB with
  | some a, some b => if b.serial ≤ a.serial then some a else some b
  | some a, none => some a
  | none, o => o

/-- Checks of a store or restore command (R53). -/
def storeChecks (val : Bytes) (sig : Nat) (s : State) : List (Bool × Nat) :=
  [(s.custody.storing.isNone, abBusy), (decide (leNat val = sig), abSignature)]

/-- Start copying the stored set; the answer follows completion (R51). -/
def applyStore (ch : Channel) (val : Bytes) (s : State) : Applied :=
  guarded (storeChecks val 0x5357_0001 s)
    (fun s => .later (s.setCustody { s.custody with storing := some (ch, ⟨newestSerial s + 1, storedSet s⟩) })) s

/-- Invalidate both copies (R52). -/
def applyRestoreDefaults (val : Bytes) (s : State) : Applied :=
  guarded (storeChecks val 0x5357_0002 s)
    (fun s => accept ((s.setCustody { s.custody with storedA := none, storedB := none }).setVal 0x1202 3 0)) s

/-- STORE_PARAMETERS. -/
def execStoreParameters (ch : Channel) (val : Bytes) (s : State) : Host.Outcome State Fault Refusal :=
  objectWrite ch 0x1200 1 val (applyStore ch val) s

/-- RESTORE_DEFAULTS. -/
def execRestoreDefaults (ch : Channel) (val : Bytes) (s : State) : Host.Outcome State Fault Refusal :=
  objectWrite ch 0x1201 1 val (applyRestoreDefaults val) s

/-- Erase counts of the parameter area after a store: a sector that held a copy has been erased (R51, R130). -/
def storeWear (s : State) : List (Nat × Nat) :=
  wearOf (wearOf s.flash.wear 1632 (b2n s.custody.storedA.isSome)) 1633 (b2n s.custody.storedB.isSome)

/-- The new copy is committed in the area the older one does not hold, and the older is erased; or the
program failed and the previous set stays (R51, R53). -/
def finishStore (s : State) (c : StoredCopy) (programmed : Bool) : State :=
  if programmed then
    let toA := match s.custody.storedA, s.custody.storedB with
      | some a, some b => decide (a.serial ≤ b.serial)
      | some _, none => false
      | none, _ => true
    ({ s with flash := { s.flash with wear := storeWear s } }.setCustody { s.custody with
      storing := none
      storedA := if toA then some c else none
      storedB := if toA then none else some c
      storeCount := (s.custody.storeCount + 1) % 2 ^ 32 }).setVal 0x1202 3 0
  else (s.setCustody { s.custody with storing := none }).setVal 0x1202 3 abFlash

/-- The parameters a reset loads: the newer valid copy or the defaults (R53). -/
def loadParameters (s : State) : State :=
  { s with obj := ((newestCopy s).map (·.values)).getD [] }

/-! ## Interface level (R48 to R50) -/

/-- HOST_RANGE: refused in harbour mode (R94), with the LPDDR untrained (R143), while a berth is live (R50), and at a
member (R304), in the order of R40; a range that does not overlap sets Chosen Level to 0 (R48). -/
def applyHostRange (val : Bytes) (s : State) : Applied :=
  let v := leNat val
  let high := bitsOf v 31 16
  let low := bitsOf v 15 0
  guarded
    [(!s.inHarbour, abHarbour),
     (!decide (s.tiers.fitted = 0), abInternal),
     (!s.anyLive, abNotIdle),
     (decide (low ≤ high), abRange),
     (decide (s.ferry.role ≠ .member), abInconsistent)]
    (fun s =>
      if low ≤ 2 ∧ 1 ≤ high then
        accept (s.setVal 0x1002 2 (min high 2))
      else .done abNotSupported (s.setVal 0x1002 2 0)) s

/-- HOST_RANGE. -/
def execHostRange (ch : Channel) (val : Bytes) (s : State) : Host.Outcome State Fault Refusal :=
  objectWrite ch 0x1002 1 val (applyHostRange val) s

end Sys2Proof.Machine
end

