-- ==== Sys2Proof/Machine/Packets.lean ====
section
/-! DEFINITION. The ferry packet: its header's fields, what makes it well formed, and sealing it for a
link (13_ferry_cascade.md, Link layer; R297). -/

namespace Sys2Proof

open Machine

/-- A packet with its header's end-to-end fields set; the link fills in its own when it sends. -/
def mkPacket (kind cls src dst flags flowSeq context : Nat) (payload : Bytes) : Packet :=
  let header := leBytes 1 (kind + 16 * cls) ++ leBytes 1 (src + 16 * dst) ++ leBytes 2 payload.length
    ++ [0, 0] ++ leBytes 1 flags ++ [0] ++ [0, 0, 0, 0] ++ leBytes 2 flowSeq ++ leBytes 2 context
  ⟨header, payload, 0⟩

/-- Kind of a packet. -/
def Packet.kind (p : Packet) : Nat := fld p.header 0 1 % 16
/-- Class of a packet. -/
def Packet.cls (p : Packet) : Nat := fld p.header 0 1 / 16 % 4
/-- Source node. -/
def Packet.src (p : Packet) : Nat := fld p.header 1 1 % 16
/-- Destination node, 0 the neighbour, 15 broadcast. -/
def Packet.dst (p : Packet) : Nat := fld p.header 1 1 / 16
/-- link_seq. -/
def Packet.linkSeq (p : Packet) : Nat := fld p.header 4 1
/-- link_ack. -/
def Packet.linkAck (p : Packet) : Nat := fld p.header 5 1
/-- Hops taken so far. -/
def Packet.hops (p : Packet) : Nat := fld p.header 7 1
/-- flow_seq. -/
def Packet.flowSeq (p : Packet) : Nat := fld p.header 12 2
/-- Context, by kind. -/
def Packet.context (p : Packet) : Nat := fld p.header 14 2

/-- The classes a kind may travel in (Packet kinds). -/
def kindClass (kind cls : Nat) : Bool :=
  if kind = 8 then decide (1 ≤ cls)
  else if kind = 9 ∨ kind = 10 then decide (2 ≤ cls)
  else decide (cls = 0)

/-- Reserved fields of a payload are zero: a HELLO's (HELLO payload; R7). -/
def Packet.payloadReserved (p : Packet) : Bool :=
  !decide (p.kind = 2) || (decide (fld p.payload 9 1 < 8) && zeroAt p.payload 18 46)

/-- A well-formed packet (R297). -/
def Packet.wellFormed (p : Packet) : Bool :=
  decide (p.header.length = 16) && decide (p.crc = crc32 (p.header ++ p.payload))
    && decide (fld p.header 0 1 < 64) && decide (p.kind ≤ 12) && decide (fld p.header 6 1 ≤ 1)
    && decide (fld p.header 2 2 ≤ 512) && decide (fld p.header 2 2 = p.payload.length)
    && kindClass p.kind p.cls && decide (p.hops < 8) && p.payloadReserved

/-- IDLE and NAK take no link_seq and need no credit (R298, R299). -/
def Packet.bare (p : Packet) : Bool := decide (p.kind ≤ 1)

/-- JOIN and LOSS belong to no flow of their node: they begin flows and reset them (log 66). -/
def Packet.flowless (p : Packet) : Bool := p.bare || decide (p.kind = 3) || decide (p.kind = 12)

/-- One hop more. -/
def Packet.hop (p : Packet) : Packet := { p with header := overlay p.header 7 (leBytes 1 (p.hops + 1)) }

/-- A copy whose CRC is the bitwise inverse of the correct one (R300). -/
def Packet.spoil (p : Packet) : Packet := { p with crc := ~~~ p.crc }

/-- Set the link's own header fields and the CRC. -/
def Packet.seal (p : Packet) (linkSeq linkAck : Nat) (credits : List Nat) : Packet :=
  let h := overlay (overlay p.header 4 (leBytes 1 linkSeq ++ leBytes 1 linkAck)) 8 ((credits.map (leBytes 1)).flatten)
  { p with header := h, crc := crc32 (h ++ p.payload) }

end Sys2Proof
end

