-- ==== Sys2Proof/Machine/FerryLink.lean ====
section
/-! DEFINITION. The ferry link layer (R295 to R302): packets, credits, go-back-N retry, routes and the
frames of slow crossing. -/

namespace Sys2Proof.Machine

/-- Ferry port n. -/
def State.port (s : State) (n : Nat) : Port := (s.ferry.ports[n]?).getD Port.reset

/-- Change a ferry port. -/
def State.setPort (s : State) (n : Nat) (p : Port) : State :=
  s.setFerry { s.ferry with ports := lmod s.ferry.ports n (fun _ => p) }

/-! ## Sending (R298, R299) -/

/-- Own node in a header: 0 before joining. -/
def ownNode (s : State) : Nat := if s.ferry.role = .unmoored then 0 else s.nodeId

/-- Last link_seq accepted in order. -/
def Port.ack (p : Port) : Nat := (p.rxSeq + 255) % 256

/-- Credits to return: at most 255 of a class in one packet. -/
def Port.returned (p : Port) : List Nat := p.freed.map (fun n => min n 255)

/-- The port has returned its credits and its acknowledgement. -/
def Port.afterReturn (p : Port) : Port := { p with freed := p.freed.map (fun n => n - min n 255), ackOwed := false }

/-- Send an IDLE or NAK: no sequence and no credit (R298, R299). One for a node acknowledges a flow (R301, log 66). -/
def sendBareTo (s : State) (n kind dst seq : Nat) : State :=
  let p := s.port n
  if p.st = .full then
    let q := (mkPacket kind 0 (ownNode s) dst 0 seq 0 []).seal 0 p.ack p.returned
    (s.setPort n p.afterReturn).emit (.packet n q)
  else s

/-- Send an IDLE or NAK to the neighbour. -/
def sendBare (s : State) (n kind : Nat) : State := sendBareTo s n kind 0 0

/-- Return an owed acknowledgement in an IDLE (R298). -/
def returnAck (s : State) (n : Nat) : State := if (s.port n).ackOwed then sendBare s n 0 else s

/-- A receive buffer of a class is free: its credit goes back with the next packet, an IDLE if there is no other
(R299). -/
def releaseBuffer (s : State) (n cls : Nat) : State :=
  s.setPort n { s.port n with freed := lmod (s.port n).freed cls (· + 1), ackOwed := true }

/-- A waiting packet has left: the buffer it came in is free once no port holds another copy of it (R299). -/
def leaveBuffer (s : State) (w : Waiting) : State :=
  match w.held with
  | none => s
  | some (m, seq) =>
    if (List.range 3).any (fun q => (s.port q).outbox.any (fun x => decide (x.held = some (m, seq)))) then s
    else returnAck (releaseBuffer s m w.packet.cls) m

/-- The first waiting packet that holds a credit of its class (R299). -/
def firstCredited (credits : List Nat) : List Waiting → Option (Waiting × List Waiting)
  | [] => none
  | w :: r =>
    if 0 < (credits[w.packet.cls]?).getD 0 then some (w, r)
    else match firstCredited credits r with
      | some (q, rest) => some (q, w :: rest)
      | none => none

/-- Send one packet of the outbox if the window and the credits allow. -/
def pumpOne (s : State) (n : Nat) : State :=
  let p := s.port n
  if p.st = .full ∧ p.unacked.length < 64 then
    match firstCredited p.credits p.outbox with
    | none => s
    | some (w, rest) =>
      let sealed := w.packet.seal p.txSeq p.ack p.returned
      leaveBuffer ((s.setPort n { p.afterReturn with
        outbox := rest
        unacked := p.unacked ++ [sealed]
        txSeq := (p.txSeq + 1) % 256
        credits := lmod p.credits sealed.cls (· - 1) }).emit (.packet n sealed)) w
  else s

/-- Send what can be sent: at most the 64 packets of the window. -/
def pump (s : State) (n : Nat) : State := (List.range 64).foldl (fun s _ => pumpOne s n) s

/-- A slow-crossing frame from type, nodes and payload. -/
def slowFrameOf (type nodes : Nat) (payload : Bytes) : Bytes :=
  let body := [0xD5] ++ leBytes 1 type ++ leBytes 1 nodes ++ leBytes 1 payload.length ++ payload
  body ++ leBytes 2 (crc16 body).toNat

/-- Full-rate traffic for a neighbour in slow crossing waits while a WAKE frame asks for full rate, once (R296,
R302): its reason is semaphore where a SEMSIG packet waits. -/
def askFullRate (s : State) (n : Nat) : State :=
  let q := s.port n
  let l := q.unacked ++ q.outbox.map (·.packet)
  if q.st = .slow ∧ q.wakeSent = false ∧ l ≠ [] then
    (s.setPort n { q with wakeSent := true }).emit
      (.slowFrame n (slowFrameOf 2 (ownNode s) [if l.any (fun p => decide (p.kind = 7)) then 2 else 1]))
  else s

/-- Put a packet into the outboxes of ports, with the buffer it fills until every copy has left, and send what can be
sent. -/
def queueTo (s : State) (ports : List Nat) (p : Packet) (held : Option (Nat × Nat)) : State :=
  let s1 := ports.foldl (fun s q => s.setPort q { s.port q with outbox := (s.port q).outbox ++ [⟨p, held⟩] }) s
  ports.foldl (fun s q => askFullRate (pump s q) q) s1

/-- Put a packet of this device into a port's outbox and send what can be sent. -/
def enqueue (s : State) (n : Nat) (p : Packet) : State := queueTo s [n] p none

/-- Send a packet to a node along its route, with the next flow_seq of its flow; a control packet is kept until it is
acknowledged end to end (R301). A node with no route is not reached. -/
def sendTo (s : State) (node kind cls flags context : Nat) (payload : Bytes) : State :=
  match aget s.ferry.routes node with
  | none => s
  | some port =>
    let seq := agetD s.ferry.flowTx (node, cls) 0
    let p := mkPacket kind cls (ownNode s) node flags seq context payload
    let s1 := s.setFerry { s.ferry with
      flowTx := aset s.ferry.flowTx (node, cls) ((seq + 1) % 2 ^ 16)
      sent := if cls = 0 then s.ferry.sent ++ [(node, p)] else s.ferry.sent }
    enqueue s1 port p

/-- Send a packet that belongs to no flow to a node along its route. -/
def sendFlowless (s : State) (node kind : Nat) (payload : Bytes) : State :=
  match aget s.ferry.routes node with
  | none => s
  | some port => enqueue s port (mkPacket kind 0 (ownNode s) node 1 0 0 payload)

/-- Send a packet to the link neighbour. -/
def sendNeighbour (s : State) (port kind context : Nat) (payload : Bytes) : State :=
  enqueue s port (mkPacket kind 0 (ownNode s) 0 0 0 context payload)

/-- Put the pieces of a broadcast on the branches of the tree: the next one once no branch still holds the one before,
so that the slowest branch sets the pace (R315, R299). -/
def feedBroadcast : Nat → State → State
  | 0, s => s
  | n + 1, s =>
    match s.ferry.broadcasts with
    | [] => s
    | p :: r =>
      if s.ferry.children.any (fun q => (s.port q).outbox.any (fun w => decide (w.packet.dst = 15))) then s
      else feedBroadcast n (queueTo (s.setFerry { s.ferry with broadcasts := r }) s.ferry.children p none)

/-- Put on what the branches can take. -/
def feedBranches (s : State) : State := feedBroadcast s.ferry.broadcasts.length s

/-- Send a packet along the broadcast tree: to every child (R305). -/
def sendBroadcast (s : State) (kind cls flags context : Nat) (payload : Bytes) : State :=
  let seq := agetD s.ferry.flowTx (15, cls) 0
  feedBranches (s.setFerry { s.ferry with
    flowTx := aset s.ferry.flowTx (15, cls) ((seq + 1) % 2 ^ 16)
    broadcasts := s.ferry.broadcasts ++ [mkPacket kind cls (ownNode s) 15 flags seq context payload] })

/-! ## Routes by HELLO (R303, R305) -/

/-- HELLOs of a node, best first: fewest hops, then the lower port. -/
def hellosOf (s : State) (node : Nat) : List Hello :=
  sortBy (fun a b => decide (a.hops < b.hops) || (decide (a.hops = b.hops) && decide (a.port ≤ b.port)))
    (s.ferry.hellos.filter (fun h => decide (h.node = node)))

/-- The route of fewest hops to a node by the HELLOs heard, ties to the lower port. -/
def helloRoute (s : State) (node : Nat) : Option Nat := ((hellosOf s node).head?).map (·.port)

/-! ## Receiving (R297, R298, R300, R301) -/

/-- Add returned credits. -/
def addCredits (credits : List Nat) (p : Packet) : List Nat :=
  (List.range 4).map (fun c => (credits[c]?).getD 0 + fld p.header (8 + c) 1)

/-- Drop the packets that link_ack acknowledges. -/
def ackedDrop (l : List Packet) (ack : Nat) : List Packet :=
  match l.findIdx? (fun p => decide (p.linkSeq = ack)) with
  | some i => l.drop (i + 1)
  | none => l

/-- Take a packet's link_ack and its credits. A resent packet carries the credits it was first sent with, so those of a
packet that is discarded are not added (R298, R299). -/
def takeAck (s : State) (n : Nat) (p : Packet) : State :=
  let q := s.port n
  let left := ackedDrop q.unacked p.linkAck
  feedBranches (pump (s.setPort n { q with
    unacked := left
    resends := if left.length < q.unacked.length then 0 else q.resends
    credits := if p.bare || decide (p.linkSeq = q.rxSeq) then addCredits q.credits p else q.credits }) n)

/-- Send one NAK for a gap (R298). -/
def nakOnce (s : State) (n : Nat) : State :=
  if (s.port n).nakked then s else sendBare (s.setPort n { s.port n with nakked := true }) n 1

/-- The packet is for this device: its neighbour's, its own node's, or a broadcast. A JOIN reaches its node by node id
before the node has joined. -/
def forHere (s : State) (p : Packet) : Bool :=
  decide (p.dst = 0) || decide (p.dst = 15) || decide (p.dst = ownNode s)
    || (decide (p.kind = 3) && decide (p.dst = s.nodeId))

/-- Ports that a packet which came by port n goes on by: the tree's children for a broadcast, the route for another
node. A JOIN goes by the HELLOs heard where there is no route yet. -/
def outPorts (s : State) (n : Nat) (p : Packet) : List Nat :=
  if p.dst = 15 then s.ferry.children.filter (fun c => !decide (c = n))
  else if forHere s p then []
  else match aget s.ferry.routes p.dst with
    | some q => [q]
    | none => if p.kind = 3 then (helloRoute s p.dst).toList else []

/-- Cut-through (R300): a packet whose CRC fails was being sent on, once its header had come, its route was found and a
credit was held; its copy ends with the inverse of the correct CRC and the next hop discards it. The good copy that
upstream retry delivers takes the same link_seq. -/
def cutThrough (s : State) (n : Nat) (p : Packet) : State :=
  if { p with crc := crc32 (p.header ++ p.payload) }.wellFormed && !p.bare && decide (p.linkSeq = (s.port n).rxSeq) then
    (outPorts s n p).foldl (fun s q =>
      let o := s.port q
      if o.st = .full ∧ o.unacked.length < 64 ∧ 0 < (o.credits[p.cls]?).getD 0 then
        (s.setPort q o.afterReturn).emit (.packet q (p.hop.seal o.txSeq o.ack o.returned).spoil)
      else s) s
  else s

/-- A packet that is well formed and next in sequence is accepted; others are discarded, counted or
NAKed (R297, R298). Answers whether it is accepted. -/
def receive (s : State) (n : Nat) (p : Packet) : State × Bool :=
  if (s.port n).st ≠ .full then (s, false)
  else if !p.wellFormed then (nakOnce (cutThrough (s.bumpBy 0x2B04 (n + 1) 64 1) n p) n, false)
  else
    let s1 := takeAck s n p
    if p.bare then (s1, true)
    else if p.linkSeq = (s1.port n).rxSeq then
      let q := s1.port n
      (s1.setPort n { q with rxSeq := (q.rxSeq + 1) % 256, nakked := false, ackOwed := true }, true)
    else if ((s1.port n).rxSeq + 256 - p.linkSeq) % 256 ≤ 64 then
      (s1.setPort n { s1.port n with ackOwed := true }, false)
    else (nakOnce s1 n, false)

/-- Pass an accepted packet on, one hop more; its buffer is free once every copy has left (R299, R300). An
acknowledgement of a flow goes on as it came, bare. -/
def passOn (s : State) (n : Nat) (p : Packet) : State :=
  let l := outPorts s n p
  if p.bare then l.foldl (fun s q => sendBareTo s q p.kind p.dst p.flowSeq) s
  else if l.isEmpty then releaseBuffer s n p.cls
  else queueTo s l p.hop (some (n, p.linkSeq))

/-- Key of the flow a received packet belongs to. -/
def flowKey (p : Packet) : Nat × Nat := (p.src + 16 * (if p.dst = 15 then 1 else 0), p.cls)

/-- Acknowledge a control packet end to end, in an IDLE for its source (R301, log 66). -/
def ackFlow (s : State) (p : Packet) : State :=
  if p.cls = 0 ∧ p.dst ≠ 15 then
    match aget s.ferry.routes p.src with
    | some q => sendBareTo s q 0 p.src p.flowSeq
    | none => s
  else s

/-- A report of a flow's gap: its source, its class and whether it is a broadcast, its destination (log 66). -/
def gapPayload (key : Nat × Nat) (dst : Nat) : Bytes :=
  leBytes 1 (key.1 % 16) ++ leBytes 1 (0x80 + key.2 + key.1 / 16 * 16) ++ leBytes 1 dst

/-- A gap in a flow (R301): the rest of the flow is discarded, and the pilot is told. -/
def noteGap (s : State) (key : Nat × Nat) : State :=
  let s1 := s.setFerry { s.ferry with gaps := s.ferry.gaps ++ [key] }
  if s.ferry.role = .member then sendFlowless s1 s.ferry.pilotNode 12 (gapPayload key s.nodeId) else s1

/-- The flow check at a destination (R301): the next flow_seq is accepted, a lower one silently discarded, a higher one
is a gap. -/
def flowCheck (s : State) (p : Packet) : State × Bool :=
  let key := flowKey p
  let want := agetD s.ferry.flowRx key 0
  if s.ferry.gaps.contains key then (s, false)
  else if p.flowSeq = want then
    (ackFlow (s.setFerry { s.ferry with flowRx := aset s.ferry.flowRx key ((want + 1) % 2 ^ 16) }) p, true)
  else if (want + 2 ^ 16 - p.flowSeq) % 2 ^ 16 < 2 ^ 15 then (s, false)
  else (noteGap s key, false)

/-- What a packet's arrival comes to: passed on, delivered here, both or neither. Packets for the
neighbour carry no flow. -/
def arrive (s : State) (n : Nat) (p : Packet) : State × Bool :=
  let r := receive s n p
  if !r.2 then (returnAck r.1 n, false)
  else
    let s1 := if p.bare && forHere r.1 p then r.1 else passOn r.1 n p
    let f := if !forHere r.1 p then (s1, false)
      else if p.dst = 0 || p.flowless then (s1, true) else flowCheck s1 p
    (returnAck f.1 n, f.2)

/-- An acknowledgement from a node: its control packets up to a flow_seq have taken effect (R301). -/
def dropSent (s : State) (node seq : Nat) : State :=
  s.setFerry { s.ferry with sent := s.ferry.sent.filter (fun p =>
    !(decide (p.1 = node) && decide ((seq + 2 ^ 16 - p.2.flowSeq) % 2 ^ 16 < 2 ^ 15))) }

/-- An IDLE is delivered: one that names this node as its destination acknowledges a flow. -/
def takeIdle (p : Packet) (s : State) : State := if p.dst = 0 then s else dropSent s p.src p.flowSeq

/-- Resend every unacknowledged packet of a port, counting each (R298; 0x2B05). -/
def resend (s : State) (n : Nat) : State :=
  let q := s.port n
  if q.unacked.isEmpty then s else
  let s1 := (s.setPort n { q with resends := q.resends + 1 }).bumpBy 0x2B05 (n + 1) 64 q.unacked.length
  q.unacked.foldl (fun s p => s.emit (.packet n p)) s1

/-! ## Slow crossing (R302) -/

/-- Payload of a slow-crossing frame. -/
def slowPayload (f : Bytes) : Bytes := slice f 4 (fld f 3 1)

/-- A valid frame: its sync, type, length and CRC (R302). -/
def slowValid (f : Bytes) : Bool :=
  let n := fld f 3 1
  decide (f.length = n + 6) && decide (n ≤ 64) && decide (fld f 0 1 = 0xD5)
    && decide (1 ≤ fld f 1 1) && decide (fld f 1 1 ≤ 4)
    && decide (fld f (4 + n) 2 = (crc16 (f.take (4 + n))).toNat)

/-- Send a slow-crossing frame on a port that is up: what travels in slow crossing does so on every hop, also over a
link that is at full rate (R314, log 79). -/
def sendSlow (s : State) (n : Nat) (f : Bytes) : State :=
  if (s.port n).st = .down then s else s.emit (.slowFrame n f)

/-- What a frame's arrival comes to: valid frames reset the port's silence; a frame for another node is
passed on without waking the device (R302). Answers whether it is delivered here. -/
def slowArrive (s : State) (n : Nat) (f : Bytes) : State × Bool :=
  if (s.port n).st = .down ∨ !slowValid f then (s, false)
  else
    let s1 := s.setPort n { s.port n with silence := 0 }
    let dst := fld f 2 1 / 16
    if dst = 0 ∨ dst = ownNode s1 then (s1, true)
    else match aget s1.ferry.routes dst with
      | some port => (sendSlow s1 port f, false)
      | none => (s1, false)

/-- Some hop of a route is in slow crossing: the first by the device's own port, the later ones, which it does not see,
by a free value (R314, log 79). -/
def routeSlow (s : State) (node port : Nat) : Bool :=
  !decide ((s.port port).st = .full)
    || (!decide ((s.port port).neighbour = node) && Config.farHopSlow s.draws node)

/-- A request frame goes to a node: as a DICT packet where every hop of its route is at full rate, else as a
slow-crossing frame (R314). -/
def sendDict (s : State) (node : Nat) (frame : Bytes) : State :=
  match aget s.ferry.routes node with
  | none => s
  | some port =>
    (if routeSlow s node port then sendSlow s port (slowFrameOf 3 (ownNode s + 16 * node) frame)
     else sendTo s node 4 0 1 0 frame).draw

/-- A response goes back the way its request came (R314). -/
def answerDict (s : State) (node : Nat) (slow : Bool) (frame : Bytes) : State :=
  match aget s.ferry.routes node with
  | none => s
  | some port =>
    if slow then sendSlow s port (slowFrameOf 4 (ownNode s + 16 * node) frame) else sendTo s node 4 0 1 0 frame

/-- A request frame for a member (Dictionary frame layout). -/
def requestFrame (op node idx sub id total off : Nat) (payload : Bytes) : Bytes :=
  leBytes 1 op ++ leBytes 1 node ++ leBytes 2 idx ++ leBytes 1 sub ++ [0] ++ leBytes 2 id ++ leBytes 4 total
    ++ leBytes 4 off ++ padTo 48 payload

/-- Number of the pilot's next own transfer to a node: the flow's next sequence, so that no two are alike. -/
def nextTransfer (s : State) (node : Nat) : Nat := agetD s.ferry.flowTx (node, 0) 0

/-- The pilot writes an object of a member (R304): expedited, or in segments where the object is a DOMAIN. -/
def memberWrite (s : State) (node idx sub : Nat) (domain : Bool) (val : Bytes) : State :=
  let id := nextTransfer s node
  if domain then
    (cuts 48 (val.length / 48 + 2) 0 val.length).foldl
      (fun s p => sendDict s node (requestFrame 4 node idx sub id val.length p.1 (slice val p.1 p.2))) s
  else sendDict s node (requestFrame 2 node idx sub id val.length 0 val)

/-- A pilot's write of an object that its members hold too goes to each of them (R304). -/
def copyToMembers (idx sub : Nat) (val : Bytes) (s : State) : State :=
  if s.ferry.role = .pilot then
    ((joinedNodes s).filter (fun n => !decide (n = s.nodeId))).foldl (fun s n => memberWrite s n idx sub false val) s
  else s

/-- One keep-alive period passes at a port: a KEEPALIVE goes out and silence grows (R302). -/
def keepaliveOne (s : State) (n : Nat) : State :=
  if (s.port n).st = .slow then
    (s.setPort n { s.port n with silence := (s.port n).silence + 1 }).emit
      (.slowFrame n (slowFrameOf 1 (ownNode s) []))
  else s

/-- KEEPALIVE_PERIOD (R302). -/
def execKeepalivePeriod (s : State) : Host.Outcome State Fault Refusal :=
  .next ((List.range 3).foldl keepaliveOne s)

/-- A link is in slow crossing from now on; what waits for full rate asks for it (R296). -/
def toSlow (s : State) (n : Nat) : State := s.setPort n { s.port n with st := .slow, silence := 0, wakeSent := false }

/-- Drop every full-rate link to slow crossing with a DOWNSHIFT packet (R296). -/
def ferryToSlow (s : State) : State :=
  (List.range 3).foldl (fun s n => if (s.port n).st = .full then toSlow (sendNeighbour s n 11 0 []) n else s) s

/-- A DOWNSHIFT is delivered (R296): the link drops to slow crossing, and what waits asks for full rate again. -/
def takeDownshift (n : Nat) (s : State) : State := askFullRate (toSlow s n) n

/-! ## Reads of another node (R313) -/

/-- Class of a read or write of another node's window: KV where the target lies in a KV partition there, which this
device does not see (R313, log 114), else activations. -/
def farClass (node off : Nat) : Nat := if Config.farPartition node off then 3 else 2

/-- Ask another node for bytes of its window with READ packets of at most 512 bytes, unless it has been asked
already. -/
def remoteRead (s : State) (a n : Nat) : State :=
  let node := (a - windowEnd) / 0x10_0000_0000 + 1
  let off := (a - windowEnd) % 0x10_0000_0000
  if s.ferry.reads.any (fun r => decide (r.node = node ∧ r.addr = off ∧ r.len = n)) then s
  else
    let s1 := s.setFerry { s.ferry with reads := s.ferry.reads ++ [⟨node, off, n, [], false⟩] }
    (cuts 512 (n / 512 + 2) off n).foldl (fun s p =>
      sendTo s node 9 (farClass node off) 1 0 (leBytes 8 p.1 ++ leBytes 4 p.2)) s1

/-- Bytes that have come back for a remote read, which is then forgotten. -/
def remoteData (s : State) (a n : Nat) : State × Option (List Octet) :=
  let node := (a - windowEnd) / 0x10_0000_0000 + 1
  let off := (a - windowEnd) % 0x10_0000_0000
  match s.ferry.reads.find? (fun r => decide (r.node = node ∧ r.addr = off ∧ r.len = n)) with
  | some r => if r.whole then (s.setFerry { s.ferry with reads := s.ferry.reads.erase r }, some r.got) else (s, none)
  | none => (s, none)

end Sys2Proof.Machine
end

