-- ==== Sys2Proof/Machine/Channels.lean ====
section
/-! DEFINITION. Dictionary frames as bytes, the responses of a channel, and answers that come later
(02_object_dictionary.md, The frame; R28, R38, R42a, R43, R44, R47). -/

namespace Sys2Proof.Machine

/-! ## Fields of a request frame (Dictionary frame layout) -/

/-- op. -/
def frOp (f : Bytes) : Nat := fld f 0 1
/-- node. -/
def frNode (f : Bytes) : Nat := fld f 1 1
/-- index. -/
def frIdx (f : Bytes) : Nat := fld f 2 2
/-- sub. -/
def frSub (f : Bytes) : Nat := fld f 4 1
/-- type. -/
def frType (f : Bytes) : Nat := fld f 5 1
/-- transfer_id. -/
def frId (f : Bytes) : Nat := fld f 6 2
/-- total_length. -/
def frTotal (f : Bytes) : Nat := fld f 8 4
/-- offset_or_code. -/
def frOff (f : Bytes) : Nat := fld f 12 4
/-- payload. -/
def frPayload (f : Bytes) : Bytes := slice f 16 48

/-- The response to a request: op with bit 7 set, the copied fields, type, length, status and payload. -/
def responseOf (f : Bytes) (type total status : Nat) (payload : Bytes) : Bytes :=
  leBytes 1 (frOp f ||| 0x80) ++ slice f 1 4 ++ leBytes 1 type ++ slice f 6 2 ++ leBytes 4 total ++ leBytes 4 status
    ++ padTo 48 payload

/-! ## Posting a response -/

/-- Vector of a mailbox's responses (R42a). -/
def mailboxVector (s : State) : Channel → Nat
  | .priv => s.val 0x1100 1
  | .tenant t => s.val (0x3000 + 0x40 * t.val) 1
  | _ => 0xFFFF

/-- A response leaves the device on its channel: into a mailbox's response buffer with its interrupt (R42a), ready
for a private read with its IBI (R44), or back to the pilot (R46). The channel is free again. -/
def postResponse (ch : Channel) (resp : Bytes) (s : State) : State :=
  let s1 := (s.setChan ch { s.chan ch with busy := false, latched := none, way := .usual }).emit (.response ch resp)
  match ch with
  | .fwd => answerDict s1 s1.ferry.pilotNode (decide ((s.chan .fwd).way = .slowCrossing)) resp
  | .side =>
    (s1.setChan .side { s1.chan .side with response := resp, ready := true }).ibi 0xD1
  | _ =>
    let s2 := s1.setChan ch { s1.chan ch with response := resp, ready := true }
    if s.val 0x1100 3 = 1 then s2.msix (mailboxVector s ch) else s2

/-- The response to an executed request is kept beside it for a repeat (R38), and posted. -/
def respond (ch : Channel) (f resp : Bytes) (s : State) : State :=
  postResponse ch resp (s.setChan ch { s.chan ch with last := some (f, resp) })

/-- Type code of an object, 0 where there is none. -/
def typeCode (idx sub : Nat) : Nat := ((objectAt idx sub).map (·.type.code)).getD 0

/-- The answer to a write that was to follow later: to the request the channel has taken up, or to the command that
made the write. A channel that a host reset has cleared awaits none. -/
def lateAnswer (ch : Channel) (idx sub code : Nat) (s : State) : State :=
  let s1 := if code = 0 then s else s.bump 0x1102 2
  match (s.chan ch).latched with
  | some f => respond ch f (responseOf f (typeCode idx sub) 0 code []) s1
  | none =>
    if (s.chan ch).busy then (s1.setChan ch { s1.chan ch with busy := false }).emit (.wrote ch idx sub code) else s

/-! ## Forwarded frames (R46, R47) -/

/-- A frame waits for this response: the same node, index, sub-index and transfer, and the op it answers. -/
def Forward.answeredBy (f : Forward) (src : Nat) (resp : Bytes) : Bool :=
  decide (f.node = src) && decide (fld resp 0 1 = frOp f.frame + 128) && decide (slice resp 2 3 = slice f.frame 2 3)
    && decide (slice resp 6 2 = slice f.frame 6 2)

/-- Take a frame out of those that wait. -/
def dropForward (f : Forward) (s : State) : State :=
  s.setFerry { s.ferry with forwards := s.ferry.forwards.erase f }

/-- FORWARD_TIMEOUT (R47): the pilot answers for the member. -/
def execForwardTimeout (origin : Channel) (s : State) : Host.Outcome State Fault Refusal :=
  match s.ferry.forwards.find? (fun f => decide (f.origin = origin)) with
  | none => .next s
  | some f =>
    let s1 := dropForward f s
    match origin with
    | .fwd => .next s1
    | _ =>
      .next (respond origin f.frame (responseOf f.frame 0 0 abMember []) (s1.countServed abMember))

end Sys2Proof.Machine
end

