-- ==== Sys2Proof/Machine/Floats.lean ====
section
/-! DEFINITION. The numeric formats and their rounding: to nearest, ties away from zero, once from the
exact result (R4, R164 to R168), group scales (R172, R173) and row quantisation (R175, R176). -/

namespace Sys2Proof.Machine

/-- A floating-point format: exponent bits and fraction bits (Integer and floating-point formats). -/
structure FloatFmt where
  ebits : Nat
  mbits : Nat
  deriving DecidableEq, Repr

/-- bf16. -/
def bf16 : FloatFmt := ⟨8, 7⟩
/-- IEEE binary16. -/
def fp16 : FloatFmt := ⟨5, 10⟩
/-- IEEE binary32. -/
def fp32 : FloatFmt := ⟨8, 23⟩

/-- Exponent bias. -/
def FloatFmt.bias (f : FloatFmt) : Nat := 2 ^ (f.ebits - 1) - 1
/-- Bits of the sign. -/
def FloatFmt.signBit (f : FloatFmt) : Nat := 2 ^ (f.ebits + f.mbits)
/-- Bits of +infinity. -/
def FloatFmt.inf (f : FloatFmt) : Nat := (2 ^ f.ebits - 1) * 2 ^ f.mbits
/-- The canonical quiet NaN, sign clear (R165). -/
def FloatFmt.nan (f : FloatFmt) : Nat := f.inf + 2 ^ (f.mbits - 1)
/-- Exponent of the unit in the last place of subnormals. -/
def FloatFmt.ulpMin (f : FloatFmt) : Int := 1 - (f.bias : Int) - f.mbits

/-- A value: NaN, an infinity, or ± m × 2^e; zero keeps its sign. -/
inductive FloatVal where
  | nan
  | inf (neg : Bool)
  | fin (neg : Bool) (m : Nat) (e : Int)
  deriving DecidableEq, Repr

/-- The value that bits of a format hold (R165: subnormals are values, a NaN is any NaN). -/
def unpack (f : FloatFmt) (bits : Nat) : FloatVal :=
  let neg := bits / f.signBit % 2 = 1
  let ex := bits / 2 ^ f.mbits % 2 ^ f.ebits
  let fr := bits % 2 ^ f.mbits
  if ex = 2 ^ f.ebits - 1 then (if fr = 0 then .inf neg else .nan)
  else if ex = 0 then .fin neg fr f.ulpMin
  else .fin neg (fr + 2 ^ f.mbits) (f.ulpMin + ex - 1)

/-- Numerator and denominator of n / d × 2^(−u). -/
def scaleBy (n d : Nat) (u : Int) : Nat × Nat :=
  if 0 ≤ u then (n, d * 2 ^ u.toNat) else (n * 2 ^ (-u).toNat, d)

/-- Nearest integer to n / d, ties away from zero (R4). -/
def roundDiv (n d : Nat) : Nat := (2 * n + d) / (2 * d)

/-- floor (log2 (n / d)) for n, d > 0. -/
def log2Ratio (n d : Nat) : Int :=
  let g := (Nat.log2 n : Int) - Nat.log2 d
  let p := scaleBy n d g
  if p.2 ≤ p.1 then g else g - 1

/-- Round ± n / d once into a format, ties away from zero; a magnitude above the largest finite value
gives an infinity (R166, R167). -/
def roundTo (f : FloatFmt) (neg : Bool) (n d : Nat) : Nat :=
  let s := if neg then f.signBit else 0
  if n = 0 then s
  else
    let u := max (log2Ratio n d - f.mbits) f.ulpMin
    let p := scaleBy n d u
    let q := roundDiv p.1 p.2
    let mag := q + ((u - f.ulpMin).toNat) * 2 ^ f.mbits
    s + (if u = f.ulpMin then min q f.inf else min mag f.inf)

/-- Round a value into a format. -/
def pack (f : FloatFmt) : FloatVal → Nat
  | .nan => f.nan
  | .inf neg => f.inf + (if neg then f.signBit else 0)
  | .fin neg m e => let p := scaleBy m 1 (-e); roundTo f neg p.1 p.2

/-- Bits of a value of either sign as signed integer m at exponent e. -/
def signedOf (neg : Bool) (m : Nat) : Int := if neg then -(m : Int) else m

/-- The exact sum of two finite values; an exact zero of unlike signs is +0. -/
def addFin (n1 : Bool) (m1 : Nat) (e1 : Int) (n2 : Bool) (m2 : Nat) (e2 : Int) : FloatVal :=
  let e := min e1 e2
  let a := signedOf n1 (m1 * 2 ^ (e1 - e).toNat)
  let b := signedOf n2 (m2 * 2 ^ (e2 - e).toNat)
  let r := a + b
  if r = 0 then .fin (n1 && n2) 0 e else .fin (decide (r < 0)) r.natAbs e

/-- Exact sum. -/
def addVal : FloatVal → FloatVal → FloatVal
  | .nan, _ => .nan
  | _, .nan => .nan
  | .inf a, .inf b => if a = b then .inf a else .nan
  | .inf a, _ => .inf a
  | _, .inf b => .inf b
  | .fin n1 m1 e1, .fin n2 m2 e2 => addFin n1 m1 e1 n2 m2 e2

/-- Negation. -/
def negVal : FloatVal → FloatVal
  | .nan => .nan
  | .inf a => .inf (!a)
  | .fin n m e => .fin (!n) m e

/-- Exact product. -/
def mulVal : FloatVal → FloatVal → FloatVal
  | .nan, _ => .nan
  | _, .nan => .nan
  | .inf a, .inf b => .inf (a != b)
  | .inf a, .fin n m _ => if m = 0 then .nan else .inf (a != n)
  | .fin n m _, .inf a => if m = 0 then .nan else .inf (a != n)
  | .fin n1 m1 e1, .fin n2 m2 e2 => .fin (n1 != n2) (m1 * m2) (e1 + e2)

/-- Add, rounded once. -/
def fadd (f : FloatFmt) (a b : Nat) : Nat := pack f (addVal (unpack f a) (unpack f b))
/-- Subtract, rounded once. -/
def fsub (f : FloatFmt) (a b : Nat) : Nat := pack f (addVal (unpack f a) (negVal (unpack f b)))
/-- Multiply, rounded once. -/
def fmul (f : FloatFmt) (a b : Nat) : Nat := pack f (mulVal (unpack f a) (unpack f b))
/-- a × b + c, rounded once. -/
def ffma (f : FloatFmt) (a b c : Nat) : Nat :=
  pack f (addVal (mulVal (unpack f a) (unpack f b)) (unpack f c))

/-- Quotient of two values rounded once into a format. -/
def divVal (f : FloatFmt) (a b : FloatVal) : Nat :=
  match a, b with
  | .nan, _ => f.nan
  | _, .nan => f.nan
  | .inf _, .inf _ => f.nan
  | .inf x, .fin n _ _ => pack f (.inf (x != n))
  | .fin n _ _, .inf x => pack f (.fin (n != x) 0 0)
  | .fin n1 m1 e1, .fin n2 m2 e2 =>
    if m2 = 0 then (if m1 = 0 then f.nan else pack f (.inf (n1 != n2)))
    else let p := scaleBy m1 m2 (e2 - e1); roundTo f (n1 != n2) p.1 p.2

/-- Divide, rounded once. -/
def fdiv (f : FloatFmt) (a b : Nat) : Nat := divVal f (unpack f a) (unpack f b)

/-- Convert between floating-point formats (R166, R167). -/
def fcvt (src dst : FloatFmt) (a : Nat) : Nat := pack dst (unpack src a)

/-- Convert an integer into a format. -/
def ofInt (f : FloatFmt) (i : Int) : Nat := roundTo f (decide (i < 0)) i.natAbs 1

/-- Exact value as a signed numerator over a power of two; used to compare finite values. -/
def ltVal : FloatVal → FloatVal → Bool
  | .nan, _ => false
  | _, .nan => false
  | .inf a, .inf b => a && !b
  | .inf a, .fin _ _ _ => a
  | .fin _ _ _, .inf b => !b
  | .fin n1 m1 e1, .fin n2 m2 e2 =>
    let e := min e1 e2
    decide (signedOf n1 (m1 * 2 ^ (e1 - e).toNat) < signedOf n2 (m2 * 2 ^ (e2 - e).toNat))

/-- A comparison with NaN is false. -/
def flt (f : FloatFmt) (a b : Nat) : Bool := ltVal (unpack f a) (unpack f b)

/-- Whether a value is NaN. -/
def isNan (f : FloatFmt) (a : Nat) : Bool := match unpack f a with | .nan => true | _ => false

/-- Equal as values; a comparison with NaN is false, and zeros of either sign are equal. -/
def feq (f : FloatFmt) (a b : Nat) : Bool :=
  !isNan f a && !isNan f b && !flt f a b && !flt f b a

/-- Whether a value is neither NaN nor infinite. -/
def isFinite (f : FloatFmt) (a : Nat) : Bool := match unpack f a with | .fin _ _ _ => true | _ => false

/-- A NaN is the canonical one (R165). -/
def canonNan (f : FloatFmt) (a : Nat) : Nat := if isNan f a then f.nan else a

/-- Maximum or minimum. What becomes of a NaN, and of two zeros of unlike signs, the spec does not state:
a free value (log 22), in which a NaN is still the canonical one (R165). -/
def fextreme (f : FloatFmt) (greatest : Bool) (a b : Nat) : Nat :=
  if isNan f a || isNan f b || (feq f a b && !decide (a = b)) then
    canonNan f (Config.extremeOpen greatest f.ebits (canonNan f a) (canonNan f b) % (2 * f.signBit))
  else if flt f a b then (if greatest then b else a) else (if greatest then a else b)

/-- Convert to an integer between lo and hi (R168): nearest, ties away, saturated; a NaN gives 0. Answers
the integer and whether it saturated. -/
def toInt (lo hi : Int) (f : FloatFmt) (a : Nat) : Int × Bool :=
  match unpack f a with
  | .nan => (0, false)
  | .inf neg => (if neg then lo else hi, true)
  | .fin neg m e =>
    let p := scaleBy m 1 (-e)
    let r := signedOf neg (roundDiv p.1 p.2)
    if r < lo then (lo, true) else if hi < r then (hi, true) else (r, false)

/-- An fp32 value to int8 under R168: −127 to 127. -/
def toInt8 (a : Nat) : Int × Bool := toInt (-127) 127 fp32 a

/-- Two's complement bits of an integer. -/
def intBits (w : Nat) (i : Int) : Nat := (i % 2 ^ w).toNat

/-- The integer that w two's complement bits hold. -/
def bitsInt (w v : Nat) : Int := if v % 2 ^ w < 2 ^ (w - 1) then (v % 2 ^ w : Nat) else (v % 2 ^ w : Nat) - (2 ^ w : Nat)

/-- Absolute value of bits of a format. -/
def fabs (f : FloatFmt) (a : Nat) : Nat := if isNan f a then f.nan else a % f.signBit

/-- Negation of bits of a format. -/
def fneg (f : FloatFmt) (a : Nat) : Nat :=
  if isNan f a then f.nan else (a + f.signBit) % (2 * f.signBit)

/-! ## VRCP, VRSQRT and VEXP2: the exact result rounded once -/

/-- 1 / a in fp32. -/
def frcp (a : Nat) : Nat := divVal fp32 (.fin false 1 0) (unpack fp32 a)

/-- Integer square root by bits: the greatest r built from bits n − 1 to 0 with r² ≤ v. -/
def isqrtBits (v : Nat) : Nat → Nat → Nat
  | 0, r => r
  | n + 1, r => let t := r + 2 ^ n; isqrtBits v n (if t * t ≤ v then t else r)

/-- 1 / √a in fp32. An irrational result never lies on a tie, so a root to 200 bits and a sticky bit
round as the exact result does. -/
def frsqrt (a : Nat) : Nat :=
  match unpack fp32 a with
  | .nan => fp32.nan
  | .inf neg => if neg then fp32.nan else 0
  | .fin neg m e =>
    if m = 0 then pack fp32 (.inf neg)
    else if neg then fp32.nan
    else
      let p := scaleBy (2 ^ 400) m e
      let q := isqrtBits (p.1 / p.2) 300 0
      roundTo fp32 false (2 * q + 1) (2 ^ 201)

/-- ln 2 × 2^256, rounded down. -/
def ln2Fixed : Nat := 0xb17217f7d1cf79abc9e3b39803f2f6af40f343267298b62d8a0d175b8baafa2b

/-- Σ y^k / k! from a term on, all in units of 2^(−256). -/
def expSeries (y : Nat) : Nat → Nat → Nat → Nat → Nat
  | 0, _, _, acc => acc
  | n + 1, k, term, acc => expSeries y n (k + 1) (term * y / 2 ^ 256 / (k + 1)) (acc + term)

/-- 2^f for f = fr / 2^160 in [0, 1), in units of 2^(−256). -/
def exp2Frac (fr : Nat) : Nat := expSeries (fr * ln2Fixed / 2 ^ 160) 64 0 (2 ^ 256) 0

/-- 2^a in fp32. A result that is no power of two is irrational and never lies on a tie. -/
def fexp2 (a : Nat) : Nat :=
  match unpack fp32 a with
  | .nan => fp32.nan
  | .inf neg => if neg then 0 else fp32.inf
  | .fin neg m e =>
    let p := scaleBy m 1 (-e)
    if 200 < p.1 / p.2 then (if neg then 0 else fp32.inf)
    else
      let fixed := signedOf neg (p.1 * 2 ^ 160 / p.2)
      let n := fixed / (2 ^ 160 : Nat)
      let r := scaleBy (exp2Frac (fixed % (2 ^ 160 : Nat)).toNat) (2 ^ 256) (-n)
      roundTo fp32 false r.1 r.2

/-! ## Group scales (R172, R173) -/

/-- Effective scale of a group with code c under an fp16 super-scale: none is poison; a zero group is
answered by the caller. -/
def groupScale (super c : Nat) : Option Nat :=
  match unpack fp16 super with
  | .fin false m e =>
    if m = 0 then none
    else let p := scaleBy (m * c) 255 (-e); some (roundTo fp32 false p.1 p.2)
  | _ => none

/-! ## Row quantisation (R175, R176) -/

/-- What quantising a row gives: scale, codes and how many saturated; none if the row is poison. -/
structure QuantRow where
  scale : Nat
  codes : List Int
  saturated : Nat
  deriving DecidableEq, Repr

/-- Largest magnitude of a row of fp32 values, as fp32 bits. -/
def absMax (row : List Nat) : Nat := row.foldl (fun m x => max m (x % fp32.signBit)) 0

/-- Codes of a row against an fp32 scale (step 4 of R175). -/
def quantCodes (scale : Nat) (row : List Nat) : List Int × Nat :=
  let l := row.map (fun x => toInt8 (fdiv fp32 x scale))
  (l.map (·.1), (l.filter (·.2)).length)

/-- Quantise a row of fp32 values (R175). -/
def quantRow (row : List Nat) : Option QuantRow :=
  if row.all (isFinite fp32) then
    let m := absMax row
    if m = 0 then some ⟨0x3F80_0000, row.map (fun _ => 0), 0⟩
    else
      let scale := fdiv fp32 m 0x42FE_0000
      some ⟨scale, (quantCodes scale row).1, (quantCodes scale row).2⟩
  else none

/-- Quantise a KV row of fp32 values (R176); the scale is fp16. -/
def quantKvRow (row : List Nat) : Option QuantRow :=
  if row.all (isFinite fp32) then
    let m := absMax row
    let zero : QuantRow := ⟨0x3C00, row.map (fun _ => 0), 0⟩
    if m = 0 then some zero
    else
      let t := fcvt fp32 fp16 (fdiv fp32 m 0x42FE_0000)
      if t = 0 then some zero
      else if t = fp16.inf then none
      else
        let c := quantCodes (fcvt fp16 fp32 t) row
        some ⟨t, c.1, c.2⟩
  else none

end Sys2Proof.Machine
end

