-- ==== Sys2Proof/Machine/Tiers.lean ====
section
/-! DEFINITION. Region entry writes, window updates, tensors, hints, pins, quotas and the tier mover
(R135 to R163). -/

namespace Sys2Proof.Machine

/-! ## Region entries as objects (R138, R139) -/

/-- Bits of a base word that are kept; the reserved bits are dropped (R8). -/
def baseMask (v : Nat) : Nat := bitsOf v 35 0 + bitsOf v 50 40 * 2 ^ 40 + bitsOf v 63 63 * 2 ^ 63

/-- Tenant codes a base word may hold (R139). -/
def tenantCode (n : Nat) : Bool := decide (n < 0x40) || decide (n = 0x7F)

/-- A page range lies wholly in the host window, the node windows or the host scratch (R139). -/
def hostReach (s : State) (first last : Nat) : Bool :=
  let within (lo hi : Nat) : Bool := decide (lo ≤ first * 4096) && decide ((last + 1) * 4096 ≤ hi)
  within windowBase windowEnd || within windowEnd nodeEnd || within windowBase nodeEnd || within (poolEnd s) generalEnd

/-- The base word that a limit word will go with: the pending one, or the one in force (R138). -/
def baseFor (s : State) (m e : Nat) : Nat :=
  agetD s.tiers.pendingBase (m * 16 + e) (s.val (0x2310 + m) (2 * e + 1))

/-- REGION_ENTRY_BASE: held as pending (R138). -/
def applyRegionBase (m e : Nat) (val : Bytes) (s : State) : Applied :=
  let v := baseMask (leNat val)
  guarded [(tenantCode (bitsOf v 50 44), abMalformed)]
    (fun s => accept (s.setTiers { s.tiers with pendingBase := aset s.tiers.pendingBase (m * 16 + e) v })) s

/-- REGION_ENTRY_LIMIT: base and limit apply as one change (R138, R139). -/
def applyRegionLimit (m e : Nat) (val : Bytes) (s : State) : Applied :=
  let base := baseFor s m e
  let limit := bitsOf (leNat val) 35 0
  guarded
    [(decide (bitsOf base 35 0 ≤ limit), abInconsistent),
     (!bitOf base 63 || hostReach s (bitsOf base 35 0) limit, abInconsistent)]
    (fun s => accept
      (((s.setTiers { s.tiers with pendingBase := adel s.tiers.pendingBase (m * 16 + e) }).setVal
        (0x2310 + m) (2 * e + 1) base).setVal (0x2310 + m) (2 * e + 2) limit)) s

/-- REGION_ENTRY_BASE. -/
def execRegionEntryBase (ch : Channel) (m : Fin 25) (e : Fin 16) (val : Bytes) (s : State) :
    Host.Outcome State Fault Refusal :=
  objectWrite ch (0x2310 + m.val) (2 * e.val + 1) val (applyRegionBase m.val e.val val) s

/-- REGION_ENTRY_LIMIT. -/
def execRegionEntryLimit (ch : Channel) (m : Fin 25) (e : Fin 16) (val : Bytes) (s : State) :
    Host.Outcome State Fault Refusal :=
  objectWrite ch (0x2310 + m.val) (2 * e.val + 2) val (applyRegionLimit m.val e.val val) s

/-- Base and limit word of an entry in force. -/
def RegionEntry.words (e : RegionEntry) : Nat × Nat :=
  (e.first + b2n e.r * 2 ^ 40 + b2n e.w * 2 ^ 41 + b2n e.x * 2 ^ 42 + b2n e.s * 2 ^ 43 + e.tenant * 2 ^ 44 + 2 ^ 63,
    e.last)

/-- What 0x2310 + m reads at a sub-index: entries 0 to 7 are the device's, 8 to 15 of masters 18 to 23
the host's, all others invalid (R139). -/
def regionWord (s : State) (m sub : Nat) : Nat :=
  let e := (sub - 1) / 2
  let own := if e < 8 then ((deviceEntries s m)[e]?).map RegionEntry.words else none
  match own with
  | some w => if sub % 2 = 1 then w.1 else w.2
  | none => if 8 ≤ e then s.val (0x2310 + m) sub else 0

/-- Tensor Pool and Host Scratch, 0x2300:01 and 0x2300:02, may change while nothing is placed there
(R135). -/
def holdIdle (s : State) : Bool :=
  !s.anyLive && s.tiers.places.all (fun p => !decide (p.1 = 0))
    && (List.range 6).all (fun i => (hostEntries s (18 + i)).all (fun e =>
        !overlaps (e.first * 4096) ((e.last + 1 - e.first) * 4096) (poolEnd s) (generalEnd - poolEnd s)))

/-! ## The host window (R149, R150) -/

/-- A tensor with home tier 3 lies over a window entry. -/
def windowHeld (s : State) (i : Nat) : Bool :=
  s.tiers.tensors.any (fun t => decide (t.home = 3)
    && overlaps t.homeAddr t.size (windowBase + i * 0x400_0000) 0x400_0000)

/-- WINDOW_UPDATE (R149). A record that leaves the entry as it is may come while a tensor lies over it. -/
def applyWindowUpdate (val : Bytes) (s : State) : Applied :=
  let i := fld val 0 2
  let flags := fld val 3 1
  let coded := bitOf flags 1
  let e : WindowEntry := ⟨fld val 2 1, coded, fld val 8 8, fld val 16 8⟩
  let same := decide (aget s.tiers.windows i = if bitOf flags 0 then some e else none)
  guarded
    [(decide (val.length = 24), abLength),
     (tenantCode (fld val 2 1) && decide (flags < 4) && zeroAt val 4 4 && (coded || zeroAt val 16 8), abMalformed),
     (same || !windowHeld s i, abNotIdle),
     (decide (i < 4096) && decide (fld val 8 8 % 4096 = 0) && decide (fld val 16 8 % 64 = 0), abRange)]
    (fun s =>
      let first := windowBase + i * 0x400_0000
      accept (s.setTiers { s.tiers with
        windows := if bitOf flags 0 then aset s.tiers.windows i e else adel s.tiers.windows i
        bufWindow := s.tiers.bufWindow.filter (fun p => !(decide (first ≤ p.1) && decide (p.1 < first + 0x400_0000))) })) s

/-- WINDOW_UPDATE. -/
def execWindowUpdate (ch : Channel) (val : Bytes) (s : State) : Host.Outcome State Fault Refusal :=
  objectWrite ch 0x2410 1 val (applyWindowUpdate val) s

/-- HOST_READ_TIMEOUT (R150): the read returns poison and a memory error is raised against the master. -/
def execHostReadTimeout (m : Fin 25) (addr : Nat) (s : State) : Host.Outcome State Fault Refusal :=
  if s.serves then .next ((sourceError 8 m.val addr s).emit
    (.access ⟨m, none, .read, addr, 0, [], none, .clean⟩ [⟨0, true⟩] .ok)) else .next s

/-! ## Tensors -/

/-- A tensor by its handle. -/
def tensorOf (s : State) (h : Nat) : Option Tensor := s.tiers.tensors.find? (fun t => decide (t.handle = h))

/-- Change a tensor. -/
def setTensor (s : State) (h : Nat) (f : Tensor → Tensor) : State :=
  s.setTiers { s.tiers with tensors := s.tiers.tensors.map (fun t => if t.handle = h then f t else t) }

/-- Owner of a handle: a tenant, or 0xFF for the device. -/
def ownerOf (h : Nat) : Nat := h / 2 ^ 24

/-- Quota of an owner in a tier, KiB: its tenant's quota or the device reserve (R158). -/
def tierQuota (s : State) (tier owner : Nat) : Nat :=
  if owner = 0xFF then s.val 0x2433 (tier + 1) else s.val (0x2430 + tier) (owner + 1)

/-- Target of a tensor (R153). -/
def target (s : State) (t : Tensor) : Nat :=
  if !t.weightOnly && decide (t.size ≤ s.val 0x2434 1 * 1024) then 0 else 1

/-- Tier a piece of work puts its result in. -/
def MoveKind.tier : MoveKind → Nat
  | .copyUp t => t | .moveUp => 0 | .moveDown => 1 | .drop t => t

/-- Whether a piece of mover work makes a place in a tier. -/
def Move.makes (m : Move) (tier : Nat) : Bool :=
  match m.kind with
  | .copyUp t => decide (t = tier)
  | .moveUp => decide (tier = 0)
  | .moveDown => decide (tier = 1)
  | .drop _ => false

/-- Places a tensor has in a tier: its home or a copy. -/
def Tensor.places (t : Tensor) (tier : Nat) : Nat :=
  b2n (decide (t.home = tier)) + b2n (decide (tier = 0) && t.copy0.isSome) + b2n (decide (tier = 1) && t.copy1.isSome)

/-- What the device reserve of tier 1 is charged beside tensors, KiB: the heads of loaded images (R220), a swap's
staging area (R229) and the expert record ring (R289). -/
def reserveExtra (s : State) : Nat :=
  ((s.images.slots.map (fun im =>
      match im.tier, im.head with
      | 1, some h => h.man.headLength / 1024
          + (if im.st = .loading then 4 * (h.tensorTable.map (·.blocks)).sum else 0)
      | _, _ => 0)).sum)
    + ((s.images.swap.map (fun j => j.area.2 / 1024)).getD 0) + s.val 0x2A01 1

/-- What an owner is charged in a tier, KiB (R158): the places its tensors have and those that the
given moves are making. -/
def tierUse (s : State) (tier owner : Nat) (moves : List Move) : Nat :=
  (if tier = 1 ∧ owner = 0xFF then reserveExtra s else 0) +
  ((s.tiers.tensors.filter (fun t => decide (ownerOf t.handle = owner))).map (fun t =>
    (t.places tier + (moves.filter (fun m => decide (m.handle = t.handle) && m.makes tier)).length) * (t.size / 1024))).sum

/-- Moves under way or landed. -/
def movesMade (s : State) : List Move := s.tiers.current.toList ++ s.tiers.landed

/-- Every move that has been asked for. -/
def movesAsked (s : State) : List Move := s.tiers.queue ++ movesMade s

/-- Use of an owner in a tier with everything asked for, KiB. -/
def tierCharge (s : State) (tier owner : Nat) : Nat := tierUse s tier owner (movesAsked s)

/-- What 0x2432 reports (R160): tier-0 use in the low half, tier-1 use in the high half. -/
def usageWord (s : State) (owner : Nat) : Nat :=
  tierUse s 0 owner (movesMade s) + tierUse s 1 owner (movesMade s) * 2 ^ 32

/-! ## Places -/

/-- First free address of a range for size bytes beside the used ranges: first fit (DESIGN CHOICE, log 19). -/
def firstFit (lo hi size : Nat) (used : List (Nat × Nat)) : Option Nat :=
  let starts := lo :: sortNat (used.map (fun p => alignUp (p.1 + p.2) 4096))
  starts.find? (fun a => decide (lo ≤ a) && decide (a + size ≤ hi) && used.all (fun p => !overlaps a size p.1 p.2))

/-- Ranges of a tier that are in use: tensors' places, and in tier 1 the KV partitions and the sealed
ranges. -/
def usedRanges (s : State) (tier : Nat) : List (Nat × Nat) :=
  (s.tiers.places.filter (fun p => decide (p.1 = tier))).map (·.2)
    ++ (if tier = 1 then
          ((List.range 8).map (fun n => (partitionBase s n, partitionBytes s n))).filter (fun p => !decide (p.2 = 0))
            ++ s.tiers.sealedRanges.map (fun p => (lpddrBase + p.2.first * 4096, p.2.pages * 4096))
        else [])

/-- A free place in a tier. -/
def findPlace (s : State) (tier size : Nat) : Option Nat :=
  if tier = 0 then firstFit (workEnd s) (poolEnd s) size (usedRanges s 0)
  else firstFit lpddrBase (lpddrBase + tier1Size s) size (usedRanges s 1)

/-- Take a place. -/
def takePlace (s : State) (tier a size : Nat) : State :=
  s.setTiers { s.tiers with places := s.tiers.places ++ [(tier, a, size)] }

/-- A place is freed at the next barrier (R152, R157, R163). -/
def freeLater (s : State) (tier a size : Nat) : State :=
  s.setTiers { s.tiers with toFree := s.tiers.toFree ++ [(tier, a, size)] }

/-- Drop the LPDDR expander's copies of blocks of a range (R182). -/
def dropRange (s : State) (a n : Nat) : State :=
  s.setTiers { s.tiers with bufLpddr := s.tiers.bufLpddr.filter (fun b => !(decide (a ≤ b) && decide (b < a + n))) }

/-- Write zero over a range of memory: contents and marks (R148, R266, a new home-1 tensor). Open blocks
of the range are rewritten in place. -/
def zeroRange (s : State) (a n : Nat) : State := dropRange (s.setMem (s.mem.clear a (a + n))) a n

/-- Lowest free sealed range number, 1 to 8 (R147). -/
def freeSealed (s : State) : Option Nat :=
  ((List.range 8).map (· + 1)).find? (fun i => (aget s.tiers.sealedRanges i).isNone)

/-- Set a sealed range over bytes of the tier-1 pool; the expander's copies of it go (R182). -/
def sealRange (s : State) (i a n : Nat) : State :=
  let s1 := dropRange s a n
  s1.setTiers { s1.tiers with sealedRanges := aset s1.tiers.sealedRanges i ⟨(a - lpddrBase) / 4096, n / 4096⟩ }

/-- Release a sealed range: zero is written to every block that leaves it first (R148). -/
def releaseSealed (s : State) (i : Nat) : State :=
  match aget s.tiers.sealedRanges i with
  | none => s
  | some r =>
    let s1 := zeroRange s (lpddrBase + r.first * 4096) (r.pages * 4096)
    s1.setTiers { s1.tiers with sealedRanges := adel s1.tiers.sealedRanges i }

/-- Free a place now; a sealed range over it is released. -/
def freePlace (s : State) (p : Nat × Nat × Nat) : State :=
  let s1 := s.setTiers { s.tiers with places := s.tiers.places.erase p }
  match s1.tiers.sealedRanges.find? (fun r => decide (lpddrBase + r.2.first * 4096 = p.2.1) && decide (r.2.pages * 4096 = p.2.2)) with
  | some r => if p.1 = 1 then releaseSealed s1 r.1 else s1
  | none => s1

/-! ## Eviction (R161 to R163) -/

/-- Eviction order of a hint: FAR, then AUTO and STREAM, then NEAR_PREFER, then NEAR_PIN (pinned anyway). -/
def hintRank : Nat → Nat
  | 4 => 0 | 0 => 1 | 3 => 1 | 2 => 2 | _ => 3

/-- Whether a piece of work on a handle has been asked for. -/
def hasMove (s : State) (h : Nat) : Bool := (movesAsked s).any (fun m => decide (m.handle = h))

/-- Whether a piece of work on a handle is under way or has landed. -/
def isMoving (s : State) (h : Nat) : Bool := (movesMade s).any (fun m => decide (m.handle = h))

/-- May be chosen for eviction from a tier (R161): not pinned, resident, an RO copy there, or an RW home in tier 0 whose
owner's tier-1 quota can take it (that the tier below must have room is a DESIGN CHOICE, log 110: R161 is silent). -/
def evictable (s : State) (tier : Nat) (t : Tensor) : Bool :=
  decide (t.pins = 0) && decide (t.st = .resident) && !isMoving s t.handle &&
    (if t.rw then decide (tier = 0) && decide (t.home = 0)
        && decide (tierCharge s 1 (ownerOf t.handle) + t.size / 1024 ≤ tierQuota s 1 (ownerOf t.handle))
     else if tier = 0 then t.copy0.isSome else t.copy1.isSome)

/-- The order in which an owner's objects are evicted (R161). -/
def evictsBefore (a b : Tensor) : Bool :=
  if a.rw ≠ b.rw then !a.rw
  else if hintRank a.hint ≠ hintRank b.hint then decide (hintRank a.hint < hintRank b.hint)
  else decide (a.lastUsed ≤ b.lastUsed)

/-- What may be evicted of an owner in a tier, in order. -/
def candidates (s : State) (tier owner : Nat) : List Tensor :=
  sortBy evictsBefore (s.tiers.tensors.filter (fun t => decide (ownerOf t.handle = owner) && evictable s tier t))

/-- What can be evicted beside the work already asked for, in order. -/
def victims (s : State) (tier owner : Nat) : List Tensor :=
  (candidates s tier owner).filter (fun t => !hasMove s t.handle)

/-- A piece of work empties a place in a tier. -/
def Move.leaves (m : Move) (tier : Nat) : Bool :=
  match m.kind with
  | .drop t => decide (t = tier)
  | .moveDown => decide (tier = 0)
  | .moveUp => decide (tier = 1)
  | .copyUp _ => false

/-- KiB of an owner's places in a tier that some moves will empty. -/
def leaving (s : State) (tier owner : Nat) (moves : List Move) : Nat :=
  ((s.tiers.tensors.filter (fun t => decide (ownerOf t.handle = owner))).map (fun t =>
    (moves.filter (fun m => decide (m.handle = t.handle) && m.leaves tier)).length * (t.size / 1024))).sum

/-- The eviction of a tensor from a tier. -/
def evictionOf (t : Tensor) (tier cls : Nat) : Move :=
  ⟨t.handle, if t.rw then .moveDown else .drop tier, cls, 0⟩

/-- The first objects of a list whose sizes reach a number of KiB. -/
def enough : List Tensor → Nat → List Tensor
  | _, 0 => []
  | [], _ => []
  | t :: r, need + 1 => t :: enough r (need + 1 - t.size / 1024)

/-- Queue mover work. -/
def queueMoves (s : State) (l : List Move) : State := s.setTiers { s.tiers with queue := s.tiers.queue ++ l }

/-- KiB that must be evicted before an owner can be charged more in a tier. -/
def shortfall (s : State) (tier owner kib : Nat) : Nat :=
  tierCharge s tier owner + kib - tierQuota s tier owner

/-- Whether an owner's own evictable objects make up a shortfall. -/
def canEvict (s : State) (tier owner need : Nat) : Bool :=
  decide (need ≤ ((victims s tier owner).map (fun t => t.size / 1024)).sum)

/-- Queue the evictions that make room in a tier. -/
def makeRoom (s : State) (tier owner need cls : Nat) : State :=
  queueMoves s ((enough (victims s tier owner) need).map (fun t => evictionOf t tier cls))

/-- The move that puts a tensor into its target, if it is not there (R153). -/
def wanted (s : State) (t : Tensor) : Option (MoveKind × Nat) :=
  if t.rw then (if target s t = 0 ∧ t.home = 1 then some (.moveUp, 0) else none)
  else if target s t = 0 then (if t.home ≠ 0 ∧ t.copy0 = none then some (.copyUp 0, 0) else none)
  else if 1 < t.home ∧ t.copy1 = none then some (.copyUp 1, 1) else none

/-- KiB that must still be evicted for a tensor's place in a tier, beside what already leaves. -/
def pinNeed (s : State) (tier : Nat) (t : Tensor) : Nat :=
  shortfall s tier (ownerOf t.handle) (t.size / 1024) - leaving s tier (ownerOf t.handle) (movesAsked s)

/-- NEAR_PIN finds or can make its place (R155). -/
def pinFits (s : State) (t : Tensor) : Bool :=
  match wanted s t with
  | none => true
  | some (_, tier) => canEvict s tier (ownerOf t.handle) (pinNeed s tier t)

/-- Ask for NEAR_PIN's place: evictions of class 3, the move of class 2 (R156). -/
def pinPlace (s : State) (t : Tensor) : State :=
  match wanted s t with
  | none => s
  | some (k, tier) =>
    queueMoves (makeRoom s tier (ownerOf t.handle) (pinNeed s tier t) 3) [⟨t.handle, k, 2, 0⟩]

/-- Room for a tensor in a tier without any eviction. -/
def hasRoom (s : State) (t : Tensor) (tier : Nat) : Bool := decide (shortfall s tier (ownerOf t.handle) (t.size / 1024) = 0)

/-- What a hint asks for at once or at a barrier: NEAR_PREFER moves up when the quota has room; STREAM
and FAR keep no copies and no tier-0 home (R153; for STREAM's existing copies DEDUCED, log 20); AUTO moves up
after eight turns of use, at a barrier alone (R154). -/
def hintMove (barrier : Bool) (s : State) (t : Tensor) : List Move :=
  if hasMove s t.handle ∨ t.st ≠ .resident then []
  else if t.hint = 2 then
    match wanted s t with
    | some (k, tier) => if hasRoom s t tier then [⟨t.handle, k, 4, 0⟩] else []
    | none => []
  else if t.hint = 3 ∨ t.hint = 4 then
    if 0 < t.pins then []
    else if t.rw then (if t.home = 0 then [⟨t.handle, .moveDown, 5, 0⟩] else [])
    else (if t.copy0.isSome then [⟨t.handle, .drop 0, 5, 0⟩] else [])
      ++ (if t.copy1.isSome then [⟨t.handle, .drop 1, 5, 0⟩] else [])
  else if barrier ∧ t.hint = 0 ∧ 8 ≤ t.streak ∧ t.lastUsed = s.turns % 2 ^ 32 then
    if t.rw then (if target s t = 0 ∧ t.home = 1 ∧ hasRoom s t 0 then [⟨t.handle, .moveUp, 4, 0⟩] else [])
    else if t.home = 3 ∧ t.copy1 = none ∧ hasRoom s t 1 then [⟨t.handle, .copyUp 1, 4, 0⟩] else []
  else []

/-- Ask for what a tensor's hint wants, between turn barriers or at one. -/
def askHint (barrier : Bool) (s : State) (h : Nat) : State :=
  match tensorOf s h with
  | none => s
  | some t => queueMoves s (hintMove barrier s t)

/-! ## Tensor commands (R151 to R155) -/

/-- Handle of a tensor command: filled with the tenant under class T. -/
def commandHandle (ch : Channel) (val : Bytes) : Nat :=
  match chanTenant ch with
  | some t => fld val 4 3 + t * 2 ^ 24
  | none => fld val 4 4

/-- The structure of a tensor command (R7). An op or a hint that no table lists, and a handle owner of 0x40 to 0xFE, are
taken for reserved encodings, so malformed and not out of range (DESIGN CHOICE, log 116). -/
def commandForm (ch : Channel) (val : Bytes) : Bool :=
  let op := fld val 0 1
  let create := decide (op = 1)
  decide (1 ≤ op) && decide (op ≤ 5)
    && (if op = 1 ∨ op = 3 then decide (fld val 1 1 ≤ 4) else zeroAt val 1 1)
    && (if create then decide (fld val 2 1 < 2) else zeroAt val 2 1)
    && (create || zeroAt val 3 1) && (create || zeroAt val 8 8)
    && (if create ∧ fld val 3 1 = 3 then true else zeroAt val 16 8) && zeroAt val 24 8
    && (match chanTenant ch with
        | some _ => zeroAt val 7 1
        | none => decide (fld val 7 1 < 0x40) || decide (fld val 7 1 = 0xFF))

/-- The ranges of a tensor command's values (R374). -/
def commandRange (val : Bytes) : Bool :=
  !decide (fld val 4 3 = 0) &&
    (if fld val 0 1 = 1 then
      (decide (fld val 3 1 = 1) || decide (fld val 3 1 = 3))
        && decide (4096 ≤ fld val 8 8) && decide (fld val 8 8 ≤ 2 ^ 32) && decide (fld val 8 8 % 4096 = 0)
        && decide (fld val 16 8 % 4096 = 0)
     else true)

/-- Checks shared by every tensor command. -/
def commandChecks (ch : Channel) (op : Nat) (val : Bytes) : List (Bool × Nat) :=
  [(decide (val.length = 32), abLength), (commandForm ch val && decide (fld val 0 1 = op), abMalformed),
   (commandRange val, abRange)]

/-- A home-3 range lies wholly within valid window entries of the tenant or the host driver (R152). -/
def sourceOwned (s : State) (a n owner : Nat) : Bool :=
  decide (windowBase ≤ a) && decide (a + n ≤ windowEnd) &&
    (List.range (n / 0x400_0000 + 2)).all (fun i =>
      let e := (a - windowBase) / 0x400_0000 + i
      decide (a + n ≤ windowBase + e * 0x400_0000) ||
        (match aget s.tiers.windows e with
         | some w => decide (w.owner = owner) || decide (w.owner = 0x7F)
         | none => false))

/-- A tensor as CREATE makes it. -/
def newTensor (h hint size home addr : Nat) (rw : Bool) : Tensor where
  handle := h
  home := home
  st := .resident
  hint := hint
  rw := rw
  weightOnly := false
  shared := false
  homeAddr := addr
  copy0 := none
  copy1 := none
  size := size
  pins := b2n (decide (hint = 1))
  nearPin := decide (hint = 1)
  lastUsed := 0
  streak := 0

/-- A tensor joins the table with what its hint asks for. -/
def addTensor (s : State) (t : Tensor) : State :=
  let s1 := s.setTiers { s.tiers with tensors := s.tiers.tensors ++ [t] }
  if t.hint = 1 then pinPlace s1 t else askHint false s1 t.handle

/-- CREATE (R152, R155). -/
def applyCreate (ch : Channel) (val : Bytes) (s : State) : Applied :=
  let h := commandHandle ch val
  let size := fld val 8 8
  let home := fld val 3 1
  let rw := bitOf (fld val 2 1) 0
  let owner := ownerOf h
  let t := newTensor h (fld val 1 1) size home (fld val 16 8) rw
  guarded
    (commandChecks ch 1 val ++
      [((tensorOf s h).isNone && !(rw && decide (home = 3))
          && (decide (home = 1) || sourceOwned s (fld val 16 8) size owner), abInconsistent),
       (decide (s.tiers.tensors.length < 65536), abNoEntry),
       (!decide (home = 1) || (decide (shortfall s 1 owner (size / 1024) = 0) && (findPlace s 1 size).isSome), abQuota),
       (!decide (fld val 1 1 = 1) || pinFits s t, abQuota)])
    (fun s =>
      if home = 1 then
        let a := (findPlace s 1 size).getD 0
        accept (addTensor (takePlace (zeroRange s a size) 1 a size) { t with homeAddr := a })
      else accept (addTensor s t)) s

/-- Checks of a command on a tensor that must exist (R152). -/
def handleChecks (ch : Channel) (op : Nat) (val : Bytes) (s : State) : List (Bool × Nat) :=
  commandChecks ch op val ++ [((tensorOf s (commandHandle ch val)).isSome, abExists)]

/-- The tensor of a command, where the checks have found it. -/
def commandTensor (ch : Channel) (val : Bytes) (s : State) : Tensor :=
  (tensorOf s (commandHandle ch val)).getD (newTensor 0 0 0 1 0 false)

/-- Free every place of a tensor at the next barrier. -/
def freeTensor (s : State) (t : Tensor) : State :=
  let s1 := if t.home ≤ 1 then freeLater s t.home t.homeAddr t.size else s
  let s2 := match t.copy0 with | some a => freeLater s1 0 a t.size | none => s1
  match t.copy1 with | some a => freeLater s2 1 a t.size | none => s2

/-- DESTROY (R152): refused while a pin is held. -/
def applyDestroy (ch : Channel) (val : Bytes) (s : State) : Applied :=
  guarded (handleChecks ch 2 val s ++ [(decide ((commandTensor ch val s).pins = 0), abNotIdle)])
    (fun s =>
      let t := commandTensor ch val s
      let s1 := freeTensor s t
      accept (s1.setTiers { s1.tiers with
        tensors := s1.tiers.tensors.filter (fun x => !decide (x.handle = t.handle))
        queue := s1.tiers.queue.filter (fun m => !decide (m.handle = t.handle)) })) s

/-- SET_HINT (R155): NEAR_PIN takes a pin and its place; leaving it releases that pin. -/
def applySetHint (ch : Channel) (val : Bytes) (s : State) : Applied :=
  let hint := fld val 1 1
  let t := commandTensor ch val s
  let takes := decide (hint = 1) && !t.nearPin
  guarded
    (handleChecks ch 3 val s ++
      [(!(takes && decide (t.pins = 65535)), abRange), (!takes || pinFits s t, abQuota)])
    (fun s =>
      if hint = 1 then
        if t.nearPin then accept s
        else accept (setTensor (pinPlace s t) t.handle (fun t => { t with hint := 1, pins := t.pins + 1, nearPin := true }))
      else
        accept (askHint false (setTensor s t.handle (fun t =>
          { t with hint := hint, pins := t.pins - b2n t.nearPin, nearPin := false })) t.handle)) s

/-- PIN (R155). -/
def applyPin (ch : Channel) (val : Bytes) (s : State) : Applied :=
  guarded (handleChecks ch 4 val s ++ [(decide ((commandTensor ch val s).pins < 65535), abRange)])
    (fun s => accept (setTensor s (commandHandle ch val) (fun t => { t with pins := t.pins + 1 }))) s

/-- UNPIN (R155). The pin that NEAR_PIN holds is the last one an UNPIN removes (DESIGN CHOICE, log 110: the rule does not
say whether it may). -/
def applyUnpin (ch : Channel) (val : Bytes) (s : State) : Applied :=
  guarded
    (handleChecks ch 5 val s ++
      [(decide (0 < (commandTensor ch val s).pins), abRange)])
    (fun s => accept (setTensor s (commandHandle ch val) (fun t =>
      { t with pins := t.pins - 1, nearPin := t.nearPin && decide (1 < t.pins) }))) s

/-- Every write of 0x2420:01. -/
def applyTensorCommand (ch : Channel) (val : Bytes) (s : State) : Applied :=
  if val.length = 32 then
    match fld val 0 1 with
    | 1 => applyCreate ch val s
    | 2 => applyDestroy ch val s
    | 3 => applySetHint ch val s
    | 4 => applyPin ch val s
    | 5 => applyUnpin ch val s
    | _ => refuse abMalformed s
  else refuse abLength s

/-- CREATE. -/
def execTensorCreate (ch : Channel) (val : Bytes) (s : State) : Host.Outcome State Fault Refusal :=
  objectWrite ch 0x2420 1 val (applyCreate ch val) s

/-- DESTROY. -/
def execTensorDestroy (ch : Channel) (val : Bytes) (s : State) : Host.Outcome State Fault Refusal :=
  objectWrite ch 0x2420 1 val (applyDestroy ch val) s

/-- SET_HINT. -/
def execTensorSetHint (ch : Channel) (val : Bytes) (s : State) : Host.Outcome State Fault Refusal :=
  objectWrite ch 0x2420 1 val (applySetHint ch val) s

/-- PIN. -/
def execTensorPin (ch : Channel) (val : Bytes) (s : State) : Host.Outcome State Fault Refusal :=
  objectWrite ch 0x2420 1 val (applyPin ch val) s

/-- UNPIN. -/
def execTensorUnpin (ch : Channel) (val : Bytes) (s : State) : Host.Outcome State Fault Refusal :=
  objectWrite ch 0x2420 1 val (applyUnpin ch val) s

/-- The 32-byte record of a tensor, 0x2421:02. -/
def tensorRecord (t : Tensor) : Bytes :=
  leBytes 4 t.handle ++ leBytes 1 t.home
    ++ leBytes 1 (match t.st with | .resident => 0 | .movingUp => 1 | .movingDown => 2) ++ leBytes 1 t.hint
    ++ leBytes 1 (b2n t.rw + 2 * b2n t.weightOnly + 4 * b2n t.shared + 8 * b2n t.copy0.isSome + 16 * b2n t.copy1.isSome)
    ++ leBytes 8 t.size ++ leBytes 2 t.pins ++ [0, 0] ++ leBytes 4 t.lastUsed ++ List.replicate 8 0

/-! ## Quotas (R159) -/

/-- The tier-0 quotas and reserve, or the tier-1 ones, KiB. -/
def quotaSum (s : State) (tier : Nat) : Nat :=
  ((List.range 64).map (fun t => tierQuota s tier t)).sum + tierQuota s tier 0xFF

/-- KiB that a tier's quotas may add up to (R159). -/
def tierPool (s : State) (tier : Nat) : Nat :=
  if tier = 0 then s.val 0x2300 1 else (tier1Size s - kvBytes s) / 1024

/-- Evict the evictable RO copies of an owner beyond its quota (R159). -/
def shrinkToQuota (s : State) (tier owner : Nat) : State :=
  let l := (victims s tier owner).filter (fun t => !t.rw)
  queueMoves s ((enough l (shortfall s tier owner 0)).map (fun t => evictionOf t tier 5))

/-- Owner and tier that a quota object belongs to. -/
def quotaOwner (idx sub : Nat) : Nat × Nat :=
  if idx = 0x2433 then (0xFF, sub - 1) else (sub - 1, idx - 0x2430)

/-- TIER_QUOTA_WRITE (R159). -/
def applyTierQuota (idx sub : Nat) (val : Bytes) (s : State) : Applied :=
  let o := quotaOwner idx sub
  let s1 := s.setVal idx sub (leNat val)
  guarded [(decide (quotaSum s1 o.2 ≤ tierPool s o.2), abInconsistent)]
    (fun _ => accept (shrinkToQuota s1 o.2 o.1)) s

/-- The objects of TIER_QUOTA_WRITE. -/
def isTierQuota (idx sub : Nat) : Bool :=
  (decide (idx = 0x2430 ∨ idx = 0x2431) && decide (1 ≤ sub) && decide (sub ≤ 64))
    || (decide (idx = 0x2433) && decide (1 ≤ sub) && decide (sub ≤ 2))

/-! ## The mover (R156, R157) -/

/-- An eviction is still chosen (R161, R162): the tensor's hint asks for it, or its owner's places and what is asked for
exceed the quota and it is among those that make up the excess. A tensor that is moving waits until it is RESIDENT. -/
def stillChosen (s : State) (t : Tensor) (tier : Nat) : Bool :=
  let owner := ownerOf t.handle
  decide (t.pins = 0) && (isMoving s t.handle || decide (t.hint = 3) || decide (t.hint = 4) ||
    (enough (candidates s tier owner) (shortfall s tier owner 0 - leaving s tier owner (movesMade s))).any
      (fun x => decide (x.handle = t.handle)))

/-- A move up is still wanted: class 2 by NEAR_PIN, class 4 by NEAR_PREFER or AUTO (R153, R156). -/
def stillWanted (t : Tensor) (m : Move) : Bool := if m.cls = 2 then t.nearPin else decide (t.hint = 0 ∨ t.hint = 2)

/-- Work falls away that is no longer asked for: on tensors that are gone, evictions no longer chosen (R162), and moves up
that the hint no longer wants or that have been made. -/
def stillAsked (s : State) (m : Move) : Bool :=
  match tensorOf s m.handle with
  | none => false
  | some t => match m.kind with
    | .drop tier => (if tier = 0 then t.copy0.isSome else t.copy1.isSome) && stillChosen s t tier
    | .moveDown => decide (t.home = 0) && stillChosen s t 0
    | .moveUp => decide (t.home = 1) && stillWanted t m
    | .copyUp tier => (if tier = 0 then t.copy0.isNone else t.copy1.isNone) && stillWanted t m

/-- Whether a piece of work can start: the tensor is resident (R162), and a new place fits the owner's
quota and the pool. -/
def canStart (s : State) (m : Move) : Option Move :=
  match tensorOf s m.handle with
  | none => none
  | some t =>
    if t.st ≠ .resident then none
    else match m.kind with
      | .drop _ => some m
      | k =>
        let tier := match k with | .copyUp n => n | .moveUp => 0 | _ => 1
        let fits := tierUse s tier (ownerOf t.handle) (movesMade s) + t.size / 1024 ≤ tierQuota s tier (ownerOf t.handle)
        if fits ∧ (!t.weightOnly ∨ (freeSealed s).isSome) then
          (findPlace s tier t.size).map (fun a => { m with dest := a })
        else none

/-- The queued work in the order of classes, request order within a class. -/
def byClass (l : List Move) : List Move :=
  (List.range 6).flatMap (fun c => l.filter (fun m => decide (m.cls = c)))

/-- Start a piece of work: its place is taken, a weight-only copy's sealed range is set, the tensor
moves. -/
def startMove (s : State) (asked m : Move) : State :=
  let s1 := s.setTiers { s.tiers with queue := s.tiers.queue.erase asked, current := some m }
  match tensorOf s m.handle with
  | none => s1
  | some t =>
    match m.kind with
    | .drop _ => s1
    | .copyUp tier =>
      let s2 := setTensor (takePlace s1 tier m.dest t.size) m.handle (fun t => { t with st := .movingUp })
      if t.weightOnly then sealRange s2 ((freeSealed s2).getD 1) m.dest t.size else s2
    | .moveUp => setTensor (takePlace s1 0 m.dest t.size) m.handle (fun t => { t with st := .movingUp })
    | .moveDown => setTensor (takePlace s1 1 m.dest t.size) m.handle (fun t => { t with st := .movingDown })

/-- Work of class 1 is left: copies to fetch again and homes to move back after a WATCH exit (R59, R156), which the next
turn barrier does. -/
def classOneLeft (s : State) : Bool := !(s.power.refetch.isEmpty && s.power.movedDown.isEmpty)

/-- TIER_MOVE_START (R156): the first piece of work in class order that can start. -/
def execTierMoveStart (s : State) : Host.Outcome State Fault Refusal :=
  if !s.running || s.tiers.current.isSome || classOneLeft s then .next s
  else
    let s1 := s.setTiers { s.tiers with queue := s.tiers.queue.filter (stillAsked s) }
    match (byClass s1.tiers.queue).findSome? (fun m => (canStart s1 m).map (fun m' => (m, m'))) with
    | some (m, m') => .next (startMove s1 m m')
    | none => .next s1

/-- Query of the mover for a tensor: made for its tenant (R136), special for weight-only contents. -/
def moverQuery (s : State) (t : Tensor) (kind : AccessKind) : Query :=
  { query s 24 kind with
    tenant := if ownerOf t.handle = 0xFF then none else some (ownerOf t.handle)
    special := t.weightOnly }

/-- What becomes of a copy: done, waiting for a flash bank, or met by poison. -/
inductive CopyEnd where
  | done
  | waits
  | poisoned
  deriving DecidableEq, Repr

/-- Copy a tensor's bytes through the expander and the encoder (The tier mover). A copy that reads poison
is abandoned (Reporting path by master). -/
def moveBytes (s : State) (t : Tensor) (src dst : Nat) : State × CopyEnd :=
  let r := memRead (moverQuery s t .read) s src t.size
  match r.2.2 with
  | .stalled _ => (s, .waits)
  | _ =>
    if anyBad r.2.1 then (r.1, .poisoned)
    else ((memWrite (moverQuery s t .write) r.1 dst r.2.1).1, .done)

/-- A move is abandoned: the tensor stays at its old home and the new place is freed. -/
def abandonMove (s : State) (m : Move) (tier size : Nat) : State :=
  freeLater (setTensor s m.handle (fun t => { t with st := .resident })) tier m.dest size

/-- Work that is done waits for the barrier. -/
def landMove (s : State) (m : Move) : State :=
  s.setTiers { s.tiers with current := none, landed := s.tiers.landed ++ [m] }

/-- The bytes of a move are copied: it waits for the barrier, is abandoned, or goes on where a flash bank is waited for. -/
def endCopy (s : State) (m : Move) (t : Tensor) (src : Nat) : State :=
  let r := moveBytes s t src m.dest
  match r.2 with
  | .done => landMove r.1 m
  | .waits => s
  | .poisoned => abandonMove (r.1.setTiers { r.1.tiers with current := none }) m m.kind.tier t.size

/-- TIER_MOVE_DONE (R157): the new place has the tensor's bytes; from here to the barrier, writes to an RW tensor reach
both homes (storeBoth). -/
def execTierMoveDone (s : State) : Host.Outcome State Fault Refusal :=
  if !s.running then .next s
  else match s.tiers.current with
  | none => .next s
  | some m =>
    match m.kind, tensorOf s m.handle with
    | .copyUp _, some t => .next (endCopy s m t (t.copy1.getD t.homeAddr))
    | .moveUp, some t => .next (endCopy s m t t.homeAddr)
    | .moveDown, some t => .next (endCopy s m t t.homeAddr)
    | _, _ => .next (landMove s m)

/-- Bytes of a place whose tensor is gone. -/
def landedSize (s : State) (m : Move) (tier : Nat) : Nat :=
  ((s.tiers.places.find? (fun p => decide (p.1 = tier) && decide (p.2.1 = m.dest))).map (·.2.2)).getD 0

/-- A landed piece of work takes effect at the barrier (R19, R157, R163); an eviction does not take a place that has been
pinned since (R155). -/
def applyLanded (s : State) (m : Move) : State :=
  match tensorOf s m.handle with
  | none => (match m.kind with
    | .drop _ => s
    | k => freeLater s k.tier m.dest (landedSize s m k.tier))
  | some t =>
    let done (f : Tensor → Tensor) (s : State) : State := setTensor s m.handle (fun t => { f t with st := .resident })
    match m.kind with
    | .copyUp tier =>
      done (fun t => if tier = 0 then { t with copy0 := some m.dest } else { t with copy1 := some m.dest }) s
    | .moveUp => freeLater (done (fun t => { t with home := 0, homeAddr := m.dest }) s) 1 t.homeAddr t.size
    | .moveDown =>
      if 0 < t.pins then abandonMove s m 1 t.size
      else freeLater (done (fun t => { t with home := 1, homeAddr := m.dest }) s) 0 t.homeAddr t.size
    | .drop tier =>
      match (if tier = 0 then t.copy0 else t.copy1), t.pins with
      | none, _ => s
      | some _, _ + 1 => s
      | some a, 0 => freeLater (done (fun t => if tier = 0 then { t with copy0 := none } else { t with copy1 := none }) s) tier a t.size

/-- Every landed piece of work takes effect. -/
def landAll (s : State) : State :=
  let s1 := s.tiers.landed.foldl applyLanded s
  s1.setTiers { s1.tiers with landed := [] }

/-- What the tiers do at a turn barrier: landed work takes effect, places are freed, and hints ask for
their moves. -/
def tierBarrier (s : State) : State :=
  let s2 := landAll s
  let s3 := s2.tiers.toFree.foldl freePlace s2
  let s4 := s3.setTiers { s3.tiers with toFree := [] }
  (s4.tiers.tensors.map (·.handle)).foldl (askHint true) s4

/-- Move an RW tensor's home to a tier at once, for WATCH and back (R59): false where no place takes it. -/
def rehome (s : State) (h tier : Nat) : State × Bool :=
  match tensorOf s h with
  | none => (s, true)
  | some t =>
    if t.home = tier then (s, true)
    else match findPlace s tier t.size with
      | none => (s, false)
      | some a =>
        let r := moveBytes (takePlace s tier a t.size) t t.homeAddr a
        if r.2 = .done then
          (freePlace (setTensor r.1 h (fun t => { t with home := tier, homeAddr := a, st := .resident })) (t.home, t.homeAddr, t.size), true)
        else (freePlace r.1 (tier, a, t.size), false)

/-- Fetch a tier-0 copy of an RO tensor again from its lower-tier original (R59). Answers whether nothing is left to
fetch. -/
def refetchCopy (s : State) (h : Nat) : State × Bool :=
  match tensorOf s h with
  | none => (s, true)
  | some t =>
    if t.rw || t.copy0.isSome || decide (t.home = 0) then (s, true)
    else match findPlace s 0 t.size with
      | none => (s, false)
      | some a =>
        let r := moveBytes (takePlace s 0 a t.size) t ((t.copy1).getD t.homeAddr) a
        if r.2 = .done then (setTensor r.1 h (fun t => { t with copy0 := some a }), true)
        else (freePlace r.1 (0, a, t.size), false)

/-- A copy to fetch again has a place and waits for its original to be readable. -/
def refetchWaits (s : State) : Bool :=
  s.power.refetch.any (fun h => match tensorOf s h with
    | some t => (findPlace s 0 t.size).isSome
    | none => false)

/-- The mover has nothing to do that can be done (R18). -/
def moverIdle (s : State) : Bool := s.tiers.current.isNone && s.tiers.queue.all (fun m => (canStart s m).isNone)

/-- A turn uses the tensor that an address lies in: last_used and the run of consecutive turns (R154). -/
def touchTensor (s : State) (a : Nat) : State :=
  if s.tiers.tensors = [] then s
  else
    let now := s.turns % 2 ^ 32
    let holds (t : Tensor) : Bool :=
      overlaps a 1 t.homeAddr t.size || (match t.copy0 with | some b => overlaps a 1 b t.size | none => false)
        || (match t.copy1 with | some b => overlaps a 1 b t.size | none => false)
    s.setTiers { s.tiers with tensors := s.tiers.tensors.map (fun t =>
      if !holds t then t
      else if t.lastUsed = now ∧ 0 < t.streak then t
      else { t with lastUsed := now, streak := if (t.lastUsed + 1) % 2 ^ 32 = now then t.streak + 1 else 1 }) }

end Sys2Proof.Machine
end

