-- ==== Sys2Proof/Machine/Kv.lean ====
section
/-! DEFINITION. Key-value pages and the prefix tree: sets, page tables, the block hash, lookup,
publication, eviction and damage (R263 to R278). -/

namespace Sys2Proof.Machine

/-- Change the KV state. -/
def State.setKv (s : State) (k : Kv) : State := { s with kv := k }

/-- Change the serving state. -/
def State.setServing (s : State) (x : Serving) : State := { s with serving := x }

/-- A berth in use. -/
def berthOf (s : State) (n : Nat) : Option Berth := s.serving.berths.find? (fun b => decide (b.num = n))

/-- Change a berth. -/
def setBerth (s : State) (n : Nat) (f : Berth → Berth) : State :=
  s.setServing { s.serving with berths := s.serving.berths.map (fun b => if b.num = n then f b else b) }

/-- The manifest of the image in a slot. -/
def manifestOf (s : State) (slot : Nat) : Option Manifest := ((s.images.slots[slot]?).bind (·.head)).map (·.man)

/-- Object index of a tenant: T + off with T = 0x3000 + 0x40 t. -/
def tenantObj (t off : Nat) : Nat := 0x3000 + 0x40 * t + off

/-! ## Geometry (R263, R264) -/

/-- Positions a set covers: 16 × B. -/
def Manifest.span (m : Manifest) : Nat := 16 * m.blocksPerPage

/-- R263: what check 7 of the image checks asks of the page shape. -/
def Manifest.pagesFit (m : Manifest) : Bool :=
  decide (1 ≤ m.blocksPerPage) && decide (m.blocksPerPage * 16 * m.kvHeads * 2 * (m.headDim + 2) ≤ 16384)
    && decide ((m.maxContext + m.span - 1) / m.span ≤ 8192)

/-- Row number of head h, kind k, position p of slot j within a page. -/
def pageRow (m : Manifest) (j h k p : Nat) : Nat := ((j * m.kvHeads + h) * 2 + k) * 16 + p

/-- Byte of code column c of a row within its page (R264). -/
def codeByte (m : Manifest) (j h k p c : Nat) : Nat := pageRow m j h k p * m.headDim + c

/-- Byte of the fp16 scale of a row within its page (R264). -/
def scaleByte (m : Manifest) (j h k p : Nat) : Nat :=
  m.blocksPerPage * 32 * m.kvHeads * m.headDim + pageRow m j h k p * 2

/-- Base of a set (R265). -/
def setAddr (s : State) (slot set : Nat) : Nat := partitionBase s slot + set * setBytes s slot

/-- Pages of a set: one for each layer held. -/
def setPages (s : State) (slot : Nat) : Nat := (heldLayers s slot).length

/-! ## Sets (R266) -/

/-- A free set. -/
def KvSet.free : KvSet := ⟨.free, 0, 0, none⟩

/-- The descriptor of a set. -/
def kvSet (s : State) (slot n : Nat) : KvSet := agetD s.kv.sets (slot, n) KvSet.free

/-- Change the descriptor of a set in use. -/
def setKvSet (s : State) (slot n : Nat) (f : KvSet → KvSet) : State :=
  s.setKv { s.kv with sets := amod s.kv.sets (slot, n) f }

/-- Pages charged to a tenant, shared sets included (R266, R278). -/
def kvCharged (s : State) (t : Nat) : Nat :=
  ((s.kv.sets.filter (fun p => decide (p.2.tenant = t))).map (fun p => setPages s p.1.1)).sum

/-- Sets in use in a slot's partition. -/
def setsUsed (s : State) (slot : Nat) : List Nat :=
  (s.kv.sets.filter (fun p => decide (p.1.1 = slot))).map (·.1.2)

/-- Free sets of a slot, 0x2902. -/
def freeSets (s : State) (slot : Nat) : Nat := s.val 0x2900 (slot + 1) - (setsUsed s slot).length

/-- The free set that is taken next: the lowest number (DESIGN CHOICE, log 23). -/
def findSet (s : State) (slot : Nat) : Option Nat :=
  let n := leastFree (setsUsed s slot)
  if n < s.val 0x2900 (slot + 1) then some n else none

/-- Free a set: its blocks are written zero (R266). -/
def freeSet (s : State) (slot n : Nat) : State :=
  zeroRange (s.setKv { s.kv with sets := adel s.kv.sets (slot, n) }) (setAddr s slot n) (setBytes s slot)

/-! ## Nodes (R272) -/

/-- Remove nodes by index, lowering their parents' children counts (R276). -/
def dropNodes (s : State) (l : List Nat) : State :=
  let gone := s.kv.nodes.filter (fun p => l.contains p.1)
  let kept := s.kv.nodes.filter (fun p => !l.contains p.1)
  let lower (ns : List (Nat × Node)) (p : Nat × Node) : List (Nat × Node) :=
    (p.2.parent.map (fun q => amod ns q (fun x => { x with children := x.children - 1 }))).getD ns
  s.setKv { s.kv with nodes := gone.foldl lower kept }

/-- Nodes of a list and every node below them: n rounds of adding children. -/
def nodesBelow (nodes : List (Nat × Node)) : Nat → List Nat → List Nat
  | 0, l => l
  | n + 1, l =>
    let more := (nodes.filter (fun p => !l.contains p.1 && (match p.2.parent with
      | some q => l.contains q
      | none => false))).map (·.1)
    if more = [] then l else nodesBelow nodes n (l ++ more)

/-- Sets that no node names any more: unmapped ones are freed, others are freed with their last
reference (R276, R277). -/
def orphanSets (s : State) (sets : List (Nat × Nat)) : State :=
  sets.foldl (fun s k =>
    match aget s.kv.sets k with
    | some x =>
      if x.st = .published ∧ x.refs = 0 then freeSet s k.1 k.2
      else setKvSet s k.1 k.2 (fun x => { x with node := none })
    | none => s) s

/-- Withdraw the nodes that satisfy a condition and every node below them. -/
def withdraw (s : State) (p : Node → Bool) : State :=
  let l := nodesBelow s.kv.nodes s.kv.nodes.length ((s.kv.nodes.filter (fun x => p x.2)).map (·.1))
  let sets := ((s.kv.nodes.filter (fun x => l.contains x.1)).map (fun x => (x.2.slot, x.2.set))).dedup
  orphanSets (dropNodes s l) sets

/-! ## Eviction (R276) -/

/-- The node of a set's last block. -/
def lastNode (s : State) (k : Nat × Nat) : Option Node :=
  ((aget s.kv.sets k).bind (·.node)).bind (aget s.kv.nodes)

/-- Whether a set is evictable: published, no references, no children under its last node. -/
def setEvictable (s : State) (k : Nat × Nat) : Bool :=
  match aget s.kv.sets k with
  | some x => decide (x.st = .published) && decide (x.refs = 0) && (match lastNode s k with
    | some n => decide (n.children = 0)
    | none => true)
  | none => false

/-- When a set was last matched or published. -/
def setUsedAt (s : State) (k : Nat × Nat) : Nat := ((lastNode s k).map (·.lastUsed)).getD 0

/-- The next set that a pressure evicts: the least recent last_used, ties to the lower slot and set
(DESIGN CHOICE, log 23). -/
def nextVictim (s : State) (among : Nat × Nat → KvSet → Bool) : Option (Nat × Nat) :=
  let before (a b : Nat × Nat) : Bool :=
    if setUsedAt s a ≠ setUsedAt s b then decide (setUsedAt s a ≤ setUsedAt s b)
    else decide (a.1 < b.1) || (decide (a.1 = b.1) && decide (a.2 ≤ b.2))
  (sortBy before ((s.kv.sets.filter (fun p => among p.1 p.2 && setEvictable s p.1)).map (·.1))).head?

/-- Evict a set: its nodes are withdrawn, it is freed and cleared; counted in 0x2910:05. -/
def evictSet (s : State) (k : Nat × Nat) : State :=
  let l := (s.kv.nodes.filter (fun p => decide (p.2.slot = k.1) && decide (p.2.set = k.2))).map (·.1)
  (freeSet (dropNodes s l) k.1 k.2).bumpBy 0x2910 5 64 1

/-- Evict a tenant's sets until a number of pages more fits its quota, or none is left. -/
def evictForQuota (t pages : Nat) : Nat → State → State
  | 0, s => s
  | n + 1, s =>
    if kvCharged s t + pages ≤ s.val 0x2903 (t + 1) then s
    else match nextVictim s (fun _ x => decide (x.tenant = t)) with
      | some k => evictForQuota t pages n (evictSet s k)
      | none => s

/-- Make room for one more set of a tenant in a slot. -/
def roomForSet (s : State) (slot t : Nat) : State :=
  let s1 := evictForQuota t (setPages s slot) s.kv.sets.length s
  if (findSet s1 slot).isSome then s1
  else match nextVictim s1 (fun k _ => decide (k.1 = slot)) with
    | some k => evictSet s1 k
    | none => s1

/-- Take a set for a tenant (R266): none if quota or partition cannot give one. -/
def takeSet (s : State) (slot t : Nat) : State × Option Nat :=
  let s1 := roomForSet s slot t
  if kvCharged s1 t + setPages s1 slot ≤ s1.val 0x2903 (t + 1) then
    match findSet s1 slot with
    | some n => (s1.setKv { s1.kv with sets := s1.kv.sets ++ [((slot, n), ⟨.opened, t, 1, none⟩)] }, some n)
    | none => (s1, none)
  else (s1, none)

/-! ## Berths and their sets -/

/-- One reference fewer: an OPEN or DAMAGED set, or one no node names, is freed with its last. -/
def unref (s : State) (slot n : Nat) : State :=
  match aget s.kv.sets (slot, n) with
  | none => s
  | some x =>
    let s1 := setKvSet s slot n (fun x => { x with refs := x.refs - 1 })
    if x.refs ≤ 1 ∧ (x.st ≠ .published ∨ x.node = none) then freeSet s1 slot n else s1

/-- A berth loses every set it maps (R276). -/
def dropSets (s : State) (b : Berth) : State :=
  setBerth ((b.table.filterMap id).foldl (fun s n => unref s b.slot n) s) b.num
    (fun b => { b with table := [], taken := [] })

/-- Put a set into a berth's page table. -/
def mapSet (table : List (Option Nat)) (i set : Nat) : List (Option Nat) :=
  (table ++ List.replicate (i + 1 - table.length) none).set i (some set)

/-- Positions a berth may reach: the image's and the tenant's limit (R242). -/
def contextLimit (s : State) (b : Berth) : Nat :=
  min (((manifestOf s b.slot).map (·.maxContext)).getD 0) (s.val (tenantObj b.tenant 0) 3)

/-- The set that entry i of a berth's table names, taken now where it is not mapped (R204, R266). -/
def setFor (s : State) (b : Berth) (i : Nat) : State × Option Nat :=
  match (b.table[i]?).join with
  | some n => (s, some n)
  | none =>
    let r := takeSet s b.slot b.tenant
    match r.2 with
    | some n => (setBerth r.1 b.num (fun b => { b with table := mapSet b.table i n, taken := b.taken ++ [n] }), some n)
    | none => (r.1, none)

/-- A berth is marked context-full for the turn (R204); the first reason stands. -/
def markFull (s : State) (num detail : Nat) : State :=
  setBerth s num (fun b => if b.full = 0 then { b with full := detail } else b)

/-- What a KVPUT row resolves to (R204, R267): the set and its page's base, or nothing to write. -/
def resolveRow (s : State) (num layerIndex q : Nat) : State × Option (Nat × Nat × Nat) :=
  match berthOf s num with
  | none => (s, none)
  | some b =>
    match manifestOf s b.slot with
    | none => (s, none)
    | some m =>
      if contextLimit s b ≤ q then (markFull s num 3, none)
      else
        let i := q / m.span
        let r := setFor s b i
        match r.2 with
        | none => (markFull r.1 num 2, none)
        | some n =>
          if (kvSet r.1 b.slot n).st = .opened then
            (r.1, some (b.slot, n, setAddr r.1 b.slot n + layerIndex * 16384))
          else (r.1.bump 0x2910 8, none)

/-! ## The block hash (R271) -/

/-- The finaliser of R249 and R271. -/
def mix (x : BitVec 64) : BitVec 64 :=
  let a := (x ^^^ (x >>> 30)) * 0xBF58476D1CE4E5B9#64
  let b := (a ^^^ (a >>> 27)) * 0x94D049BB133111EB#64
  b ^^^ (b >>> 31)

/-- Root of the hash chain. -/
def hashRoot (modelId version key : Nat) : BitVec 64 :=
  mix (BitVec.ofNat 64 modelId ^^^ mix (BitVec.ofNat 64 version ||| (BitVec.ofNat 64 key <<< 32)))

/-- Hash of the next block from its 16 tokens. -/
def hashBlock : List Nat → BitVec 64 → BitVec 64
  | a :: b :: r, h => hashBlock r (mix (h ^^^ (BitVec.ofNat 64 a ||| (BitVec.ofNat 64 b <<< 32))))
  | _, h => h

/-- Hashes of the first n blocks of a token string. -/
def hashChain : Nat → List Nat → BitVec 64 → List Nat
  | 0, _, _ => []
  | n + 1, toks, h => let h' := hashBlock (toks.take 16) h; h'.toNat :: hashChain n (toks.drop 16) h'

/-- Block hashes of tokens under an image, a version and a share key. -/
def blockHashes (s : State) (slot version key n : Nat) (toks : List Nat) : List Nat :=
  hashChain n toks (hashRoot (((manifestOf s slot).map (·.modelId)).getD 0) version key)

/-- Share key of a tenant (R275). -/
def shareKey (s : State) (t : Nat) : Nat := let g := s.val 0x2911 (t + 1); if g = 0xFF then 0x100 + t else g

/-- The node that matches (R272); the newest of a bucket stands first. -/
def findNode (s : State) (hash : Nat) (parent : Option Nat) (slot key version : Nat) : Option (Nat × Node) :=
  s.kv.nodes.find? (fun p => decide (p.2.hash = hash) && decide (p.2.parent = parent) && decide (p.2.slot = slot)
    && decide (p.2.key = key) && decide (p.2.version = version))

/-! ## Lookup (R273) -/

/-- Nodes of the blocks of a chain that match from its start. -/
def walkNodes (s : State) (slot key version : Nat) : List Nat → Option Nat → List (Nat × Node)
  | [], _ => []
  | h :: r, parent =>
    match findNode s h parent slot key version with
    | some p => p :: walkNodes s slot key version r (some p.1)
    | none => []

/-- Lookup of a prompt of count tokens (R273): the matched nodes, cut back to whole sets of B blocks. -/
def lookupNodes (s : State) (slot key version : Nat) (toks : List Nat) : List (Nat × Node) :=
  match manifestOf s slot with
  | none => []
  | some m =>
    let n := (toks.length - 1) / 16
    let hit := walkNodes s slot key version (blockHashes s slot version key n toks) none
    hit.take (hit.length / m.blocksPerPage * m.blocksPerPage)

/-- Sets of matched nodes: one for every B of them. -/
def setsOf (m : Manifest) (l : List (Nat × Node)) : List Nat :=
  (List.range (l.length / m.blocksPerPage)).filterMap (fun i => (l[i * m.blocksPerPage]?).map (·.2.set))

/-- The walker maps matched sets: references rise, last_used is the present turn; 0x2910:02 and :03
count. Answers the table. -/
def mapPrefix (s : State) (slot key version : Nat) (toks : List Nat) : State × List (Option Nat) :=
  match manifestOf s slot with
  | none => (s, [])
  | some m =>
    let l := lookupNodes s slot key version toks
    let sets := setsOf m l
    let s1 := s.setKv { s.kv with
      nodes := s.kv.nodes.map (fun p => if l.any (fun q => decide (q.1 = p.1)) then
        (p.1, { p.2 with lastUsed := s.turns % 2 ^ 32 }) else p)
      sets := s.kv.sets.map (fun p => if decide (p.1.1 = slot) && sets.contains p.1.2 then
        (p.1, { p.2 with refs := p.2.refs + 1 }) else p) }
    ((s1.bumpBy 0x2910 2 64 1).bumpBy 0x2910 3 64 l.length, sets.map some)

/-! ## Publication (R274) -/

/-- Insert the nodes of a set's blocks from a parent on; the last node's index. -/
def insertNodes (slot set key version tenant : Nat) : List Nat → Nat → Option Nat → State → State × Option Nat
  | [], _, parent, s => (s, parent)
  | h :: r, j, parent, s =>
    match findNode s h parent slot key version with
    | some p => insertNodes slot set key version tenant r (j + 1) (some p.1) s
    | none =>
      let i := leastFree (s.kv.nodes.map (·.1))
      let node : Node := ⟨h, parent, set, slot, j, key, version, 0, tenant, s.turns % 2 ^ 32⟩
      let up := match parent with
        | some q => amod s.kv.nodes q (fun x => { x with children := x.children + 1 })
        | none => s.kv.nodes
      insertNodes slot set key version tenant r (j + 1) (some i)
        ((s.setKv { s.kv with nodes := (i, node) :: up }).bumpBy 0x2910 4 64 1)

/-- Publish set i of a berth if it is full of committed positions and may be published. A block before it
that has no node leaves it OPEN (DEDUCED, log 23). -/
def publishSet (s : State) (b : Berth) (m : Manifest) (hashes : List Nat) (i : Nat) : State :=
  match (b.table[i]?).join with
  | none => s
  | some n =>
    if (kvSet s b.slot n).st ≠ .opened then s
    else
      let before := walkNodes s b.slot b.shareKey b.publishVersion (hashes.take (i * m.blocksPerPage)) none
      let own := (hashes.drop (i * m.blocksPerPage)).take m.blocksPerPage
      if before.length < i * m.blocksPerPage then s
      else
        let parent := (before.getLast?).map (·.1)
        let taken := match own with
          | h :: _ => (findNode s h parent b.slot b.shareKey b.publishVersion).isSome
          | [] => true
        if taken then s
        else if 1048576 < s.kv.nodes.length + m.blocksPerPage then s.bumpBy 0x2910 6 64 m.blocksPerPage
        else
          let r := insertNodes b.slot n b.shareKey b.publishVersion b.tenant own 0 parent s
          setKvSet r.1 b.slot n (fun x => { x with st := .published, node := r.2 })

/-- Publish what a berth of the turn has filled (R274). -/
def publishBerth (s : State) (num : Nat) : State :=
  match berthOf s num with
  | none => s
  | some b =>
    match manifestOf s b.slot with
    | none => s
    | some m =>
      let swapping := match s.images.swap with | some j => decide (j.slot = b.slot) | none => false
      if b.secret || !decide (b.publishVersion = m.version) || swapping then s
      else
        let full := b.position / m.span
        let hashes := blockHashes s b.slot b.publishVersion b.shareKey (full * m.blocksPerPage) b.tokens
        (List.range full).foldl (fun s i => publishSet s b m hashes i) s

/-! ## Damage (R270) -/

/-- Poison has been read from committed positions: the set is DAMAGED, its nodes and those below go, the
event is counted and journalled in class 12 with the set number only. -/
def damageSet (s : State) (slot n : Nat) : State :=
  if (kvSet s slot n).st = .damaged then s
  else
    let s1 := withdraw s (fun x => decide (x.slot = slot) && decide (x.set = n))
    let s2 := setKvSet s1 slot n (fun x => { x with st := .damaged, node := none })
    (s2.bump 0x2910 7).event 12 0 0 [n]

/-- The set of a slot that an address lies in. -/
def setAt (s : State) (a : Nat) : Option (Nat × Nat) :=
  ((List.range 8).find? (fun slot => decide (0 < partitionBytes s slot) && decide (partitionBase s slot ≤ a)
    && decide (a < partitionBase s slot + partitionBytes s slot))).map
    (fun slot => (slot, (a - partitionBase s slot) / setBytes s slot))

/-- Position within its set of a byte of a page (R264, inverted); none in the page's unused rest. -/
def placeInSet (m : Manifest) (o : Nat) : Option Nat :=
  let rows := m.blocksPerPage * 32 * m.kvHeads
  let row (r : Nat) : Nat := r / (32 * m.kvHeads) * 16 + r % 16
  if o < rows * m.headDim then some (row (o / m.headDim))
  else if o < rows * (m.headDim + 2) then some (row ((o - rows * m.headDim) / 2))
  else none

/-- The set in whose committed positions an address lies: a published set holds nothing else, an open one what lies below
its berth's position count (R269, R270). -/
def committedAt (s : State) (a : Nat) : Option (Nat × Nat) :=
  match setAt s a with
  | none => none
  | some (slot, n) =>
    match manifestOf s slot with
    | none => none
    | some m =>
      match placeInSet m ((a - setAddr s slot n) % 16384) with
      | none => none
      | some p =>
        let written := match (kvSet s slot n).st with
          | .published => true
          | .opened => s.serving.berths.any (fun b => decide (b.slot = slot) && b.table.zipIdx.any (fun e =>
              decide (e.1 = some n) && decide (e.2 * m.span + p < b.position)))
          | _ => false
        if written then some (slot, n) else none

/-- A read by a master other than a deck has returned poison from committed positions: their sets are DAMAGED at once
(R270). A deck's read fails its attempt first (R352). -/
def damageRead (a : Nat) (octs : List Octet) (s : State) : State :=
  ((octs.zipIdx.filterMap (fun p => if p.1.bad then committedAt s (a + p.2) else none)).dedup).foldl
    (fun s k => damageSet s k.1 k.2) s

/-! ## Partition Sets and quotas (R265, R278) -/

/-- Pages of all partitions. -/
def allPages (s : State) : Nat := ((List.range 8).map (fun n => s.val 0x2900 (n + 1) * setPages s n)).sum

/-- Pages that the quotas give. -/
def quotaPages (s : State) : Nat := ((List.range 64).map (fun t => s.val 0x2903 (t + 1))).sum

/-- A berth is live or parked on a slot. -/
def slotInUse (s : State) (slot : Nat) : Bool :=
  s.serving.berths.any (fun b => decide (b.slot = slot) && (b.live || decide (b.st = .parked)))

/-- Withdraw every prefix node of a slot. -/
def withdrawSlot (s : State) (slot : Nat) : State := withdraw s (fun x => decide (x.slot = slot))

/-- Put a slot's partition where it fits; every set of it is free (R265). -/
def placePartition (s : State) (slot sets : Nat) : State :=
  let s1 := withdrawSlot s slot
  let s2 := s1.setKv { s1.kv with sets := s1.kv.sets.filter (fun p => !decide (p.1.1 = slot)), bases := adel s1.kv.bases slot }
  let s3 := s2.setVal 0x2900 (slot + 1) 0
  let bytes := sets * setBytes s slot
  match findPlace s3 1 bytes with
  | some a =>
    if sets = 0 then s3
    else zeroRange ((s3.setKv { s3.kv with bases := aset s3.kv.bases slot a }).setVal 0x2900 (slot + 1) sets) a bytes
  | none => s3

/-- The new partition can be placed beside the rest (R159's condition and a place for it). -/
def partitionFits (s : State) (slot sets : Nat) : Bool :=
  let s1 := s.setVal 0x2900 (slot + 1) sets
  decide (quotaSum s 1 ≤ tierPool s1 1) && decide (quotaPages s ≤ allPages s1) && decide (kvBytes s1 ≤ tier1Size s)
    && (findPlace (s.setVal 0x2900 (slot + 1) 0) 1 (sets * setBytes s slot)).isSome

/-- Nodes of a slot's stages other than this one. -/
def otherStages (s : State) (slot : Nat) : List Nat := ((stageNodes s slot).dedup).filter (fun n => !decide (n = s.nodeId))

/-- In pipeline layout every stage holds a partition of the same number of sets: the pilot's write goes to each (R311;
the way is DEDUCED, log 35). -/
def copyToStages (slot idx sub : Nat) (val : Bytes) (s : State) : State :=
  if inPipeline s ∧ s.ferry.role = .pilot then
    (otherStages s slot).foldl (fun s n => memberWrite s n idx sub false val) s
  else s

/-- PARTITION_SETS (R265). -/
def applyPartitionSets (slot : Nat) (val : Bytes) (s : State) : Applied :=
  let n := leNat val
  let others := ((List.range 8).map (fun i => if i = slot then 0 else s.val 0x2900 (i + 1))).sum
  guarded
    [(!slotInUse s slot, abNotIdle), (decide (imageState s slot = .ready), abInconsistent),
     (decide (others + n ≤ 2097152), abInconsistent), (partitionFits s slot n, abInconsistent)]
    (fun s => accept (copyToStages slot 0x2900 (slot + 1) val (placePartition s slot n))) s

/-- PARTITION_SETS. -/
def execPartitionSets (ch : Channel) (slot : Fin 8) (val : Bytes) (s : State) : Host.Outcome State Fault Refusal :=
  objectWrite ch 0x2900 (slot.val + 1) val (applyPartitionSets slot.val val) s

/-- KV_PAGE_QUOTA (R278): a quota below the tenant's use evicts its evictable sets. -/
def applyKvQuota (t : Nat) (val : Bytes) (s : State) : Applied :=
  let s1 := s.setVal 0x2903 (t + 1) (leNat val)
  guarded [(decide (quotaPages s1 ≤ allPages s), abInconsistent)]
    (fun _ => accept (copyToMembers 0x2903 (t + 1) val (evictForQuota t 0 s1.kv.sets.length s1))) s

/-- KV_PAGE_QUOTA. -/
def execKvPageQuota (ch : Channel) (t : Fin 64) (val : Bytes) (s : State) : Host.Outcome State Fault Refusal :=
  objectWrite ch 0x2903 (t.val + 1) val (applyKvQuota t.val val) s

/-- A page-table entry's word. -/
def pageEntry : Option Nat → Bytes
  | some n => leBytes 4 (n + 2 ^ 31)
  | none => leBytes 4 0

/-! ## The pilot's tables at the stages (R311; the records are the model's, log 35) -/

/-- The sets and nodes of a slot. -/
def slotTables (s : State) (slot : Nat) : Kv :=
  ⟨[], s.kv.sets.filter (fun p => decide (p.1.1 = slot)), s.kv.nodes.filter (fun p => decide (p.2.slot = slot))⟩

/-- A set's state from its code. -/
def setStateOf (c : Nat) : SetState :=
  if c = 1 then .opened else if c = 2 then .published else if c = 3 then .damaged else .free

/-- A number that may be absent, in 4 bytes. -/
def optBytes (o : Option Nat) : Bytes := leBytes 4 (match o with | some n => n + 1 | none => 0)

/-- The same from its bytes. -/
def optOf (n : Nat) : Option Nat := if n = 0 then none else some (n - 1)

/-- A set's record, 14 bytes: its number and its descriptor, free where it is in use no more. -/
def setRecord (n : Nat) (x : KvSet) : Bytes :=
  leBytes 4 n ++ leBytes 1 x.st.code ++ leBytes 1 x.tenant ++ leBytes 4 x.refs ++ optBytes x.node

/-- A node's record, 42 bytes: its index, whether it stands, and its fields. -/
def nodeRecord (i : Nat) (x : Option Node) : Bytes :=
  padTo 42 (leBytes 4 i ++ leBytes 1 (b2n x.isSome) ++ (match x with
    | some y => leBytes 8 y.hash ++ optBytes y.parent ++ leBytes 4 y.set ++ leBytes 1 y.block ++ leBytes 2 y.key
        ++ leBytes 4 y.version ++ leBytes 4 y.children ++ leBytes 1 y.tenant ++ leBytes 4 y.lastUsed
    | none => []))

/-- What a stage has to be told for its tables to be as the pilot's: the sets and nodes that have changed or gone. -/
def tableChanges (old new : Kv) : Bytes :=
  let sets := (new.sets.filter (fun p => !decide (aget old.sets p.1 = some p.2))).map (fun p => setRecord p.1.2 p.2)
    ++ (old.sets.filter (fun p => (aget new.sets p.1).isNone)).map (fun p => setRecord p.1.2 KvSet.free)
  let nodes := (new.nodes.filter (fun p => !decide (aget old.nodes p.1 = some p.2))).map (fun p => nodeRecord p.1 (some p.2))
    ++ (old.nodes.filter (fun p => (aget new.nodes p.1).isNone)).map (fun p => nodeRecord p.1 none)
  leBytes 4 sets.length ++ leBytes 4 nodes.length ++ sets.flatten ++ nodes.flatten

/-- The pilot tells a stage what has changed in a slot's tables since it last did; to a stage told for the first time it
says that it is the whole. -/
def tellTables (s : State) (node slot : Nat) : State × Bytes :=
  let new := slotTables s slot
  let old := aget s.ferry.told (node, slot)
  (s.setFerry { s.ferry with told := aset s.ferry.told (node, slot) new },
    leBytes 1 (b2n old.isNone) ++ tableChanges (old.getD ⟨[], [], []⟩) new)

/-- A set's record at a stage: a set freed has its pages cleared (R266). -/
def takeSetRecord (slot : Nat) (r : Bytes) (s : State) : State :=
  let n := fld r 0 4
  match setStateOf (fld r 4 1) with
  | .free => if (aget s.kv.sets (slot, n)).isSome then freeSet s slot n else s
  | st => s.setKv { s.kv with sets := aset s.kv.sets (slot, n) ⟨st, fld r 5 1, fld r 6 4, optOf (fld r 10 4)⟩ }

/-- A node's record at a stage; a new node stands first. -/
def takeNodeRecord (slot : Nat) (r : Bytes) (s : State) : State :=
  let i := fld r 0 4
  if fld r 4 1 = 0 then s.setKv { s.kv with nodes := adel s.kv.nodes i }
  else
    let x : Node := ⟨fld r 5 8, optOf (fld r 13 4), fld r 17 4, slot, fld r 21 1, fld r 22 2, fld r 24 4, fld r 28 4,
      fld r 32 1, fld r 33 4⟩
    if (aget s.kv.nodes i).isSome then s.setKv { s.kv with nodes := aset s.kv.nodes i x }
    else s.setKv { s.kv with nodes := (i, x) :: s.kv.nodes }

/-- Records of a size from an offset on. -/
def recordsAt (b : Bytes) (off size n : Nat) : List Bytes := (List.range n).map (fun i => slice b (off + size * i) size)

/-- A stage's own sets and nodes of a slot make way for the pilot's. -/
def clearTables (slot : Nat) (s : State) : State :=
  let s1 := (setsUsed s slot).foldl (fun s n => freeSet s slot n) s
  s1.setKv { s1.kv with nodes := s1.kv.nodes.filter (fun p => !decide (p.2.slot = slot)) }

/-- A stage applies what the pilot has told it (R311). -/
def takeTables (slot : Nat) (b : Bytes) (s : State) : State :=
  let sets := fld b 1 4
  let nodes := fld b 5 4
  let s1 := if fld b 0 1 = 1 then clearTables slot s else s
  let s2 := (recordsAt b 9 14 sets).foldl (fun s r => takeSetRecord slot r s) s1
  (recordsAt b (9 + 14 * sets) 42 nodes).reverse.foldl (fun s r => takeNodeRecord slot r s) s2

/-! ## MEMORY_ACCESS (R136) -/

/-- A read by a master: its data leaves for the master; a read that must wait for a bank is kept, and
one of another node's window becomes READ packets and is kept until their data has come. -/
def accessRead (a : Access) (s : State) : State :=
  let q : Query := { query s a.master.val a.kind with tenant := a.tenant.map (·.val), lengths := a.lengths, link := a.link }
  let r := memRead q s a.addr a.len
  match r.2.2 with
  | .stalled _ => r.1.setFlash { r.1.flash with waiting := r.1.flash.waiting ++ [a] }
  | .remote =>
    let d := remoteData r.1 a.addr a.len
    match d.2 with
    | some octs => d.1.emit (.access a octs .ok)
    | none =>
      let s1 := remoteRead d.1 a.addr a.len
      s1.setFlash { s1.flash with waiting := s1.flash.waiting ++ [a] }
  | .ok => (damageRead a.addr r.2.1 r.1).emit (.access a r.2.1 .ok)
  | note => r.1.emit (.access a r.2.1 note)

/-- A write by a master. -/
def accessWrite (a : Access) (s : State) : State :=
  let q : Query := { query s a.master.val .write with tenant := a.tenant.map (·.val) }
  let r := memWrite q s a.addr a.data
  match r.2 with
  | .remote =>
    let node := (a.addr - windowEnd) / 0x10_0000_0000 + 1
    let off := (a.addr - windowEnd) % 0x10_0000_0000
    sendTo r.1 node 8 (farClass node off) 1 0 (leBytes 8 off ++ vals a.data)
  | _ => r.1

/-- MEMORY_ACCESS: while the memory clocks run. -/
def execMemoryAccess (a : Access) (s : State) : Host.Outcome State Fault Refusal :=
  if !s.serves then .next s
  else match a.kind with
    | .write => .next (accessWrite a s)
    | _ => .next (accessRead a s)

end Sys2Proof.Machine
end

