-- ==== Sys2Proof/Machine/DeckCore.lean ====
section
/-! DEFINITION. What every deck operation is built of: slot fields, register reads with poison, the result
of a slot, memory accesses of a deck, the store buffer, exceptions (R184 to R192, R205 to R210). -/

namespace Sys2Proof.Machine

/-! ## Slot fields (Slot encoding) -/

/-- Operation code. -/
def fOp (w : BitVec 64) : Nat := bitsOf w.toNat 7 0
/-- Predicate register. -/
def fPred (w : BitVec 64) : Nat := bitsOf w.toNat 10 8
/-- Destination register. -/
def fD (w : BitVec 64) : Nat := bitsOf w.toNat 15 11
/-- First source. -/
def fA (w : BitVec 64) : Nat := bitsOf w.toNat 20 16
/-- Second source. -/
def fB (w : BitVec 64) : Nat := bitsOf w.toNat 25 21
/-- I-form immediate, sign-extended. -/
def fImm (w : BitVec 64) : BitVec 64 := (w.extractLsb' 26 32).signExtend 64
/-- Third source. -/
def fC (w : BitVec 64) : Nat := bitsOf w.toNat 30 26
/-- Element type. -/
def fEt (w : BitVec 64) : Nat := bitsOf w.toNat 33 31
/-- R-form reserved bits. -/
def fRes (w : BitVec 64) : Nat := bitsOf w.toNat 57 34
/-- Flags. -/
def fFl (w : BitVec 64) : Nat := bitsOf w.toNat 63 58

/-! ## Registers (R185, R192) -/

/-- A scalar as read: s0 is zero. -/
def Deck.sGet (d : Deck) (n : Nat) : BitVec 64 := if n = 0 then 0 else (d.s.toList[n]?).getD 0
/-- Its poison mark. -/
def Deck.sPoison (d : Deck) (n : Nat) : Bool := !decide (n = 0) && d.sBad.getLsbD n
/-- A vector register. -/
def Deck.vGet (d : Deck) (n : Nat) : BitVec 512 := (d.v.toList[n]?).getD 0
/-- Poison marks of its bytes. -/
def Deck.vPoison (d : Deck) (n : Nat) : BitVec 64 := (d.vBad.toList[n]?).getD 0
/-- A predicate as read: p0 is all ones. -/
def Deck.pGet (d : Deck) (n : Nat) : BitVec 64 := if n = 0 then BitVec.allOnes 64 else (d.p.toList[n]?).getD 0
/-- Its poison mark. -/
def Deck.pPoison (d : Deck) (n : Nat) : Bool := !decide (n = 0) && d.pBad.getLsbD n

/-- Set bit n of a mark word. -/
def markBit {w : Nat} (m : BitVec w) (n : Nat) (bad : Bool) : BitVec w :=
  if bad then m ||| (1#w <<< n) else m &&& ~~~ (1#w <<< n)

/-- Write a scalar: writes to s0 are discarded. -/
def Deck.sSet (d : Deck) (n : Nat) (v : BitVec 64) (bad : Bool) : Deck :=
  if h : n < 32 then
    if n = 0 then d else { d with s := d.s.set n v h, sBad := markBit d.sBad n bad }
  else d

/-- Write a vector register and the marks of its bytes. -/
def Deck.vSet (d : Deck) (n : Nat) (v : BitVec 512) (bad : BitVec 64) : Deck :=
  if h : n < 32 then { d with v := d.v.set n v h, vBad := d.vBad.set n bad h } else d

/-- Write a predicate: p0 cannot be written (R190). -/
def Deck.pSet (d : Deck) (n : Nat) (v : BitVec 64) (bad : Bool) : Deck :=
  if h : n < 8 then
    if n = 0 then d else { d with p := d.p.set n v h, pBad := markBit d.pBad n bad }
  else d

/-- The bytes of a vector register, byte 0 first. -/
def vBytes (v : BitVec 512) : Bytes := leBytes 64 v.toNat

/-- A vector register from its bytes. -/
def vOf (bs : Bytes) : BitVec 512 := BitVec.ofNat 512 (leNat bs)

/-- Octets of a vector register with their marks. -/
def vOctets (v : BitVec 512) (bad : BitVec 64) : List Octet :=
  (List.range 64).map (fun i => ⟨BitVec.ofNat 8 (v.toNat / 256 ^ i), bad.getLsbD i⟩)

/-- Marks of a list of octets. -/
def octetMarks (l : List Octet) : BitVec 64 :=
  BitVec.ofNat 64 ((List.range 64).foldl (fun a i => a + b2n (((l[i]?).map (·.bad)).getD false) * 2 ^ i) 0)

/-! ## What a slot comes to -/

/-- What a slot of a bundle comes to on the registers before the bundle: effects with the registers they
write, an exception with its cause and address, or a stall (R188, R189). -/
inductive SlotResult where
  | ok (writes : List RegName) (act : State → State)
  | raise (cause address : Nat)
  | stall

/-- Cause codes (R210). -/
def excIllegal : Nat := 1
/-- MISALIGNED. -/
def excMisaligned : Nat := 2
/-- ADDRESS. -/
def excAddress : Nat := 3
/-- PROTECTION. -/
def excProtection : Nat := 4
/-- POISON. -/
def excPoison : Nat := 5
/-- BUSY. -/
def excBusy : Nat := 6
/-- STREAM_MISMATCH. -/
def excMismatch : Nat := 7
/-- STREAM_FAULT. -/
def excStream : Nat := 8
/-- FETCH. -/
def excFetch : Nat := 9
/-- TIME_LIMIT. -/
def excTime : Nat := 10
/-- KV_COORDINATE. -/
def excKv : Nat := 11

/-- ILLEGAL. -/
def illegal : SlotResult := .raise excIllegal 0

/-- A slot that does nothing. -/
def SlotResult.nothing : SlotResult := .ok [] id

/-- An operation of a slot: the deck, its registers before the bundle and the slot's word. -/
abbrev SlotOp := Fin 16 → Deck → BitVec 64 → State → State × SlotResult

/-- A slot result that touches no memory. -/
def pureSlot (r : SlotResult) (s : State) : State × SlotResult := (s, r)

/-- Change a deck. -/
def modDeck (s : State) (k : Fin 16) (f : Deck → Deck) : State := s.setDeck k (f (s.decks.get k))

/-- Write one scalar. -/
def writeS (k : Fin 16) (n : Nat) (v : BitVec 64) (bad : Bool) : SlotResult :=
  .ok [.s n] (fun s => modDeck s k (fun d => d.sSet n v bad))

/-- Write one vector register. -/
def writeV (k : Fin 16) (n : Nat) (v : BitVec 512) (bad : BitVec 64) : SlotResult :=
  .ok [.v n] (fun s => modDeck s k (fun d => d.vSet n v bad))

/-- Write one predicate; p0 raises ILLEGAL. -/
def writeP (k : Fin 16) (n : Nat) (v : BitVec 64) (bad : Bool) : SlotResult :=
  if n = 0 ∨ 8 ≤ n then illegal else .ok [.p n] (fun s => modDeck s k (fun d => d.pSet n v bad))

/-- Bit 0 of the slot's predicate (R191). -/
def predOn (d : Deck) (w : BitVec 64) : Bool := (d.pGet (fPred w)).getLsbD 0

/-- The form of an R-form slot that uses no element type and these flags (R190). -/
def rForm (w : BitVec 64) (flags : Nat) : Bool :=
  decide (fRes w = 0) && decide (fEt w = 0) && decide (fFl w &&& flags = fFl w)

/-- The form of an I-form slot with these flags. -/
def iForm (w : BitVec 64) (flags : Nat) : Bool := decide (fFl w &&& flags = fFl w)

/-- A data operation: it takes effect only where bit 0 of the predicate is set, and then its form must be
legal (R190, R191). A poisoned predicate poisons the result (DEDUCED, log 24). -/
def dataOn (d : Deck) (w : BitVec 64) (legal : Bool) (mk : Bool → SlotResult) : SlotResult :=
  if d.pPoison (fPred w) then (if legal then mk true else illegal)
  else if !predOn d w then .nothing else if legal then mk false else illegal

/-- An operation with a control or memory effect: as above, but a poisoned predicate raises POISON
(DEDUCED, log 24). -/
def ctlOn (d : Deck) (w : BitVec 64) (legal : Bool) (r : SlotResult) : SlotResult :=
  if d.pPoison (fPred w) then (if legal then .raise excPoison 0 else illegal)
  else if !predOn d w then .nothing else if legal then r else illegal

/-! ## Memory accesses of a deck -/

/-- Master number of a deck. -/
def deckMaster (k : Fin 16) : Nat := 2 + k.val

/-- First byte of a deck's data area (R184). -/
def dataArea (k : Fin 16) : Nat := deckBase + k.val * 0x10_0000 + 0x2_0000

/-- First byte after a deck's data area. -/
def dataEnd (k : Fin 16) : Nat := deckBase + (k.val + 1) * 0x10_0000

/-- Put pending store bytes over bytes read: a load returns the program-order value (R205). -/
def forwardOver (store : List StoreEntry) (a : Nat) (l : List Octet) : List Octet :=
  store.foldl (fun l e => e.bytes.foldl (fun l b =>
    if a ≤ b.addr ∧ b.addr < a + l.length then l.set (b.addr - a) b.data else l) l) l

/-- What a deck's read comes to. -/
inductive Load where
  | got (l : List Octet)
  | raise (cause : Nat)
  | stall

/-- A data read of a deck: unmapped raises ADDRESS, refused PROTECTION, a status line BUSY; a read that waits
for a bank or another node stalls; poison raises POISON (R192, R210, R313). -/
def deckRead (k : Fin 16) (d : Deck) (s : State) (a n : Nat) : State × Load :=
  let r := memRead (query s (deckMaster k) .read) s a n
  match r.2.2 with
  | .unmapped => (r.1, .raise excAddress)
  | .refused => (r.1, .raise excProtection)
  | .busy _ => (r.1, .raise excBusy)
  | .stalled _ => (r.1, .stall)
  | .remote =>
    let got := remoteData r.1 a n
    match got.2 with
    | some l => if anyBad l then (got.1, .raise excPoison) else (got.1, .got l)
    | none => (remoteRead got.1 a n, .stall)
  | _ =>
    let l := forwardOver d.store a r.2.1
    let s1 := touchTensor r.1 a
    if anyBad l then (s1, .raise excPoison) else (s1, .got l)

/-- Whether a write of a range would be taken: the first line that would not be raises its error
(R137, R208: an exception is precise, so this is asked before anything is stored). -/
def writePermitted (k : Fin 16) (s : State) (a n : Nat) : State × Option Nat :=
  (linesOf a n).foldl
    (fun acc p =>
      match acc.2 with
      | some _ => acc
      | none =>
        let q := query acc.1 (deckMaster k) .write
        let s := acc.1
        if !mapped s p.1 then (accessError 9 q.master p.1 s, some excAddress)
        else if !regionPermits s q.master none .write p.1 || s.isSealed p.1 then
          (refuseLine q s p.1, some excProtection)
        else (s, none))
    (s, none)

/-- PROTECTION for what no line check has recorded: a semaphore, or QROW outside the data area. -/
def protection (k : Fin 16) (a : Nat) (s : State) : State × SlotResult :=
  (accessError 10 (deckMaster k) a s, .raise excProtection a)

/-! ## The store buffer (R205) -/

/-- Add bytes to an entry: later bytes stand over earlier ones of the same address. -/
def mergeBytes (old new : List StoreByte) : List StoreByte :=
  old.filter (fun b => !new.any (fun c => decide (c.addr = b.addr))) ++ new

/-- The newest entry takes an ST or VST of its span if it has not begun to drain. -/
def mergesInto (store : List StoreEntry) (span : Option Nat) : Bool :=
  match span, store.getLast? with
  | some x, some e => decide (e.span = some x) && !e.draining
  | _, _ => false

/-- A store finds room: it merges, or an entry is free. -/
def storeRoom (d : Deck) (span : Option Nat) : Bool := mergesInto d.store span || decide (d.store.length < 8)

/-- Place a store in the buffer. -/
def placeStore (span : Option Nat) (bytes : List StoreByte) (sets : List (Nat × Nat)) (kv : Bool) (d : Deck) : Deck :=
  if mergesInto d.store span then
    { d with store := lmod d.store (d.store.length - 1) (fun e => { e with bytes := mergeBytes e.bytes bytes }) }
  else { d with store := d.store ++ [⟨span, mergeBytes [] bytes, false, sets, kv⟩] }

/-- Bytes of a store: octets from an address on. -/
def storeBytes (a : Nat) (l : List Octet) : List StoreByte := l.zipIdx.map (fun p => ⟨a + p.2, p.1⟩)

/-- Bytes sorted by address and grouped into runs. -/
def runsOf : List StoreByte → List (Nat × List Octet)
  | [] => []
  | b :: r =>
    match runsOf r with
    | (a, l) :: rest => if a = b.addr + 1 then (b.addr, b.data :: l) :: rest else (b.addr, [b.data]) :: (a, l) :: rest
    | [] => [(b.addr, [b.data])]

/-- Write bytes to memory in increasing address order (R205). -/
def drainBytes (k : Fin 16) (s : State) (l : List StoreByte) : State :=
  (runsOf (sortBy (fun a b => decide (a.addr ≤ b.addr)) l)).foldl
    (fun s r => touchTensor (memWrite (query s (deckMaster k) .write) s r.1 r.2).1 r.1) s

/-- Drain the oldest entry. -/
def drainOne (k : Fin 16) (s : State) : State :=
  match (s.decks.get k).store with
  | [] => s
  | e :: r => modDeck (drainBytes k s e.bytes) k (fun d => { d with store := r })

/-- Drain every entry: the buffer holds at most eight. -/
def drainAll (k : Fin 16) (s : State) : State := (List.range 8).foldl (fun s _ => drainOne k s) s

/-! ## Logical decks (R351, R357) -/

/-- Physical decks that may run work, in order: in service, not excluded; in paired mode the first of each
pair that is. -/
def workDecks (s : State) (excluded : List Nat) : List Nat :=
  (List.range 16).filter (fun d => inService s d && !excluded.contains d
    && !(decide (s.integrity.mode = 1) && (decide (d % 2 = 1) || excluded.contains (d + 1))))

/-- Of some decks, the one that holds the fewest logical decks, ties to the lower number. -/
def leastLoaded (load : List (Nat × Nat)) : List Nat → Option Nat
  | [] => none
  | d :: r =>
    let n (x : Nat) : Nat := (load.filter (fun p => decide (p.2 = x))).length
    match leastLoaded load r with
    | some e => if n e < n d then some e else some d
    | none => some d

/-- Home deck of a logical deck: itself, or in paired mode its pair. -/
def homeDeck (s : State) (l : Nat) : Nat := if s.integrity.mode = 1 then l % 8 * 2 else l

/-- Assign n logical decks to physical decks (R351): one whose own deck is not excluded keeps it, the others
go in increasing order to the deck that holds the fewest. -/
def assignment (s : State) (n : Nat) (excluded : List Nat) : List (Nat × Nat) :=
  let decks := workDecks s excluded
  let keep := (List.range n).filterMap (fun l => if decks.contains (homeDeck s l) then some (l, homeDeck s l) else none)
  let rest := (List.range n).filter (fun l => !decks.contains (homeDeck s l))
  rest.foldl (fun acc l => match leastLoaded acc decks with
    | some d => acc ++ [(l, d)]
    | none => acc) keep

/-- Decks excluded from the present attempt: those suspect in an earlier one (R351). -/
def excludedNow (s : State) : List Nat :=
  match s.turn with
  | some t => if t.attempt = 0 then [] else t.suspects
  | none => []

/-- Whether a stream of a group mask is served to each logical deck alone: it names one that has been moved
(R351). -/
def servedAlone (s : State) (n mask : Nat) : Bool :=
  (assignment s n (excludedNow s)).any (fun p => mask.testBit p.1 && !decide (p.2 = homeDeck s p.1))

/-- Decks, other than k, that run a logical deck of a mask. -/
def sharers (s : State) (k : Fin 16) (mask : Nat) : List (Fin 16) :=
  (List.finRange 16).filter (fun j => !decide (j = k) && decide ((s.decks.get j).status = .running)
    && mask.testBit (s.decks.get j).logical)

/-- Stop every stream of a deck. -/
def stopStreams (d : Deck) : Deck := { d with streams := Vector.replicate 4 none }

/-- The halt of a deck makes every stream whose mask names its logical deck fault in the other decks (R196). -/
def faultSharers (s : State) (k : Fin 16) : State :=
  let l := (s.decks.get k).logical
  ((List.finRange 16).filter (fun j => !decide (j = k) && decide ((s.decks.get j).status = .running))).foldl
    (fun s j => modDeck s j (fun d =>
      { d with streams := d.streams.map (Option.map (fun y => if y.mask.testBit l then { y with faulty := true } else y)) })) s

/-! ## Exceptions (R208 to R210) -/

/-- Change the turn in progress. -/
def modTurn (s : State) (f : Turn → Turn) : State := { s with turn := s.turn.map f }

/-- The attempt fails; the first reason stands (R350). -/
def failAttempt (r : FailReason) (s : State) : State :=
  modTurn s (fun t => if t.failing = none then { t with failing := some r } else t)

/-- A deck is suspect in the attempt: a silent error of it is counted (R351, 0x2D10). -/
def suspect (d : Nat) (s : State) : State :=
  modTurn (silentError s d) (fun t => if t.suspects.contains d then t else { t with suspects := t.suspects ++ [d] })

/-- A deck has no program of the turn any more. -/
def deckFree (k : Fin 16) (s : State) : State :=
  modTurn s (fun t => { t with busy := t.busy.filter (fun d => !decide (d = k.val)) })

/-- Reset a deck: buffered stores are discarded and counted, its registers return to their state at reset; a
deck that is retired, off or paired stays so (R208). -/
def resetDeck (s : State) (k : Fin 16) : State :=
  let d := s.decks.get k
  let st : DeckStatus := match d.status with
    | .retired => .retired | .off => .off | .paired => .paired | _ => .idle
  (s.setDeck k { Deck.reset d.ldo with status := st, divider := d.divider, exc := d.exc }).setVal
    (0x4000 + 0x100 * k.val) 4 d.store.length

/-- The decks of a pair differ (R344): both stop, their buffered stores are discarded and counted, both are reset, and
the attempt fails with both suspect. -/
def pairMismatch (k : Fin 16) (s : State) : State :=
  let lo : Fin 16 := ⟨k.val / 2 * 2, by omega⟩
  let hi : Fin 16 := ⟨k.val / 2 * 2 + 1, by omega⟩
  let s1 := s.error ⟨2, deckMaster lo, 1, 0, 0, lo.val, (s.decks.get lo).logical, 0xFF⟩
  let s2 := failAttempt .integrity (suspect hi.val (suspect lo.val s1))
  deckFree lo (resetDeck (resetDeck (faultSharers s2 lo) lo) hi)

/-- Causes with the program outcome (R210). -/
def programCause (cause : Nat) : Bool := !decide (cause = excPoison) && !decide (cause = excBusy)

/-- The error of a program-outcome exception other than ADDRESS and PROTECTION, whose own accesses are
recorded (class PROGRAM, R347). -/
def programError (k : Fin 16) (cause address : Nat) (s : State) : State :=
  if programCause cause && !decide (cause = excAddress) && !decide (cause = excProtection) then
    s.error ⟨11, deckMaster k, 1, 0, address, k.val, (s.decks.get k).logical, 0xFF⟩
  else s

/-- Bank that a BUSY exception waits for. -/
def busyBank (address : Nat) : Nat := bankOf (sectorOf address)

/-- What an exception makes of the attempt (R210). -/
def excOutcome (k : Fin 16) (cause address : Nat) (s : State) : State :=
  if cause = excPoison then failAttempt .integrity s
  else if cause = excBusy then failAttempt (.busy (busyBank address)) s
  else (failAttempt (.program k.val (s.decks.get k).pc cause) s).bump 0x2600 4

/-- Take an exception: older stores drain, the record is written, the streams stop, the deck halts and the
helm is told (R208, R209). -/
def raiseDeck (k : Fin 16) (slot cause address : Nat) (s : State) : State :=
  let s1 := faultSharers (drainAll k s) k
  let s2 := modDeck s1 k (fun d =>
    { stopStreams d with
      status := .halted, bundle := [], stalled := false, sequenced := []
      exc := ⟨cause, slot, d.pc, address, s.turns % 2 ^ 32, d.layer, d.logical⟩ })
  deckFree k (excOutcome k cause address (programError k cause address (s2.bump (0x4000 + 0x100 * k.val) 3)))

/-! ## Semaphores (R258, R259) -/

/-- Value of a semaphore. -/
def semValue (s : State) (n : Nat) : Nat := agetD s.serving.sems n 0

/-- Owner of a semaphore, 0x2803:02: its record is kept under index 0x1_0000 + n. -/
def semOwner (s : State) (n : Nat) : Nat := (aget s.obj (objKey (0x1_0000 + n) 2)).getD 0xFF

/-- Deck Access of a semaphore, 0x2803:04. -/
def semDeck (s : State) (n : Nat) : Bool := decide (s.val (0x1_0000 + n) 4 = 1)

/-- Set a semaphore's counter. -/
def setSem (s : State) (n v : Nat) : State :=
  s.setServing { s.serving with sems := if v = 0 then adel s.serving.sems n else aset s.serving.sems n v }

/-- Signal a semaphore: its counter saturates at 2^64 − 1 (R258). -/
def signalSem (s : State) (n amount : Nat) : State := setSem s n (min (semValue s n + amount) (2 ^ 64 - 1))

end Sys2Proof.Machine
end

