-- ==== Sys2Proof/Machine/DeckVector.lean ====
section
/-! DEFINITION. Slot V: the vector unit, and QROW (V-slot operations; R165 to R168, R175, R176, R191, R201,
R202). -/

namespace Sys2Proof.Machine

/-! ## Elements -/

/-- Bytes of an element type. -/
def etBytes : Nat → Nat
  | 0 => 1 | 1 => 4 | 2 => 2 | 3 => 2 | _ => 4

/-- The format of a floating-point element type. -/
def etFloat : Nat → Option FloatFmt
  | 2 => some bf16 | 3 => some fp16 | 4 => some fp32 | _ => none

/-- Elements of w bytes of a register. -/
def vElems (v : BitVec 512) (w : Nat) : List Nat :=
  (List.range (64 / w)).map (fun i => v.toNat / 2 ^ (8 * w * i) % 2 ^ (8 * w))

/-- Poison of the elements of w bytes: any of an element's bytes. -/
def vBadElems (m : BitVec 64) (w : Nat) : List Bool :=
  (List.range (64 / w)).map (fun i => !decide (m.toNat / 2 ^ (w * i) % 2 ^ w = 0))

/-- The predicate bit of each element's lowest byte (R191). -/
def vEnabled (p : BitVec 64) (w : Nat) : List Bool := (List.range (64 / w)).map (fun i => p.getLsbD (w * i))

/-- A register from elements of w bytes. -/
def packElems (w : Nat) (l : List Nat) : BitVec 512 :=
  BitVec.ofNat 512 ((l.zipIdx.map (fun p => p.1 % 2 ^ (8 * w) * 2 ^ (8 * w * p.2))).sum)

/-- Marks of bytes from marks of elements of w bytes. -/
def packMarks (w : Nat) (l : List Bool) : BitVec 64 :=
  BitVec.ofNat 64 ((l.zipIdx.map (fun p => b2n p.1 * (2 ^ w - 1) * 2 ^ (w * p.2))).sum)

/-- An element keeps its value where it is not written (R191). -/
def keepOff {α : Type} (on : List Bool) (old new : List α) : List α :=
  (on.zip (old.zip new)).map (fun p => if p.1 then p.2.2 else p.2.1)

/-- Write elements of w bytes into v[d] under the slot's predicate; `all` makes every mark poison. -/
def writeElems (k : Fin 16) (d : Deck) (w : BitVec 64) (width : Nat) (vals : List Nat) (bads : List Bool) :
    SlotResult :=
  let pp := d.pPoison (fPred w)
  let on := vEnabled (if pp then BitVec.allOnes 64 else d.pGet (fPred w)) width
  writeV k (fD w)
    (packElems width (keepOff on (vElems (d.vGet (fD w)) width) vals))
    (packMarks width (keepOff on (vBadElems (d.vPoison (fD w)) width) (bads.map (· || pp))))

/-- An R-form vector operation with an element type among those accepted (R190). -/
def vForm (w : BitVec 64) (types : List Nat) (flags : Nat) : Bool :=
  decide (fRes w = 0) && types.contains (fEt w) && decide (fFl w &&& flags = fFl w)

/-- All element types. -/
def anyType : List Nat := [0, 1, 2, 3, 4]
/-- Floating-point types. -/
def floatTypes : List Nat := [2, 3, 4]

/-- An element-by-element operation on v[a] and v[b]. -/
def vector2 (types : List Nat) (f : Nat → Nat → Nat → Nat) : SlotOp := fun k d w s =>
  let n := etBytes (fEt w)
  pureSlot (if vForm w types 0 then
      writeElems k d w n
        (List.zipWith (f (fEt w)) (vElems (d.vGet (fA w)) n) (vElems (d.vGet (fB w)) n))
        (List.zipWith (· || ·) (vBadElems (d.vPoison (fA w)) n) (vBadElems (d.vPoison (fB w)) n))
    else illegal) s

/-- An element-by-element operation on v[a]. -/
def vector1 (types : List Nat) (f : Nat → Nat → Nat) : SlotOp := fun k d w s =>
  let n := etBytes (fEt w)
  pureSlot (if vForm w types 0 then
      writeElems k d w n ((vElems (d.vGet (fA w)) n).map (f (fEt w))) (vBadElems (d.vPoison (fA w)) n)
    else illegal) s

/-- Bits of an element type. -/
def etBits (t : Nat) : Nat := 8 * etBytes t

/-- An arithmetic operation by element type: integers wrap. -/
def arith (fi : Int → Int → Int) (ff : FloatFmt → Nat → Nat → Nat) (t a b : Nat) : Nat :=
  match etFloat t with
  | some f => ff f a b
  | none => intBits (etBits t) (fi (bitsInt (etBits t) a) (bitsInt (etBits t) b))

/-- VADD. -/
def opVadd : SlotOp := vector2 anyType (arith (· + ·) fadd)
/-- VSUB. -/
def opVsub : SlotOp := vector2 anyType (arith (· - ·) fsub)
/-- VMUL. -/
def opVmul : SlotOp := vector2 anyType (arith (· * ·) fmul)
/-- VMAX. -/
def opVmax : SlotOp := vector2 anyType (arith max (fun f => fextreme f true))
/-- VMIN. -/
def opVmin : SlotOp := vector2 anyType (arith min (fun f => fextreme f false))
/-- VAND. -/
def opVand : SlotOp := vector2 [0] (fun _ a b => a &&& b)
/-- VOR. -/
def opVor : SlotOp := vector2 [0] (fun _ a b => a ||| b)
/-- VXOR. -/
def opVxor : SlotOp := vector2 [0] (fun _ a b => a ^^^ b)

/-- VFMA: one rounding. -/
def opVfma : SlotOp := fun k d w s =>
  let n := etBytes (fEt w)
  let f := (etFloat (fEt w)).getD fp32
  let abs := List.zip (vElems (d.vGet (fA w)) n) (vElems (d.vGet (fB w)) n)
  let bad := List.zipWith (· || ·) (vBadElems (d.vPoison (fA w)) n) (vBadElems (d.vPoison (fB w)) n)
  pureSlot (if vForm w floatTypes 0 then
      writeElems k d w n
        (List.zipWith (fun p c => ffma f p.1 p.2 c) abs (vElems (d.vGet (fC w)) n))
        (List.zipWith (· || ·) bad (vBadElems (d.vPoison (fC w)) n))
    else illegal) s

/-- An integer's negation or absolute value; that of the most negative is not stated (log 22). -/
def intOrOpen (t : Nat) (i : Int) : Nat :=
  if i = 2 ^ (etBits t - 1) then Config.negateOpen (etBits t) % 2 ^ etBits t else intBits (etBits t) i

/-- VABS. -/
def opVabs : SlotOp := vector1 anyType (fun t a =>
  match etFloat t with
  | some f => fabs f a
  | none => intOrOpen t (bitsInt (etBits t) a).natAbs)

/-- VNEG. -/
def opVneg : SlotOp := vector1 anyType (fun t a =>
  match etFloat t with
  | some f => fneg f a
  | none => intOrOpen t (-(bitsInt (etBits t) a)))

/-! ## VCVT (R167, R168) -/

/-- Least and greatest integer a conversion to an integer type gives (R168). -/
def intRange : Nat → Int × Int
  | 0 => (-127, 127)
  | _ => (-(2 ^ 31), 2 ^ 31 - 1)

/-- Convert one element from type t to type u: the bits and whether it saturated. -/
def convert (t u a : Nat) : Nat × Bool :=
  match etFloat t, etFloat u with
  | some f, some g => (fcvt f g a, false)
  | some f, none =>
    let r := toInt (intRange u).1 (intRange u).2 f a
    (intBits (etBits u) r.1, r.2)
  | none, some g => (ofInt g (bitsInt (etBits t) a), false)
  | none, none =>
    let i := bitsInt (etBits t) a
    if u = 0 ∧ (i < -128 ∨ 127 < i) then (Config.narrowOpen a % 256, false) else (intBits (etBits u) i, false)

/-- VCVT: results packed from element 0, the remaining bytes zero; results beyond the register are not
kept (DEDUCED, log 26). -/
def opVcvt : SlotOp := fun k d w s =>
  let t := fEt w
  let u := bitsOf (fFl w) 2 0
  let n := min (64 / etBytes t) (64 / etBytes u)
  let r := ((vElems (d.vGet (fA w)) (etBytes t)).take n).map (convert t u)
  let pad := 64 / etBytes u - n
  let on := vEnabled (d.pGet (fPred w)) (etBytes u)
  let sat := ((r.zip on).filter (fun p => p.1.2 && p.2)).length
  let out := writeElems k d w (etBytes u)
    (r.map (·.1) ++ List.replicate pad 0)
    ((vBadElems (d.vPoison (fA w)) (etBytes t)).take n ++ List.replicate pad false)
  pureSlot (if vForm w anyType 7 && anyType.contains u then
      match out with
      | .ok ws act => .ok ws (fun s => (act s).bumpBy 0x2506 1 64 sat)
      | o => o
    else illegal) s

/-! ## Comparisons, selection, movement -/

/-- An element comparison into the predicate bits of each element's bytes; the bits of an element that is not enabled
keep their value (R191). -/
def vcompare (fi : Int → Int → Bool) (ff : FloatFmt → Nat → Nat → Bool) : SlotOp := fun k d w s =>
  let n := etBytes (fEt w)
  let one (a b : Nat) : Bool := match etFloat (fEt w) with
    | some f => ff f a b
    | none => fi (bitsInt (etBits (fEt w)) a) (bitsInt (etBits (fEt w)) b)
  let res := List.zipWith one (vElems (d.vGet (fA w)) n) (vElems (d.vGet (fB w)) n)
  let bad := List.zipWith (· || ·) (vBadElems (d.vPoison (fA w)) n) (vBadElems (d.vPoison (fB w)) n)
  let pp := d.pPoison (fPred w)
  let on := vEnabled (if pp then BitVec.allOnes 64 else d.pGet (fPred w)) n
  let written := packMarks n on
  let value := (packMarks n res &&& written) ||| (d.pGet (fD w) &&& ~~~written)
  let kept := !on.all id && d.pPoison (fD w)
  pureSlot (if vForm w anyType 0 then
      writeP k (fD w) value (pp || kept || (on.zip bad).any (fun p => p.1 && p.2))
    else illegal) s

/-- VCMPLT: a comparison with NaN is false. -/
def opVcmplt : SlotOp := vcompare (fun a b => decide (a < b)) flt
/-- VCMPEQ. -/
def opVcmpeq : SlotOp := vcompare (fun a b => decide (a = b)) feq

/-- VSEL: byte j by bit j of p[c]. -/
def opVsel : SlotOp := fun k d w s =>
  let p := d.pGet (fC w)
  let pick {α : Type} (a b : List α) : List α := keepOff ((List.range 64).map (fun i => p.getLsbD i)) b a
  pureSlot (if vForm w [0] 0 && decide (fC w < 8) then
      writeElems k d w 1 (pick (vElems (d.vGet (fA w)) 1) (vElems (d.vGet (fB w)) 1))
        ((pick (vBadElems (d.vPoison (fA w)) 1) (vBadElems (d.vPoison (fB w)) 1)).map (· || d.pPoison (fC w)))
    else illegal) s

/-- VBCAST. -/
def opVbcast : SlotOp := fun k d w s =>
  let n := etBytes (fEt w)
  pureSlot (if vForm w anyType 0 then
      writeElems k d w n (List.replicate (64 / n) ((d.sGet (fA w)).toNat % 2 ^ (8 * n)))
        (List.replicate (64 / n) (d.sPoison (fA w)))
    else illegal) s

/-- VEXTR: its I-form names no element type, which is a constant left open (log 25). -/
def opVextr : SlotOp := fun k d w s =>
  let n := etBytes (Config.extractType % 5)
  let i := (fImm w).toNat
  pureSlot (dataOn d w (iForm w 0) (fun pp =>
    writeS k (fD w) (BitVec.ofNat 64 (((vElems (d.vGet (fA w)) n)[i]?).getD (Config.extractOpen i)))
      (pp || ((vBadElems (d.vPoison (fA w)) n)[i]?).getD false))) s

/-- VPERM. -/
def opVperm : SlotOp := fun k d w s =>
  let src := vElems (d.vGet (fA w)) 1
  let bad := vBadElems (d.vPoison (fA w)) 1
  let idx := (vElems (d.vGet (fB w)) 1).map (· % 64)
  pureSlot (if vForm w [0] 0 then
      writeElems k d w 1 (idx.map (fun i => (src[i]?).getD 0))
        (List.zipWith (fun i b => b || (bad[i]?).getD false) idx (vBadElems (d.vPoison (fB w)) 1))
    else illegal) s

/-- VRCP: the exact result rounded once. -/
def opVrcp : SlotOp := vector1 [4] (fun _ a => frcp a)
/-- VRSQRT. -/
def opVrsqrt : SlotOp := vector1 [4] (fun _ a => frsqrt a)
/-- VEXP2. -/
def opVexp2 : SlotOp := vector1 [4] (fun _ a => fexp2 a)

/-- A result of an element type: a NaN is the canonical one (R165). -/
def canonicalOf (t a : Nat) : Nat :=
  match etFloat t with
  | some f => canonNan f a
  | none => a

/-- VRED: the sum or maximum of the enabled elements in element order, one rounding a step. The sum of no
element is zero; the maximum of none is not stated (log 22). -/
def opVred : SlotOp := fun k d w s =>
  let t := fEt w
  let n := etBytes t
  let greatest := bitOf (fFl w) 0
  let pp := d.pPoison (fPred w)
  let on := vEnabled (if pp then BitVec.allOnes 64 else d.pGet (fPred w)) n
  let l := ((on.zip (vElems (d.vGet (fA w)) n)).filter (·.1)).map (·.2)
  let bad := (on.zip (vBadElems (d.vPoison (fA w)) n)).any (fun p => p.1 && p.2)
  let step := if greatest then arith max (fun f => fextreme f true) t else arith (· + ·) fadd t
  let r := canonicalOf t (match l with
    | [] => if greatest then Config.emptyMax t % 2 ^ (8 * n) else 0
    | a :: rest => rest.foldl step a)
  pureSlot (if vForm w anyType 1 then
      writeV k (fD w) (BitVec.ofNat 512 r) (packMarks n [bad || pp])
    else illegal) s

/-! ## Rows and masking (R202) -/

/-- A rowmap entry's row is masked: padding, or its berth is cancelled in the turn. A tag that names no
berth of the batch is masked (DEDUCED, log 26). -/
def rowMasked (s : State) (d : Deck) (r : Nat) : Bool :=
  let tag := bitsOf (((d.rowmap.toList[r]?).getD 0xFFF#32).toNat) 11 0
  if tag = 0xFFF then true
  else match s.turn with
    | some t => ((t.batch[tag]?).map (·.cancelled)).getD true
    | none => true

/-! ## QROW (R175, R176, R201) -/

/-- n elements of w bytes from octets, converted exactly to fp32, or nothing if any is poison. -/
def rowValues (f : FloatFmt) (w n : Nat) (l : List Octet) : Option (List Nat) :=
  if anyBad l then none
  else some ((List.range n).map (fun i => fcvt f fp32 (leNat ((vals ((l.drop (w * i)).take w))))))

/-- Rows of the source as octets. -/
def qrowRead (k : Fin 16) (s : State) (src stride bytes : Nat) : State × List (List Octet) :=
  (List.range 8).foldl (fun acc r =>
    let x := memRead (query acc.1 (deckMaster k) .read) acc.1 (src + r * stride) bytes
    (x.1, acc.2 ++ [x.2.1])) (s, [])

/-- What a row comes to: masked rows have scale one and zero codes; none is poison. -/
def qrowOne (kv masked : Bool) (n : Nat) (row : Option (List Nat)) : Option QuantRow :=
  if masked then some ⟨if kv then 0x3C00 else 0x3F80_0000, List.replicate n 0, 0⟩
  else row.bind (if kv then quantKvRow else quantRow)

/-- Codes of a row for tile t, as octets. -/
def tileRow (q : Option QuantRow) (t : Nat) : List Octet :=
  match q with
  | some x => ((x.codes.drop (8 * t)).take 8).map (fun c => ⟨BitVec.ofNat 8 (intBits 8 c), false⟩)
  | none => List.replicate 8 ⟨0, true⟩

/-- The effect of QROW at its issue: the mask is sampled, tiles and scales are written (R201, R202). -/
def qrowAct (k : Fin 16) (d : Deck) (w : BitVec 64) (f : FloatFmt) (width src dst stride n : Nat) (s : State) : State :=
  let kv := bitOf (fFl w) 0
  let s0 := drainAll k s
  let r := qrowRead k s0 src stride (n * width)
  let rows := r.2.zipIdx.map (fun p => qrowOne kv (rowMasked s d p.2) n (rowValues f width n p.1))
  let tiles := (List.range (n / 8)).flatMap (fun t => rows.flatMap (fun q => tileRow q t))
  let s1 := (memWrite (query r.1 (deckMaster k) .write) r.1 dst tiles).1
  let sw := if kv then 2 else 4
  let pad := 64 / sw - 8
  let out := writeElems k d w sw
    (rows.map (fun q => (q.map (·.scale)).getD 0) ++ List.replicate pad 0)
    (rows.map (·.isNone) ++ List.replicate pad false)
  let s2 := match out with
    | .ok _ act => act s1
    | _ => s1
  let sats := (rows.map (fun q => (q.map (·.saturated)).getD 0)).sum
  let poisonRows := (rows.filter (·.isNone)).length
  modDeck ((s2.bumpBy 0x2506 1 64 sats).bumpBy 0x2506 2 64 poisonRows) k
    (fun d => { d with sequenced := d.sequenced ++ [(.vector, some (fD w))] })

/-- Source rows and destination tiles share a byte. -/
def qrowOverlap (src dst stride bytes n : Nat) : Bool :=
  (List.range 8).any (fun r => overlaps (src + r * stride) bytes dst (8 * n))

/-- The source rows lie in the deck's own data area. -/
def srcInside (k : Fin 16) (src stride bytes : Nat) : Bool :=
  decide (dataArea k ≤ src) && decide (src + 7 * stride + bytes ≤ dataEnd k)

/-- The destination lies in the deck's own data area. -/
def dstInside (k : Fin 16) (dst n : Nat) : Bool := decide (dataArea k ≤ dst) && decide (dst + 8 * n ≤ dataEnd k)

/-- QROW (R201): it waits for older stores to drain (R205). -/
def opQrow : SlotOp := fun k d w s =>
  let src := (d.sGet (fA w)).toNat
  let dst := (d.sGet (fB w)).toNat
  let c := (d.sGet (fC w)).toNat
  let stride := bitsOf c 31 0
  let n := bitsOf c 47 32
  let f := (etFloat (fEt w)).getD fp32
  let width := etBytes (fEt w)
  if !vForm w floatTypes 1 then (s, illegal)
  else if d.sPoison (fA w) || d.sPoison (fB w) || d.sPoison (fC w) then (s, .raise excPoison 0)
  else if bitsOf c 63 48 ≠ 0 ∨ n < 8 ∨ 16384 < n ∨ n % 8 ≠ 0 then (s, illegal)
  else if src % 64 ≠ 0 then (s, .raise excMisaligned src)
  else if dst % 64 ≠ 0 then (s, .raise excMisaligned dst)
  else if stride % 64 ≠ 0 then (s, .raise excMisaligned src)
  else if !srcInside k src stride (n * width) then protection k src s
  else if !dstInside k dst n then protection k dst s
  else if qrowOverlap src dst stride (n * width) n then (s, illegal)
  else if d.store ≠ [] then (s, .stall)
  else (s, .ok [.v (fD w)] (qrowAct k d w f width src dst stride n))

end Sys2Proof.Machine
end

