-- ==== Sys2Proof/Machine/DeckMemory.lean ====
section
/-! DEFINITION. Slot M: loads, stores, weight streams, rowmap, KVPUT, FENCE and the semaphores (M-slot
operations; R191 to R194, R196, R202 to R206, R259, R312). -/

namespace Sys2Proof.Machine

/-! ## Loads and stores -/

/-- s[a] + imm, in 64 bits. -/
def iAddr (d : Deck) (w : BitVec 64) : Nat := (d.sGet (fA w) + fImm w).toNat

/-- Go on with an aligned address that is not poisoned. -/
def atAddress (poisoned : Bool) (a align : Nat) (s : State) (go : State × SlotResult) : State × SlotResult :=
  if poisoned then (s, .raise excPoison 0) else if a % align ≠ 0 then (s, .raise excMisaligned a) else go

/-- Read n bytes at an address and make a slot result of them. -/
def loadThen (k : Fin 16) (d : Deck) (a n : Nat) (mk : List Octet → SlotResult) (s : State) : State × SlotResult :=
  let r := deckRead k d s a n
  match r.2 with
  | .got l => (r.1, mk l)
  | .raise c => (r.1, .raise c a)
  | .stall => (r.1, .stall)

/-- An operation with a memory effect under the slot's predicate bit 0 (R191). -/
def memOn (d : Deck) (w : BitVec 64) (legal : Bool) (s : State) (go : State × SlotResult) : State × SlotResult :=
  match ctlOn d w legal (.ok [] id) with
  | .raise c a => (s, .raise c a)
  | .stall => (s, .stall)
  | .ok _ _ => if d.pPoison (fPred w) || !predOn d w then (s, .nothing) else go

/-- Bytes of an LD or ST by fl[1:0]. -/
def accessSize (w : BitVec 64) : Nat := 2 ^ bitsOf (fFl w) 1 0

/-- Sign- or zero-extend a loaded value. -/
def extendLoad (w : BitVec 64) (v : Nat) : BitVec 64 :=
  let n := 8 * accessSize w
  if bitOf (fFl w) 2 then BitVec.ofInt 64 (bitsInt n v) else BitVec.ofNat 64 v

/-- LD. -/
def opLd : SlotOp := fun k d w s =>
  memOn d w (iForm w 7) s
    (atAddress (d.sPoison (fA w)) (iAddr d w) (accessSize w) s
      (loadThen k d (iAddr d w) (accessSize w)
        (fun l => writeS k (fD w) (extendLoad w (leNat (vals l))) false) s))

/-- Store bytes: refused and unmapped lines raise; a full buffer stalls (R205). -/
def storeThen (k : Fin 16) (d : Deck) (ranges : List (Nat × Nat)) (span : Option Nat) (bytes : List StoreByte)
    (s : State) : State × SlotResult :=
  let r := ranges.foldl (fun acc p => match acc.2 with
    | some _ => acc
    | none =>
      let x := writePermitted k acc.1 p.1 p.2
      (x.1, x.2.map (fun c => (c, p.1)))) (s, (none : Option (Nat × Nat)))
  match r.2 with
  | some (c, a) => (r.1, .raise c a)
  | none =>
    if storeRoom d span then (r.1, .ok [] (fun s => modDeck s k (placeStore span bytes [] false)))
    else (r.1, .stall)

/-- ST: a poisoned source stores poison. -/
def opSt : SlotOp := fun k d w s =>
  let n := accessSize w
  let a := iAddr d w
  memOn d w (iForm w 3) s
    (atAddress (d.sPoison (fA w)) a n s
      (storeThen k d [(a, n)] (some (a / 64))
        (storeBytes a ((leBytes n (d.sGet (fB w)).toNat).map (⟨·, d.sPoison (fB w)⟩))) s))

/-- The bytes a predicate enables of octets that start at an address (R191). -/
def enabledBytes (p : BitVec 64) (first a : Nat) (l : List Octet) : List StoreByte :=
  (l.zipIdx.filter (fun x => p.getLsbD (first + x.2))).map (fun x => ⟨a + x.2, x.1⟩)

/-- Octets of v[b]; a poisoned predicate poisons what is stored. -/
def vSource (d : Deck) (w : BitVec 64) : List Octet :=
  let l := vOctets (d.vGet (fB w)) (d.vPoison (fB w))
  if d.pPoison (fPred w) then l.map (fun o => { o with bad := true }) else l

/-- VLD: byte j of v[d] is written if bit j of the predicate is set (R191). -/
def opVld : SlotOp := fun k d w s =>
  if !iForm w 0 then (s, illegal)
  else atAddress (d.sPoison (fA w)) (iAddr d w) 64 s
    (loadThen k d (iAddr d w) 64
      (fun l => writeElems k d w 1 ((vals l).map (·.toNat)) (List.replicate 64 false)) s)

/-- VST. -/
def opVst : SlotOp := fun k d w s =>
  let a := iAddr d w
  if !iForm w 0 then (s, illegal)
  else atAddress (d.sPoison (fA w)) a 64 s
    (storeThen k d [(a, 64)] (some (a / 64)) (enabledBytes (d.pGet (fPred w)) 0 a (vSource d w)) s)

/-- Address of strided row r: s[a] + r × s[c]. -/
def rowAddr (d : Deck) (w : BitVec 64) (r : Nat) : Nat := (d.sGet (fA w) + BitVec.ofNat 64 r * d.sGet (fC w)).toNat

/-- Read the eight strided rows and make a slot result of them; a row that cannot be read gives its own address. -/
def loadRows (k : Fin 16) (d : Deck) (w : BitVec 64) (mk : List Octet → SlotResult) :
    List Nat → State → List Octet → State × SlotResult
  | [], s, acc => (s, mk acc)
  | r :: rest, s, acc =>
    let x := deckRead k d s (rowAddr d w r) 8
    match x.2 with
    | .got l => loadRows k d w mk rest x.1 (acc ++ l)
    | .raise c => (x.1, .raise c (rowAddr d w r))
    | .stall => (x.1, .stall)

/-- VLDR. -/
def opVldr : SlotOp := fun k d w s =>
  if !rForm w 0 then (s, illegal)
  else if d.sPoison (fA w) || d.sPoison (fC w) then (s, .raise excPoison 0)
  else match (List.range 8).find? (fun r => !decide (rowAddr d w r % 8 = 0)) with
    | some r => (s, .raise excMisaligned (rowAddr d w r))
    | none => loadRows k d w (fun l => writeElems k d w 1 ((vals l).map (·.toNat)) (List.replicate 64 false))
        (List.range 8) s []

/-- VSTR: rows masked at its issue are suppressed (R202). -/
def opVstr : SlotOp := fun k d w s =>
  let rows := (List.range 8).filter (fun r => !rowMasked s d r)
  let src := vSource d w
  if !rForm w 0 then (s, illegal)
  else if d.sPoison (fA w) || d.sPoison (fC w) then (s, .raise excPoison 0)
  else match (List.range 8).find? (fun r => !decide (rowAddr d w r % 8 = 0)) with
    | some r => (s, .raise excMisaligned (rowAddr d w r))
    | none =>
      storeThen k d (rows.map (fun r => (rowAddr d w r, 8))) none
        (rows.foldl (fun acc r => mergeBytes acc
          (enabledBytes (d.pGet (fPred w)) (8 * r) (rowAddr d w r) ((src.drop (8 * r)).take 8))) []) s

/-- A rowmap entry has a defined tag and no reserved bits. -/
def rowEntryOk (e : Nat) : Bool :=
  (decide (bitsOf e 11 0 < 0x100) || decide (bitsOf e 11 0 = 0xFFF)) && decide (bitsOf e 15 12 = 0)
    && decide (bitsOf e 31 28 = 0)

/-- RMLD. -/
def opRmld : SlotOp := fun k d w s =>
  memOn d w (iForm w 0) s
    (atAddress (d.sPoison (fA w)) (iAddr d w) 32 s
      (loadThen k d (iAddr d w) 32 (fun l =>
        let es := (List.range 8).map (fun r => fld (vals l) (4 * r) 4)
        if es.all rowEntryOk then
          .ok ((List.range 8).map .map) (fun s => modDeck s k (fun d =>
            { d with rowmap := Vector.ofFn (fun i => BitVec.ofNat 32 ((es[i.val]?).getD 0xFFF)) }))
        else illegal) s))

/-- FENCE: stall until the store buffer is empty. -/
def opFence : SlotOp := fun _ d w s => memOn d w (iForm w 0) s (s, if d.store = [] then .nothing else .stall)

/-! ## Weight streams (R193, R194, R196) -/

/-- Group size of a stream format: 32, 64 or 8. -/
def groupSize : Nat → Nat
  | 1 => 32 | 2 => 64 | _ => 8

/-- Columns of a step walk: four for Q4G32, else eight. -/
def stepColumns (format : Nat) : Nat := if format = 1 then 4 else 8

/-- A stream from its 64 descriptor bytes. -/
def streamOf (b : Bytes) (mask : Nat) : Stream where
  base := fld b 0 8
  lengths := fld b 8 8
  nRows := fld b 16 4
  kLen := fld b 20 4
  n0 := fld b 24 4
  laneStride := fld b 28 2
  format := fld b 30 1
  reps := fld b 31 1
  kFirst := fld b 32 4
  kCount := fld b 36 4
  mask := mask
  raw := b
  started := false
  pos := 0
  buffer := []
  faulty := false
  waiting := false

/-- R193's checks of a descriptor loaded by logical deck l. Tiers 1 and 3 have zero lengths. -/
def descriptorOk (b : Bytes) (l : Nat) : Bool :=
  let x := streamOf b 0
  let g := groupSize x.format
  let tier2 := decide (flashBase ≤ x.base) && decide (x.base < flashEnd)
  decide (x.base < 2 ^ 48) && decide (x.lengths < 2 ^ 48) && (tier2 || decide (x.lengths = 0)) && zeroAt b 42 22
    && decide (1 ≤ x.format) && decide (x.format ≤ 3)
    && (decide (x.format = 3) || decide (x.kLen % g = 0))
    && decide (x.kFirst % g = 0) && decide (x.kCount % g = 0) && decide (8 ≤ x.kCount)
    && decide (x.kFirst + x.kCount ≤ x.kLen)
    && decide (1 ≤ x.reps) && decide (x.reps ≤ 8) && decide (8 ≤ x.laneStride) && decide (x.base % 4096 = 0)
    && (fld b 40 2).testBit l

/-- Steps a stream delivers. -/
def Stream.total (x : Stream) : Nat := x.kCount / 8 * stepColumns x.format * x.reps

/-- Stream n of a deck. -/
def Deck.stream (d : Deck) (n : Nat) : Option Stream := (d.streams.toList[n]?).join

/-- Change stream n of a deck. -/
def Deck.setStream (d : Deck) (n : Nat) (x : Option Stream) : Deck :=
  if h : n < 4 then { d with streams := d.streams.set n x h } else d

/-- Mark stream n of a deck faulty. -/
def faultStream (n : Nat) (d : Deck) : Deck := d.setStream n ((d.stream n).map (fun x => { x with faulty := true }))

/-- Every logical deck of the mask has loaded the descriptor into stream n (R196). -/
def allLoaded (s : State) (n mask : Nat) (raw : Bytes) : Bool :=
  (List.range 16).all (fun l => !mask.testBit l || (List.finRange 16).any (fun j =>
    let d := s.decks.get j
    decide (d.status = .running) && decide (d.logical = l)
      && (match d.stream n with | some x => decide (x.raw = raw) | none => false)))

/-- Start the stream in every deck of the mask. -/
def startStream (s : State) (k : Fin 16) (n mask : Nat) : State :=
  (k :: sharers s k mask).foldl (fun s j => modDeck s j (fun d =>
    d.setStream n ((d.stream n).map (fun x => { x with started := true })))) s

/-- A running deck other than k shares stream n with k: it has loaded the stream, and one of the two masks names the
other's logical deck. -/
def sharesStream (s : State) (k : Fin 16) (n mask : Nat) (j : Fin 16) : Bool :=
  let d := s.decks.get j
  !decide (j = k) && decide (d.status = .running)
    && (match d.stream n with
      | some y => mask.testBit d.logical || y.mask.testBit (s.decks.get k).logical
      | none => false)

/-- A deck of a mask has halted in the attempt that fails, and no deck runs its logical deck again (R196). -/
def maskHalted (s : State) (k : Fin 16) (mask : Nat) : Bool :=
  ((s.turn.bind (·.failing)).isSome) && (List.finRange 16).any (fun j =>
    let d := s.decks.get j
    !decide (j = k) && decide (d.status = .halted) && mask.testBit d.logical
      && decide (d.exc.turn = s.turns % 2 ^ 32)
      && !(List.finRange 16).any (fun i => decide ((s.decks.get i).status = .running)
        && decide ((s.decks.get i).logical = d.logical)))

/-- Load a checked descriptor: a stream of one deck starts; a shared one starts when all have loaded it; one
that differs makes every other deck's stream fault, and so does the halt of a deck of the mask, whether that deck
loads before or after (R196, R351). -/
def loadStream (k : Fin 16) (n : Nat) (b : Bytes) (s : State) : State :=
  let d := s.decks.get k
  let raw := fld b 40 2
  let mask := if servedAlone s d.dispatched raw then 2 ^ d.logical else raw
  let others := (List.finRange 16).filter (sharesStream s k n mask)
  let loaded := others.filterMap (fun j => ((s.decks.get j).stream n).map (·.raw))
  let faulty := loaded.any (fun x => loaded.any (fun y => !decide (x = y))) || maskHalted s k mask
  let s1 := modDeck s k (fun d => d.setStream n (some { streamOf b mask with faulty := faulty }))
  if loaded.any (fun x => !decide (x = b)) then others.foldl (fun s j => modDeck s j (faultStream n)) s1
  else if allLoaded s1 n mask b then startStream s1 k n mask else s1

/-- WSLD (R193). -/
def opWsld : SlotOp := fun k d w s =>
  memOn d w (iForm w 0 && decide (fD w < 4)) s
    (atAddress (d.sPoison (fA w)) (iAddr d w) 64 s
      (loadThen k d (iAddr d w) 64 (fun l =>
        if descriptorOk (vals l) d.logical then .ok [] (loadStream k (fD w) (vals l))
        else .raise excStream (iAddr d w)) s))

/-- WSEND: the stream stops; its undelivered steps are discarded. -/
def opWsend : SlotOp := fun k d w s =>
  memOn d w (rForm w 0 && decide (fD w < 4)) s
    (s, .ok [] (fun s => modDeck s k (fun d => d.setStream (fD w) none)))

/-- What a stream's fetch met, and the cause and address of the exception that an unmapped or refused read gives the
MMA that takes the step (R14, R137; log 111). -/
abbrev StreamNote := Note × Option (Nat × Nat)

/-- The first of two notes that is not plain, and the first fault. -/
def StreamNote.first (a b : StreamNote) : StreamNote := (a.1.first b.1, a.2.orElse (fun _ => b.2))

/-- The note of a stream's read at an address. -/
def streamNote (n : Note) (a : Nat) : StreamNote :=
  (n, match n with
    | .unmapped => some (excAddress, a)
    | .refused => some (excProtection, a)
    | _ => none)

/-- Bytes of a weight range as the stream's controller gives them: with the length table of its tensor where
it lies in the flash (R177, R195). -/
def streamBytes (k : Fin 16) (x : Stream) (s : State) (a n : Nat) : State × List Octet × StreamNote :=
  (cuts 4096 2 a n).foldl (fun acc p =>
    let q : Query := { query acc.1 (deckMaster k) .stream with
      lengths := if x.lengths = 0 then none else some (x.lengths + (p.1 - x.base) / 4096) }
    let r := memRead q acc.1 p.1 p.2
    (r.1, acc.2.1 ++ r.2.1, StreamNote.first acc.2.2 (streamNote r.2.2 p.1))) (s, [], .ok, none)

/-- One row's part of a step: eight weights and, on a closing step, the group's scale. -/
structure RowStep where
  weights : List Nat
  scale : BitVec 32
  zero : Bool
  bad : Bool
  deriving DecidableEq, Repr

/-- A row beyond the tensor: zero weights and, at close, a zero group. -/
def RowStep.none : RowStep := ⟨List.replicate 8 0, 0, true, false⟩

/-- Address of the super-block of element e and its group number within it (R170). -/
def superBlock (x : Stream) (e : Nat) : Nat × Nat :=
  let g := groupSize x.format
  (x.base + e / g / 8 * (if x.format = 1 then 138 else 522), e / g % 8)

/-- Eight codes from weight bytes: int4 pairs, int8, or bf16 bits (R164). -/
def codesOf (format : Nat) (bs : Bytes) : List Nat :=
  if format = 1 then bs.flatMap (fun b => [b.toNat % 16, b.toNat / 16])
  else if format = 2 then bs.map (·.toNat)
  else (List.range 8).map (fun i => fld bs (2 * i) 2)

/-- Fetch row n's weights of inputs kk to kk + 7 (R170, R194). -/
def rowStep (k : Fin 16) (x : Stream) (closing : Bool) (s : State) (n kk : Nat) : State × RowStep × StreamNote :=
  if x.nRows ≤ n then (s, RowStep.none, .ok, none)
  else
    let e := n * x.kLen + kk
    if x.format = 3 then
      let r := streamBytes k x s (x.base + 2 * e) 16
      (r.1, ⟨codesOf 3 (vals r.2.1), 0, false, anyBad r.2.1⟩, r.2.2)
    else
      let sb := superBlock x e
      let perGroup := if x.format = 1 then 16 else 64
      let off := if x.format = 1 then e % 32 / 2 else e % 64
      let wr := streamBytes k x s (sb.1 + 10 + sb.2 * perGroup + off) (if x.format = 1 then 4 else 8)
      if closing then
        let sr := streamBytes k x wr.1 sb.1 2
        let cr := streamBytes k x sr.1 (sb.1 + 2 + sb.2) 1
        let c := leNat (vals cr.2.1)
        let sc := groupScale (leNat (vals sr.2.1)) c
        let bad := anyBad wr.2.1 || anyBad sr.2.1 || anyBad cr.2.1 || (!decide (c = 0) && sc.isNone)
        (cr.1, ⟨codesOf x.format (vals wr.2.1), BitVec.ofNat 32 (sc.getD 0), decide (c = 0), bad⟩,
          StreamNote.first (StreamNote.first wr.2.2 sr.2.2) cr.2.2)
      else (wr.1, ⟨codesOf x.format (vals wr.2.1), 0, false, anyBad wr.2.1⟩, wr.2.2)

/-- Position of step number i: input, column (R194). -/
def stepAt (x : Stream) (i : Nat) : Nat × Nat :=
  let cols := stepColumns x.format
  (x.kFirst + 8 * (i / (cols * x.reps)), i / x.reps % cols)

/-- A step closes its group. -/
def stepCloses (x : Stream) (kk : Nat) : Bool := !decide (x.format = 3) && decide ((kk + 8) % groupSize x.format = 0)

/-- Fetch what lane ℓ receives in a step. -/
def laneStep (k : Fin 16) (x : Stream) (kk c : Nat) (s : State) (lane : Nat) : State × LaneStep × StreamNote :=
  let n := x.n0 + lane * x.laneStride
  let closing := stepCloses x kk
  if x.format = 1 then
    let lo := rowStep k x closing s (n + 2 * c) kk
    let hi := rowStep k x closing lo.1 (n + 2 * c + 1) kk
    (hi.1, ⟨lo.2.1.weights, hi.2.1.weights, lo.2.1.scale, hi.2.1.scale, lo.2.1.zero, hi.2.1.zero, lo.2.1.bad,
      hi.2.1.bad⟩, StreamNote.first lo.2.2 hi.2.2)
  else
    let lo := rowStep k x closing s (n + c) kk
    (lo.1, ⟨lo.2.1.weights, [], lo.2.1.scale, 0, lo.2.1.zero, true, lo.2.1.bad, false⟩, lo.2.2)

/-- Fetch the next step of a stream. -/
def fetchStep (k : Fin 16) (x : Stream) (s : State) : State × StreamStep × Note :=
  let p := stepAt x x.pos
  let r := (List.range 32).foldl (fun acc lane =>
    let l := laneStep k x p.1 p.2 acc.1 lane
    (l.1, acc.2.1 ++ [l.2.1], StreamNote.first acc.2.2 l.2.2)) (s, ([] : List LaneStep), (Note.ok, none))
  (r.1, ⟨p.1, p.2, stepCloses x p.1, r.2.1, r.2.2.2⟩, r.2.2.1)

/-- A step enters the buffer of stream n, which waits for it no longer. -/
def deliverStep (n : Nat) (st : StreamStep) (d : Deck) : Deck :=
  d.setStream n ((d.stream n).map (fun x => { x with pos := x.pos + 1, buffer := x.buffer ++ [st], waiting := false }))

/-- Stream n's next step waits for a flash bank, or no longer does. -/
def waitStream (n : Nat) (b : Bool) (d : Deck) : Deck := d.setStream n ((d.stream n).map (fun x => { x with waiting := b }))

/-- Deliver the next step of deck k's stream n to every deck of its mask: nothing while it is not started, is
done, a buffer is full, or a flash bank must be waited for (R195, R196). -/
def advanceStream (k : Fin 16) (n : Nat) (s : State) : State :=
  match (s.decks.get k).stream n with
  | none => s
  | some x =>
    let decks := k :: (sharers s k x.mask).filter (fun j => match (s.decks.get j).stream n with
      | some y => y.mask.testBit (s.decks.get k).logical
      | none => false)
    let full := decks.any (fun j => ((((s.decks.get j).stream n).map (fun y => decide (64 ≤ y.buffer.length)))).getD false)
    if !x.started || decide (x.total ≤ x.pos) || full then s
    else
      let r := fetchStep k x s
      match r.2.2 with
      | .stalled _ => modDeck s k (waitStream n true)
      | _ => decks.foldl (fun s j => modDeck s j (deliverStep n r.2.1)) (touchTensor r.1 x.base)

/-- Weight streams whose step waited for a flash bank ask again (R112). -/
def serveStreams (s : State) : State :=
  (List.finRange 16).foldl (fun s k => (List.range 4).foldl (fun s n =>
    match (s.decks.get k).stream n with
    | some x => if x.waiting then advanceStream k n (modDeck s k (waitStream n false)) else s
    | none => s) s) s

/-! ## KVPUT (R202 to R204, R267, R270) -/

/-- The fields of a KV coordinate. -/
structure KvCoord where
  layer : Nat
  head : Nat
  kind : Nat
  scale : Bool
  group : Nat
  rest : Nat
  deriving DecidableEq, Repr

/-- A KV coordinate from s[a]. -/
def kvCoord (v : Nat) : KvCoord :=
  ⟨bitsOf v 7 0, bitsOf v 11 8, bitsOf v 12 12, bitOf v 13, bitsOf v 20 14, v / 2 ^ 21⟩

/-- The coordinate lies within the image's shape (R203); bits of its reserved field do not
(DEDUCED, log 26). -/
def coordOk (s : State) (slot : Nat) (m : Manifest) (c : KvCoord) : Bool :=
  (heldLayers s slot).contains c.layer && decide (c.head < m.kvHeads)
    && (c.scale || decide (8 * c.group + 8 ≤ m.headDim)) && decide (c.rest = 0)

/-- Bytes that row r of v[b] writes at position q of its page (R203, R264). -/
def kvBytesOf (m : Manifest) (c : KvCoord) (p : BitVec 64) (src : List Octet) (r q page : Nat) : List StoreByte :=
  let j := q / 16 % m.blocksPerPage
  if c.scale then
    let a := page + scaleByte m j c.head c.kind (q % 16)
    if p.getLsbD (2 * r) then storeBytes a ((src.drop (2 * r)).take 2) else []
  else
    enabledBytes p (8 * r) (page + codeByte m j c.head c.kind (q % 16) (8 * c.group)) ((src.drop (8 * r)).take 8)

/-- What KVPUT has gathered while it goes through its rows. -/
structure KvPut where
  st : State
  bytes : List StoreByte
  sets : List (Nat × Nat)

/-- One row of a KVPUT: its page is resolved or taken, its bytes join the entry, poison marks the set
damaged for the attempt and fails it (R270). -/
def kvRow (d : Deck) (m : Manifest) (c : KvCoord) (p : BitVec 64) (src : List Octet) (layerIndex : Nat) (acc : KvPut)
    (r : Nat) : KvPut :=
  let e := ((d.rowmap.toList[r]?).getD 0).toNat
  match acc.st.turn.bind (fun t => t.batch[bitsOf e 11 0]?) with
  | none => acc
  | some be =>
    let q := be.position + bitsOf e 27 16
    let x := resolveRow acc.st be.berth layerIndex q
    match x.2 with
    | none => { acc with st := x.1 }
    | some (slot, set, page) =>
      let bytes := kvBytesOf m c p src r q page
      let s1 := if bytes.any (·.data.bad) then
          failAttempt .integrity (modTurn x.1 (fun t => { t with damaged := t.damaged ++ [set] }))
        else x.1
      ⟨s1, mergeBytes acc.bytes bytes, acc.sets ++ [(slot, set)]⟩

/-- The effect of a KVPUT: the mask has been sampled at its issue; one store-buffer entry is taken. -/
def kvputAct (k : Fin 16) (d : Deck) (w : BitVec 64) (m : Manifest) (c : KvCoord) (rows : List Nat) (layerIndex : Nat)
    (s : State) : State :=
  let r := rows.foldl (kvRow d m c (d.pGet (fPred w)) (vSource d w) layerIndex) ⟨s, [], []⟩
  modDeck r.st k (placeStore none r.bytes r.sets true)

/-- KVPUT (R203). -/
def opKvput : SlotOp := fun k d w s =>
  let c := kvCoord (d.sGet (fA w)).toNat
  let slot := (s.turn.map (·.slot)).getD 0
  if !rForm w 0 then (s, illegal)
  else if d.sPoison (fA w) then (s, .raise excPoison 0)
  else match manifestOf s slot with
    | none => (s, .raise excKv 0)
    | some m =>
      if !coordOk s slot m c then (s, .raise excKv 0)
      else if !storeRoom d none then (s, .stall)
      else
        let rows := (List.range 8).filter (fun r => !rowMasked s d r)
        (s, .ok [] (kvputAct k d w m c rows (((heldLayers s slot).findIdx? (· == c.layer)).getD 0)))

/-! ## SEMSIG and SEMWAIT (R259, R312) -/

/-- SEMSIG: the signal takes effect at the commit point of the turn. -/
def opSemsig : SlotOp := fun k d w s =>
  let v := (d.sGet (fA w)).toNat
  let sem := bitsOf v 9 0
  let node := bitsOf v 13 10
  let isLocal := decide (node = 0) || decide (node = s.nodeId)
  memOn d w (rForm w 0) s
    (if d.sPoison (fA w) then (s, .raise excPoison 0)
     else if v / 2 ^ 14 ≠ 0 ∨ (if isLocal then !semDeck s sem else !nodeMapped s node) then protection k 0 s
     else (s, .ok [] (fun s => modTurn s (fun t => { t with signals := t.signals ++ [(sem, if isLocal then 0 else node)] }))))

/-- SEMWAIT: stall until a local semaphore holds at least s[b]. -/
def opSemwait : SlotOp := fun k d w s =>
  let v := (d.sGet (fA w)).toNat
  memOn d w (rForm w 0) s
    (if d.sPoison (fA w) || d.sPoison (fB w) then (s, .raise excPoison 0)
     else if 1024 ≤ v ∨ !semDeck s v then protection k 0 s
     else (s, if (d.sGet (fB w)).toNat ≤ semValue s v then .nothing else .stall))

end Sys2Proof.Machine
end

