-- ==== Sys2Proof/Machine/DeckArray.lean ====
section
/-! DEFINITION. Slot X: the MAC arrays (X-slot operations; R172 to R174, R192, R197 to R200) and their residue
checkers (R340, R341). -/

namespace Sys2Proof.Machine

/-! ## Accumulators -/

/-- An accumulator entry that is zero. -/
def AccCell.zero : AccCell := ⟨0, 0, 0, 0, false⟩

/-- Key of an entry: bank, array, row, column. -/
def accKey (bank array row col : Nat) : Nat := bank * 2048 + array * 64 + row * 8 + col

/-- An accumulator entry. -/
def Deck.cell (d : Deck) (key : Nat) : AccCell := (sget d.acc key).getD AccCell.zero

/-- Change an accumulator entry; zero entries are not listed. -/
def Deck.setCell (d : Deck) (key : Nat) (c : AccCell) : Deck :=
  { d with acc := sput d.acc key (if c = AccCell.zero then none else some c) }

/-- Entries of a bank. -/
def inBank (bank key : Nat) : Bool := decide (key / 2048 = bank)

/-- Mathematical residue of an integer modulo 3 (R340). -/
def mod3 (i : Int) : Nat := (i % 3).toNat

/-- The fp32 accumulator of an entry is written with its residue (R340). -/
def AccCell.setF (c : AccCell) (f : Nat) : AccCell := { c with facc := BitVec.ofNat 32 f, fres := f % 3 }

/-! ## Residue mismatches (R341) -/

/-- A residue mismatch of an array: latched, recorded, the deck suspect, the attempt failed. -/
def residueMismatch (k : Fin 16) (array : Nat) (s : State) : State :=
  let s1 := s.error ⟨1, deckMaster k, 1, 0, 0, k.val, (s.decks.get k).logical, array⟩
  failAttempt .integrity (suspect k.val (modDeck s1 k (fun d => { d with mismatch := some array })))

/-- A check reads a residue: a fault injected on an array shows here (R361), in paired mode as a difference of the pair's
residue results (R344); in off mode nothing is checked (R346). -/
def residueCheck (k : Fin 16) (s : State) : State :=
  match (s.decks.get k).injected with
  | some (1, array, noStep) =>
    let s1 := modDeck s k (fun d => { d with injected := none })
    let spare (l : List Nat) (s : State) : State := if noStep then modTurn s (fun t => { t with spared := l ++ t.spared }) else s
    if s.integrity.mode = 2 then s1
    else if s.integrity.mode = 1 then pairMismatch k (spare [k.val / 2 * 2, k.val / 2 * 2 + 1] s1)
    else residueMismatch k array (spare [k.val] s1)
  | _ => s

/-! ## MMA (R197 to R199) -/

/-- One activation of the tile with its mark. -/
structure Act where
  value : Nat
  bad : Bool
  deriving DecidableEq, Repr

/-- Row r of an int8 tile: byte 8r + k of v[a]. -/
def intRow (d : Deck) (a r : Nat) : List Act :=
  (((vOctets (d.vGet a) (d.vPoison a)).drop (8 * r)).take 8).map (fun o => ⟨o.val.toNat, o.bad⟩)

/-- Row r of a bf16 or fp16 tile in the pair v[a], v[a + 1]. -/
def floatRow (d : Deck) (a r : Nat) : List Act :=
  let reg := a + r / 4
  let l := ((vOctets (d.vGet reg) (d.vPoison reg)).drop (16 * (r % 4))).take 16
  (List.range 8).map (fun i => ⟨leNat (vals ((l.drop (2 * i)).take 2)), anyBad ((l.drop (2 * i)).take 2)⟩)

/-- A masked row's activations are taken as zero (R202). -/
def maskRow (masked : Bool) (l : List Act) : List Act := if masked then l.map (fun _ => ⟨0, false⟩) else l

/-- Modes 0 and 1: products into the int32 partial and its residue. Weights of `bits` bits. -/
def accumulateInt (bits : Nat) (acts : List Act) (ws : List Nat) (bad : Bool) (c : AccCell) : AccCell :=
  let pairs := acts.zip ws
  let sum := (pairs.map (fun p => bitsInt 8 p.1.value * bitsInt bits p.2)).sum
  let res := (pairs.map (fun p => mod3 (bitsInt 8 p.1.value) * mod3 (bitsInt bits p.2))).sum
  { c with
    part := c.part + BitVec.ofInt 32 sum
    rho := (c.rho + res) % 3
    bad := c.bad || bad || acts.any (·.bad) }

/-- Modes 2 and 3: F ← round(F + A × W) for k in order. -/
def accumulateFloat (f : FloatFmt) (acts : List Act) (ws : List Nat) (bad : Bool) (c : AccCell) : AccCell :=
  let r := (acts.zip ws).foldl
    (fun acc p => pack fp32 (addVal (unpack fp32 acc) (mulVal (unpack f p.1.value) (unpack bf16 p.2)))) c.facc.toNat
  { (c.setF r) with bad := c.bad || bad || acts.any (·.bad) }

/-- Group close: F ← round(F + P × s), P ← 0; a zero group adds exactly +0 (R172, R174, R199). -/
def closeCell (scale : BitVec 32) (zero bad : Bool) (c : AccCell) : AccCell :=
  let p := c.part.toInt
  let prod : FloatVal := if zero then .fin false 0 0
    else mulVal (.fin (decide (p < 0)) p.natAbs 0) (unpack fp32 scale.toNat)
  let f := pack fp32 (addVal prod (unpack fp32 c.facc.toNat))
  { (c.setF f) with part := 0, rho := 0, bad := c.bad || bad }

/-- One lane's part of an MMA on one row: the columns it targets and what becomes of their entries. -/
def laneCells (mode col : Nat) (close : Bool) (lane : LaneStep) (acts : List Act) : List (Nat × (AccCell → AccCell)) :=
  let fin (scale : BitVec 32) (zero bad : Bool) (c : AccCell) : AccCell := if close then closeCell scale zero bad c else c
  if mode = 0 then
    [(col, fun c => fin lane.scaleLower lane.zeroLower lane.badLower (accumulateInt 8 acts lane.lower lane.badLower c))]
  else if mode = 1 then
    [(2 * col, fun c => fin lane.scaleLower lane.zeroLower lane.badLower (accumulateInt 4 acts lane.lower lane.badLower c)),
     (2 * col + 1, fun c => fin lane.scaleUpper lane.zeroUpper lane.badUpper (accumulateInt 4 acts lane.upper lane.badUpper c))]
  else
    [(col, accumulateFloat (if mode = 2 then bf16 else fp16) acts lane.lower lane.badLower)]

/-- An MMA on a deck: every array, every row (R198). The mask has been sampled. -/
def mmaCells (mode bank col : Nat) (close : Bool) (a : Nat) (masked : List Bool) (src : Deck) (step : StreamStep)
    (d : Deck) : Deck :=
  let rows := (List.range 8).map (fun r =>
    maskRow ((masked[r]?).getD true) (if mode < 2 then intRow src a r else floatRow src a r))
  step.lanes.zipIdx.foldl (fun d lane =>
    rows.zipIdx.foldl (fun d row =>
      (laneCells mode col close lane.1 row.1).foldl (fun d t =>
        let key := accKey bank lane.2 row.2 t.1
        d.setCell key (t.2 (d.cell key))) d) d) d

/-- Mode that a stream format takes (R197). -/
def modeFits (mode format : Nat) : Bool :=
  match mode with
  | 0 => decide (format = 2)
  | 1 => decide (format = 1)
  | _ => decide (format = 3)

/-- The effect of an MMA: its step leaves the stream, the bank takes the products; counted in
0x4000 + 0x100 d:06, and the cycles it waited, a free value, in d:07 (log 78). -/
def mmaAct (k : Fin 16) (d : Deck) (w : BitVec 64) (step : StreamStep) (s : State) : State :=
  let mode := bitsOf (fFl w) 1 0
  let close := bitOf (fFl w) 2
  let masked := (List.range 8).map (rowMasked s d)
  let s1 := modDeck s k (fun x =>
    let y := x.setStream (fB w) ((x.stream (fB w)).map (fun z => { z with buffer := z.buffer.drop 1 }))
    let z := mmaCells mode (fD w) (fC w) close (fA w) masked d step y
    if mode < 2 then z else { z with sequenced := z.sequenced ++ [(.arrays, none)] })
  let s2 := ((s1.bumpBy (0x4000 + 0x100 * k.val) 6 64 1).bumpBy (0x4000 + 0x100 * k.val) 7 64
    (Config.elapsed s1.draws)).draw
  if close ∨ 2 ≤ mode then residueCheck k s2 else s2

/-- The register fields and flags that MMA accepts (R190, R197). -/
def mmaForm (w : BitVec 64) : Bool :=
  rForm w 7 && decide (fD w < 8) && decide (fB w < 4) && decide (fC w < 8)
    && (decide (bitsOf (fFl w) 1 0 < 2) || decide (fA w % 2 = 0))

/-- MMA. -/
def opMma : SlotOp := fun k d w s =>
  let mode := bitsOf (fFl w) 1 0
  memOn d w (mmaForm w) s
    (match d.stream (fB w) with
     | none => (s, .raise excMismatch 0)
     | some x =>
       if x.faulty then (s, .raise excStream 0)
       else if !modeFits mode x.format ∨ (mode = 1 ∧ 3 < fC w) then (s, .raise excMismatch 0)
       else match x.buffer with
         | [] => if x.total ≤ x.pos then (s, .raise excMismatch 0) else (s, .stall)
         | step :: _ =>
           match step.fault with
           | some (c, a) => (s, .raise c a)
           | none =>
           if step.closing ≠ bitOf (fFl w) 2 then (s, .raise excMismatch 0)
           else (s, .ok [] (mmaAct k d w step)))

/-! ## ACCZ and ACCST -/

/-- Zero a bank in every array. -/
def zeroBank (bank : Nat) (d : Deck) : Deck := { d with acc := d.acc.filter (fun p => !inBank bank p.1) }

/-- ACCZ: the partials' residues are checked as they are read (R340). -/
def opAccz : SlotOp := fun k d w s =>
  memOn d w (rForm w 0 && decide (fD w < 8)) s
    (s, .ok [] (fun s => modDeck (residueCheck k s) k (zeroBank (fD w))))

/-- One value of ACCST: scaled, narrowed, with its mark (R200). -/
def accstValue (c : AccCell) (scale : Option (Nat × Bool)) (narrow : Bool) : List Octet :=
  let v := match scale with
    | some (q, _) => fmul fp32 c.facc.toNat q
    | none => c.facc.toNat
  let bad := c.bad || ((scale.map (·.2)).getD false)
  let bytes := if narrow then leBytes 2 (fcvt fp32 bf16 v) else leBytes 4 v
  bytes.map (⟨·, bad⟩)

/-- The 256 values of row r of a bank: element 8ℓ + j is array ℓ's F[r][j]. -/
def accstRow (d : Deck) (bank r : Nat) (scale : Option (Nat × Bool)) (narrow : Bool) : List Octet :=
  (List.range 256).flatMap (fun i => accstValue (d.cell (accKey bank (i / 8) r (i % 8))) scale narrow)

/-- Address of row r: s[a] + r × s[b]. -/
def accstAddr (d : Deck) (w : BitVec 64) (r : Nat) : Nat := (d.sGet (fA w) + BitVec.ofNat 64 r * d.sGet (fB w)).toNat

/-- The effect of ACCST: older stores have drained, rows are written directly, the bank is cleared. -/
def accstAct (k : Fin 16) (d : Deck) (w : BitVec 64) (rows : List Nat) (s : State) : State :=
  let narrow := bitOf (fFl w) 1
  let scaleOf (r : Nat) : Option (Nat × Bool) :=
    if bitOf (fFl w) 0 then
      some (((vElems (d.vGet (fC w)) 4)[r]?).getD 0, ((vBadElems (d.vPoison (fC w)) 4)[r]?).getD false)
    else none
  let s1 := rows.foldl (fun s r =>
    touchTensor (memWrite (query s (deckMaster k) .write) s (accstAddr d w r) (accstRow d (fD w) r (scaleOf r) narrow)).1
      (accstAddr d w r))
    (residueCheck k (drainAll k s))
  modDeck s1 k (fun x =>
    let y := if bitOf (fFl w) 2 then zeroBank (fD w) x else x
    { y with sequenced := y.sequenced ++ [(.arrays, none)] })

/-- ACCST (R200). -/
def opAccst : SlotOp := fun k d w s =>
  let size := if bitOf (fFl w) 1 then 512 else 1024
  let rows := (List.range 8).filter (fun r => !rowMasked s d r)
  memOn d w (rForm w 7 && decide (fD w < 8)) s
    (if d.sPoison (fA w) || d.sPoison (fB w) then (s, .raise excPoison 0)
     else if (d.sGet (fA w)).toNat % 64 ≠ 0 ∨ (d.sGet (fB w)).toNat % 64 ≠ 0 then
       (s, .raise excMisaligned (d.sGet (fA w)).toNat)
     else
       let r := rows.foldl (fun acc r => match acc.2 with
         | some _ => acc
         | none =>
           let x := writePermitted k acc.1 (accstAddr d w r) size
           (x.1, x.2.map (fun c => (c, accstAddr d w r)))) (s, (none : Option (Nat × Nat)))
       match r.2 with
       | some (c, a) => (r.1, .raise c a)
       | none => if d.store ≠ [] then (r.1, .stall) else (r.1, .ok [] (accstAct k d w rows)))

end Sys2Proof.Machine
end

