-- ==== Sys2Proof/Machine/DeckScalar.lean ====
section
/-! DEFINITION. Slot C: the scalar, branch and predicate operations (C-slot operations; R187, R188, R207). -/

namespace Sys2Proof.Machine

/-- A C-slot operation on two scalars. -/
def scalarR (f : BitVec 64 → BitVec 64 → BitVec 64) : SlotOp := fun k d w s =>
  pureSlot (dataOn d w (rForm w 0) (fun pp =>
    writeS k (fD w) (f (d.sGet (fA w)) (d.sGet (fB w))) (pp || d.sPoison (fA w) || d.sPoison (fB w)))) s

/-- A C-slot operation on a scalar and the immediate. -/
def scalarI (f : BitVec 64 → BitVec 64 → BitVec 64) : SlotOp := fun k d w s =>
  pureSlot (dataOn d w (iForm w 0) (fun pp =>
    writeS k (fD w) (f (d.sGet (fA w)) (fImm w)) (pp || d.sPoison (fA w)))) s

/-- NOP: nothing, in every slot; its flags are reserved (R190). -/
def opNop : SlotOp := fun _ d w s => pureSlot (ctlOn d w (iForm w 0) .nothing) s

/-- ADD. -/
def opAdd : SlotOp := scalarR (· + ·)
/-- SUB. -/
def opSub : SlotOp := scalarR (· - ·)
/-- AND. -/
def opAnd : SlotOp := scalarR (· &&& ·)
/-- OR. -/
def opOr : SlotOp := scalarR (· ||| ·)
/-- XOR. -/
def opXor : SlotOp := scalarR (· ^^^ ·)
/-- SHL: by s[b][5:0]. -/
def opShl : SlotOp := scalarR (fun a b => a <<< (b.toNat % 64))
/-- SHR: logical. -/
def opShr : SlotOp := scalarR (fun a b => a >>> (b.toNat % 64))
/-- SRA: arithmetic. -/
def opSra : SlotOp := scalarR (fun a b => a.sshiftRight (b.toNat % 64))
/-- MUL: low 64 bits. -/
def opMul : SlotOp := scalarR (· * ·)
/-- MULHU: high 64 bits of the unsigned product. -/
def opMulhu : SlotOp := scalarR (fun a b => BitVec.ofNat 64 (a.toNat * b.toNat / 2 ^ 64))
/-- SLT: signed. -/
def opSlt : SlotOp := scalarR (fun a b => if a.toInt < b.toInt then 1 else 0)
/-- SLTU: unsigned. -/
def opSltu : SlotOp := scalarR (fun a b => if a.toNat < b.toNat then 1 else 0)
/-- SEQ. -/
def opSeq : SlotOp := scalarR (fun a b => if a = b then 1 else 0)
/-- ADDI. -/
def opAddi : SlotOp := scalarI (· + ·)
/-- ANDI. -/
def opAndi : SlotOp := scalarI (· &&& ·)
/-- ORI. -/
def opOri : SlotOp := scalarI (· ||| ·)
/-- MOVHI: the immediate above the low half of s[a]. -/
def opMovhi : SlotOp := scalarI (fun a imm => (imm <<< 32) ||| (a &&& 0xFFFF_FFFF#64))

/-- PC + imm × 32, in 64 bits. -/
def branchTarget (d : Deck) (w : BitVec 64) : Nat :=
  (((d.pc : Int) + (fImm w).toInt * 32) % (2 ^ 64 : Nat)).toNat

/-- The next bundle is at an offset. -/
def goTo (k : Fin 16) (pc : Nat) : SlotResult := .ok [] (fun s => modDeck s k (fun d => { d with pc := pc }))

/-- BR: a poisoned condition raises POISON (R192). -/
def opBr : SlotOp := fun k d w s =>
  pureSlot (ctlOn d w (iForm w 1)
    (if d.sPoison (fA w) then .raise excPoison 0
     else if xor (!decide (d.sGet (fA w) = 0)) (bitOf (fFl w) 0) then goTo k (branchTarget d w)
     else .nothing)) s

/-- JMP. -/
def opJmp : SlotOp := fun k d w s => pureSlot (ctlOn d w (iForm w 0) (goTo k (branchTarget d w))) s

/-- CALL: s[d] ← PC + 32. -/
def opCall : SlotOp := fun k d w s =>
  pureSlot (ctlOn d w (iForm w 0)
    (.ok [.s (fD w)] (fun s => modDeck s k (fun x =>
      { x.sSet (fD w) (BitVec.ofNat 64 (d.pc + 32)) false with pc := branchTarget d w })))) s

/-- An offset is one a bundle can be fetched from (FETCH). -/
def fetchable (pc : Nat) : Bool := decide (pc < 0x2_0000) && decide (pc % 32 = 0)

/-- JR: a target outside the code area or not 32-byte aligned raises FETCH, a poisoned one POISON. -/
def opJr : SlotOp := fun k d w s =>
  pureSlot (ctlOn d w (rForm w 0)
    (if d.sPoison (fA w) then .raise excPoison 0
     else if fetchable (d.sGet (fA w)).toNat then goTo k (d.sGet (fA w)).toNat
     else .raise excFetch 0)) s

/-- PSET. -/
def opPset : SlotOp := fun k d w s =>
  pureSlot (dataOn d w (rForm w 0) (fun pp =>
    writeP k (fD w) (if d.sGet (fA w) = 0 then 0 else BitVec.allOnes 64) (pp || d.sPoison (fA w)))) s

/-- A C-slot operation on predicates p[a] and p[b]. -/
def predR (f : BitVec 64 → BitVec 64 → BitVec 64) (two : Bool) : SlotOp := fun k d w s =>
  pureSlot (dataOn d w (rForm w 0 && decide (fA w < 8) && (!two || decide (fB w < 8))) (fun pp =>
    writeP k (fD w) (f (d.pGet (fA w)) (d.pGet (fB w)))
      (pp || d.pPoison (fA w) || (two && d.pPoison (fB w))))) s

/-- PAND. -/
def opPand : SlotOp := predR (· &&& ·) true
/-- POR. -/
def opPor : SlotOp := predR (· ||| ·) true
/-- PNOT. -/
def opPnot : SlotOp := predR (fun a _ => ~~~ a) false

/-- PGET. -/
def opPget : SlotOp := fun k d w s =>
  pureSlot (dataOn d w (rForm w 0 && decide (fA w < 8)) (fun pp =>
    writeS k (fD w) (d.pGet (fA w)) (pp || d.pPoison (fA w)))) s

/-- PPUT. -/
def opPput : SlotOp := fun k d w s =>
  pureSlot (dataOn d w (rForm w 0) (fun pp => writeP k (fD w) (d.sGet (fA w)) (pp || d.sPoison (fA w)))) s

/-- The value that GETS names (R187); other values of imm are reserved. -/
def getsValue (s : State) (d : Deck) (n : Nat) : Option Nat :=
  match n with
  | 0 => some d.logical
  | 1 => some (s.turns % 2 ^ 32)
  | 2 => some ((s.turn.map (·.rows)).getD 0)
  | 3 => some d.layer
  | 4 => some d.dispatched
  | _ => none

/-- GETS. -/
def opGets : SlotOp := fun k d w s =>
  pureSlot (dataOn d w (iForm w 0 && (getsValue s d (fImm w).toNat).isSome) (fun pp =>
    writeS k (fD w) (BitVec.ofNat 64 ((getsValue s d (fImm w).toNat).getD 0)) pp)) s

/-- DONE: the program ends, the streams stop, the store buffer is left to drain (R207). -/
def opDone : SlotOp := fun k d w s =>
  pureSlot (ctlOn d w (iForm w 0)
    (.ok [] (fun s => modDeck s k (fun d => { stopStreams d with ending := true })))) s

end Sys2Proof.Machine
end

