-- ==== Sys2Proof/Machine/DeckRun.lean ====
section
/-! DEFINITION. Bundles and the deck's own events: issue, interlocks, exceptions, drains, stream steps,
completion, reset (R184 to R190, R205 to R210). -/

namespace Sys2Proof.Machine

/-! ## The operation tables -/

/-- Operations of slot C by code. -/
def cTable : List (Nat × SlotOp) :=
  [(0, opNop), (1, opAdd), (2, opSub), (3, opAnd), (4, opOr), (5, opXor), (6, opShl), (7, opShr),
   (8, opSra), (9, opMul), (10, opMulhu), (11, opSlt), (12, opSltu), (13, opSeq), (16, opAddi), (17, opAndi),
   (18, opOri), (19, opMovhi), (24, opBr), (25, opJmp), (26, opCall), (27, opJr), (32, opPset), (33, opPand),
   (34, opPor), (35, opPnot), (36, opPget), (37, opPput), (40, opGets), (63, opDone)]

/-- Operations of slot M by code. -/
def mTable : List (Nat × SlotOp) :=
  [(0, opNop), (1, opLd), (2, opSt), (3, opVld), (4, opVst), (5, opVldr), (6, opVstr), (8, opWsld),
   (9, opWsend), (10, opRmld), (11, opKvput), (12, opFence), (13, opSemsig), (14, opSemwait)]

/-- Operations of slot V by code. -/
def vTable : List (Nat × SlotOp) :=
  [(0, opNop), (1, opVadd), (2, opVsub), (3, opVmul), (4, opVmax), (5, opVmin), (6, opVand), (7, opVor),
   (8, opVxor), (9, opVfma), (10, opVabs), (11, opVneg), (12, opVcvt), (13, opVcmplt), (14, opVcmpeq),
   (15, opVsel), (16, opVbcast), (17, opVextr), (18, opVperm), (19, opVrcp), (20, opVrsqrt), (21, opVexp2),
   (22, opVred), (24, opQrow)]

/-- Operations of slot X by code. -/
def xTable : List (Nat × SlotOp) :=
  [(0, opNop), (1, opMma), (2, opAccz), (3, opAccst)]

/-- The table of a slot. -/
def slotTable : Slot → List (Nat × SlotOp)
  | .c => cTable | .m => mTable | .v => vTable | .x => xTable

/-- The operation that a code names in a slot. -/
def opOf (slot : Slot) (code : Nat) : Option SlotOp :=
  ((slotTable slot).find? (fun p => decide (p.1 = code))).map (·.2)

/-- Number of a slot in the exception record. -/
def slotNumber : Slot → Nat
  | .c => 0 | .m => 1 | .v => 2 | .x => 3

/-- The word of a slot in a bundle; a slot that no command has named is NOP. -/
def slotWord (l : List SlotWord) (slot : Slot) : BitVec 64 :=
  ((l.find? (fun x => decide (x.slot = slot))).map (·.word)).getD 0

/-! ## Interlocks (R189) -/

/-- M-slot codes that access memory. -/
def memoryCode (code : Nat) : Bool := [1, 2, 3, 4, 5, 6, 8, 10, 11].contains code

/-- A bundle waits for a sequenced operation: it uses its unit, reads or writes the register it writes, or
accesses memory (R189). -/
def waitsFor (b : List SlotWord) (op : SeqUnit × Option Nat) : Bool :=
  let m := fOp (slotWord b .m)
  let v := fOp (slotWord b .v)
  let x := fOp (slotWord b .x)
  let memory := memoryCode m || decide (v = 24) || decide (x = 3)
  let unit := match op.1 with
    | .vector => !decide (v = 0)
    | .arrays => !decide (x = 0)
  let reads := match op.2 with
    | some r => decide (x = 1) && (decide (fA (slotWord b .x) = r)
        || (decide (2 ≤ bitsOf (fFl (slotWord b .x)) 1 0) && decide (fA (slotWord b .x) + 1 = r)))
    | none => false
  memory || unit || reads

/-! ## Register parity (R342, R361) -/

/-- The register that a slot operation reads first. -/
def firstRead (slot : Slot) (w : BitVec 64) : Option RegName :=
  let code := fOp w
  if code = 0 then none
  else match slot with
    | .c =>
      if code = 0x19 ∨ code = 0x1A ∨ code = 0x28 ∨ code = 0x3F then none
      else if 0x21 ≤ code ∧ code ≤ 0x24 then some (.p (fA w)) else some (.s (fA w))
    | .m => if code = 9 ∨ code = 12 then none else some (.s (fA w))
    | .v => if code = 0x10 ∨ code = 0x18 then some (.s (fA w)) else some (.v (fA w))
    | .x => if code = 1 then some (.v (fA w)) else if code = 3 then some (.s (fA w)) else none

/-- Mark a register poisoned. -/
def poisonReg (d : Deck) : RegName → Deck
  | .s n => d.sSet n (d.sGet n) true
  | .v n => d.vSet n (d.vGet n) (BitVec.allOnes 64)
  | .p n => d.pSet n (d.pGet n) true
  | .map _ => d

/-- A register read fails its parity: recorded against the deck, the bytes read are poisoned, the attempt
fails. -/
def parityError (k : Fin 16) (r : RegName) (s : State) : State :=
  let s1 := s.error ⟨3, deckMaster k, 1, 0, 0, k.val, (s.decks.get k).logical, 0xFF⟩
  failAttempt .integrity (suspect k.val (modDeck s1 k (fun d => poisonReg d r)))

/-- An injected parity error strikes the first register the deck reads (R361; which register is a
DESIGN CHOICE, log 27). -/
def parityCheck (k : Fin 16) (b : List SlotWord) (s : State) : State :=
  match (s.decks.get k).injected with
  | some (3, _, noStep) =>
    match b.findSome? (fun x => firstRead x.slot x.word) with
    | some r =>
      let s1 := modDeck s k (fun d => { d with injected := none })
      parityError k r (if noStep then modTurn s1 (fun t => { t with spared := k.val :: t.spared }) else s1)
    | none => s
  | _ => s

/-! ## Issue (R188) -/

/-- What the four slots come to together. -/
inductive BundleResult where
  | ok (writes : List RegName) (acts : List (State → State))
  | raise (slot cause address : Nat)
  | stall

/-- Evaluate the slots of a bundle in slot order on the registers before the bundle; the first that raises or
stalls decides (which of several exceptions is recorded is a DESIGN CHOICE, log 21). -/
def evalSlots (k : Fin 16) (d : Deck) (b : List SlotWord) : List Slot → State → State × BundleResult
  | [], s => (s, .ok [] [])
  | slot :: rest, s =>
    let w := slotWord b slot
    match opOf slot (fOp w) with
    | none => (s, .raise (slotNumber slot) excIllegal 0)
    | some op =>
      let r := op k d w s
      match r.2 with
      | .raise c a => (r.1, .raise (slotNumber slot) c a)
      | .stall => (r.1, .stall)
      | .ok ws act =>
        let q := evalSlots k d b rest r.1
        match q.2 with
        | .ok ws' acts =>
          if ws.any (fun x => ws'.contains x) then (q.1, .raise (slotNumber slot) excIllegal 0)
          else (q.1, .ok (ws ++ ws') (act :: acts))
        | o => (q.1, o)

/-- Memory effects in the order M, V, X, then slot C (R188). -/
def actOrder : List (State → State) → List (State → State)
  | c :: rest => rest ++ [c]
  | [] => []

/-- Issue the complete bundle of a deck: it stalls, raises, or takes effect and the next bundle is at PC + 32
unless slot C branches. -/
def issue (k : Fin 16) (s : State) : State :=
  let d0 := s.decks.get k
  if !fetchable d0.pc then raiseDeck k 0 excFetch 0 s
  else if d0.sequenced.any (waitsFor d0.bundle) then modDeck s k (fun d => { d with stalled := true })
  else
    let s0 := parityCheck k d0.bundle s
    let d := s0.decks.get k
    let r := evalSlots k d d.bundle [.c, .m, .v, .x] s0
    match r.2 with
    | .stall => modDeck r.1 k (fun d => { d with stalled := true })
    | .raise slot c a => raiseDeck k slot c a r.1
    | .ok _ acts =>
      let s1 := modDeck r.1 k (fun d => { d with pc := d.pc + 32, bundle := [], stalled := false })
      (actOrder acts).foldl (fun s f => f s) (s1.bumpBy (0x4000 + 0x100 * k.val) 5 64 1)

/-- Try a stalled bundle again. -/
def retryDeck (s : State) (k : Fin 16) : State := if (s.decks.get k).stalled then issue k s else s

/-- Try every stalled bundle again. -/
def retryStalled (s : State) : State := (List.finRange 16).foldl retryDeck s

/-- A deck issues bundles: it runs a layer program that has not ended, and the clocks run. -/
def issues (s : State) (k : Fin 16) : Bool :=
  let d := s.decks.get k
  s.running && decide (d.status = .running) && !d.ending && !d.stalled

/-- A slot operation of the bundle that deck k issues next: the word fills the row's slot and is evaluated by its own
operation code, one that names no operation of the slot raising ILLEGAL (R190). A second word for a slot replaces the
first. A deck that issues nothing takes no slot operation (log 21). -/
def slotRow (k : Fin 16) (slot : Slot) (w : BitVec 64) (last : Bool) (s : State) : Host.Outcome State Fault Refusal :=
  let d := s.decks.get k
  if !issues s k then .next s
  else
    let s1 := s.setDeck k { d with bundle := d.bundle.filter (fun x => !decide (x.slot = slot)) ++ [⟨slot, w⟩] }
    .next (if last then issue k s1 else s1)

/-! ## The slot operations -/

/-- NOP, in any slot. -/
def execNop (k : Fin 16) (slot : Slot) (w : BitVec 64) (last : Bool) (s : State) : Host.Outcome State Fault Refusal :=
  slotRow k slot w last s

/-- ADD. -/
def execAdd (k : Fin 16) (w : BitVec 64) (last : Bool) (s : State) : Host.Outcome State Fault Refusal :=
  slotRow k .c w last s

/-- SUB. -/
def execSub (k : Fin 16) (w : BitVec 64) (last : Bool) (s : State) : Host.Outcome State Fault Refusal :=
  slotRow k .c w last s

/-- AND. -/
def execAndOp (k : Fin 16) (w : BitVec 64) (last : Bool) (s : State) : Host.Outcome State Fault Refusal :=
  slotRow k .c w last s

/-- OR. -/
def execOrOp (k : Fin 16) (w : BitVec 64) (last : Bool) (s : State) : Host.Outcome State Fault Refusal :=
  slotRow k .c w last s

/-- XOR. -/
def execXorOp (k : Fin 16) (w : BitVec 64) (last : Bool) (s : State) : Host.Outcome State Fault Refusal :=
  slotRow k .c w last s

/-- SHL. -/
def execShl (k : Fin 16) (w : BitVec 64) (last : Bool) (s : State) : Host.Outcome State Fault Refusal :=
  slotRow k .c w last s

/-- SHR. -/
def execShr (k : Fin 16) (w : BitVec 64) (last : Bool) (s : State) : Host.Outcome State Fault Refusal :=
  slotRow k .c w last s

/-- SRA. -/
def execSra (k : Fin 16) (w : BitVec 64) (last : Bool) (s : State) : Host.Outcome State Fault Refusal :=
  slotRow k .c w last s

/-- MUL. -/
def execMul (k : Fin 16) (w : BitVec 64) (last : Bool) (s : State) : Host.Outcome State Fault Refusal :=
  slotRow k .c w last s

/-- MULHU. -/
def execMulhu (k : Fin 16) (w : BitVec 64) (last : Bool) (s : State) : Host.Outcome State Fault Refusal :=
  slotRow k .c w last s

/-- SLT. -/
def execSlt (k : Fin 16) (w : BitVec 64) (last : Bool) (s : State) : Host.Outcome State Fault Refusal :=
  slotRow k .c w last s

/-- SLTU. -/
def execSltu (k : Fin 16) (w : BitVec 64) (last : Bool) (s : State) : Host.Outcome State Fault Refusal :=
  slotRow k .c w last s

/-- SEQ. -/
def execSeq (k : Fin 16) (w : BitVec 64) (last : Bool) (s : State) : Host.Outcome State Fault Refusal :=
  slotRow k .c w last s

/-- ADDI. -/
def execAddi (k : Fin 16) (w : BitVec 64) (last : Bool) (s : State) : Host.Outcome State Fault Refusal :=
  slotRow k .c w last s

/-- ANDI. -/
def execAndi (k : Fin 16) (w : BitVec 64) (last : Bool) (s : State) : Host.Outcome State Fault Refusal :=
  slotRow k .c w last s

/-- ORI. -/
def execOri (k : Fin 16) (w : BitVec 64) (last : Bool) (s : State) : Host.Outcome State Fault Refusal :=
  slotRow k .c w last s

/-- MOVHI. -/
def execMovhi (k : Fin 16) (w : BitVec 64) (last : Bool) (s : State) : Host.Outcome State Fault Refusal :=
  slotRow k .c w last s

/-- BR. -/
def execBr (k : Fin 16) (w : BitVec 64) (last : Bool) (s : State) : Host.Outcome State Fault Refusal :=
  slotRow k .c w last s

/-- JMP. -/
def execJmp (k : Fin 16) (w : BitVec 64) (last : Bool) (s : State) : Host.Outcome State Fault Refusal :=
  slotRow k .c w last s

/-- CALL. -/
def execCall (k : Fin 16) (w : BitVec 64) (last : Bool) (s : State) : Host.Outcome State Fault Refusal :=
  slotRow k .c w last s

/-- JR. -/
def execJr (k : Fin 16) (w : BitVec 64) (last : Bool) (s : State) : Host.Outcome State Fault Refusal :=
  slotRow k .c w last s

/-- PSET. -/
def execPset (k : Fin 16) (w : BitVec 64) (last : Bool) (s : State) : Host.Outcome State Fault Refusal :=
  slotRow k .c w last s

/-- PAND. -/
def execPand (k : Fin 16) (w : BitVec 64) (last : Bool) (s : State) : Host.Outcome State Fault Refusal :=
  slotRow k .c w last s

/-- POR. -/
def execPor (k : Fin 16) (w : BitVec 64) (last : Bool) (s : State) : Host.Outcome State Fault Refusal :=
  slotRow k .c w last s

/-- PNOT. -/
def execPnot (k : Fin 16) (w : BitVec 64) (last : Bool) (s : State) : Host.Outcome State Fault Refusal :=
  slotRow k .c w last s

/-- PGET. -/
def execPget (k : Fin 16) (w : BitVec 64) (last : Bool) (s : State) : Host.Outcome State Fault Refusal :=
  slotRow k .c w last s

/-- PPUT. -/
def execPput (k : Fin 16) (w : BitVec 64) (last : Bool) (s : State) : Host.Outcome State Fault Refusal :=
  slotRow k .c w last s

/-- GETS. -/
def execGets (k : Fin 16) (w : BitVec 64) (last : Bool) (s : State) : Host.Outcome State Fault Refusal :=
  slotRow k .c w last s

/-- DONE. -/
def execDoneOp (k : Fin 16) (w : BitVec 64) (last : Bool) (s : State) : Host.Outcome State Fault Refusal :=
  slotRow k .c w last s

/-- LD. -/
def execLd (k : Fin 16) (w : BitVec 64) (last : Bool) (s : State) : Host.Outcome State Fault Refusal :=
  slotRow k .m w last s

/-- ST. -/
def execSt (k : Fin 16) (w : BitVec 64) (last : Bool) (s : State) : Host.Outcome State Fault Refusal :=
  slotRow k .m w last s

/-- VLD. -/
def execVld (k : Fin 16) (w : BitVec 64) (last : Bool) (s : State) : Host.Outcome State Fault Refusal :=
  slotRow k .m w last s

/-- VST. -/
def execVst (k : Fin 16) (w : BitVec 64) (last : Bool) (s : State) : Host.Outcome State Fault Refusal :=
  slotRow k .m w last s

/-- VLDR. -/
def execVldr (k : Fin 16) (w : BitVec 64) (last : Bool) (s : State) : Host.Outcome State Fault Refusal :=
  slotRow k .m w last s

/-- VSTR. -/
def execVstr (k : Fin 16) (w : BitVec 64) (last : Bool) (s : State) : Host.Outcome State Fault Refusal :=
  slotRow k .m w last s

/-- WSLD. -/
def execWsld (k : Fin 16) (w : BitVec 64) (last : Bool) (s : State) : Host.Outcome State Fault Refusal :=
  slotRow k .m w last s

/-- WSEND. -/
def execWsend (k : Fin 16) (w : BitVec 64) (last : Bool) (s : State) : Host.Outcome State Fault Refusal :=
  slotRow k .m w last s

/-- RMLD. -/
def execRmld (k : Fin 16) (w : BitVec 64) (last : Bool) (s : State) : Host.Outcome State Fault Refusal :=
  slotRow k .m w last s

/-- KVPUT. -/
def execKvput (k : Fin 16) (w : BitVec 64) (last : Bool) (s : State) : Host.Outcome State Fault Refusal :=
  slotRow k .m w last s

/-- FENCE. -/
def execFence (k : Fin 16) (w : BitVec 64) (last : Bool) (s : State) : Host.Outcome State Fault Refusal :=
  slotRow k .m w last s

/-- SEMSIG. -/
def execSemsig (k : Fin 16) (w : BitVec 64) (last : Bool) (s : State) : Host.Outcome State Fault Refusal :=
  slotRow k .m w last s

/-- SEMWAIT. -/
def execSemwait (k : Fin 16) (w : BitVec 64) (last : Bool) (s : State) : Host.Outcome State Fault Refusal :=
  slotRow k .m w last s

/-- VADD. -/
def execVadd (k : Fin 16) (w : BitVec 64) (last : Bool) (s : State) : Host.Outcome State Fault Refusal :=
  slotRow k .v w last s

/-- VSUB. -/
def execVsub (k : Fin 16) (w : BitVec 64) (last : Bool) (s : State) : Host.Outcome State Fault Refusal :=
  slotRow k .v w last s

/-- VMUL. -/
def execVmul (k : Fin 16) (w : BitVec 64) (last : Bool) (s : State) : Host.Outcome State Fault Refusal :=
  slotRow k .v w last s

/-- VMAX. -/
def execVmax (k : Fin 16) (w : BitVec 64) (last : Bool) (s : State) : Host.Outcome State Fault Refusal :=
  slotRow k .v w last s

/-- VMIN. -/
def execVmin (k : Fin 16) (w : BitVec 64) (last : Bool) (s : State) : Host.Outcome State Fault Refusal :=
  slotRow k .v w last s

/-- VAND. -/
def execVand (k : Fin 16) (w : BitVec 64) (last : Bool) (s : State) : Host.Outcome State Fault Refusal :=
  slotRow k .v w last s

/-- VOR. -/
def execVor (k : Fin 16) (w : BitVec 64) (last : Bool) (s : State) : Host.Outcome State Fault Refusal :=
  slotRow k .v w last s

/-- VXOR. -/
def execVxor (k : Fin 16) (w : BitVec 64) (last : Bool) (s : State) : Host.Outcome State Fault Refusal :=
  slotRow k .v w last s

/-- VFMA. -/
def execVfma (k : Fin 16) (w : BitVec 64) (last : Bool) (s : State) : Host.Outcome State Fault Refusal :=
  slotRow k .v w last s

/-- VABS. -/
def execVabs (k : Fin 16) (w : BitVec 64) (last : Bool) (s : State) : Host.Outcome State Fault Refusal :=
  slotRow k .v w last s

/-- VNEG. -/
def execVneg (k : Fin 16) (w : BitVec 64) (last : Bool) (s : State) : Host.Outcome State Fault Refusal :=
  slotRow k .v w last s

/-- VCVT. -/
def execVcvt (k : Fin 16) (w : BitVec 64) (last : Bool) (s : State) : Host.Outcome State Fault Refusal :=
  slotRow k .v w last s

/-- VCMPLT. -/
def execVcmplt (k : Fin 16) (w : BitVec 64) (last : Bool) (s : State) : Host.Outcome State Fault Refusal :=
  slotRow k .v w last s

/-- VCMPEQ. -/
def execVcmpeq (k : Fin 16) (w : BitVec 64) (last : Bool) (s : State) : Host.Outcome State Fault Refusal :=
  slotRow k .v w last s

/-- VSEL. -/
def execVsel (k : Fin 16) (w : BitVec 64) (last : Bool) (s : State) : Host.Outcome State Fault Refusal :=
  slotRow k .v w last s

/-- VBCAST. -/
def execVbcast (k : Fin 16) (w : BitVec 64) (last : Bool) (s : State) : Host.Outcome State Fault Refusal :=
  slotRow k .v w last s

/-- VEXTR. -/
def execVextr (k : Fin 16) (w : BitVec 64) (last : Bool) (s : State) : Host.Outcome State Fault Refusal :=
  slotRow k .v w last s

/-- VPERM. -/
def execVperm (k : Fin 16) (w : BitVec 64) (last : Bool) (s : State) : Host.Outcome State Fault Refusal :=
  slotRow k .v w last s

/-- VRCP. -/
def execVrcp (k : Fin 16) (w : BitVec 64) (last : Bool) (s : State) : Host.Outcome State Fault Refusal :=
  slotRow k .v w last s

/-- VRSQRT. -/
def execVrsqrt (k : Fin 16) (w : BitVec 64) (last : Bool) (s : State) : Host.Outcome State Fault Refusal :=
  slotRow k .v w last s

/-- VEXP2. -/
def execVexp2 (k : Fin 16) (w : BitVec 64) (last : Bool) (s : State) : Host.Outcome State Fault Refusal :=
  slotRow k .v w last s

/-- VRED. -/
def execVred (k : Fin 16) (w : BitVec 64) (last : Bool) (s : State) : Host.Outcome State Fault Refusal :=
  slotRow k .v w last s

/-- QROW. -/
def execQrow (k : Fin 16) (w : BitVec 64) (last : Bool) (s : State) : Host.Outcome State Fault Refusal :=
  slotRow k .v w last s

/-- MMA. -/
def execMma (k : Fin 16) (w : BitVec 64) (last : Bool) (s : State) : Host.Outcome State Fault Refusal :=
  slotRow k .x w last s

/-- ACCZ. -/
def execAccz (k : Fin 16) (w : BitVec 64) (last : Bool) (s : State) : Host.Outcome State Fault Refusal :=
  slotRow k .x w last s

/-- ACCST. -/
def execAccst (k : Fin 16) (w : BitVec 64) (last : Bool) (s : State) : Host.Outcome State Fault Refusal :=
  slotRow k .x w last s

/-! ## Events of a deck -/

/-- DECK_COMPLETION (R207): DONE has been issued and the store buffer is empty; the deck reports to the helm.
An injected residue fault that no check has met shows at the latest here (log 27). -/
def execDeckCompletion (k : Fin 16) (s : State) : Host.Outcome State Fault Refusal :=
  let d := s.decks.get k
  if d.status = .running ∧ d.ending ∧ d.store = [] ∧ s.running then
    let s1 := residueCheck k s
    .next (deckFree k (modDeck s1 k (fun d => { d with status := .idle, ending := false, sequenced := [] })))
  else .next s

/-- SEQUENCED_OPERATION_DONE (R189): the unit is released to stalled bundles. -/
def execSequencedOperationDone (k : Fin 16) (u : SeqUnit) (s : State) : Host.Outcome State Fault Refusal :=
  .next (retryDeck (modDeck s k (fun d =>
    { d with sequenced := d.sequenced.eraseP (fun x => decide (x.1 = u)) })) k)

/-- STORE_DRAIN (R205): the oldest entry drains, and a bundle that waits for it may issue. -/
def execStoreDrain (k : Fin 16) (s : State) : Host.Outcome State Fault Refusal :=
  if s.running then .next (retryDeck (drainOne k s) k) else .next s

/-- STREAM_STEP (R194, R196). -/
def execStreamStep (k : Fin 16) (ws : Fin 4) (s : State) : Host.Outcome State Fault Refusal :=
  if s.running then .next (retryStalled (advanceStream k ws.val s)) else .next s

/-- TIME_LIMIT (R210): a program that has not ended raises it. -/
def execTimeLimit (k : Fin 16) (s : State) : Host.Outcome State Fault Refusal :=
  let d := s.decks.get k
  if d.status = .running ∧ !d.ending ∧ s.running then .next (raiseDeck k 0 excTime 0 s) else .next s

/-- DECK_RESET: the reset waits for the turn barrier. -/
def applyDeckReset (k : Fin 16) (s : State) : Applied := accept (modDeck s k (fun d => { d with resetDue := true }))

/-- DECK_RESET. -/
def execDeckReset (ch : Channel) (k : Fin 16) (val : Bytes) (s : State) : Host.Outcome State Fault Refusal :=
  objectWrite ch (0x4000 + 0x100 * k.val) 8 val (command val 0x5357_0040 (applyDeckReset k)) s

/-- Deck resets that wait take effect at the barrier. -/
def deckResets (s : State) : State :=
  (List.finRange 16).foldl (fun s k => if (s.decks.get k).resetDue then resetDeck s k else s) s

/-! ## Starting a program (R185) -/

/-- A deck starts a layer program as a logical deck: every register, bank, stream and rowmap entry in its
starting state, the arguments in s1 to s15. -/
def startProgram (k : Fin 16) (logical layer dispatched entry slot : Nat) (args : List Nat) (s : State) : State :=
  let d := s.decks.get k
  let fresh : Deck := { Deck.reset d.ldo with
    status := .running, divider := d.divider, exc := d.exc, resetDue := d.resetDue, code := some slot
    pc := entry, logical := logical, layer := layer, dispatched := dispatched, injected := d.injected }
  s.setDeck k ((args.take 15).zipIdx.foldl (fun d p => d.sSet (p.2 + 1) (BitVec.ofNat 64 p.1) false) fresh)

end Sys2Proof.Machine
end

