-- ==== Sys2Proof/Machine/FlashQueue.lean ====
section
/-! DEFINITION. The weight flash's descriptor queues, its program pulses and erases, and the protection
regions (R115 to R130). -/

namespace Sys2Proof.Machine

/-! ## Descriptors (R124) -/

/-- A descriptor as its 32 bytes spell it. -/
def parseDesc (val : Bytes) (seq : Nat) : FlashDesc where
  seq := seq
  opcode := fld val 0 1
  flags := fld val 1 1
  tag := fld val 2 2
  length := fld val 4 4
  offset := fld val 8 8
  buffer := fld val 16 8
  inline := none
  owner := .host
  st := .waiting
  source := []
  done := 0
  worn := false
  suspended := false
  table := []

/-- Reserved fields are zero and the opcode is one of the six (R124, R7). -/
def descForm (val : Bytes) : Bool :=
  let op := fld val 0 1
  decide (1 ≤ op) && decide (op ≤ 6) && decide (fld val 1 1 < 8) && decide (fld val 8 8 < 2 ^ 33)
    && decide (fld val 16 8 < 2 ^ 48) && zeroAt val 24 8
    && (if op = 3 ∨ op = 4 ∨ op = 6 then zeroAt val 16 8 else true)

/-- Greatest length of an opcode. -/
def descLimit (op : Nat) : Nat := if op = 3 ∨ op = 4 ∨ op = 6 then 16777216 else 65536

/-- Alignment of an opcode's offset and length. -/
def descAlign (op : Nat) : Nat := if op = 3 then 4096 else 16

/-- Alignment and limits of the opcode table (R124, R374). -/
def descRange (val : Bytes) : Bool :=
  let op := fld val 0 1
  let n := fld val 4 4
  decide (fld val 8 8 % descAlign op = 0) && decide (n % descAlign op = 0) && decide (descAlign op ≤ n)
    && decide (n ≤ descLimit op)

/-- Put a descriptor at the end of the privileged queue. -/
def pushPriv (d : FlashDesc) (s : State) : State :=
  s.setFlash { s.flash with priv := s.flash.priv ++ [d], nextSeq := s.flash.nextSeq + 1 }

/-- A write to 0x2200:01 Submit (R124). -/
def applySubmit (val : Bytes) (s : State) : Applied :=
  guarded [(decide (val.length = 32), abLength), (descForm val, abMalformed), (descRange val, abRange),
      (decide (s.flash.priv.length < 16), abNoEntry)]
    (fun s => accept (pushPriv (parseDesc val s.flash.nextSeq) s)) s

/-- A submission that a row of the table names by its opcode. -/
def submitOp (op : Nat) (val : Bytes) (s : State) : Applied :=
  if val.length = 32 ∧ fld val 0 1 ≠ op then refuse abMalformed s else applySubmit val s

/-- FLASH_READ. -/
def execFlashRead (ch : Channel) (val : Bytes) (s : State) : Host.Outcome State Fault Refusal :=
  objectWrite ch 0x2200 1 val (submitOp 1 val) s

/-- FLASH_PROGRAM. -/
def execFlashProgram (ch : Channel) (val : Bytes) (s : State) : Host.Outcome State Fault Refusal :=
  objectWrite ch 0x2200 1 val (submitOp 2 val) s

/-- FLASH_ERASE. -/
def execFlashErase (ch : Channel) (val : Bytes) (s : State) : Host.Outcome State Fault Refusal :=
  objectWrite ch 0x2200 1 val (submitOp 3 val) s

/-- BLANK_CHECK. -/
def execFlashBlankCheck (ch : Channel) (val : Bytes) (s : State) : Host.Outcome State Fault Refusal :=
  objectWrite ch 0x2200 1 val (submitOp 4 val) s

/-- VERIFY of a descriptor. -/
def execFlashVerify (ch : Channel) (val : Bytes) (s : State) : Host.Outcome State Fault Refusal :=
  objectWrite ch 0x2200 1 val (submitOp 5 val) s

/-- CRC32. -/
def execFlashCrc32 (ch : Channel) (val : Bytes) (s : State) : Host.Outcome State Fault Refusal :=
  objectWrite ch 0x2200 1 val (submitOp 6 val) s

/-- A descriptor of the device's own, for the helm queue or the install flow. -/
def ownDesc (seq op offset length tag : Nat) (owner : DescOwner) : FlashDesc where
  seq := seq
  opcode := op
  flags := 0
  tag := tag
  length := length
  offset := offset
  buffer := 0
  inline := none
  owner := owner
  st := .waiting
  source := []
  done := 0
  worn := false
  suspended := false
  table := []

/-- Put an erase of the device's own at the end of the helm queue. -/
def helmErase (offset length tag : Nat) (owner : DescOwner) (s : State) : State :=
  s.setFlash { s.flash with
    helm := s.flash.helm ++ [ownDesc s.flash.nextSeq 3 offset length tag owner]
    nextSeq := s.flash.nextSeq + 1 }

/-- A run of sectors, first and last, cut into erases of at most 16 MiB: offset and length. -/
def erasesOf (first last : Nat) : List (Nat × Nat) :=
  cuts 16777216 ((last + 1 - first) / 4096 + 2) (first * 4096) ((last + 1 - first) * 4096)

/-- Erase runs of sectors through the helm queue. -/
def helmErases (runs : List (Nat × Nat)) (tag : Nat) (owner : DescOwner) (s : State) : State :=
  (runs.flatMap (fun r => erasesOf r.1 r.2)).foldl (fun s p => helmErase p.1 p.2 tag owner s) s

/-! ## Queues -/

/-- The descriptors of a queue, oldest first. -/
def queueOf (s : State) : QueueId → List FlashDesc
  | .helm => s.flash.helm
  | .priv => s.flash.priv

/-- Replace the descriptors of a queue. -/
def setQueue (s : State) (q : QueueId) (l : List FlashDesc) : State :=
  match q with
  | .helm => s.setFlash { s.flash with helm := l }
  | .priv => s.setFlash { s.flash with priv := l }

/-- Change one descriptor. -/
def setDesc (s : State) (q : QueueId) (seq : Nat) (f : FlashDesc → FlashDesc) : State :=
  setQueue s q ((queueOf s q).map (fun d => if d.seq = seq then f d else d))

/-- One descriptor. -/
def descOf (s : State) (q : QueueId) (seq : Nat) : Option FlashDesc := (queueOf s q).find? (fun d => decide (d.seq = seq))

/-- A descriptor has finished. -/
def FlashDesc.isFinished (d : FlashDesc) : Bool := match d.st with | .finished _ => true | _ => false

/-- Sectors of a descriptor's range. -/
def FlashDesc.sectors (d : FlashDesc) : List Nat :=
  (List.range ((d.offset + d.length - 1) / 4096 + 1 - d.offset / 4096)).map (fun i => d.offset / 4096 + i)

/-- Whether two descriptors touch a bank in common. -/
def shareBank (a b : FlashDesc) : Bool :=
  decide (a.offset / 0x800_0000 ≤ (b.offset + b.length - 1) / 0x800_0000)
    && decide (b.offset / 0x800_0000 ≤ (a.offset + a.length - 1) / 0x800_0000)

/-- Bank of the next byte a descriptor has to work on. -/
def FlashDesc.bank (d : FlashDesc) : Nat := bankOf ((d.offset + d.done) / 4096)

/-- A waiting descriptor may start (R122, R124): no earlier unfinished descriptor of its queue shares a bank
with it, none is unfinished at all under a fence, and the completion buffer has space. -/
def mayStart (s : State) (q : QueueId) (d : FlashDesc) : Bool :=
  let earlier := ((queueOf s q).takeWhile (fun e => !decide (e.seq = d.seq))).filter (fun e => !e.isFinished)
  decide (d.st = .waiting) && !earlier.any (shareBank d) && (!bitOf d.flags 1 || earlier.isEmpty)
    && (match q with | .helm => true | .priv => decide (s.flash.unread.length < 16))

/-- The master whose region entries a queue's buffers are reached with (R119). -/
def queueMaster : QueueId → Nat
  | .helm => 1
  | .priv => 20

/-! ## Finishing (Completion) -/

/-- The completion of a descriptor. -/
def FlashDesc.completion (d : FlashDesc) (status done result : Nat) : FlashCompletion :=
  ⟨d.tag, status, d.opcode, b2n d.worn + 2 * b2n d.suspended, done, result⟩

/-- Bytes of a completion. -/
def FlashCompletion.bytes (c : FlashCompletion) : Bytes :=
  leBytes 2 c.tag ++ leBytes 1 c.status ++ leBytes 1 c.opcode ++ leBytes 1 c.flags ++ leBytes 3 0
    ++ leBytes 4 c.done ++ leBytes 4 c.result

/-- Failures of programs and erases are counted (0x2240:05, 0x2240:06). -/
def countFailure (s : State) (status : Nat) : State :=
  if status = 5 then s.bump 0x2240 5 else if status = 6 then s.bump 0x2240 6 else s

/-- Sectors of a descriptor from the failing one on, first and last. -/
def FlashDesc.rest (d : FlashDesc) (result : Nat) : Nat × Nat :=
  ((d.offset + result) / 4096, (d.offset + d.length - 1) / 4096)

/-- A clearing erase has ended (R117): a failure is retried once; a second one is journalled in class 8 and
left for the next start-up. -/
def clearingEnded (s : State) (d : FlashDesc) (n : Nat) (c : FlashCompletion) : State :=
  if c.status = 0 then s
  else if d.tag = 0 then helmErase (d.offset + c.result) (d.length - c.result) 1 (.clearing n) s
  else
    (s.setFlash { s.flash with changes := amod s.flash.changes n (fun ch =>
        { ch with failed := ch.failed ++ [d.rest c.result] }) }).event 8 0 0 [(d.offset + c.result) / 4096]

/-- An erase of a removed image's runs has ended (R219, R224): a failure goes into the command's result; when
none is left and no command waits for it, the slot is EMPTY. -/
def removalEnded (s : State) (slot : Nat) (c : FlashCompletion) : State :=
  let busy := match s.images.job with | some j => decide (j.slot = slot) | none => false
  if busy then
    { s with images := { s.images with job := s.images.job.map (fun j =>
        if c.status ≠ 0 ∧ j.failure = 0 then { j with failure := abFlash } else j) } }
  else if s.flash.helm.any (fun e => decide (e.owner = .removal slot) && !e.isFinished) then s
  else { s with images := { s.images with slots := lmod s.images.slots slot (fun _ => Image.reset) } }

/-- An erased journal sector holds no records (R106). -/
def dropJournalSector (s : State) (sector : Nat) : State :=
  let j := s.custody.journal
  let j1 := { j with
    records := j.records.filter (fun r => !decide (journalSector + r.slot / 64 = sector))
    torn := j.torn.filter (fun t => !decide (journalSector + t / 64 = sector)) }
  s.setJournal (j1.withCursor j.cursor)

/-- What a finished helm descriptor is followed by. A failed erase of a journal sector is made again. -/
def helmEnded (s : State) (d : FlashDesc) (c : FlashCompletion) : State :=
  match d.owner with
  | .journal =>
    if c.status = 0 then dropJournalSector (s.setJournal { s.custody.journal with erasing := false }) (d.offset / 4096)
    else helmErase d.offset d.length d.tag .journal s
  | .clearing n => clearingEnded s d n c
  | .removal slot => removalEnded s slot c
  | _ => s

/-- Finished helm descriptors at the front leave the queue and are counted (0x2201:02). -/
def retireHelm (s : State) : State :=
  let l := s.flash.helm.takeWhile FlashDesc.isFinished
  (s.setFlash { s.flash with helm := s.flash.helm.drop l.length }).bumpBy 0x2201 2 64 l.length

/-- Erases of a region change begin once the descriptors started before it have ended (R116, R117). -/
def beginClearing (s : State) (n : Nat) : State :=
  match aget s.flash.changes n with
  | none => s
  | some ch =>
    let live := (s.flash.helm ++ s.flash.priv).filter (fun d => ch.after.contains d.seq && !d.isFinished)
    if ch.clearing || !live.isEmpty then s
    else
      helmErases ch.toClear 0 (.clearing n)
        (s.setFlash { s.flash with changes := amod s.flash.changes n (fun ch => { ch with clearing := true, after := [] }) })

/-- Every change whose wait has ended begins its erases. -/
def beginAllClearing (s : State) : State := (s.flash.changes.map (·.1)).foldl beginClearing s

/-- A descriptor finishes. -/
def finishDesc (s : State) (q : QueueId) (d : FlashDesc) (status done result : Nat) : State :=
  let c := d.completion status done result
  let s1 := setDesc (countFailure s status) q d.seq (fun d => { d with st := .finished c })
  beginAllClearing (match q with
    | .helm => retireHelm (helmEnded s1 d c)
    | .priv => s1)

/-! ## Checks at the start (Completion statuses) -/

/-- The region table as the accepted changes will leave it (R116). -/
def newTable (s : State) : List Region :=
  (List.range 16).map (fun n => match aget s.flash.changes n with
    | some ch => ch.new
    | none => (s.flash.regions[n]?).getD ⟨0, 0, .unused⟩)

/-- Kind of a sector under a region table. -/
def kindIn (t : List Region) (sector : Nat) : RegionKind :=
  ((t.find? (fun r => !decide (r.kind = .unused) && decide (r.first ≤ sector) && decide (sector ≤ r.last))).map
    (·.kind)).getD .data

/-- The kind of a sector permits an opcode to the privileged queue (R115); a CLEARING sector permits none (R117) and
counts as refused by its kind (DESIGN CHOICE, log 108). -/
def privPermits (s : State) (op sector : Nat) : Bool :=
  !isClearing s sector && !(decide (1536 ≤ sector) && decide (sector < 2048))
    && (decide (op = 2) || decide (op = 3) || decide (kindIn (newTable s) sector = .data))

/-- Sectors lo to hi hold tensors, or their length tables, of an installed image that a live berth is on. -/
def tensorsInUse (s : State) (lo hi : Nat) : Bool :=
  (List.range 8).any (fun i =>
    match s.images.slots[i]? with
    | none => false
    | some im =>
      decide (im.tier = 2) && s.serving.berths.any (fun b => b.live && decide (b.slot = i)) &&
        (match im.head with
         | none => false
         | some h => h.tensorTable.any (fun t =>
            let base := sectorOf (bankRun im t.bank)
            (decide (base + t.firstBlock ≤ hi) && decide (lo < base + t.firstBlock + t.blocks))
              || (decide (base + t.ltBlock ≤ hi)
                  && decide (lo ≤ base + t.ltBlock + (t.ltByte + t.blocks - 1) / 4096)))))

/-- First sector of a privileged descriptor's range whose kind does not permit it. -/
def kindBar (s : State) (q : QueueId) (d : FlashDesc) : Option Nat :=
  match q with
  | .helm => none
  | .priv => d.sectors.find? (fun x => !privPermits s d.opcode x)

/-- The status a descriptor ends with at its start, 0 if its checks pass: RANGE, PROTECTED, INDETERMINATE,
IN_USE, over the whole range and in that order. -/
def startStatus (s : State) (q : QueueId) (d : FlashDesc) : Nat :=
  let changes := decide (d.opcode = 2) || decide (d.opcode = 3)
  if 2 ^ 33 < d.offset + d.length then 3
  else if (decide (q = .priv) && changes && decide (s.lifecycle = .final)) || (kindBar s q d).isSome then 2
  else if d.opcode ≠ 3 ∧ d.sectors.any s.flash.indeterminate.contains then 10
  else if changes && tensorsInUse s (d.offset / 4096) ((d.offset + d.length - 1) / 4096) then 13
  else 0

/-- A refusal by kind is counted, and is a protection error of a descriptor that reads, against the master of the queue's
buffers (R115; which master is a DESIGN CHOICE, log 108). -/
def refusedByKind (s : State) (q : QueueId) (d : FlashDesc) : State :=
  match kindBar s q d with
  | none => s
  | some x =>
    let s1 := s.bump 0x2240 3
    if d.opcode = 2 ∨ d.opcode = 3 then s1
    else accessError 10 (queueMaster q) (flashBase + max d.offset (x * 4096)) s1

/-! ## Buffers (R119) -/

/-- Read a queue's buffer; none while another node's bytes are awaited. -/
def readBuffer (s : State) (q : QueueId) (a n : Nat) : State × Option (List Octet) :=
  let r := memRead (query s (queueMaster q) .read) s a n
  match r.2.2 with
  | .remote =>
    let d := remoteData r.1 a n
    match d.2 with
    | some octs => (d.1, some octs)
    | none => (remoteRead d.1 a n, none)
  | .stalled _ => (s, none)
  | _ => (r.1, some r.2.1)

/-- Write the lines of a queue's buffer until one is refused: its offset, or none. -/
def writeLines (q : Query) (base : Nat) (octs : List Octet) : List (Nat × Nat) → State → State × Option Nat
  | [], s => (s, none)
  | p :: r, s =>
    let part := (octs.drop (p.1 - base)).take p.2
    let w := memWrite q s p.1 part
    match w.2 with
    | .ok => writeLines q base octs r w.1
    | .remote =>
      let off := (p.1 - windowEnd) % 0x10_0000_0000
      writeLines q base octs r
        (sendTo w.1 ((p.1 - windowEnd) / 0x10_0000_0000 + 1) 8 2 1 0 (leBytes 8 off ++ vals part))
    | _ => (w.1, some (p.1 - base))

/-- Write a READ's bytes into its buffer. The destination of a transfer in progress is open to host inbound
for that transfer (R139). -/
def writeBuffer (s : State) (q : QueueId) (a : Nat) (octs : List Octet) : State × Option Nat :=
  match q with
  | .helm => writeLines (query s 1 .write) a octs (linesOf a octs.length) s
  | .priv =>
    let s1 := s.setTiers { s.tiers with inbound := (a, a + octs.length - 1) :: s.tiers.inbound }
    let r := writeLines (query s1 20 .write) a octs (linesOf a octs.length) s1
    (r.1.setTiers { r.1.tiers with inbound := r.1.tiers.inbound.drop 1 }, r.2)

/-- Index of the first poisoned octet. -/
def firstBad (l : List Octet) : Option Nat := l.findIdx? (·.bad)

/-! ## READ, BLANK_CHECK, VERIFY, CRC32 -/

/-- What a queue's reads of the flash are. -/
def queueQuery (s : State) (q : QueueId) : Query :=
  ⟨queueMaster q, none, .read, none, .clean,
    match q with | .helm => false | .priv => decide (s.val 0x2230 3 = 1), false⟩

/-- The banks of a range in order: the state once erases that may be suspended are (R112), and the first sector
whose bank cannot serve, with its answer. -/
def bankGate (q : Query) : List Nat → State → State × Option (BankAnswer × Nat)
  | [], s => (s, none)
  | sec :: r, s =>
    match bankAnswer s q sec with
    | .free => bankGate q r s
    | .suspend => bankGate q r (suspendErase s (bankOf sec))
    | a => (s, some (a, sec))

/-- Offset in a range of its first uncorrectable word (R109). -/
def firstUncorrectable (m : Mem) (a n : Nat) : Option Nat :=
  ((marksIn m 16 a n).find? (fun p => match p.2 with | .single => false | _ => true)).map (fun p => p.1 - a)

/-- Errors of the marked words of a range met by a queue (R109, R348). -/
def countWords (q : QueueId) (s : State) (a n : Nat) : State :=
  (marksIn s.mem 16 a n).foldl (fun s p => match p.2 with
    | .single => (s.bumpBy 0x2240 1 64 1).error (.plain 6 (queueMaster q) 2 p.1)
    | _ => accessError 5 (queueMaster q) p.1 (s.bumpBy 0x2240 2 64 1)) s

/-- Offset in a range of its first word that is not erased: only listed bytes differ from an erased word. -/
def firstWritten (m : Mem) (a n : Nat) : Option Nat :=
  (m.cells.find? (fun c => decide (a ≤ c.1) && decide (c.1 < a + n))).map (fun c => (c.1 - a) / 16 * 16)

/-- Offset of the first 16-byte word in which two strings differ. -/
def firstDifference (x y : Bytes) : Option Nat :=
  ((x.zip y).findIdx? (fun p => !decide (p.1 = p.2))).map (fun i => i / 16 * 16)

/-- How a read-type descriptor ends: state, status, bytes done, result. -/
structure ReadEnd where
  s : State
  status : Nat
  done : Nat
  result : Nat
  deriving DecidableEq, Repr

/-- A failure at an offset, with that many bytes done. -/
def ReadEnd.at (s : State) (status off : Nat) : ReadEnd := ⟨s, status, off, off⟩

/-- READ: the words before an uncorrectable one, and that word as poison, go into the buffer. -/
def runRead (s : State) (q : QueueId) (d : FlashDesc) : ReadEnd :=
  let a := flashBase + d.offset
  match firstUncorrectable s.mem a d.length with
  | some off =>
    let octs := (s.mem.bytes a off).map (⟨·, false⟩) ++ poison 16
    let w := writeBuffer (countWords q s a (off + 16)) q d.buffer octs
    match w.2 with
    | some o => .at w.1 9 o
    | none => .at w.1 14 off
  | none =>
    let w := writeBuffer (countWords q s a d.length) q d.buffer ((s.mem.bytes a d.length).map (⟨·, false⟩))
    match w.2 with
    | some o => .at w.1 9 o
    | none => ⟨w.1, 0, d.length, 0⟩

/-- BLANK_CHECK: the first word that is not erased or cannot be corrected ends it. -/
def runBlankCheck (s : State) (q : QueueId) (d : FlashDesc) : ReadEnd :=
  let a := flashBase + d.offset
  let bad := (firstUncorrectable s.mem a d.length).getD d.length
  let used := (firstWritten s.mem a d.length).getD d.length
  if bad ≤ used ∧ bad < d.length then .at (countWords q s a (bad + 16)) 14 bad
  else if used < d.length then .at (countWords q s a used) 12 used
  else ⟨countWords q s a d.length, 0, d.length, 0⟩

/-- CRC32 over the stored bytes. -/
def runCrc32 (s : State) (q : QueueId) (d : FlashDesc) : ReadEnd :=
  let a := flashBase + d.offset
  match firstUncorrectable s.mem a d.length with
  | some off => .at (countWords q s a (off + 16)) 14 off
  | none => ⟨countWords q s a d.length, 0, d.length, (crc32 (s.mem.bytes a d.length)).toNat⟩

/-- VERIFY: the first word that cannot be corrected, that the buffer cannot give, or that differs ends it. -/
def runVerify (s : State) (q : QueueId) (d : FlashDesc) (octs : List Octet) : ReadEnd :=
  let a := flashBase + d.offset
  let bad := (firstUncorrectable s.mem a d.length).getD d.length
  let lost := (firstBad octs).getD d.length
  let diff := (firstDifference (s.mem.bytes a d.length) (vals octs)).getD d.length
  if bad < d.length ∧ bad ≤ lost ∧ bad ≤ diff then .at (countWords q s a (bad + 16)) 14 bad
  else if lost < d.length ∧ lost / 16 * 16 ≤ diff then .at (countWords q s a lost) 9 lost
  else if diff < d.length then .at (countWords q s a (diff + 16)) 7 diff
  else ⟨countWords q s a d.length, 0, d.length, 0⟩

/-- Run a read-type descriptor, unless it has to wait for a bank or for its buffer. -/
def attemptRead (s : State) (q : QueueId) (d : FlashDesc) : State :=
  let g := bankGate (queueQuery s q) d.sectors s
  let finish (r : ReadEnd) : State := finishDesc r.s q d r.status r.done r.result
  match g.2 with
  | some (.wait, _) => g.1
  | some (_, sec) => finish ⟨g.1, 8, 0, max d.offset (bankOf sec * 0x800_0000) - d.offset⟩
  | none =>
    if d.opcode = 1 then finish (runRead g.1 q d)
    else if d.opcode = 4 then finish (runBlankCheck g.1 q d)
    else if d.opcode = 6 then finish (runCrc32 g.1 q d)
    else
      let b := readBuffer g.1 q d.buffer d.length
      match b.2 with
      | none => b.1
      | some octs => finish (runVerify b.1 q d octs)

/-! ## PROGRAM and ERASE -/

/-- A word may be programmed with a value (R120): it is erased, or the value is all zeros and the sector is
DATA in the region table that the descriptor started under (R116). -/
def wordTakes (s : State) (t : List Region) (a : Nat) (new : Bytes) : Bool :=
  let old := s.mem.bytes a 16
  (old.all (· == 0xFF) && !s.mem.badAt a)
    || (new.all (· == 0) && decide (kindIn t (sectorOf a) = .data))

/-- Offset of the first target word that R120 does not let be programmed. -/
def programBar (s : State) (d : FlashDesc) (src : Bytes) : Option Nat :=
  ((List.range (d.length / 16)).find? (fun i =>
    !wordTakes s d.table (flashBase + d.offset + 16 * i) (slice src (16 * i) 16))).map (16 * ·)

/-- Bytes of a descriptor's range in the bank it is working on, from the range's first byte there. -/
def FlashDesc.inBank (d : FlashDesc) : Nat × Nat :=
  let lo := max d.offset (d.bank * 0x800_0000)
  (lo, min (d.offset + d.length) ((d.bank + 1) * 0x800_0000) - lo)

/-- Bytes of the line pulse at a descriptor's next byte: at most the rest of its 256-byte line. -/
def FlashDesc.pulse (d : FlashDesc) : Nat :=
  min (d.length - d.done) (256 - (d.offset + d.done) % 256)

/-- The operation a descriptor runs on its bank (R111, R114). Every erase of an indeterminate sector, whoever asks for it,
is a re-erase, op 0x05 (DESIGN CHOICE, log 108). -/
def FlashDesc.op (d : FlashDesc) (q : QueueId) (s : State) : BankOp where
  queue := q
  seq := d.seq
  erase := decide (d.opcode = 3)
  reerase := decide (d.opcode = 3) && s.flash.indeterminate.contains ((d.offset + d.done) / 4096)
  sector := (d.offset + d.done) / 4096
  offset := d.offset + d.done
  suspended := false
  fresh := false
  progress := if d.opcode = 3 then Config.elapsed s.draws else (d.offset + d.done - d.inBank.1) / 16
  total := if d.opcode = 3 then 2500 else d.inBank.2 / 16

/-- Put a descriptor's operation on its bank, if the bank is free; blocks of the sector leave the expander
(R182). -/
def placeOp (s : State) (q : QueueId) (d : FlashDesc) : State :=
  match aget s.flash.banks d.bank with
  | some _ => s
  | none =>
    dropSector ((s.setFlash { s.flash with banks := aset s.flash.banks d.bank (d.op q s) }).draw)
      ((d.offset + d.done) / 4096)

/-- A PROGRAM's source is read in full, then every target word is checked, then its first pulse may begin
(R119, R120). -/
def attemptProgram (s : State) (q : QueueId) (d : FlashDesc) : State :=
  let b : State × Option (List Octet) :=
    match d.inline with
    | some bs => (s, some (bs.map (⟨·, false⟩)))
    | none => readBuffer s q d.buffer d.length
  match b.2 with
  | none => b.1
  | some octs =>
    match firstBad octs with
    | some off => finishDesc b.1 q d 9 0 off
    | none =>
      match programBar b.1 d (vals octs) with
      | some off => finishDesc b.1 q d 4 0 off
      | none => placeOp (setDesc b.1 q d.seq (fun d => { d with source := vals octs })) q d

/-- Begin the work of a started descriptor. -/
def attempt (s : State) (q : QueueId) (d : FlashDesc) : State :=
  if d.opcode = 2 then attemptProgram s q d
  else if d.opcode = 3 then placeOp s q d
  else attemptRead s q d

/-- DESCRIPTOR_START (R122): of a descriptor that may start. -/
def execDescriptorStart (q : QueueId) (seq : Nat) (s : State) : Host.Outcome State Fault Refusal :=
  match descOf s q seq with
  | none => .next s
  | some d =>
    if s.serves && mayStart s q d then
      let started := { d with st := .running, table := newTable s }
      let s1 := setDesc s q seq (fun _ => started)
      let st := startStatus s q d
      if st ≠ 0 then .next (finishDesc (if st = 2 then refusedByKind s1 q d else s1) q d st 0 0)
      else .next (attempt s1 q started)
    else .next s

/-! ## What waits for a bank -/

/-- Reads of other masters that waited are tried again. -/
def serveWaiting (s : State) : State :=
  s.flash.waiting.foldl (fun s a => accessRead a s) (s.setFlash { s.flash with waiting := [] })

/-- Started descriptors of a queue for which a test holds are tried again. -/
def retryQueue (s : State) (q : QueueId) (which : FlashDesc → Bool) : State :=
  ((queueOf s q).filter (fun d => decide (d.st = .running) && which d)).foldl (fun s d => attempt s q d) s

/-- Started read-type descriptors that waited are tried again. -/
def retryReads (s : State) : State :=
  let reads (d : FlashDesc) : Bool := !decide (d.opcode = 2) && !decide (d.opcode = 3)
  retryQueue (retryQueue s .helm reads) .priv reads

/-- Started PROGRAMs that waited for their source are tried again. -/
def retryPrograms (s : State) : State :=
  let waits (d : FlashDesc) : Bool := decide (d.opcode = 2) && decide (d.source = [])
  retryQueue (retryQueue s .helm waits) .priv waits

/-- Every read that waits for a bank is tried again (R112). -/
def servePending (s : State) : State := retryReads (retryStalled (serveStreams (serveWaiting s)))

/-- A bank is free: the operations that have become ready for it begin (R123), of bank 0 first the device's own. -/
def claimBank (s0 : State) (bank : Nat) : State :=
  let s := if bank = 0 then s0.ownOperations else s0
  let ready (d : FlashDesc) : Bool :=
    decide (d.st = .running) && decide (d.bank = bank)
      && (decide (d.opcode = 3) || (decide (d.opcode = 2) && !decide (d.source = [])))
  match s.flash.helm.find? ready, s.flash.priv.find? ready with
  | some d, _ => placeOp s .helm d
  | none, some d => placeOp s .priv d
  | none, none => s

/-- A bank's operation ends; the bank serves what waited for it; then the descriptor goes on there, goes on in
the next bank, or finishes. `d` is the descriptor as it stands, s the state with the bank free. -/
def goOn (s : State) (q : QueueId) (d : FlashDesc) (bank : Nat) : State :=
  let s1 := servePending s
  if d.length ≤ d.done then retryPrograms (claimBank (finishDesc s1 q d 0 d.length 0) bank)
  else if d.bank = bank then retryPrograms (placeOp s1 q d)
  else retryPrograms (placeOp (claimBank s1 bank) q d)

/-- The descriptor of an operation ends at it. -/
def endHere (s : State) (q : QueueId) (d : FlashDesc) (status bank : Nat) : State :=
  retryPrograms (claimBank (finishDesc (servePending s) q d status d.done d.done) bank)

/-- Clear the marks of the words of a flash range. -/
def clearMarks (m : Mem) (a n : Nat) : Mem := (List.range (n / 16)).foldl (fun m i => m.setMark (a + 16 * i) none) m

/-- The words of a pulse that did not verify hold no defined value (R121): free values. -/
def failWords (s : State) (a n : Nat) : State :=
  let m := s.mem.setBytes a ((List.range n).map (Config.failedWord s.draws))
  let m2 := (List.range (n / 16)).foldl (fun m i =>
    m.setMark (a + 16 * i) (if Config.failedWordPoison s.draws i then some .poison else none)) m
  (s.setMem m2).draw

/-- With the verify flag set each programmed word is read back: the offset in the pulse of the first that differs from
what was programmed, a free value (R121). -/
def readBack (s : State) (d : FlashDesc) : Option Nat :=
  if bitOf d.flags 2 then
    ((List.range (d.pulse / 16)).find? (Config.wordDiffers s.draws)).map (16 * ·)
  else none

/-- PROGRAM_PULSE_DONE (R112, R121). -/
def execProgramPulseDone (bank : Fin 64) (verified : Bool) (s : State) : Host.Outcome State Fault Refusal :=
  match aget s.flash.banks bank.val with
  | none => .next s
  | some op =>
    if op.erase then .next s
    else match descOf s op.queue op.seq with
      | none => .next s
      | some d =>
        let free := s.setFlash { s.flash with banks := adel s.flash.banks bank.val }
        let a := flashBase + d.offset + d.done
        if verified then
          let s1 := free.setMem (clearMarks (free.mem.setBytes a (slice d.source d.done d.pulse)) a d.pulse)
          match readBack s1 d with
          | some off =>
            .next (endHere (failWords s1.draw (a + off) 16) op.queue { d with done := d.done + off } 7 bank.val)
          | none =>
            let d1 := { d with done := d.done + d.pulse }
            .next (goOn (setDesc s1.draw op.queue d.seq (fun _ => d1)) op.queue d1 bank.val)
        else .next (endHere (failWords free a d.pulse) op.queue d 5 bank.val)

/-- A sector's erase is complete: erased, its marker too, and counted (R126, R130). -/
def eraseSector (s : State) (sector : Nat) : State :=
  let a := flashBase + sector * 4096
  let m := s.mem.clear a (a + 4096)
  (s.setMem (if sector < 1536 then m.setBytes a (List.replicate 4096 0xFF) else m)).setFlash { s.flash with
    indeterminate := s.flash.indeterminate.filter (fun x => !decide (x = sector))
    wear := wearOf s.flash.wear sector 1 }

/-- ERASE_DONE (R121, R126, R130): a suspended erase cannot end. -/
def execEraseDone (bank : Fin 64) (completed : Bool) (s : State) : Host.Outcome State Fault Refusal :=
  match aget s.flash.banks bank.val with
  | none => .next s
  | some op =>
    if !op.erase || op.suspended then .next s
    else match descOf s op.queue op.seq with
      | none => .next s
      | some d =>
        let free := s.setFlash { s.flash with banks := adel s.flash.banks bank.val }
        if completed then
          let s1 := eraseSector free op.sector
          let d1 := { d with done := d.done + 4096, worn := d.worn || decide (20000 < agetD s1.flash.wear op.sector 0) }
          .next (goOn (setDesc s1 op.queue d.seq (fun _ => d1)) op.queue d1 bank.val)
        else
          let s1 := free.setFlash { free.flash with
            indeterminate := if free.flash.indeterminate.contains op.sector then free.flash.indeterminate
              else free.flash.indeterminate ++ [op.sector] }
          .next (endHere s1 op.queue d 6 bank.val)

/-- ERASE_RESUME (R112): a suspended erase goes on, and runs for its Minimum Progress before it can be suspended again. -/
def execEraseResume (bank : Fin 64) (s : State) : Host.Outcome State Fault Refusal :=
  .next (s.setFlash { s.flash with banks := amod s.flash.banks bank.val (fun op =>
    { op with suspended := false, fresh := op.fresh || op.suspended }) })

/-- The Minimum Progress of every resumed erase has passed (R112): reads that wait may suspend it. -/
def passProgress (s : State) : State :=
  if s.flash.banks.any (fun p => p.2.fresh) then
    servePending (s.setFlash { s.flash with banks := s.flash.banks.map (fun p => (p.1, { p.2 with fresh := false })) })
  else s

/-! ## Posting (R124, R125) -/

/-- Install-flow descriptors take the places that free in the privileged queue (R218). -/
def admitBacklog (s : State) : State :=
  let k := 16 - s.flash.priv.length
  s.setFlash { s.flash with
    priv := s.flash.priv ++ s.flash.backlog.take k
    backlog := s.flash.backlog.drop k }

/-- A descriptor of the install flow that failed ends the install: what the buffer could not give cannot
pass check 9, anything else is a flash failure (R218). -/
def noteFlow (s : State) (status : Nat) : State :=
  { s with images := { s.images with job := s.images.job.map (fun j =>
      if status = 0 ∨ j.failure ≠ 0 then j
      else { j with failure := if status = 9 then abSigned else abFlash }) } }

/-- Post the completion of the oldest privileged descriptor, if it has finished and there is space; the
install flow takes its own. -/
def postOldest (s : State) : State :=
  match s.flash.priv with
  | [] => s
  | d :: r =>
    match d.st with
    | .finished c =>
      match d.owner with
      | .host =>
        if s.flash.unread.length < 16 then
          let s1 := admitBacklog (s.setFlash { s.flash with priv := r, unread := s.flash.unread ++ [c] })
          if bitOf d.flags 0 then (s1.msix (s1.val 0x2200 4)).ibi 0xD5 else s1
        else s
      | _ => admitBacklog (noteFlow (s.setFlash { s.flash with priv := r }) c.status)
    | _ => s

/-- Flush Command (R125). -/
def applyFlush (val : Bytes) (s : State) : Applied :=
  command val 0x5357_0030 (fun s =>
    accept (beginAllClearing (setQueue s .priv (s.flash.priv.map (fun d =>
      match d.st with
      | .waiting => { d with st := .finished (d.completion 11 0 0) }
      | _ => d))))) s

/-- FLASH_FLUSH. -/
def execFlashFlush (ch : Channel) (val : Bytes) (s : State) : Host.Outcome State Fault Refusal :=
  objectWrite ch 0x2200 5 val (applyFlush val) s

/-! ## Protection regions (R115 to R118) -/

/-- Kind of a region value. -/
def kindOfCode : Nat → RegionKind
  | 0 => .unused | 1 => .data | 2 => .codeOnly | _ => .weightOnly

/-- Code of a kind. -/
def RegionKind.code : RegionKind → Nat
  | .unused => 0 | .data => 1 | .codeOnly => 2 | .weightOnly => 3

/-- A region value as its 64 bits spell it; reserved bits are ignored (R8). -/
def regionOf (v : Nat) : Region := ⟨bitsOf v 20 0, bitsOf v 52 32, kindOfCode (bitsOf v 63 62)⟩

/-- The 64 bits of a region. -/
def Region.word (r : Region) : Nat := r.first + r.last * 2 ^ 32 + r.kind.code * 2 ^ 62

/-- A region is in use. -/
def Region.used (r : Region) : Bool := !decide (r.kind = .unused)

/-- Sub 02 of a region: why its change waits (R116, R117). -/
def regionState (s : State) (n : Nat) : Nat :=
  match aget s.flash.changes n with
  | none => 0
  | some ch => if ch.toClear = [] ∧ ch.failed = [] then 2 else 1

/-- Two regions share a sector. -/
def Region.meets (a b : Region) : Bool := a.used && b.used && decide (a.first ≤ b.last) && decide (b.first ≤ a.last)

/-- A region of a kind other than DATA, which a sector in no region has as well (R115). -/
def Region.guards (r : Region) : Bool := decide (r.kind = .codeOnly) || decide (r.kind = .weightOnly)

/-- Runs of sectors whose kind a change of one region's value changes, first and last; a run whose last lies
below its first is empty. -/
def changedRuns (old new : Region) : List (Nat × Nat) :=
  if old.guards && decide (old.kind = new.kind) && old.meets new then
    (if old.first = new.first then [] else [(min old.first new.first, max old.first new.first - 1)])
      ++ (if old.last = new.last then [] else [(min old.last new.last + 1, max old.last new.last)])
  else
    (if old.guards then [(old.first, old.last)] else []) ++ (if new.guards then [(new.first, new.last)] else [])

/-- Runs of sectors that a change takes out of a WEIGHT_ONLY or CODE_ONLY region (R117). -/
def removedRuns (old new : Region) : List (Nat × Nat) :=
  if old.kind = .unused ∨ old.kind = .data then []
  else if new.kind ≠ old.kind ∨ !old.meets new then [(old.first, old.last)]
  else
    (if old.first < new.first then [(old.first, new.first - 1)] else [])
      ++ (if new.last < old.last then [(new.last + 1, old.last)] else [])

/-- A write to a region value (R116). -/
def applyRegion (n : Nat) (val : Bytes) (s : State) : Applied :=
  let new := regionOf (leNat val)
  let old := (s.flash.regions[n]?).getD ⟨0, 0, .unused⟩
  let others := (List.range 16).filter (fun m => !decide (m = n))
  guarded [(decide (3 ≤ n), abReadOnly), (decide (regionState s n = 0), abBusy),
      (!new.used || decide (new.first ≤ new.last), abInconsistent),
      (others.all (fun m => !((s.flash.regions[m]?).getD ⟨0, 0, .unused⟩).meets new
        && !((newTable s)[m]?.getD ⟨0, 0, .unused⟩).meets new), abInconsistent),
      (!(changedRuns old new).any (fun r => tensorsInUse s r.1 r.2), abNotIdle)]
    (fun s =>
      let started := ((s.flash.helm ++ s.flash.priv).filter (fun d => decide (d.st = .running))).map (·.seq)
      accept (beginClearing (s.setFlash { s.flash with
        changes := aset s.flash.changes n ⟨new, removedRuns old new, false, started, []⟩ }) n)) s

/-- REGION_WRITE. -/
def execRegionWrite (ch : Channel) (n : Fin 16) (val : Bytes) (s : State) : Host.Outcome State Fault Refusal :=
  objectWrite ch (0x2220 + n.val) 1 val (applyRegion n.val val) s

/-- A change may take effect: its wait is over and its erases have all succeeded. -/
def changeDue (s : State) (n : Nat) (ch : RegionChange) : Bool :=
  ch.clearing && ch.failed.isEmpty
    && !s.flash.helm.any (fun d => decide (d.owner = .clearing n) && !d.isFinished)

/-- REGION_CHANGE_EFFECT (R116, R117): the table is kept in flash, so bank 0 must be free for it (R118, R123). -/
def execRegionChangeEffect (n : Fin 16) (s : State) : Host.Outcome State Fault Refusal :=
  match aget s.flash.changes n.val with
  | none => .next s
  | some ch =>
    if changeDue s n.val ch && s.systemFree then
      .next (s.setFlash { s.flash with
        regions := lmod s.flash.regions n.val (fun _ => ch.new)
        changes := adel s.flash.changes n.val }).keepTable
    else .next s

end Sys2Proof.Machine
end

