-- ==== Sys2Proof/Machine/ImageHead.lean ====
section
/-! DEFINITION. The image container: its header, manifest, tables and arguments, and checks 1 to 7 of
R214 (R211 to R215, R263, R279). -/

namespace Sys2Proof.Machine

/-! ## The header (check 1) -/

/-- Check 1: header fields and reserved bytes. -/
def headerForm (h : Bytes) : Bool :=
  decide (fld h 0 4 = 0x5357_494D) && decide (fld h 4 2 = 1) && zeroAt h 6 2
    && (decide (fld h 26 1 ≤ 7) || decide (fld h 26 1 = 0xFF)) && decide (fld h 27 1 ≤ 3)
    && decide (fld h 28 4 % 4096 = 0) && decide (8192 ≤ fld h 28 4) && decide (fld h 28 4 ≤ 16777216)
    && zeroAt h 64 128

/-- The key in a key slot: Sweholt's, or an author's (R215). -/
def imageKeyOf (s : State) : Nat → Option Bytes
  | 0 => some Config.imageKey
  | n + 1 => (s.images.keys[n]?).bind id

/-- Key slots the lifecycle state permits (R215, R99). -/
def keyPermitted (l : Lifecycle) (n : Nat) : Bool :=
  match l with
  | .blank => decide (n = 0)
  | .factory => decide (n = 0)
  | .development => true
  | .deployed => true
  | _ => false

/-- Checks 1 to 6 over a header and a head: the code of the first that fails, 0 if none does. Each part
that reads as poison fails the check over it. -/
def headerChecks (s : State) (h : Bytes) : Nat :=
  let n := fld h 27 1
  if !headerForm h then abMalformed
  else if s.custody.feature < fld h 24 2 then abFeature
  else if !keyPermitted s.lifecycle n then abSigned
  else match imageKeyOf s n with
    | none => abSigned
    | some key =>
      if !signed key (h.take 192) (slice h 192 64) then abSigned
      else if fld h 26 1 ≠ 0xFF ∧ fld h 20 4 < s.counter (8 + fld h 26 1) then abRollback
      else 0

/-! ## Manifest and tables (check 7) -/

/-- The manifest of a head. -/
def parseManifest (h : Bytes) : Manifest where
  modelId := fld h 8 8
  version := fld h 16 4
  security := fld h 20 4
  feature := fld h 24 2
  rollback := fld h 26 1
  keySlot := fld h 27 1
  headLength := fld h 28 4
  layers := fld h 0x100 2
  layerEntries := fld h 0x102 2
  hidden := fld h 0x104 4
  qHeads := fld h 0x108 2
  kvHeads := fld h 0x10A 1
  blocksPerPage := fld h 0x10B 1
  headDim := fld h 0x10C 2
  ffn := fld h 0x110 4
  vocab := fld h 0x114 4
  maxContext := fld h 0x118 4
  baseVersion := fld h 0x11C 4
  kvCompatible := bitOf (fld h 0x120 1) 0
  changed := (List.range 256).filter (fun l => bitOf (fld h 0x140 32) l)
  layerOffset := fld h 0x160 4
  tensorOffset := fld h 0x164 4
  tensorCount := fld h 0x168 4
  moeOffset := fld h 0x16C 4
  programOffset := fld h 0x170 4
  programLength := fld h 0x174 4

/-- A layer table entry. -/
def parseLayer (e : Bytes) : LayerEntry :=
  ⟨fld e 0 1, fld e 1 1, fld e 2 1, fld e 4 4, (List.range 15).map (fun i => fld e (8 + 8 * i) 8)⟩

/-- A tensor table entry. -/
def parseTensor (e : Bytes) : TensorEntry where
  format := fld e 0 1
  weightOnly := bitOf (fld e 1 1) 0
  hint := fld e 2 1
  bank := fld e 3 1
  layer := fld e 4 2
  nRows := fld e 8 4
  kLen := fld e 12 4
  firstBlock := fld e 16 4
  blocks := fld e 20 4
  ltBlock := fld e 24 4
  ltByte := fld e 28 2
  hash := slice e 32 32

/-- An expert table entry (12_experts.md). -/
def parseExpert (e : Bytes) : ExpertEntry where
  layer := fld e 0 1
  gateFn := fld e 1 1
  topK := fld e 2 1
  shared := fld e 3 1
  experts := fld e 4 2
  capacity := fld e 6 2
  pool := fld e 8 2
  routerEntry := fld e 10 2
  expertEntry := fld e 12 2
  mode := fld e 14 1
  logitsOffset := fld e 16 4
  tableOffset := fld e 20 4
  interval := fld e 24 2
  step := BitVec.ofNat 32 (fld e 28 4)
  biasLimit := BitVec.ofNat 32 (fld e 32 4)

/-- A table of n entries of a size lies within the head, after bank_blocks. -/
def tableInside (h : Bytes) (off n size : Nat) : Bool := decide (0x280 ≤ off) && decide (off + n * size ≤ h.length)

/-- The manifest's ranges, reserved bytes and offsets, and the page geometry of R263. -/
def manifestForm (h : Bytes) (m : Manifest) : Bool :=
  decide (1 ≤ m.layers) && decide (m.layers ≤ 255) && decide (1 ≤ m.layerEntries) && decide (m.layerEntries ≤ 512)
    && decide (1 ≤ m.kvHeads) && decide (m.kvHeads ≤ 16) && decide (m.headDim % 8 = 0) && decide (1 ≤ m.headDim)
    && decide (1 ≤ m.vocab) && decide (m.vocab ≤ 262144) && decide (16 ≤ m.maxContext)
    && decide (m.maxContext ≤ 131072) && decide (m.maxContext % 16 = 0)
    && zeroAt h 0x10E 2 && decide (fld h 0x120 1 < 2) && zeroAt h 0x121 31 && zeroAt h 0x178 8
    && decide (m.layerOffset % 64 = 0) && decide (m.tensorOffset % 64 = 0)
    && decide (1 ≤ m.tensorCount) && decide (m.tensorCount ≤ 2097151)
    && decide (m.programOffset % 32 = 0) && decide (m.programLength % 32 = 0)
    && decide (32 ≤ m.programLength) && decide (m.programLength ≤ 131072)
    && tableInside h m.layerOffset m.layerEntries 128 && tableInside h m.tensorOffset m.tensorCount 64
    && tableInside h m.programOffset m.programLength 1 && m.pagesFit

/-- An argument's encoding (Argument encoding): the bits its kind does not use are reserved. -/
def argForm (tensors v : Nat) : Bool :=
  let low := bitsOf v 59 0
  match bitsOf v 63 60 with
  | 0 => true
  | 1 => decide (low < tensors)
  | 2 => decide (low < tensors)
  | 3 => decide (low < 2 ^ 32)
  | 4 => decide (low = 0)
  | _ => false

/-- A layer table entry is well formed. -/
def layerForm (m : Manifest) (e : Bytes) (l : LayerEntry) : Bool :=
  decide (1 ≤ l.kind) && decide (l.kind ≤ 4) && decide (1 ≤ l.decks) && decide (l.decks ≤ 16) && zeroAt e 3 1
    && decide (l.entry % 32 = 0) && decide (l.entry < m.programLength) && l.args.all (argForm m.tensorCount)

/-- A tensor table entry is well formed, no shard crosses its bank run, and its rows satisfy R169. -/
def tensorForm (banks : List Nat) (e : Bytes) (t : TensorEntry) : Bool :=
  let run := (banks[t.bank]?).getD 0
  decide (1 ≤ t.format) && decide (t.format ≤ 4) && decide (fld e 1 1 < 2) && decide (t.hint ≤ 4)
    && decide (t.bank < 64) && (decide (t.layer ≤ 254) || decide (t.layer = 0xFFFF)) && zeroAt e 6 2
    && decide (1 ≤ t.blocks) && decide (t.ltByte ≤ 4095) && zeroAt e 30 2
    && !(decide (t.format = 4) && t.weightOnly)
    && !(decide (t.format = 1) && !decide (t.kLen % 32 = 0)) && !(decide (t.format = 2) && !decide (t.kLen % 64 = 0))
    && decide (t.firstBlock + t.blocks ≤ run) && decide (t.ltBlock * 4096 + t.ltByte + t.blocks ≤ run * 4096)

/-- Bytes of a batch row's logits (R280). -/
def ExpertEntry.logitRow (e : ExpertEntry) : Nat := alignUp (4 * e.experts) 64

/-- Greatest size of the dispatch table (R287). -/
def ExpertEntry.tableSize (e : ExpertEntry) : Nat :=
  64 + 8 * (e.experts + e.shared) + 12 * (256 * (e.topK + e.shared) + 7 * e.experts) + 128

/-- A layer-table index names a decoder-layer entry of a layer (R279). -/
def namesLayer (layers : List LayerEntry) (i layer : Nat) : Bool :=
  match layers[i]? with
  | some l => decide (l.kind = 2) && decide (l.layer = layer)
  | none => false

/-- A finite fp32 value that is not negative. -/
def finitePos (v : BitVec 32) : Bool := !v.getLsbD 31 && !decide (v.toNat / 2 ^ 23 = 0xFF)

/-- An expert table entry meets R279. -/
def expertForm (layers : List LayerEntry) (raw : Bytes) (e : ExpertEntry) : Bool :=
  (decide (e.gateFn = 1) || decide (e.gateFn = 2)) && decide (1 ≤ e.topK) && decide (e.topK ≤ 8)
    && decide (e.topK ≤ e.experts) && decide (e.shared ≤ 4) && decide (1 ≤ e.experts) && decide (e.experts ≤ 256)
    && decide (1 ≤ e.capacity) && decide (e.capacity ≤ 256) && decide (e.pool ≤ 2048)
    && decide (e.routerEntry < e.expertEntry) && decide (e.mode ≤ 2) && zeroAt raw 15 1
    && decide (e.logitsOffset % 64 = 0) && decide (e.tableOffset % 64 = 0)
    && decide (1 ≤ e.interval) && decide (e.interval ≤ 4096) && zeroAt raw 26 2
    && finitePos e.step && !decide (e.step = 0#32) && finitePos e.biasLimit && zeroAt raw 36 28
    && namesLayer layers e.routerEntry e.layer && namesLayer layers e.expertEntry e.layer
    && !overlaps e.logitsOffset (256 * e.logitRow) e.tableOffset e.tableSize
    && decide (e.logitsOffset + 256 * e.logitRow ≤ 0x80_0000) && decide (e.tableOffset + e.tableSize ≤ 0x80_0000)

/-- Entries of a table in the head. -/
def tableOf (h : Bytes) (off n size : Nat) : List Bytes := (List.range n).map (fun i => slice h (off + i * size) size)

/-- Layers of an expert table rise. -/
def layersRise : List ExpertEntry → Bool
  | [] => true
  | [_] => true
  | a :: b :: r => decide (a.layer < b.layer) && layersRise (b :: r)

/-- The expert table of a head, none if it breaks R279. -/
def parseExperts (h : Bytes) (m : Manifest) (layers : List LayerEntry) : Option (List ExpertEntry) :=
  if m.moeOffset = 0 then some []
  else
    let n := fld h m.moeOffset 2
    let raw := tableOf h (m.moeOffset + 16) n 64
    let l := raw.map parseExpert
    if tableInside h m.moeOffset 1 (16 + 64 * n) && zeroAt h (m.moeOffset + 2) 14 && layersRise l
        && (raw.zip l).all (fun p => expertForm layers p.1 p.2) then some l
    else none

/-- Check 7: the head, parsed, if everything in it is well formed. -/
def parseHead (h : Bytes) : Option Head :=
  let m := parseManifest h
  if !manifestForm h m then none
  else
    let banks := (List.range 64).map (fun k => fld h (0x180 + 4 * k) 4)
    let rawL := tableOf h m.layerOffset m.layerEntries 128
    let rawT := tableOf h m.tensorOffset m.tensorCount 64
    let layers := rawL.map parseLayer
    let tensors := rawT.map parseTensor
    if (rawL.zip layers).all (fun p => layerForm m p.1 p.2) && (rawT.zip tensors).all (fun p => tensorForm banks p.1 p.2) then
      (parseExperts h m layers).map (fun ex => ⟨m, banks, layers, tensors, ex, slice h m.programOffset m.programLength, h⟩)
    else none

/-- Checks 1 to 7 of R214 over the octets of a head, in order. -/
def checkHead (s : State) (octs : List Octet) : Except Nat Head :=
  let header := octs.take 256
  if anyBad header then .error abMalformed
  else
    let h := vals octs
    match headerChecks s h with
    | 0 =>
      if anyBad octs || !decide (sha256 (h.drop 256) = slice h 32 32) then .error abSigned
      else match parseHead h with
        | some head => .ok head
        | none => .error abMalformed
    | code => .error code

/-! ## Blocks and hashes (R211) -/

/-- The canonical form of a block with its length-table value; none if the value has none. -/
def canonical (blk : Bytes) (lt : Nat) : Option Bytes :=
  if lt = 64 then some blk
  else if lt = 0 ∨ 64 < lt then none
  else some (blk.take (64 * lt) ++ List.replicate (4096 - 64 * lt) 0xFF)

/-- The blocks of a tensor. -/
def blocksOf (data : Bytes) (n : Nat) : List Bytes := (List.range n).map (fun i => slice data (4096 * i) 4096)

/-- The hash of a tensor over its canonical blocks in order, then its length-table bytes; none where a
block has no canonical form. -/
def tensorHash (data table : Bytes) (n : Nat) : Option Bytes :=
  let forms := ((blocksOf data n).zip table).map (fun p => canonical p.1 p.2.toNat)
  if forms.all (·.isSome) then some (sha256 ((forms.filterMap id).flatten ++ table)) else none

/-- A tensor passes check 9. -/
def tensorPasses (t : TensorEntry) (data table : Bytes) : Bool := decide (tensorHash data table t.blocks = some t.hash)

/-! ## Where the container's parts lie -/

/-- Offset in the container of the run of a bank. -/
def Head.runOffset (h : Head) (bank : Nat) : Nat := h.man.headLength + (h.bankBlocks.take bank).sum * 4096

/-- Length of the container. -/
def Head.total (h : Head) : Nat := h.runOffset 64

/-- Offset of a tensor's first block in the container. -/
def Head.tensorAt (h : Head) (t : TensorEntry) : Nat := h.runOffset t.bank + t.firstBlock * 4096

/-- Offset of a tensor's first length-table byte in the container. -/
def Head.tableAt (h : Head) (t : TensorEntry) : Nat := h.runOffset t.bank + t.ltBlock * 4096 + t.ltByte

/-- The sector runs an image takes in flash: first and last sector of each bank's run that is not empty, the
head before run 0 in bank 0 (R217). -/
def Head.flashRuns (h : Head) (bankFirst : Nat) : List (Nat × Nat) :=
  ((List.range 64).map (fun k =>
      (k * 32768 + bankFirst, (h.bankBlocks[k]?).getD 0 + (if k = 0 then h.man.headLength / 4096 else 0)))).filterMap
    (fun p => if p.2 = 0 then none else some (p.1, p.1 + p.2 - 1))

end Sys2Proof.Machine
end

