-- ==== Sys2Proof/Machine/Images.lean ====
section
/-! DEFINITION. Image commands: install, load, remove, verify, commit of a version, and their ends
(R211 to R227), and the posting of descriptor completions, which moves an install on. -/

namespace Sys2Proof.Machine

/-- Change the image state. -/
def State.setImages (s : State) (i : Images) : State := { s with images := i }

/-- Change one slot's image. -/
def setImage (s : State) (slot : Nat) (f : Image → Image) : State :=
  s.setImages { s.images with slots := lmod s.images.slots slot f }

/-- A slot's image. -/
def imageOf (s : State) (slot : Nat) : Image := (s.images.slots[slot]?).getD Image.reset

/-- Change the image command in progress. -/
def setJob (s : State) (f : ImageJob → ImageJob) : State := s.setImages { s.images with job := s.images.job.map f }

/-! ## Sources (R220, R222) -/

/-- Read the host window for an install or a load, through its expander: accesses of host inbound, which its region
entries must grant (Masters, R136; log 105); errors stand against it (Reporting path by master). -/
def windowRead (s : State) (a n : Nat) : State × List Octet :=
  (linesOf a n).foldl
    (fun acc p =>
      match areaOf p.1 with
      | .window _ => let r := readLine (query acc.1 20 .read) acc.1 p.1 p.2; (r.1, acc.2 ++ r.2.1)
      | _ => (accessError 9 20 p.1 acc.1, acc.2 ++ poison p.2))
    (s, [])

/-- An octet of a container among the pieces another node has sent. -/
def pieceAt (pieces : List (Nat × List Octet)) (off : Nat) : Option Octet :=
  pieces.findSome? (fun p => if p.1 ≤ off then p.2[off - p.1]? else none)

/-- Read n bytes of a container at an offset: from the host window, or from what a node has sent or a broadcast has
already fetched (R315: each byte once); a byte that is not there is that of an undeclared burst (R222). -/
def containerRead (s : State) (source address : Nat) (pieces : List (Nat × List Octet)) (off n : Nat) :
    State × List Octet :=
  if source = 0 ∧ pieces = [] then windowRead s (address + off) n
  else (s, (List.range n).map (fun i => (pieceAt pieces (off + i)).getD ⟨0xFF, false⟩))

/-- Every byte of a container range has been sent. -/
def pieceWhole (pieces : List (Nat × List Octet)) (off n : Nat) : Bool :=
  (List.range n).all (fun i => (pieceAt pieces (off + i)).isSome)

/-- The head of a container whose pieces are arriving is there. -/
def headWhole (pieces : List (Nat × List Octet)) : Bool :=
  pieceWhole pieces 0 256 &&
    pieceWhole pieces 0 (fld (vals ((List.range 256).map (fun i => (pieceAt pieces i).getD ⟨0, false⟩))) 28 4)

/-- A tensor is there: its length table, and the declared bursts of its blocks (R222). -/
def tensorWhole (pieces : List (Nat × List Octet)) (h : Head) (t : TensorEntry) : Bool :=
  pieceWhole pieces (h.tableAt t) t.blocks &&
    (List.range t.blocks).all (fun i =>
      pieceWhole pieces (h.tensorAt t + 4096 * i)
        (64 * min 64 (((pieceAt pieces (h.tableAt t + i)).map (·.val.toNat)).getD 0)))

/-- Check the head of a container (checks 1 to 7). -/
def readHead (s : State) (source address : Nat) (pieces : List (Nat × List Octet)) : State × Except Nat Head :=
  let r := containerRead s source address pieces 0 256
  if anyBad r.2 then (r.1, .error abMalformed)
  else match headerChecks r.1 (vals r.2) with
    | 0 =>
      let h := containerRead r.1 source address pieces 0 (fld (vals r.2) 28 4)
      (h.1, checkHead h.1 h.2)
    | code => (r.1, .error code)

/-! ## What an image holds on this device -/

/-- A tensor of a slot's image is held here: in pipeline layout only those of the device's own layers, and those of
no layer (Broadcast, R310). -/
def holdsTensor (s : State) (slot : Nat) (t : TensorEntry) : Bool :=
  decide (t.layer = 0xFFFF) || !inPipeline s || (heldLayers s slot).contains t.layer

/-- Handle of tensor i of a slot (R212). -/
def imageHandle (slot i : Nat) : Nat := 0xFF * 2 ^ 24 + slot * 2 ^ 21 + i

/-- Address of tensor i's first byte in its own home. -/
def tensorAddress (im : Image) (i : Nat) (t : TensorEntry) : Nat :=
  if im.tier = 2 then bankRun im t.bank + t.firstBlock * 4096 else (im.bases[i]?).getD 0

/-- Address of tensor i's first length-table byte in its own home: a loaded tensor's lies in the device area
(R144). -/
def tableAddress (s : State) (im : Image) (i : Nat) (t : TensorEntry) : Nat :=
  if im.tier = 2 then bankRun im t.bank + t.ltBlock * 4096 + t.ltByte
  else areaBase s + (tensorAddress im i t - lpddrBase) / 4096

/-- The tensor objects of an image join the table (R212, R223): RO, shared, charged to the device reserve. -/
def addImageTensors (s : State) (slot : Nat) : State :=
  let im := imageOf s slot
  match im.head with
  | none => s
  | some h =>
    ((List.range h.tensorTable.length).zip h.tensorTable).foldl (fun s p =>
      if !holdsTensor s slot p.2 then s
      else
        let t : Tensor := { newTensor (imageHandle slot p.1) p.2.hint (p.2.blocks * 4096) im.tier
            (tensorAddress im p.1 p.2) false with weightOnly := p.2.weightOnly, shared := true }
        let s1 := s.setTiers { s.tiers with tensors := s.tiers.tensors ++ [t] }
        if t.hint = 1 then (if pinFits s1 t then pinPlace s1 t else s1) else askHint false s1 t.handle) s

/-- Whether a tensor object belongs to a slot's image. -/
def ofSlot (slot : Nat) (t : Tensor) : Bool := decide (t.handle / 2 ^ 21 = 0x7F8 + slot)

/-- The places of a tensor's copies are freed at the next barrier. -/
def freeCopies (s : State) (t : Tensor) : State :=
  let s1 := match t.copy0 with | some a => freeLater s 0 a t.size | none => s
  match t.copy1 with | some a => freeLater s1 1 a t.size | none => s1

/-- The tensor objects of an image leave the table, and their copies with them; their homes belong to the image. -/
def dropImageTensors (s : State) (slot : Nat) : State :=
  let s1 := (s.tiers.tensors.filter (ofSlot slot)).foldl freeCopies s
  s1.setTiers { s1.tiers with tensors := s1.tiers.tensors.filter (fun t => !ofSlot slot t) }

/-- An expert layer with its table's settings and zero biases (R292). -/
def freshExpert (e : ExpertEntry) : ExpertLayer where
  mode := e.mode
  interval := e.interval
  step := e.step
  limit := e.biasLimit
  bias := List.replicate e.experts 0
  window := List.replicate e.experts 0
  windowTurns := 0
  totals := List.replicate (e.experts + e.shared) ⟨0, 0, 0, 0⟩

/-- The expert layers of a slot take the table's settings (R292). -/
def resetExperts (s : State) (slot : Nat) : State :=
  let l := ((imageOf s slot).head.map (·.experts)).getD []
  { s with experts := { s.experts with
      layers := s.experts.layers.filter (fun p => !decide (p.1.1 = slot)) ++ l.map (fun e => ((slot, e.layer), freshExpert e))
      changes := s.experts.changes.filter (fun p => !decide (p.1.1 = slot)) } }

/-- The expert layers of a slot leave with its image. -/
def dropExperts (s : State) (slot : Nat) : State :=
  { s with experts := { s.experts with
      layers := s.experts.layers.filter (fun p => !decide (p.1.1 = slot))
      changes := s.experts.changes.filter (fun p => !decide (p.1.1 = slot)) } }

/-- A slot becomes READY with its tensors and its expert settings; no code area holds its programs yet. -/
def makeReady (s : State) (slot : Nat) : State :=
  let s1 : State := { s with decks := s.decks.map (fun d => if d.code = some slot then { d with code := none } else d) }
  resetExperts (addImageTensors (setImage s1 slot (fun im => { im with st := .ready })) slot) slot

/-- The image entry, 64 bytes (0x2700). -/
def imageEntry (s : State) (slot : Nat) : Bytes :=
  let im := imageOf s slot
  let code : Nat := match im.st with
    | .empty => 0 | .installing => 1 | .loading => 2 | .ready => 3 | .swapping => 4 | .swapStalled => 5
    | .suspect => 6 | .verifying => 7 | .broken => 8 | .revoked => 9 | .unsupported => 10 | .removing => 11
  let live := (s.serving.berths.filter (fun b => b.live && decide (b.slot = slot))).length
  let f (g : Manifest → Nat) : Nat := (im.head.map (fun h => g h.man)).getD 0
  padTo 64 (leBytes 1 code ++ leBytes 1 (if im.st = .empty then 0 else im.tier) ++ leBytes 1 (f (·.keySlot))
    ++ leBytes 1 (f (·.rollback)) ++ leBytes 2 (f (·.feature)) ++ leBytes 2 (f (·.layers)) ++ leBytes 8 (f (·.modelId))
    ++ leBytes 4 (f (·.version)) ++ leBytes 4 (f (·.security)) ++ leBytes 4 live ++ leBytes 1 im.replaced
    ++ leBytes 1 im.toReplace ++ leBytes 2 0 ++ leBytes 4 im.faults)

/-! ## The command's structure (R216) -/

/-- Reserved fields and encodings of an image command. -/
def imageCommandForm (s : State) (val : Bytes) : Bool :=
  let op := fld val 0 1
  decide (1 ≤ op) && decide (op ≤ 5) && zeroAt val 17 15
    && (decide (op ≤ 2) || (zeroAt val 2 1 && zeroAt val 8 8 && zeroAt val 16 1))
    && (decide (op = 1) || (zeroAt val 3 1 && zeroAt val 4 4))
    && (decide (fld val 2 1 = 0) || decide (8 < fld val 2 1) || decide (fld val 8 8 < 8))
    && (decide (fld val 16 1 = 0) || decide (s.ferry.role = .pilot))

/-- Ranges of an image command (R374). -/
def imageCommandRange (val : Bytes) : Bool :=
  decide (fld val 1 1 ≤ 7) && decide (fld val 2 1 ≤ 8)
    && (!decide (fld val 0 1 = 1) || (decide (3 ≤ fld val 3 1) && decide (fld val 3 1 ≤ 15)
        && decide (2048 ≤ fld val 4 4) && decide (fld val 4 4 ≤ 32767)))
    && (!decide (fld val 2 1 = 0) || decide (fld val 8 8 % 4096 = 0))

/-- The job a command starts. -/
def jobOf (ch : Channel) (val : Bytes) : ImageJob where
  op := fld val 0 1
  slot := fld val 1 1
  source := fld val 2 1
  sourceAddress := fld val 8 8
  region := fld val 3 1
  bankFirst := fld val 4 4
  mask := fld val 16 1
  ch := ch
  phase := .ended
  pieces := []
  failure := 0
  members := []
  memberFailed := false

/-- Nodes of a node mask. -/
def maskNodes (mask : Nat) : List Nat := ((List.range 8).filter (fun i => bitOf mask i)).map (· + 1)

/-- Every node of a mask is joined, and so is a node source (R222). -/
def nodesJoined (s : State) (source mask : Nat) : Bool :=
  (maskNodes mask).all (fun n => (joinedNodes s).contains n)
    && (decide (source = 0) || ((joinedNodes s).contains source && !decide (source = s.nodeId)))

/-- The host window has valid entries over a range (Sources and broadcast). -/
def windowValid (s : State) (a n : Nat) : Bool :=
  decide (windowBase ≤ a) && decide (a + n ≤ windowEnd) &&
    (List.range (n / 0x400_0000 + 2)).all (fun i =>
      let e := (a - windowBase) / 0x400_0000 + i
      decide (a + n ≤ windowBase + e * 0x400_0000) || (aget s.tiers.windows e).isSome)

/-- A source answers the whole container. -/
def sourceValid (s : State) (j : ImageJob) (h : Head) : Bool :=
  !decide (j.source = 0) || windowValid s j.sourceAddress h.total

/-- Room in the tensor table for an image's tensors (R151). -/
def tensorRoom (s : State) (h : Head) : Bool := decide (s.tiers.tensors.length + h.tensorTable.length ≤ 65536)

/-- A slot that an INSTALL or a LOAD may take. -/
def slotFree (s : State) (slot : Nat) : Bool :=
  (match (imageOf s slot).st with
   | .empty => true | .broken => true | .revoked => true
   | _ => false) && !slotInUse s slot

/-! ## INSTALL (R217, R218) -/

/-- Sector runs of the images in other slots. -/
def otherRuns (s : State) (slot : Nat) : List (Nat × Nat) :=
  (List.range 8).flatMap (fun i =>
    let im := imageOf s i
    if i = slot ∨ im.st = .empty ∨ im.tier ≠ 2 then []
    else match im.head with
      | some h => h.flashRuns im.bankFirst
      | none => [])

/-- The region of an install: WEIGHT_ONLY, in force, and over every sector of the runs, which no other image's
runs share (R217). -/
def regionServes (s : State) (j : ImageJob) (runs : List (Nat × Nat)) : Bool :=
  let r := (s.flash.regions[j.region]?).getD ⟨0, 0, .unused⟩
  decide (r.kind = .weightOnly) && decide (regionState s j.region = 0)
    && runs.all (fun p => decide (r.first ≤ p.1) && decide (p.2 ≤ r.last))
    && runs.all (fun p => (otherRuns s j.slot).all (fun q => decide (p.2 < q.1) || decide (q.2 < p.1)))

/-- Check 8 of an INSTALL. -/
def installChecks (s : State) (j : ImageJob) (h : Head) : List (Bool × Nat) :=
  let runs := h.flashRuns j.bankFirst
  [(regionServes s j runs, abInconsistent), (runs.all (fun p => decide (p.1 / 32768 = p.2 / 32768)), abRange),
   (slotFree s j.slot, abNotIdle), (nodesJoined s j.source j.mask, abNode), (sourceValid s j h, abInconsistent),
   (tensorRoom s h, abNoEntry)]

/-- The install flow asks for descriptors, which take places in the privileged queue as they free (R218). -/
def pushFlow (l : List FlashDesc) (s : State) : State :=
  admitBacklog (s.setFlash { s.flash with backlog := s.flash.backlog ++ l, nextSeq := s.flash.nextSeq + l.length })

/-- Number descriptors from a sequence on. -/
def numbered : Nat → List (Nat → FlashDesc) → List FlashDesc
  | _, [] => []
  | n, d :: r => d n :: numbered (n + 1) r

/-- Erase an image's runs through the privileged queue. -/
def flowErases (s : State) (slot bankFirst : Nat) (h : Head) : State :=
  let runs := (h.flashRuns bankFirst).flatMap (fun r => erasesOf r.1 r.2)
  pushFlow (numbered s.flash.nextSeq (runs.map (fun p seq => ownDesc seq 3 p.1 p.2 0 (.flow slot)))) s

/-- Nodes of a mask that hold a tensor of a slot's new image: in pipeline layout those of its layer, and every node
for a tensor of no layer (Broadcast, R310). -/
def maskFor (s : State) (slot mask : Nat) (h : Head) (t : TensorEntry) : Nat :=
  if t.layer = 0xFFFF || !inPipeline s then mask
  else
    let nodes : List Nat := match aget s.ferry.stageMaps slot with
      | some m => (m.take h.man.layers).map (·.toNat)
      | none => evenMap h.man.layers (joinedNodes s)
    match nodes[t.layer]? with
    | some n => if 1 ≤ n ∧ n ≤ 8 ∧ bitOf mask (n - 1) then 2 ^ (n - 1) else 0
    | none => 0

/-- A part of a container to broadcast: the nodes it is for, its offset and its bytes. -/
structure CastPart where
  mask : Nat
  off : Nat
  data : List Octet

/-- Fetch what is stored of a tensor: its length table and the declared bursts of its blocks (R222). -/
def fetchTensor (s : State) (j : ImageJob) (h : Head) (t : TensorEntry) : State × List CastPart :=
  let m := maskFor s j.slot j.mask h t
  let part (s : State) (off n : Nat) : State × CastPart :=
    let r := containerRead s j.source j.sourceAddress j.pieces off n
    (r.1, ⟨m, off, r.2⟩)
  let l := part s (h.tableAt t) t.blocks
  (l.2.data.zipIdx).foldl (fun acc p =>
    let n := min 64 p.1.val.toNat
    if n = 0 then acc else let r := part acc.1 (h.tensorAt t + 4096 * p.2) (64 * n); (r.1, acc.2 ++ [r.2])) (l.1, [l.2])

/-- Fetch what a broadcast sends of a container, once: the whole head as it was checked, and each tensor. -/
def fetchContainer (s : State) (j : ImageJob) (h : Head) : State × List CastPart :=
  h.tensorTable.foldl (fun acc t => let r := fetchTensor acc.1 j h t; (r.1, acc.2 ++ r.2))
    (s, [⟨j.mask, 0, h.raw.map (⟨·, false⟩)⟩])

/-- Send a part along the broadcast tree as weights-class WRITE packets; the last packet of the container ends the
message (R315). -/
def castPart (slot : Nat) (last : Bool) (s : State) (c : CastPart) : State :=
  if c.mask = 0 then s
  else
    let n := c.data.length
    (cuts 504 (n / 504 + 2) 0 n).foldl (fun s p =>
      sendBroadcast s 8 1 (b2n (last && decide (n ≤ p.1 + p.2))) (slot + c.mask * 256)
        (leBytes 8 (c.off + p.1) ++ vals ((c.data.drop p.1).take p.2))) s

/-- Broadcast the parts of a container in order. -/
def castParts (slot : Nat) (l : List CastPart) (s : State) : State :=
  l.zipIdx.foldl (fun s p => castPart slot (decide (p.2 + 1 = l.length)) s p.1) s

/-- Broadcast a container whose source is the host window: each byte is fetched once, and the device's own copy is made
from what has been fetched (R315). What a node source has sent so far is passed on as it came; the rest follows as it
comes. -/
def broadcastContainer (s : State) (j : ImageJob) (h : Head) : State × List (Nat × List Octet) :=
  if j.mask = 0 then (s, j.pieces)
  else if j.source = 0 then
    let r := fetchContainer s j h
    (castParts j.slot r.2 r.1, r.2.map (fun c => (c.off, c.data)))
  else (castParts j.slot (j.pieces.map (fun p => ⟨j.mask, p.1, p.2⟩)) s, j.pieces)

/-- Every member of a mask runs the same command on the same slot, with this node as its source (Broadcast). -/
def commandMembers (s : State) (j : ImageJob) : State :=
  (maskNodes j.mask).foldl (fun s n =>
    memberWrite s n 0x2701 1 true
      (padTo 32 (leBytes 1 j.op ++ leBytes 1 j.slot ++ leBytes 1 s.nodeId ++ leBytes 1 j.region ++ leBytes 4 j.bankFirst
        ++ leBytes 8 j.slot))) s

/-- A job begins, and the broadcast with it. -/
def beginJob (s : State) (j : ImageJob) (phase : JobPhase) (h : Option Head) : State :=
  let members := (maskNodes j.mask).filter (fun n => !decide (n = s.nodeId))
  let s1 := s.setImages { s.images with job := some { j with phase := phase, members := members } }
  match h with
  | some h =>
    let r := broadcastContainer (commandMembers s1 j) j h
    setJob r.1 (fun j => { j with pieces := r.2 })
  | none => s1

/-! ## LOAD (R220) -/

/-- Bytes of an image's weight-only tensors that this device takes. -/
def sealedBytes (h : Head) : Nat := ((h.tensorTable.filter (·.weightOnly)).map (fun t => t.blocks * 4096)).sum

/-- Find places for a loaded image: its sealed range, every other tensor and the head. Answers the state with the
places taken, the tensors' addresses then the head's, and the sealed range. -/
def placeTensors : List TensorEntry → Nat → State → Option (State × List Nat)
  | [], _, s => some (s, [])
  | t :: r, at_, s =>
    if t.weightOnly then
      (placeTensors r (at_ + t.blocks * 4096) s).map (fun p => (p.1, at_ :: p.2))
    else match findPlace s 1 (t.blocks * 4096) with
      | none => none
      | some a => (placeTensors r at_ (takePlace s 1 a (t.blocks * 4096))).map (fun p => (p.1, a :: p.2))

/-- The places of a loaded image. -/
def placeImage (s : State) (h : Head) : Option (State × List Nat × Option Nat) :=
  let n := sealedBytes h
  let start : Option (State × Nat × Option Nat) :=
    if n = 0 then some (s, 0, none)
    else match findPlace s 1 n, freeSealed s with
      | some a, some i => some (sealRange (takePlace s 1 a n) i a n, a, some i)
      | _, _ => none
  match start with
  | none => none
  | some (s1, a, i) =>
    match placeTensors h.tensorTable a s1 with
    | none => none
    | some (s2, l) =>
      match findPlace s2 1 h.man.headLength with
      | none => none
      | some b => some (takePlace s2 1 b h.man.headLength, l ++ [b], i)

/-- KiB of the tier-1 reserve an image needs (R158). -/
def loadKib (h : Head) : Nat := h.man.headLength / 1024 + 4 * (h.tensorTable.map (·.blocks)).sum

/-- Free a loaded image's places: the sealed range is zeroed as it is released (R148). -/
def freeImagePlaces (s : State) (slot : Nat) : State :=
  let im := imageOf s slot
  match im.head with
  | none => s
  | some h =>
    let s1 := match im.sealedIndex with
      | some i =>
        match aget s.tiers.sealedRanges i with
        | some r => freePlace s (1, lpddrBase + r.first * 4096, r.pages * 4096)
        | none => s
      | none => s
    let s2 := (h.tensorTable.zip im.bases).foldl (fun s p =>
      if p.1.weightOnly then s else freePlace s (1, p.2, p.1.blocks * 4096)) s1
    match im.bases.getLast? with
    | some b => freePlace s2 (1, b, h.man.headLength)
    | none => s2

/-- What a BROKEN or REVOKED image still holds leaves the slot as another takes its place (log 112). -/
def vacate (s : State) (slot : Nat) : State :=
  if !slotFree s slot || decide ((imageOf s slot).st = .empty) then s
  else
    let s1 := dropExperts (placePartition (dropImageTensors s slot) slot 0) slot
    let s2 := if (imageOf s slot).tier = 1 then freeImagePlaces s1 slot else s1
    setImage s2 slot (fun _ => Image.reset)

/-- An accepted INSTALL: the slot is recorded INSTALLING, and its runs are to be erased. -/
def beginInstall (s : State) (j : ImageJob) (h : Head) : State :=
  let s1 := setImage (vacate s j.slot) j.slot (fun _ =>
    { Image.reset with st := .installing, tier := 2, head := some h, region := j.region, bankFirst := j.bankFirst })
  flowErases (beginJob s1.keepTable j .erasing (some h)) j.slot j.bankFirst h

/-- Check 8 of a LOAD: what the slot's own image gives back counts as free. -/
def loadChecks (s : State) (j : ImageJob) (h : Head) : List (Bool × Nat) :=
  let v := vacate s j.slot
  [(decide (shortfall v 1 0xFF (loadKib h) = 0), abQuota),
   (decide (sealedBytes h = 0) || (freeSealed v).isSome, abNoEntry),
   ((placeImage v h).isSome, abQuota), (slotFree s j.slot, abNotIdle), (nodesJoined s j.source j.mask, abNode),
   (sourceValid s j h, abInconsistent), (tensorRoom s h, abNoEntry)]

/-- An accepted LOAD: the slot is LOADING in the places it will have. -/
def beginLoad (s : State) (j : ImageJob) (h : Head) : State :=
  match placeImage (vacate s j.slot) h with
  | none => s
  | some (s1, bases, i) =>
    let s2 := setImage s1 j.slot (fun _ =>
      { Image.reset with st := .loading, tier := 1, head := some h, bases := bases, sealedIndex := i })
    beginJob s2 j .loading (some h)

/-! ## Starting a command -/

/-- Checks 1 to 8 of an INSTALL or a LOAD whose head can be read, then its start. -/
def startImage (j : ImageJob) (s : State) : Applied :=
  let r := readHead s j.source j.sourceAddress j.pieces
  match r.2 with
  | .error code => refuse code r.1
  | .ok h =>
    if j.op = 1 then guarded (installChecks r.1 j h) (fun s => accept (beginInstall s j h)) r.1
    else guarded (loadChecks r.1 j h) (fun s => accept (beginLoad s j h)) r.1

/-- INSTALL and LOAD: a node source that is not joined fails check 8's test at once, since nothing of the image can
be had; one that is joined has first to send the head. -/
def applySource (ch : Channel) (val : Bytes) (s : State) : Applied :=
  let j := jobOf ch val
  if j.source = 0 then startImage j s
  else if nodesJoined s j.source j.mask then .later (s.setImages { s.images with job := some { j with phase := .checking } })
  else refuse abNode s

/-- The staging area of a swap is released (R148). -/
def freeStaging (s : State) (j : SwapJob) : State :=
  let s1 := match j.sealedIndex with | some i => releaseSealed s i | none => s
  if j.area.2 = 0 then s1 else freePlace s1 (1, j.area.1, j.area.2)

/-- REMOVE (R224). -/
def applyRemove (ch : Channel) (val : Bytes) (s : State) : Applied :=
  let j := jobOf ch val
  let im := imageOf s j.slot
  let swapping := match s.images.swap with
    | some w => decide (w.slot = j.slot) && !decide (w.phase = .stalled)
    | none => false
  guarded [(!slotInUse s j.slot && !swapping && !decide (im.st = .installing) && !decide (im.st = .removing), abNotIdle)]
    (fun s =>
      if im.st = .empty then accept (beginJob s j .removing none)
      else
        let s1 := placePartition (dropImageTensors s j.slot) j.slot 0
        let s2 := match s1.images.swap with
          | some w =>
            if w.slot = j.slot then
              freeStaging (s1.setImages { s1.images with swap := none, retry := none }) w
            else s1
          | none => s1
        let s3 := dropExperts (setImage s2 j.slot (fun im => { im with st := .removing, failing := none })) j.slot
        let s4 := beginJob s3 j .removing none
        if im.tier = 2 then
          accept (match im.head with
            | some h => helmErases (h.flashRuns im.bankFirst) 0 (.removal j.slot) s4
            | none => s4)
        else accept s4) s

/-- VERIFY (R226): of a READY, SUSPECT or BROKEN image. -/
def applyVerify (ch : Channel) (val : Bytes) (s : State) : Applied :=
  let j := jobOf ch val
  let able := match (imageOf s j.slot).st with
    | .ready => true | .suspect => true | .broken => true
    | _ => false
  guarded [(able, abNotIdle)]
    (fun s => accept (beginJob (setImage s j.slot (fun im => { im with st := .verifying })) j .verifying none)) s

/-- Slots on a counter whose security version lies below a value. -/
def belowCounter (s : State) (counter value : Nat) : List Nat :=
  (List.range 8).filter (fun i =>
    match (imageOf s i).st, (imageOf s i).head with
    | .empty, _ => false
    | _, some h => decide (h.man.rollback = counter) && decide (h.man.security < value)
    | _, none => false)

/-- States whose image has a version to commit: not one under way to the slot or out of it, and not BROKEN, for which
only REMOVE, INSTALL and LOAD are accepted (R226). -/
def versioned : ImageState → Bool
  | .ready => true | .swapping => true | .swapStalled => true | .suspect => true | .verifying => true
  | .revoked => true | .unsupported => true
  | _ => false

/-- COMMIT_VERSION (R227). -/
def applyCommitVersion (ch : Channel) (val : Bytes) (s : State) : Applied :=
  let j := jobOf ch val
  match (imageOf s j.slot).head with
  | none => refuse abNotIdle s
  | some h =>
    let n := h.man.rollback
    guarded [(versioned (imageOf s j.slot).st, abNotIdle), (!decide (n = 0xFF), abCompat),
        ((belowCounter s n h.man.security).all (fun i => !slotInUse s i), abNotIdle)]
      (fun s => accept (beginJob (s.advanceCounter (8 + n) (h.man.security - s.counter (8 + n))) j .ended none)) s

/-- A write to 0x2701:01 (R216). -/
def applyImageCommand (ch : Channel) (val : Bytes) (s : State) : Applied :=
  guarded [(decide (val.length = 32), abLength), (s.images.job.isNone, abBusy), (imageCommandForm s val, abMalformed),
      (imageCommandRange val, abRange)]
    (fun s =>
      match fld val 0 1 with
      | 1 => applySource ch val s
      | 2 => applySource ch val s
      | 3 => applyRemove ch val s
      | 4 => applyVerify ch val s
      | _ => applyCommitVersion ch val s) s

/-- A command that a row of the table names by its op. -/
def imageOp (op : Nat) (ch : Channel) (val : Bytes) (s : State) : Applied :=
  if val.length = 32 ∧ fld val 0 1 ≠ op then refuse abMalformed s else applyImageCommand ch val s

/-- INSTALL. -/
def execInstallImage (ch : Channel) (val : Bytes) (s : State) : Host.Outcome State Fault Refusal :=
  objectWrite ch 0x2701 1 val (imageOp 1 ch val) s

/-- LOAD. -/
def execLoadImage (ch : Channel) (val : Bytes) (s : State) : Host.Outcome State Fault Refusal :=
  objectWrite ch 0x2701 1 val (imageOp 2 ch val) s

/-- REMOVE. -/
def execRemoveImage (ch : Channel) (val : Bytes) (s : State) : Host.Outcome State Fault Refusal :=
  objectWrite ch 0x2701 1 val (imageOp 3 ch val) s

/-- VERIFY of an image. -/
def execImageVerify (ch : Channel) (val : Bytes) (s : State) : Host.Outcome State Fault Refusal :=
  objectWrite ch 0x2701 1 val (imageOp 4 ch val) s

/-- COMMIT_VERSION. -/
def execCommitVersion (ch : Channel) (val : Bytes) (s : State) : Host.Outcome State Fault Refusal :=
  objectWrite ch 0x2701 1 val (imageOp 5 ch val) s

/-- A write to an author key (R215, R375). -/
def applyAuthorKey (sub : Nat) (val : Bytes) (s : State) : Applied :=
  let able := match s.lifecycle with
    | .factory => true | .development => true | .service => true
    | _ => false
  guarded [(decide (val.length = 64), abLength), (able, abLifecycle), (keyOnCurve val, abRange)]
    (fun s => accept (s.setImages { s.images with keys := lmod s.images.keys (sub - 2) (fun _ => some val) }).keepTable) s

/-! ## The install flow (R218) -/

/-- Descriptors of a slot's install flow are left. -/
def flowLeft (s : State) (slot : Nat) : Bool :=
  (s.flash.priv ++ s.flash.backlog).any (fun d => decide (d.owner = .flow slot))

/-- Tensors of an image that this device takes. -/
def takenTensors (s : State) (slot : Nat) (h : Head) : List TensorEntry := h.tensorTable.filter (holdsTensor s slot)

/-- What of a container has arrived suffices for the device's tensors. -/
def containerWhole (s : State) (j : ImageJob) (h : Head) : Bool :=
  decide (j.source = 0) || (takenTensors s j.slot h).all (tensorWhole j.pieces h)

/-- Read a tensor's data and length table from its source and hash it (check 9): the state, its octets, its table,
and whether it passes. -/
def arriveTensor (s : State) (source address : Nat) (pieces : List (Nat × List Octet)) (h : Head) (t : TensorEntry) :
    State × Bytes × Bytes × Bool :=
  let d := containerRead s source address pieces (h.tensorAt t) (t.blocks * 4096)
  let l := containerRead d.1 source address pieces (h.tableAt t) t.blocks
  let data := vals d.2
  let table := vals l.2
  (l.1, data, table, !anyBad d.2 && !anyBad l.2 && tensorPasses t data table)

/-- Ranges of the container that an install programs for a tensor: the declared bursts of each block and the length
table, in whole flash words (R218). -/
def programRanges (h : Head) (t : TensorEntry) (table : Bytes) : List (Nat × Nat) :=
  let lt := h.tableAt t
  ((List.range t.blocks).zip table).map (fun p => (h.tensorAt t + 4096 * p.1, h.tensorAt t + 4096 * p.1 + 64 * p.2.toNat))
    ++ [(lt / 16 * 16, alignUp (lt + t.blocks) 16)]

/-- Hash every tensor and gather the ranges of each bank; none if one fails. -/
def gatherRanges (source address : Nat) (pieces : List (Nat × List Octet)) (h : Head) :
    List TensorEntry → State → State × Option (List (Nat × Nat × Nat))
  | [], s => (s, some [])
  | t :: r, s =>
    let a := arriveTensor s source address pieces h t
    if a.2.2.2 then
      let rest := gatherRanges source address pieces h r a.1
      (rest.1, rest.2.map (fun l => (programRanges h t a.2.2.1).map (fun p => (t.bank, p.1, p.2)) ++ l))
    else (a.1, none)

/-- Flash offset of a container offset of a bank's run. -/
def flashPlace (h : Head) (bankFirst bank off : Nat) : Nat :=
  bank * 0x800_0000 + bankFirst * 4096 + (if bank = 0 then off else off - h.runOffset bank)

/-- The PROGRAM descriptors of an install: bank by bank, the head as it was checked before run 0. They carry the bytes
that have been hashed (R218). -/
def programDescs (s : State) (j : ImageJob) (h : Head) (ranges : List (Nat × Nat × Nat)) : List (Nat → FlashDesc) :=
  (List.range 64).flatMap (fun k =>
    let own := (ranges.filter (fun p => decide (p.1 = k))).map (·.2)
    let all := (if k = 0 then [(0, h.man.headLength)] else []) ++ mergeRanges own
    (all.flatMap (fun p => cuts 65536 ((p.2 - p.1) / 65536 + 2) p.1 (p.2 - p.1))).map (fun p seq =>
      { ownDesc seq 2 (flashPlace h j.bankFirst k p.1) p.2 0 (.flow j.slot) with
        inline := some (if k = 0 ∧ p.1 + p.2 ≤ h.man.headLength then slice h.raw p.1 p.2
          else vals (containerRead s j.source j.sourceAddress j.pieces p.1 p.2).2) }))

/-- The install goes on once its erases are done: tensors are hashed, and programs asked for. -/
def flowPrograms (s : State) (j : ImageJob) (h : Head) : State :=
  let g := gatherRanges j.source j.sourceAddress j.pieces h (takenTensors s j.slot h) s
  match g.2 with
  | none =>
    flowErases (setJob g.1 (fun j => { j with phase := .cleaning, failure := abSigned })) j.slot j.bankFirst h
  | some ranges =>
    pushFlow (numbered g.1.flash.nextSeq (programDescs s j h ranges)) (setJob g.1 (fun j => { j with phase := .programming }))

/-- Move an install on when the descriptors of its phase are gone. -/
def advanceInstall (s : State) : State :=
  match s.images.job with
  | none => s
  | some j =>
    match (imageOf s j.slot).head with
    | none => s
    | some h =>
      if j.op ≠ 1 ∨ flowLeft s j.slot then s
      else match j.phase with
        | .erasing =>
          if j.failure ≠ 0 then flowErases (setJob s (fun j => { j with phase := .cleaning })) j.slot j.bankFirst h
          else if containerWhole s j h then flowPrograms s j h
          else s
        | .programming =>
          if j.failure ≠ 0 then flowErases (setJob s (fun j => { j with phase := .cleaning })) j.slot j.bankFirst h
          else setJob s (fun j => { j with phase := .ended })
        | .cleaning => setJob s (fun j => { j with phase := .ended })
        | _ => s

/-- COMPLETION_POST (R124): the oldest finished descriptor's completion is posted, or goes to the install flow. -/
def execCompletionPost (s : State) : Host.Outcome State Fault Refusal := .next (advanceInstall (postOldest s))

/-! ## Ends (R216) -/

/-- The result of a command: its own, else that of the members' copies (Broadcast). -/
def ImageJob.result (j : ImageJob) : Nat := if j.failure = 0 ∧ j.memberFailed then abNode else j.failure

/-- An image command ends (R216). -/
def endCommand (s : State) (code : Nat) : State :=
  let s1 := (s.setImages { s.images with job := none }).setVal 0x2701 2 code
  (s1.msix (s1.val 0x2701 3)).ibi 0xD6

/-- Write a loaded tensor's expanded blocks through the LPDDR encoder: open to the load as its destination, sealed or
not (R139, R147). -/
def loadWrite (s : State) (a : Nat) (data : Bytes) : State :=
  let s1 := s.setTiers { s.tiers with inbound := (a, a + data.length - 1) :: s.tiers.inbound }
  let w := memWrite { query s1 20 .write with special := true } s1 a (data.map (⟨·, false⟩))
  w.1.setTiers { w.1.tiers with inbound := w.1.tiers.inbound.drop 1 }

/-- The blocks of a tensor, expanded; none if one is damaged (R179). -/
def expandBlocks : List Bytes → List Nat → Option Bytes
  | b :: bs, lt :: ls =>
    match decodeBlock b lt with
    | .ok d => (expandBlocks bs ls).map (d ++ ·)
    | .error _ => none
  | _, _ => some []

/-- Load every tensor of an image; false where a hash fails or a read gives poison. -/
def loadTensors (j : ImageJob) (h : Head) : List (TensorEntry × Nat) → State → State × Bool
  | [], s => (s, true)
  | (t, a) :: r, s =>
    let d := arriveTensor s j.source j.sourceAddress j.pieces h t
    match d.2.2.2, expandBlocks (blocksOf d.2.1 t.blocks) (d.2.2.1.map (·.toNat)) with
    | true, some data => loadTensors j h r (loadWrite d.1 a data)
    | _, _ => (d.1, false)

/-- End a LOAD (R220). -/
def endLoad (s : State) (j : ImageJob) (h : Head) : State :=
  let im := imageOf s j.slot
  let gone (code : Nat) (s : State) : State :=
    endCommand (setImage (freeImagePlaces s j.slot) j.slot (fun _ => Image.reset)) code
  if j.failure ≠ 0 then gone j.failure s
  else
    let taken := (h.tensorTable.zip im.bases).filter (fun p => holdsTensor s j.slot p.1)
    let r := loadTensors j h taken s
    if r.2 then endCommand (makeReady (loadWrite r.1 ((im.bases.getLast?).getD 0) h.raw) j.slot) j.result
    else gone abSigned r.1

/-- End an INSTALL (R218). -/
def endInstall (s : State) (j : ImageJob) : State :=
  if (imageOf s j.slot).st = .installing ∧ j.failure = 0 then endCommand ((makeReady s j.slot).bump 0x2711 1) j.result
  else endCommand (setImage s j.slot (fun _ => Image.reset)) j.failure

/-- End a REMOVE (R224). -/
def endRemove (s : State) (j : ImageJob) : State :=
  let s1 := if (imageOf s j.slot).tier = 1 then freeImagePlaces s j.slot else s
  endCommand (setImage s1 j.slot (fun _ => Image.reset)) j.failure

/-- Stored bytes of a flash range, none where a word cannot be corrected or its sector is indeterminate. -/
def flashStored (s : State) (a n : Nat) : State × Option Bytes :=
  let s1 := checkFlash 24 s a n
  let sectors := (List.range ((a + n - 1 - flashBase) / 4096 + 1 - sectorOf a)).map (fun i => sectorOf a + i)
  if flashBad s.mem a n || sectors.any s.flash.indeterminate.contains then (s1, none) else (s1, some (s.mem.bytes a n))

/-- A tensor's blocks and length table as its home holds them: stored bytes in flash, what the encoder makes of the
contents in LPDDR. None where something cannot be read. -/
def homeForm (s : State) (slot i : Nat) (t : TensorEntry) : State × Option (Bytes × Bytes) :=
  let im := imageOf s slot
  let a := tensorAddress im i t
  if im.tier = 2 then
    let d := flashStored s a (t.blocks * 4096)
    let l := flashStored d.1 (tableAddress s im i t) t.blocks
    match d.2, l.2 with
    | some x, some y => (l.1, some (x, y))
    | _, _ => (l.1, none)
  else if (List.range t.blocks).any (fun k => s.mem.badAt (a + 4096 * k)) then (s, none)
  else
    let coded := (List.range t.blocks).map (fun k => encodeBlock (s.mem.bytes (a + 4096 * k) 4096))
    (s, some ((coded.map (fun c => padTo 4096 c.1)).flatten, coded.map (fun c => BitVec.ofNat 8 c.2)))

/-- Every tensor of an image passes its hash from its home (R226). -/
def homesPass (slot : Nat) : List (Nat × TensorEntry) → State → State × Bool
  | [], s => (s, true)
  | (i, t) :: r, s =>
    let d := homeForm s slot i t
    match d.2 with
    | some (data, table) => if tensorPasses t data table then homesPass slot r d.1 else (d.1, false)
    | none => (d.1, false)

/-- Read a part of an image's head where it is kept: an installed one through the helm queue, which reaches every region
kind, with its errors against the helm (R213, R219). -/
def headPart (s : State) (slot off n : Nat) : State × List Octet :=
  let im := imageOf s slot
  if im.tier = 2 then
    let a := flashBase + im.bankFirst * 4096 + off
    let s1 := checkFlash 1 s a n
    let bad := flashBad s.mem a n || (List.range (n / 4096 + 2)).any (fun i =>
      s.flash.indeterminate.contains (sectorOf a + i) && decide (sectorOf a + i ≤ sectorOf (a + n - 1)))
    (s1, if bad then
        (List.range n).map (fun i =>
          if flashBad s.mem (a + i) 1 || s.flash.indeterminate.contains (sectorOf (a + i)) then ⟨0, true⟩
          else ⟨s.mem.byte (a + i), false⟩)
      else (s.mem.bytes a n).map (⟨·, false⟩))
  else memRead (query s 24 .read) s ((im.bases.getLast?).getD 0 + off) n |> fun r => (r.1, r.2.1)

/-- Octets of an image's head where it is kept. -/
def keptHead (s : State) (slot : Nat) : State × List Octet :=
  headPart s slot 0 (((imageOf s slot).head.map (·.man.headLength)).getD 0)

/-- End a VERIFY (R226): READY if everything passes, else BROKEN. -/
def endVerify (s : State) (j : ImageJob) (h : Head) : State :=
  let held := ((List.range h.tensorTable.length).zip h.tensorTable).filter (fun p => holdsTensor s j.slot p.2)
  let k := keptHead s j.slot
  match checkHead k.1 k.2 with
  | .error code => endCommand (setImage k.1 j.slot (fun im => { im with st := .broken })) code
  | .ok _ =>
    let r := homesPass j.slot held k.1
    if r.2 then endCommand (setImage r.1 j.slot (fun im => { im with st := .ready })) 0
    else endCommand (setImage r.1 j.slot (fun im => { im with st := .broken })) abSigned

/-- Ask each member that still runs a broadcast for its image entry: the manual gives no message that reports it. -/
def pollMembers (s : State) (j : ImageJob) : State :=
  j.members.foldl (fun s n =>
    if s.ferry.forwards.any (fun f => decide (f.origin = .fwd) && decide (f.node = n)) then s
    else
      let frame := requestFrame 3 n 0x2700 (j.slot + 1) (nextTransfer s n) 0 0 []
      sendDict (s.setFerry { s.ferry with forwards := s.ferry.forwards ++ [⟨.fwd, n, frame⟩] }) n frame) s

/-- A member has answered with its image entry: READY has passed, a state that is not a running one has failed. -/
def memberAnswered (s : State) (n state : Nat) : State :=
  setJob s (fun j =>
    if state = 1 ∨ state = 2 then j
    else { j with
      members := j.members.filter (fun m => !decide (m = n))
      memberFailed := j.memberFailed || !decide (state = 3) })

/-- The command's own work can end now. -/
def workDone (s : State) (j : ImageJob) : Bool :=
  match j.phase with
  | .ended => true
  | .loading => decide (j.failure ≠ 0)
      || (match (imageOf s j.slot).head with | some h => containerWhole s j h | none => true)
  | .verifying => true
  | .removing => !s.flash.helm.any (fun d => decide (d.owner = .removal j.slot) && !d.isFinished)
  | _ => false

/-- IMAGE_COMMAND_DONE (R216): when the command's own work is over, and every member's. -/
def execImageCommandDone (s : State) : Host.Outcome State Fault Refusal :=
  match s.images.job with
  | none => .next s
  | some j =>
    if !s.serves || !workDone s j then .next s
    else if j.members ≠ [] then .next (pollMembers s j)
    else match j.op, (imageOf s j.slot).head with
      | 1, _ => .next (endInstall s j)
      | 2, some h => .next (endLoad s j h)
      | 3, _ => .next (endRemove s j)
      | 4, some h => .next (endVerify s j h)
      | _, _ => .next (endCommand s j.result)

/-! ## Pieces that another node sends (R222, R315) -/

/-- A piece of a container reaches the command that works on a slot: the state, and the answer due to the command's
channel once its checks have been made. -/
def takePiece (s : State) (slot off : Nat) (data : List Octet) : State × Option (Channel × Nat) :=
  match s.images.job with
  | none => (s, none)
  | some j =>
    if j.slot ≠ slot ∨ j.source = 0 then (s, none)
    else
      let j1 := { j with pieces := j.pieces ++ [(off, data)] }
      let s1 := s.setImages { s.images with job := some j1 }
      match j.phase with
      | .checking =>
        if headWhole j1.pieces then
          match startImage j1 (s.setImages { s.images with job := none }) with
          | .done code s2 => (s2, some (j.ch, code))
          | .later s2 => (s2, none)
        else (s1, none)
      | _ =>
        let s2 := if j.mask = 0 then s1 else castPart slot false s1 ⟨j.mask, off, data⟩
        (advanceInstall s2, none)

/-! ## Source nodes that are lost (R222, R231, R315) -/

/-- What an image command makes of lost nodes: a member's copy counts as failed; without its source node the device's
own copy fails, and its runs are erased again or its places freed (log 112). -/
def jobLoses (gone : Nat → Bool) (s : State) : State :=
  match s.images.job with
  | none => s
  | some j =>
    let s1 := setJob s (fun j => { j with
      members := j.members.filter (fun m => !gone m), memberFailed := j.memberFailed || j.members.any gone })
    if j.source = 0 ∨ !gone j.source then s1
    else match j.phase with
      | .checking => lateAnswer j.ch 0x2701 1 abNode (s1.setImages { s1.images with job := none })
      | .erasing => advanceInstall (setJob s1 (fun j => { j with failure := abNode }))
      | .programming => advanceInstall (setJob s1 (fun j => { j with failure := abNode }))
      | .loading => setJob s1 (fun j => { j with failure := abNode })
      | _ => s1

/-! ## Suspect and revoked images (R225, R227) -/

/-- A turn has failed with FAULT on an image (Image entry, bytes 32–35). -/
def countFault (s : State) (slot : Nat) : State := setImage s slot (fun im => { im with faults := min (im.faults + 1) (2 ^ 32 - 1) })

/-- Mark an image SUSPECT (R225): journalled with an address and never with data. -/
def markSuspect (s : State) (slot address : Nat) : State :=
  match (imageOf s slot).st with
  | .ready => ((setImage s slot (fun im => { im with st := .suspect, failing := some 2 })).bump 0x2711 3).event 11 0 0 [slot, address]
  | .swapping => ((setImage s slot (fun im => { im with st := .suspect, failing := some 2 })).bump 0x2711 3).event 11 0 0 [slot, address]
  | _ => s

/-- At a barrier, images below their counter become REVOKED and their berths fail (R227). -/
def revokeImages (s : State) : State :=
  (List.range 8).foldl (fun s i =>
    match (imageOf s i).st, (imageOf s i).head with
    | .empty, _ => s
    | .revoked, _ => s
    | .installing, _ => s
    | .removing, _ => s
    | _, some h =>
      if h.man.rollback ≤ 7 ∧ h.man.security < s.counter (8 + h.man.rollback) then
        setImage s i (fun im => { im with st := .revoked, failing := some 3 })
      else s
    | _, none => s) s

end Sys2Proof.Machine
end

