-- ==== Sys2Proof/Machine/Swap.lean ====
section
/-! DEFINITION. Swap under load: an image's changed layers are replaced in place, one at a time
(R228 to R231, R277, R292). -/

namespace Sys2Proof.Machine

/-- Change the swap in progress. -/
def setSwap (s : State) (f : SwapJob → SwapJob) : State := s.setImages { s.images with swap := s.images.swap.map f }

/-! ## The request (R228) -/

/-- Reserved fields of a swap request. -/
def swapForm (s : State) (val : Bytes) : Bool :=
  zeroAt val 2 6 && zeroAt val 17 15
    && (decide (fld val 1 1 = 0) || decide (8 < fld val 1 1) || decide (fld val 8 8 < 8))
    && (decide (fld val 16 1 = 0) || decide (s.ferry.role = .pilot))

/-- Ranges of a swap request. -/
def swapRange (val : Bytes) : Bool :=
  decide (fld val 0 1 ≤ 7) && decide (fld val 1 1 ≤ 8)
    && (!decide (fld val 1 1 = 0) || decide (fld val 8 8 % 4096 = 0))

/-- Two manifests agree in every field but base_version, swap_flags and changed_layers (R228); the header's fields
are not the manifest's. -/
def sameManifest (a b : Manifest) : Bool :=
  decide (a.layers = b.layers) && decide (a.layerEntries = b.layerEntries) && decide (a.hidden = b.hidden)
    && decide (a.qHeads = b.qHeads) && decide (a.kvHeads = b.kvHeads) && decide (a.blocksPerPage = b.blocksPerPage)
    && decide (a.headDim = b.headDim) && decide (a.ffn = b.ffn) && decide (a.vocab = b.vocab)
    && decide (a.maxContext = b.maxContext) && decide (a.layerOffset = b.layerOffset)
    && decide (a.tensorOffset = b.tensorOffset) && decide (a.tensorCount = b.tensorCount)
    && decide (a.moeOffset = b.moeOffset) && decide (a.programOffset = b.programOffset)
    && decide (a.programLength = b.programLength)

/-- Tensors of unchanged layers do not differ, and those of changed layers keep their size and their secrecy, so that
they can be replaced in place. -/
def tensorsAgree (changed : List Nat) (old new : List TensorEntry) : Bool :=
  decide (old.length = new.length) && (old.zip new).all (fun p =>
    if changed.contains p.2.layer then
      decide (p.1.blocks = p.2.blocks) && decide (p.1.layer = p.2.layer) && decide (p.1.weightOnly = p.2.weightOnly)
    else decide (p.1 = p.2))

/-- Tensors of a layer with their table index. -/
def layerTensors (h : Head) (l : Nat) : List (Nat × TensorEntry) :=
  ((List.range h.tensorTable.length).zip h.tensorTable).filter (fun p => decide (p.2.layer = l))

/-- Bytes of a layer's tensors. -/
def layerBytes (h : Head) (l : Nat) : Nat := ((layerTensors h l).map (fun p => p.2.blocks * 4096)).sum

/-- Bytes of the largest changed layer. -/
def stagingBytes (h : Head) : Nat := (h.man.changed.map (layerBytes h)).foldl max 0

/-- Some changed tensor is weight-only, so that the staging area is sealed. -/
def stagingSealed (h : Head) : Bool := h.man.changed.any (fun l => (layerTensors h l).any (fun p => p.2.weightOnly))

/-- The checks of R228 after checks 1 to 7. -/
def swapChecks (s : State) (slot source address mask : Nat) (h : Head) : List (Bool × Nat) :=
  let im := imageOf s slot
  let old : Option Head := im.head
  let fits (f : Head → Bool) : Bool := match old with | some o => f o | none => false
  [(s.images.swap.isNone, abSwap),
   (decide (im.st = .ready) && decide (im.tier = 1) && fits (fun o => decide (o.man.modelId = h.man.modelId)), abCompat),
   (fits (fun o => decide (h.man.baseVersion = o.man.version) && sameManifest o.man h.man), abCompat),
   (fits (fun o => tensorsAgree h.man.changed o.tensorTable h.tensorTable), abCompat),
   (decide (shortfall s 1 0xFF (stagingBytes h / 1024) = 0)
      && (decide (stagingBytes h = 0) || (findPlace s 1 (stagingBytes h)).isSome), abQuota),
   (!stagingSealed h || (freeSealed s).isSome, abNoEntry), (nodesJoined s source mask, abNode),
   (!decide (source = 0) || windowValid s address h.total, abInconsistent)]

/-- An accepted swap: its staging area is set, with a sealed range kept for it, and the slot shows SWAPPING. The members
of its mask take the same request with this node as their source (Swap request, node_mask). -/
def beginSwap (s : State) (slot source address mask : Nat) (pieces : List (Nat × List Octet)) (h : Head) : State :=
  let n := stagingBytes h
  let a := if n = 0 then 0 else (findPlace s 1 n).getD 0
  let i := if stagingSealed h then freeSealed s else none
  let s1 := if n = 0 then s else takePlace s 1 a n
  let s2 := match i with | some i => sealRange s1 i a 0 | none => s1
  let s3 := setImage s2 slot (fun im => { im with st := .swapping, replaced := 0, toReplace := h.man.changed.length })
  let s4 := (maskNodes mask).foldl (fun s n =>
    memberWrite s n 0x2710 1 true (padTo 32 (leBytes 1 slot ++ leBytes 1 s.nodeId ++ leBytes 6 0 ++ leBytes 8 slot))) s3
  let r := broadcastContainer s4
    { jobOf .fwd [] with slot := slot, source := source, sourceAddress := address, mask := mask, pieces := pieces } h
  let j : SwapJob := ⟨slot, source, address, mask, h, h.man.changed, 0, if h.man.changed = [] then .staged else .staging, (a, n), i, r.2⟩
  r.1.setImages { r.1.images with swap := some j }

/-- The slot of a stalled swap. -/
def stalledSlot (s : State) : Option Nat :=
  match s.images.swap with
  | some j => if j.phase = .stalled then some j.slot else none
  | none => none

/-- Checks 1 to 7 of the new image, then R228's. A request of the same image for a stalled swap is kept for RESUME
(R231). -/
def startSwap (val : Bytes) (pieces : List (Nat × List Octet)) (s : State) : Applied :=
  let slot := fld val 0 1
  let source := fld val 1 1
  let address := fld val 8 8
  let mask := fld val 16 1
  let r := readHead s source address pieces
  match r.2 with
  | .error code => refuse code r.1
  | .ok h =>
    if stalledSlot s = some slot ∧ (s.images.swap.map (·.head)) = some h then
      accept (setSwap (r.1.setImages { r.1.images with retry := some (source, address) })
        (fun j => { j with pieces := pieces }))
    else guarded (swapChecks r.1 slot source address mask h)
      (fun s => accept (beginSwap s slot source address mask pieces h)) r.1

/-- A write to 0x2710:01 (R228): a node source that is joined has first to send the head. -/
def applySwapRequest (ch : Channel) (val : Bytes) (s : State) : Applied :=
  guarded [(decide (val.length = 32), abLength), (s.images.ask.isNone, abSwap), (swapForm s val, abMalformed),
      (swapRange val, abRange), (decide (fld val 1 1 = 0) || nodesJoined s (fld val 1 1) (fld val 16 1), abNode)]
    (fun s =>
      if fld val 1 1 = 0 then startSwap val [] s
      else .later (s.setImages { s.images with ask := some (ch, val, []) })) s

/-- SWAP_REQUEST. -/
def execSwapRequest (ch : Channel) (val : Bytes) (s : State) : Host.Outcome State Fault Refusal :=
  objectWrite ch 0x2710 1 val (applySwapRequest ch val) s

/-! ## Staging (R229) -/

/-- Stage a layer's tensors one after the other from an address on; false where a hash fails or a read gives poison. -/
def stageTensors (j : SwapJob) : List (Nat × TensorEntry) → Nat → State → State × Bool
  | [], _, s => (s, true)
  | p :: r, a, s =>
    let d := arriveTensor s j.source j.sourceAddress j.pieces j.head p.2
    match d.2.2.2, expandBlocks (blocksOf d.2.1 p.2.blocks) (d.2.2.1.map (·.toNat)) with
    | true, some data => stageTensors j r (a + p.2.blocks * 4096) (loadWrite d.1 a data)
    | _, _ => (d.1, false)

/-- The swap ends without its image: the slot is READY at the version it had. -/
def cancelSwap (s : State) (j : SwapJob) : State :=
  let s1 := setImage (freeStaging s j) j.slot (fun im => { im with st := .ready, replaced := 0, toReplace := 0 })
  s1.setImages { s1.images with swap := none, retry := none }

/-- A staging failure (R231). -/
def stagingFailed (s : State) (j : SwapJob) : State :=
  if j.replaced = 0 then cancelSwap s j
  else setSwap (setImage s j.slot (fun im => { im with st := .swapStalled, failing := some 1 })) (fun j => { j with phase := .stalled })

/-- A layer's tensors that this device takes, the weight-only ones first: they are staged in the sealed part of the
area (R229). -/
def stagedTensors (s : State) (j : SwapJob) (l : Nat) : List (Nat × TensorEntry) :=
  let held := (layerTensors j.head l).filter (fun p => holdsTensor s j.slot p.2)
  held.filter (fun p => p.2.weightOnly) ++ held.filter (fun p => !p.2.weightOnly)

/-- The sealed range of the staging area covers a layer's weight-only tensors; what leaves it is zeroed (R148). -/
def sealStaging (s : State) (j : SwapJob) (l : Nat) : State :=
  match j.sealedIndex with
  | none => s
  | some i =>
    sealRange (releaseSealed s i) i j.area.1
      (((stagedTensors s j l).filter (fun p => p.2.weightOnly)).map (fun p => p.2.blocks * 4096)).sum

/-- A layer's tensors that this device takes have arrived from a node source. -/
def layerArrived (s : State) (j : SwapJob) (l : Nat) : Bool :=
  decide (j.source = 0) || (stagedTensors s j l).all (fun p => tensorWhole j.pieces j.head p.2)

/-- SWAP_LAYER_STAGED (R229, R231). -/
def execSwapLayerStaged (s : State) : Host.Outcome State Fault Refusal :=
  match s.images.swap with
  | none => .next s
  | some j =>
    match j.phase, j.layers with
    | .staging, l :: _ =>
      if !s.serves || !layerArrived s j l then .next s
      else
        let r := stageTensors j (stagedTensors s j l) j.area.1 (sealStaging s j l)
        if r.2 then .next (setSwap r.1 (fun j => { j with phase := .staged })) else .next (stagingFailed r.1 j)
    | _, _ => .next s

/-! ## The copy (R229) -/

/-- Copies of a tensor in the hold are dropped, and work on them with them. -/
def dropCopies (s : State) (h : Nat) : State :=
  match tensorOf s h with
  | none => s
  | some t =>
    let mine (m : Move) : Bool := decide (m.handle = h)
    let gone := s.tiers.landed.filter mine
    let s1 := gone.foldl (fun s m => match m.kind with
      | .drop _ => s
      | k => freeLater s k.tier m.dest t.size) s
    let s2 := s1.setTiers { s1.tiers with
      queue := s1.tiers.queue.filter (fun m => !mine m)
      landed := s1.tiers.landed.filter (fun m => !mine m) }
    let s3 := match t.copy0 with | some a => freeLater s2 0 a t.size | none => s2
    setTensor s3 h (fun t => { t with copy0 := none, st := if gone = [] then t.st else .resident })

/-- Copy the staged tensors of a layer over the image's own, in place; tier-0 copies go. -/
def copyStaged (j : SwapJob) : List (Nat × TensorEntry) → Nat → State → State
  | [], _, s => s
  | p :: r, a, s =>
    let n := p.2.blocks * 4096
    let q := { query s 24 .read with special := true }
    let d := memRead q s a n
    let w := memWrite { q with kind := .write } d.1 (tensorAddress (imageOf s j.slot) p.1 p.2) d.2.1
    copyStaged j r (a + n) (dropCopies w.1 (imageHandle j.slot p.1))

/-- A replaced layer's expert settings and biases start anew from the new table (R292). -/
def swapExperts (s : State) (j : SwapJob) (l : Nat) : State :=
  let fresh := (j.head.experts.filter (fun e => decide (e.layer = l))).map (fun e => ((j.slot, l), freshExpert e))
  { s with experts := { s.experts with
      layers := s.experts.layers.filter (fun p => !decide (p.1 = (j.slot, l))) ++ fresh
      changes := s.experts.changes.filter (fun p => !decide (p.1 = (j.slot, l))) } }

/-- Nodes of the slot at the old version are withdrawn (R277). -/
def withdrawVersion (s : State) (slot version : Nat) : State :=
  withdraw s (fun x => decide (x.slot = slot) && decide (x.version = version))

/-- The new head takes the place of the old one in tier 1: in place, or elsewhere where its length differs and a place
is to be had (log 112). -/
def replaceHead (s : State) (j : SwapJob) : State :=
  let im := imageOf s j.slot
  let old := (im.bases.getLast?).getD 0
  let n := (im.head.map (·.man.headLength)).getD 0
  let s1 := freePlace s (1, old, n)
  let a := if n = j.head.man.headLength then old else (findPlace s1 1 j.head.man.headLength).getD old
  let s2 := loadWrite (takePlace s1 1 a j.head.man.headLength) a j.head.raw
  setImage s2 j.slot (fun im => { im with bases := im.bases.dropLast ++ [a] })

/-- The tensor objects of a slot take the hints of the new tensor table (R229). -/
def swapHints (s : State) (j : SwapJob) : State :=
  j.head.tensorTable.zipIdx.foldl (fun s p =>
    match tensorOf s (imageHandle j.slot p.2) with
    | none => s
    | some t =>
      if t.hint = p.1.hint then s
      else if p.1.hint = 1 ∧ !t.nearPin then
        if pinFits s t then setTensor (pinPlace s t) t.handle (fun t => { t with hint := 1, pins := t.pins + 1, nearPin := true })
        else setTensor s t.handle (fun t => { t with hint := 1, pins := t.pins + 1, nearPin := true })
      else askHint false (setTensor s t.handle (fun t =>
        { t with hint := p.1.hint, pins := t.pins - b2n t.nearPin, nearPin := false })) t.handle) s

/-- The last layer is in place: tables, programs and version change, and the staging area is released (R229). -/
def finishSwap (s : State) (j : SwapJob) : State :=
  let old := ((imageOf s j.slot).head.map (·.man.version)).getD 0
  let s0 := swapHints (replaceHead (freeStaging s j) j) j
  let s1 := setImage s0 j.slot (fun im => { im with st := if im.st = .swapping then .ready else im.st, head := some j.head })
  let s2 := s1.setImages { s1.images with swap := none, retry := none }
  let s3 : State := { s2 with decks := s2.decks.map (fun d => if d.code = some j.slot then { d with code := none } else d) }
  (withdrawVersion s3 j.slot old).bump 0x2711 2

/-- One layer has been replaced. -/
def layerReplaced (s : State) (j : SwapJob) (l : Nat) (rest : List Nat) : State :=
  let s1 := swapExperts (setImage s j.slot (fun im => { im with replaced := im.replaced + 1 })) j l
  let j1 := { j with layers := rest, replaced := j.replaced + 1, phase := .staging }
  if rest = [] then finishSwap s1 j1 else s1.setImages { s1.images with swap := some j1 }

/-- SWAP_COPY_DONE (R229): the barrier is released with the copy's time in 0x2710:04. -/
def execSwapCopyDone (s : State) : Host.Outcome State Fault Refusal :=
  match s.images.swap with
  | none => .next s
  | some j =>
    match j.phase, j.layers with
    | .copying, l :: rest =>
      let s1 := copyStaged j (stagedTensors s j l) j.area.1 s
      .next (layerReplaced ((s1.setVal 0x2710 4 (Config.elapsed s1.draws % 2 ^ 32)).draw) j l rest)
    | .copying, [] => .next (finishSwap s j)
    | _, _ => .next s

/-- At a barrier a staged layer's copy begins, which holds the barrier (R229). Answers whether it does. -/
def swapAtBarrier (s : State) : State × Bool :=
  match s.images.swap with
  | none => (s, false)
  | some j =>
    match j.phase with
    | .staged => (setSwap s (fun j => { j with phase := .copying }), true)
    | .copying => (s, true)
    | _ => (s, false)

/-! ## Swap Command (R231) -/

/-- ABORT: only before the first replacement. -/
def applySwapAbort (s : State) : Applied :=
  match s.images.swap with
  | none => refuse abNotIdle s
  | some j => if j.replaced = 0 ∧ j.phase ≠ .copying then accept (cancelSwap s j) else refuse abNotIdle s

/-- RESUME: of a stalled swap, with a new request of the same image. -/
def applySwapResume (s : State) : Applied :=
  match s.images.swap, s.images.retry with
  | some j, some (source, address) =>
    if j.phase = .stalled then
      let s1 := setImage s j.slot (fun im => { im with st := .swapping })
      accept (s1.setImages { s1.images with
        retry := none, swap := some { j with phase := .staging, source := source, sourceAddress := address } })
    else refuse abNotIdle s
  | _, _ => refuse abNotIdle s

/-- A write to 0x2710:02 (R231). -/
def applySwapCommand (val : Bytes) (s : State) : Applied :=
  if leNat val = 0x5357_0050 then applySwapAbort s
  else if leNat val = 0x5357_0051 then applySwapResume s
  else refuse abSignature s

/-- SWAP_ABORT. -/
def execSwapAbort (ch : Channel) (val : Bytes) (s : State) : Host.Outcome State Fault Refusal :=
  objectWrite ch 0x2710 2 val (command val 0x5357_0050 applySwapAbort) s

/-- SWAP_RESUME. -/
def execSwapResume (ch : Channel) (val : Bytes) (s : State) : Host.Outcome State Fault Refusal :=
  objectWrite ch 0x2710 2 val (command val 0x5357_0051 applySwapResume) s

/-- Swap Status (0x2710:03). -/
def swapStatus (s : State) : Nat :=
  match s.images.swap with
  | none => 0
  | some j =>
    let code : Nat := match j.phase with | .staging => 1 | .staged => 1 | .copying => 2 | .stalled => 3
    j.slot + 2 ^ 8 * (j.replaced % 256) + 2 ^ 16 * ((j.replaced + j.layers.length) % 256) + 2 ^ 24 * code

/-- A piece of a container reaches a swap, or a request that waits for its head: the state, and the answer due. -/
def takeSwapPiece (s : State) (slot off : Nat) (data : List Octet) : State × Option (Channel × Nat) :=
  match s.images.ask with
  | some (ch, val, pieces) =>
    if fld val 0 1 ≠ slot then (s, none)
    else
      let l := pieces ++ [(off, data)]
      if headWhole l then
        match startSwap val l (s.setImages { s.images with ask := none }) with
        | .done code s1 => (s1, some (ch, code))
        | .later s1 => (s1, none)
      else (s.setImages { s.images with ask := some (ch, val, l) }, none)
  | none =>
    match s.images.swap with
    | none => (s, none)
    | some j =>
      if j.slot ≠ slot ∨ j.source = 0 then (s, none)
      else
        let s1 := if j.mask = 0 then s else castPart slot false s ⟨j.mask, off, data⟩
        (setSwap s1 (fun j => { j with pieces := j.pieces ++ [(off, data)] }), none)

/-- What a swap, or a request that waits for its head, makes of lost nodes: without its source the staging fails, and
the request is refused (R231). -/
def swapLoses (gone : Nat → Bool) (s : State) : State :=
  match s.images.ask with
  | some (ch, val, _) =>
    if gone (fld val 1 1) then lateAnswer ch 0x2710 1 abNode (s.setImages { s.images with ask := none }) else s
  | none =>
    match s.images.swap with
    | none => s
    | some j =>
      if j.source = 0 ∨ !gone j.source then s
      else match j.phase with
        | .staging => stagingFailed s j
        | _ => s

end Sys2Proof.Machine
end

