-- ==== Sys2Proof/Machine/Rings.lean ====
section
/-! DEFINITION. Tenants, rings, doorbells, the completion path, held output, host wakes and interrupts
(R72 to R74, R232 to R240, R251, R252, R262). -/

namespace Sys2Proof.Machine

/-! ## Tenants and rings (R232, R235) -/

/-- Change a ring. -/
def setRing (s : State) (r : Nat) (x : Ring) : State :=
  s.setServing { s.serving with rings := aset s.serving.rings r x }

/-- The tenant that owns a ring's block (R232). -/
def ringTenant (s : State) (r : Nat) : Option Nat :=
  let t := s.val 0x2801 (r / 512 + 1)
  if r < 65536 ∧ t < 64 then some t else none

/-- A tenant is enabled. -/
def tenantOn (s : State) (t : Nat) : Bool := decide (s.val 0x2800 (t + 1) = 1)

/-- The lifecycle state and the mode of start-up let the serving plane run, tenants included (R94, R99). -/
def planeRuns (s : State) : Bool :=
  !s.inHarbour && (match s.lifecycle with
    | .factory => true | .development => true | .deployed => true
    | .blank => false | .service => false | .final => false)

/-- A ring has a live request: a live berth, a pending wait or an entry held at admission. -/
def ringLive (s : State) (r : Nat) : Bool :=
  s.serving.berths.any (fun b => decide (b.ring = r) && b.live)
    || (ringOf s r).wait.isSome || (ringOf s r).held.isSome

/-- Host memory is within reach: the link is in L0 or L1 (R251). -/
def hostUp (s : State) : Bool := match s.power.link with | .l0 => true | .l1 => true | _ => false

/-- Output is held: the link is asleep, or what was held has not been written yet (R251, R252). -/
def holding (s : State) : Bool :=
  !hostUp s || !s.serving.hold.isEmpty || s.serving.berths.any (fun b => !b.staging.isEmpty)

/-! ## The ring record (R235) -/

/-- The 64 bytes of a ring record. -/
def Ring.bytes (r : Ring) : Bytes :=
  fields [(8, r.sqBase), (8, r.cqBase), (1, r.depthLog2), (1, r.cls), (2, r.vector), (2, r.coalesceCount),
    (2, r.coalesceTime), (1, b2n r.enabled), (7, 0), (4, r.sqFetched), (4, r.cqPosted), (24, 0)]

/-- A ring as a record's bytes set it up, keeping what the device counts. -/
def Ring.with (r : Ring) (val : Bytes) : Ring :=
  { r with
    sqBase := fld val 0 8, cqBase := fld val 8 8, depthLog2 := fld val 16 1, cls := fld val 17 1
    vector := fld val 18 2, coalesceCount := fld val 20 2, coalesceTime := fld val 22 2
    enabled := bitOf (fld val 24 1) 0 }

/-- A ring with its counts and its phase as they are after it has been turned on. -/
def Ring.fresh (r : Ring) : Ring :=
  { r with sqFetched := 0, cqPosted := 0, sqTail := 0, cqHead := 0, reserved := 0, unsignalled := 0 }

/-- Ranges and alignments of a ring record (R235, R374). -/
def ringRange (ch : Channel) (val : Bytes) : Bool :=
  decide (4 ≤ fld val 16 1) && decide (fld val 16 1 ≤ 12) && decide (fld val 17 1 ≤ 3)
    && !(decide (fld val 17 1 = 0) && (chanTenant ch).isSome)
    && (decide (fld val 18 2 ≤ 255) || decide (fld val 18 2 = 0xFFFF))
    && decide (fld val 20 2 ≤ 4096) && decide (fld val 22 2 ≤ 10000)
    && decide (fld val 0 8 % 4096 = 0) && decide (fld val 8 8 % 4096 = 0)

/-- Two set-ups differ in no more than vector and coalescing. -/
def Ring.sameButSignals (a b : Ring) : Bool :=
  decide (a.sqBase = b.sqBase) && decide (a.cqBase = b.cqBase) && decide (a.depthLog2 = b.depthLog2)
    && decide (a.cls = b.cls) && decide (a.enabled = b.enabled)

/-- A write of the selected ring's record (R235). "A write that sets enabled" is one that turns the ring on; a
disabled tenant's ring cannot be turned on (DEDUCED, log 36). -/
def applyRingRecord (ch : Channel) (t : Nat) (val : Bytes) (s : State) : Applied :=
  let r := s.sel ch (tenantObj t 2) 1
  let old := ringOf s r
  let new := old.with val
  let turnsOn := new.enabled && !old.enabled
  guarded
    [(decide (val.length = 64), abLength), (decide (ringTenant s r = some t), abExists),
     (decide (fld val 24 1 < 2) && zeroAt val 25 7 && zeroAt val 40 24, abMalformed),
     (old.sameButSignals new || !ringLive s r, abNotIdle),
     (ringRange ch val, abRange),
     (!turnsOn || tenantOn s t, abInconsistent)]
    (fun s => accept (setRing s r (if turnsOn then new.fresh else new))) s

/-- RING_RECORD. -/
def execRingRecord (ch : Channel) (t : Fin 64) (val : Bytes) (s : State) : Host.Outcome State Fault Refusal :=
  objectWrite ch (tenantObj t.val 2) 2 val (applyRingRecord ch t.val val) s

/-- A write of Tenant Enabled (R232): disabling turns the tenant's rings off. -/
def applyTenantEnabled (t : Nat) (val : Bytes) (s : State) : Applied :=
  let busy := s.serving.berths.any (fun b => decide (b.tenant = t) && (b.live || decide (b.st = .parked)))
  guarded
    [(!(decide (leNat val = 0) && (busy || s.serving.rings.any (fun p => decide (ringTenant s p.1 = some t) && ringLive s p.1))),
       abNotIdle),
     (decide (leNat val ≤ 1), abRange)]
    (fun s =>
      let s1 := s.setVal 0x2800 (t + 1) (leNat val)
      accept (copyToMembers 0x2800 (t + 1) val <| if leNat val = 1 then s1
        else s1.setServing { s1.serving with rings := s1.serving.rings.map (fun p =>
          if ringTenant s p.1 = some t then (p.1, { p.2 with enabled := false }) else p) })) s

/-- A write of Block Owner (R232). -/
def applyBlockOwner (b : Nat) (val : Bytes) (s : State) : Applied :=
  guarded
    [(!s.serving.rings.any (fun p => decide (p.1 / 512 = b) && p.2.enabled), abNotIdle),
     (decide (leNat val < 64) || decide (leNat val = 0xFF), abRange)]
    (fun s => accept (copyToMembers 0x2801 (b + 1) val (s.setVal 0x2801 (b + 1) (leNat val)))) s

/-- A write of a berth quota (R233). -/
def applyBerthQuota (t : Nat) (val : Bytes) (s : State) : Applied :=
  let others := ((List.range 64).map (fun u => if u = t then 0 else s.val 0x2802 (u + 1))).sum
  guarded
    [(decide (leNat val ≤ 4096), abRange), (decide (others + leNat val ≤ 4096), abInconsistent)]
    (fun s => accept (copyToMembers 0x2802 (t + 1) val (s.setVal 0x2802 (t + 1) (leNat val)))) s

/-! ## Doorbells (R236) -/

/-- Whether the values of a doorbell may stand (R236). -/
def bellFits (r : Ring) (tail head : Option Nat) : Bool :=
  (match tail with
   | some v => decide ((v + 2 ^ 32 - r.sqFetched) % 2 ^ 32 ≤ r.depth)
   | none => true)
  && (match head with
   | some v => decide ((r.cqPosted + 2 ^ 32 - v) % 2 ^ 32 ≤ r.depth)
   | none => true)

/-- A ring takes doorbells: it and its tenant are enabled, a level is agreed and the plane runs. -/
def takesBells (s : State) (ring : Nat) : Bool :=
  (ringOf s ring).enabled && !decide (s.val 0x1002 2 = 0) && planeRuns s
    && (match ringTenant s ring with | some t => tenantOn s t | none => false)

/-- A doorbell's new values. -/
def ringBell (s : State) (ring : Nat) (tail head : Option Nat) : State :=
  let r := ringOf s ring
  if takesBells s ring && bellFits r tail head then
    setRing s ring { r with sqTail := tail.getD r.sqTail, cqHead := head.getD r.cqHead }
  else s.bump 0x2806 5

/-! ## Host wakes (R69, R72, R73) -/

/-- Bit of the interrupt and wake status page that a reason sets. -/
def wakeBit : WakeReason → Nat
  | .threshold => 0 | .finish => 1 | .timer => 2 | .full => 3

/-- A host wake falls due for a berth: its records are now reported (R72). -/
def hostWake (s : State) (b : Nat) (why : WakeReason) : State :=
  let s1 := setBerth s b (fun b => { b with unreported := 0 })
  s1.setPower { s1.power with wakes := s1.power.wakes ++ [(b, why)] }

/-- The status page shows the events behind a host wake (R73). -/
def showWakes (s : State) : State :=
  s.setServing { s.serving with
    wakePage := s.power.wakes.foldl (fun w p => w ||| (1#64 <<< wakeBit p.2)) s.serving.wakePage }

/-- The PCIe way of waking the host (R69): from L1.2 the link comes to L0 and a message is sent; in D3cold
WAKE_N is asserted and a PME message is due. -/
def wakeByPcie (s : State) (vector : Nat) : State :=
  match s.power.link with
  | .l12 => ((s.emit .clkreqN).setPower { s.power with link := .l0 }).msix vector
  | .l2 => (s.emit .wakeN).setPower { s.power with pme := true }
  | .l3 => (s.emit .wakeN).setPower { s.power with pme := true }
  | .down => s
  | _ => s.msix vector

/-- Number under which a wake for a completion of a ring that no berth holds is gathered. -/
def ringMark (ring : Nat) : Nat := 0x1_0000 + ring

/-- Vector of the ring of the first berth reported; a wake for the completion hold may name a ring alone. -/
def wakeVector (s : State) : Nat :=
  match s.power.wakes with
  | (b, _) :: _ =>
    if 0x1_0000 ≤ b then (ringOf s (b - 0x1_0000)).vector
    else ((berthOf s b).map (fun b => (ringOf s b.ring).vector)).getD 0xFFFF
  | [] => 0xFFFF

/-- HOST_WAKE_COALESCE (R73, R69): one host wake for the events of the window, by the methods selected. While the device
sleeps or is on its way there the window does not close: the wake stays due until a later one (DESIGN CHOICE, log 106). -/
def execHostWakeCoalesce (s : State) : Host.Outcome State Fault Refusal :=
  if s.power.wakes = [] ∨ asleep s ∨ isDown s then .next s
  else
    let how := s.val 0x2010 3
    let s1 := showWakes s
    let s2 := if how = 1 then s1 else wakeByPcie s1 (wakeVector s)
    let s3 := if how % 2 = 1 then s2.ibi 0xD2 else s2
    .next (s3.setPower { s3.power with wakes := [] })

/-- WATCH_DEADLINE_TIMER (R74): the device leaves WATCH, then wakes the host. -/
def execWatchDeadlineTimer (s : State) : Host.Outcome State Fault Refusal :=
  match s.power.state, s.power.deadline with
  | .watch, some b =>
    let s1 := hostWake s b .timer
    .next (wake 0x20 (s1.setPower { s1.power with deadline := none }))
  | _, _ => .next s

/-- HOST_SLEEP_IDLE (R251): 100 µs without host traffic, with Host Sleep Hint and ASPM L1. -/
def execHostSleepIdle (s : State) : Host.Outcome State Fault Refusal :=
  if s.val 0x2805 1 = 1 ∧ s.power.aspmL1 ∧ s.power.link = .l0 ∧ s.running ∧ !s.power.l1Asked then
    .next ((s.emit .l1Request).setPower { s.power with l1Asked := true })
  else .next s

/-! ## Interrupts (R262) -/

/-- The message of a ring's vector, which signals every completion so far. -/
def signalRing (s : State) (r : Nat) : State :=
  (setRing s r { ringOf s r with unsignalled := 0 }).msix (ringOf s r).vector

/-- After a completion has been posted: count it, send the message if it is due, set the page's bits. -/
def afterPost (s : State) (r : Nat) : State :=
  let x := ringOf s r
  let s1 := setRing s r { x with unsignalled := x.unsignalled + 1 }
  let s2 := if x.vector ≠ 0xFFFF ∧ max x.coalesceCount 1 ≤ x.unsignalled + 1 then signalRing s1 r else s1
  let t := (ringTenant s r).getD 0
  s2.setServing { s2.serving with
    tenantPending := s2.serving.tenantPending ||| (1#64 <<< t)
    blockPending := s2.serving.blockPending ||| (1#128 <<< (r / 512)) }

/-- COALESCE_TIME (R262). -/
def execCoalesceTime (ring : Nat) (s : State) : Host.Outcome State Fault Refusal :=
  let x := ringOf s ring
  if x.enabled ∧ 0 < x.unsignalled ∧ 0 < x.coalesceTime ∧ x.vector ≠ 0xFFFF then .next (signalRing s ring)
  else .next s

/-! ## Completions (R239, R251) -/

/-- The 32 bytes of a completion entry with a phase. -/
def Completion.bytes (c : Completion) (phase : Bool) : Bytes :=
  fields [(8, c.tag), (1, c.status), (1, b2n phase + 2 * b2n c.final + 4 * b2n c.parked), (2, c.berth),
    (4, c.delivered), (4, c.position), (4, c.detail), (8, c.turn)]

/-- Phase of the next completion: 1 in the first pass, inverted on each later one (R239). -/
def Ring.phase (r : Ring) : Bool := decide (r.cqPosted / r.depth % 2 = 0)

/-- Write bytes to host memory: whether it took them. -/
def hostWrite (s : State) (a : Nat) (bs : Bytes) : State × Bool :=
  if s.host.writable a bs.length then ({ s with host := s.host.setBytes a bs }, true) else (s, false)

/-- Write a completion into its ring. A write that host memory refuses is lost, and cq_posted advances
(DEDUCED, log 37). -/
def writeCompletion (s : State) (c : Completion) : State :=
  let r := ringOf s c.ring
  if !r.enabled then s
  else
    let s1 := (hostWrite s (r.cqBase + 32 * (r.cqPosted % r.depth)) (c.bytes r.phase)).1
    let s2 := setRing s1 c.ring { r with
      cqPosted := (r.cqPosted + 1) % 2 ^ 32
      reserved := if c.final then r.reserved - 1 else r.reserved }
    let t := (ringTenant s c.ring).getD 0
    afterPost ((s2.bumpBy (tenantObj t 3) 3 64 1).emit (.completion c)) c.ring

/-- Hold a completion. Fewer than 512 entries of the hold then free is the staging-full condition: the host is woken for
the completion's berth, or for its ring where it has none (R251, R72). -/
def holdCompletion (s : State) (c : Completion) : State :=
  let s1 := s.setServing { s.serving with hold := s.serving.hold ++ [c] }
  if 2048 - s1.serving.hold.length < 512 then hostWake s1 (if c.berth = 0xFFFF then ringMark c.ring else c.berth) .full
  else s1

/-- Post a completion, or hold it while output is held (R251). A berth that another node placed here has no
ring: its completion travels in the commit report. -/
def postCompletion (s : State) (c : Completion) : State :=
  if 65536 ≤ c.ring then s
  else if holding s then holdCompletion s c
  else writeCompletion s c

/-! ## Token records (R240, R251) -/

/-- Staged records a berth may hold (R72). -/
def stagingSize : Nat := 512

/-- The 8 bytes of a token record. -/
def tokenRecord (token position : Nat) (last stop : Bool) : Bytes :=
  leBytes 8 (token % 2 ^ 32 + position % 2 ^ 24 * 2 ^ 32 + b2n last * 2 ^ 56 + b2n stop * 2 ^ 57)

/-- Stage a record, and wake the host where a threshold is reached (R72). -/
def stageToken (s : State) (b : Berth) (token position : Nat) (last stop : Bool) : State :=
  let s1 := setBerth s b.num (fun b => { b with
    staging := b.staging ++ [(token, position, last, stop)], unreported := b.unreported + 1
    stagedAt := if b.unreported = 0 then s.turns else b.stagedAt, delivered := b.delivered + 1 })
  if stagingSize ≤ b.staging.length + 1 then hostWake s1 b.num .full
  else if s.val 0x2011 1 ≤ b.unreported + 1 then hostWake s1 b.num .threshold
  else s1

/-- Deliver a token of a request: the n-th record lies at output + 8n. A failed host write marks the request:
it completes FAULT, detail 0x04 (R240, R248). -/
def deliverToken (s : State) (b : Berth) (token position : Nat) (last stop : Bool) : State :=
  if holding s then stageToken s b token position last stop
  else
    let w := hostWrite s (b.output + 8 * b.delivered) (tokenRecord token position last stop)
    if w.2 then
      (setBerth w.1 b.num (fun b => { b with delivered := b.delivered + 1 })).emit (.token b.ring b.tag token)
    else setBerth w.1 b.num (fun b => { b with failing := 4 })

/-- Write a berth's staged records to its output buffer, in order (R252). -/
def flushBerth (s : State) (b : Berth) : State :=
  let first := b.delivered - b.staging.length
  let r := b.staging.zipIdx.foldl (fun acc p =>
    let w := hostWrite acc.1 (b.output + 8 * (first + p.2)) (tokenRecord p.1.1 p.1.2.1 p.1.2.2.1 p.1.2.2.2)
    ((if w.2 then w.1.emit (.token b.ring b.tag p.1.1) else w.1), acc.2 && w.2)) (s, true)
  setBerth r.1 b.num (fun b => { b with
    staging := [], unreported := 0, failing := if r.2 || b.finished then b.failing else 4 })

/-- HELD_OUTPUT_FLUSH (R252): with the link up again, every staged record, then every held completion. -/
def execHeldOutputFlush (s : State) : Host.Outcome State Fault Refusal :=
  if !hostUp s || !s.running then .next s
  else
    let s1 := s.serving.berths.foldl (fun s b => if b.staging.isEmpty then s else flushBerth s b) s
    let held := s1.serving.hold
    .next (held.foldl writeCompletion (s1.setServing { s1.serving with hold := [] }))

end Sys2Proof.Machine
end

