-- ==== Sys2Proof/Machine/Admission.lean ====
section
/-! DEFINITION. Submission entries: fetch, the checks of admission, duplicates, cancels, semaphores and parked
berths (R234, R237, R238, R241 to R245, R253 to R260). -/

namespace Sys2Proof.Machine

/-! ## Status codes (Completion statuses) -/

/-- TOKENS. -/
def stTokens : Nat := 0x00
/-- FINISHED_STOP. -/
def stStop : Nat := 0x01
/-- FINISHED_LENGTH. -/
def stLength : Nat := 0x02
/-- CANCELLED. -/
def stCancelled : Nat := 0x03
/-- CANCEL_LATE. -/
def stLate : Nat := 0x04
/-- DUPLICATE. -/
def stDuplicate : Nat := 0x05
/-- QUOTA. -/
def stQuota : Nat := 0x06
/-- NO_MODEL. -/
def stNoModel : Nat := 0x07
/-- VERSION_CHANGED. -/
def stVersion : Nat := 0x08
/-- LINK_LOST. -/
def stLinkLost : Nat := 0x09
/-- FAULT. -/
def stFault : Nat := 0x0A
/-- BAD_REQUEST. -/
def stBad : Nat := 0x0B
/-- CONTEXT_FULL. -/
def stFull : Nat := 0x0C

/-! ## Finishing (R239, R243, R244, R259) -/

/-- Remember an entry of a tenant that has completed: the window holds 1,024 (R243). -/
def pushDone (s : State) (t : Nat) (d : DoneEntry) : State :=
  s.setServing { s.serving with recent := aset s.serving.recent t ((d :: agetD s.serving.recent t []).take 1024) }

/-- A completed entry in the window. -/
def findDone (s : State) (t tag : Nat) : Option DoneEntry :=
  (agetD s.serving.recent t []).find? (fun d => decide (d.tag = tag))

/-- Complete an entry that took no berth, at admission: its turn is 0. -/
def completeEntry (s : State) (ring t tag status detail delivered position : Nat) (inWindow : Bool) : State :=
  let s1 := postCompletion s ⟨ring, tag, status, true, false, 0xFFFF, delivered, position, detail, 0⟩
  if inWindow then pushDone s1 t ⟨tag, status, delivered, position, false⟩ else s1

/-- Refuse or complete an entry with nothing delivered. -/
def reply (ring t : Nat) (e : Bytes) (status detail : Nat) (s : State) : State :=
  completeEntry s ring t (fld e 8 8) status detail 0 0 true

/-- Complete a berth's request: its final completion, its place in the window, and the berth parked or
closing. The signal of flag signal comes after (R260). -/
def finishBerth (s : State) (b : Berth) (status detail turn : Nat) : State :=
  let parks := b.keep && (decide (status = stStop) || decide (status = stLength))
  let s1 := postCompletion s ⟨b.ring, b.tag, status, true, parks, b.num, b.delivered, b.position, detail, turn⟩
  let s2 := pushDone s1 b.tenant ⟨b.tag, status, b.delivered, b.position, false⟩
  let s3 := setBerth s2 b.num (fun b =>
    { b with st := if parks then .parked else .closing, finished := true, failing := 0
             tokens := b.tokens.take b.position })
  if b.staging.isEmpty || decide (s.val 0x2011 3 = 0) then s3 else hostWake s3 b.num .finish

/-- Signal a semaphore now: waiting decks see it (R258). -/
def signalNow (s : State) (n amount : Nat) : State := retryStalled (signalSem s n amount)

/-- The signal of a completed request's flag signal (R259). -/
def signalRequest (b : Berth) (s : State) : State := if b.signal then signalNow s b.semaphore 1 else s

/-- Complete a berth's request outside a commit. -/
def finishNow (s : State) (b : Berth) (status detail turn : Nat) : State :=
  signalRequest b (finishBerth s b status detail turn)

/-- Free a berth: its sets go back and it leaves the table (R276). -/
def freeBerth (s : State) (b : Berth) : State :=
  let s1 := dropSets s b
  s1.setServing { s1.serving with berths := s1.serving.berths.filter (fun x => !decide (x.num = b.num)) }

/-! ## BERTH packets (R308; their payload is a DESIGN CHOICE, log 34) -/

/-- Send a message to a node in packets of a kind, the last with the end flag. -/
def sendMessage (s : State) (node kind context : Nat) (bytes : Bytes) : State :=
  let parts := cuts 512 (bytes.length / 512 + 2) 0 bytes.length
  parts.zipIdx.foldl (fun s p =>
    sendTo s node kind 0 (b2n (decide (p.2 + 1 = parts.length))) context (slice bytes p.1.1 p.1.2)) s

/-- Place a request on a node: the entry and the prompt tokens. -/
def sendPlace (s : State) (node : Nat) (b : Berth) (e : Bytes) (toks : List Nat) : State :=
  sendMessage s node 5 b.num ([1] ++ leBytes 1 b.tenant ++ leBytes 1 b.cls ++ [0] ++ e ++ (toks.map (leBytes 4)).flatten)

/-- Forward a cancel of a berth. -/
def sendCancel (s : State) (node num : Nat) : State := sendMessage s node 5 num [2, 0, 0, 0]

/-- Free a berth on a node. -/
def sendFree (s : State) (node num : Nat) : State := sendMessage s node 5 num [4, 0, 0, 0]

/-- Abandon every berth the pilot placed (R309). -/
def sendClear (s : State) (node : Nat) : State := sendMessage s node 5 0 [3, 0, 0, 0]

/-- The node a request goes to (R308): at a pilot in replica layout the one with the fewest berths in use, ties
to the lower id; 0 is this device. -/
def placeNode (s : State) : Nat :=
  if s.ferry.role = .pilot ∧ !inPipeline s then
    let load (n : Nat) : Nat :=
      (s.serving.berths.filter (fun b => decide ((if b.node = 0 then s.nodeId else b.node) = n))).length
    let best := (joinedNodes s).foldl (fun (m : Option Nat) n => match m with
      | some k => if load n < load k then some n else some k
      | none => some n) none
    match best with
    | some n => if n = s.nodeId then 0 else n
    | none => 0
  else 0

/-! ## Fetch (R237) -/

/-- Whether entry n of a ring may be fetched. -/
def mayFetch (s : State) (ring : Nat) : Bool :=
  let r := ringOf s ring
  s.running && s.serves && planeRuns s && !holding s && !s.serving.stopped && !s.serving.clearDue
    && r.enabled && !decide (s.val 0x1002 2 = 0)
    && (match ringTenant s ring with | some t => tenantOn s t | none => false)
    && !decide (r.sqTail = r.sqFetched) && decide (0 < freeSlots s ring) && r.wait.isNone && r.held.isNone

/-- The next entry of a ring in host memory; none where its read fails. -/
def nextEntry (s : State) (ring : Nat) : Option Bytes :=
  let r := ringOf s ring
  let a := r.sqBase + 64 * (r.sqFetched % r.depth)
  if s.host.readable a 64 then some (s.host.bytes a 64) else none

/-- An entry has been fetched: it reserves one slot for its final completion. -/
def fetched (s : State) (ring : Nat) : State :=
  let r := ringOf s ring
  setRing s ring { r with sqFetched := (r.sqFetched + 1) % 2 ^ 32, reserved := r.reserved + 1 }

/-- A failed read of host memory by the serving plane (R150, R347). -/
def hostReadError (s : State) : State := s.error (.plain 8 0xFF 2 0)

/-- A ring row: the next entry may be fetched and is of the row's opcode. An entry whose own read fails completes
BAD_REQUEST, detail 0x09, with tag 0 (DEDUCED, log 36). -/
def ringRow (ring : Nat) (mine : Nat → Bool) (act : Nat → Bytes → State → State) (s : State) :
    Host.Outcome State Fault Refusal :=
  if !mayFetch s ring then .next s
  else
    let t := (ringTenant s ring).getD 0
    match nextEntry s ring with
    | none => .next (completeEntry (hostReadError (fetched s ring)) ring t 0 stBad 0x09 0 0 false)
    | some e => if mine (fld e 0 1) then .next (act t e (fetched s ring)) else .next s

/-! ## Step 1: reserved bytes, values, level (R234, R238) -/

/-- Opcode of an entry. -/
def eOp (e : Bytes) : Nat := fld e 0 1
/-- Flags of an entry. -/
def eFlags (e : Bytes) : Nat := fld e 1 1
/-- Tag of an entry. -/
def eTag (e : Bytes) : Nat := fld e 8 8
/-- Target of an entry. -/
def eTarget (e : Bytes) : Nat := fld e 16 8
/-- Prompt tokens of an entry. -/
def eCount (e : Bytes) : Nat := fld e 4 4
/-- Semaphore of an entry. -/
def eSem (e : Bytes) : Nat := fld e 60 2

/-- Bytes that the opcode does not use are zero (R238), and the values lie in their ranges. -/
def entryForm (e : Bytes) : Bool :=
  let work := decide (eFlags e < 32) && zeroAt e 3 1 && zeroAt e 62 2 && (bitOf (eFlags e) 4 || zeroAt e 60 2)
    && decide (1 ≤ eCount e) && decide (1 ≤ fld e 40 4) && decide (fld e 24 8 % 4 = 0) && decide (fld e 32 8 % 8 = 0)
  match eOp e with
  | 1 => work && zeroAt e 16 8
  | 3 => work && zeroAt e 2 1
  | 2 => zeroAt e 1 7 && zeroAt e 24 40
  | 4 => zeroAt e 1 7 && zeroAt e 24 40
  | 5 => zeroAt e 1 7 && zeroAt e 16 16 && zeroAt e 40 20 && zeroAt e 62 2 && decide (1 ≤ fld e 32 8)
  | 6 => zeroAt e 1 7 && zeroAt e 16 16 && zeroAt e 40 20 && zeroAt e 62 2
  | _ => false

/-- An entry uses what only level 2 offers (R234). -/
def needsLevel2 (e : Bytes) : Bool :=
  decide (2 < eOp e) || (decide (eOp e = 1) && (bitOf (eFlags e) 0 || bitOf (eFlags e) 1 || bitOf (eFlags e) 4))

/-- Step 1: the detail of the failure. -/
def stepOne (s : State) (e : Bytes) : Option Nat :=
  if !entryForm e then some 0x01
  else if s.val 0x1002 2 = 1 ∧ needsLevel2 e then some 0x02
  else none

/-! ## Step 2: duplicates (R243) -/

/-- The live berth of a tenant's tag. -/
def liveBerth (s : State) (t tag : Nat) : Option Berth :=
  s.serving.berths.find? (fun b => decide (b.tenant = t) && decide (b.tag = tag) && b.live)

/-- A tag belongs to a pending wait or to an entry held at admission. -/
def tagWaits (s : State) (t tag : Nat) : Bool :=
  s.serving.rings.any (fun p => decide (ringTenant s p.1 = some t)
    && ((match p.2.wait with | some w => decide (w.tag = tag) | none => false)
      || (match p.2.held with | some e => decide (eTag e = tag) | none => false)))

/-- The DUPLICATE completion of an entry: the detail and the original's figures. An original that is live has
posted nothing but TOKENS, status 0 (R243). -/
def duplicateOf (s : State) (t tag : Nat) : Option (Nat × Nat × Nat) :=
  match liveBerth s t tag with
  | some b => some (0x100, b.delivered, b.position)
  | none =>
    if tagWaits s t tag then some (0x100, 0, 0)
    else (findDone s t tag).map (fun d => (d.status, d.delivered, d.position))

/-- Steps 1 and 2 of admission, then the opcode's own steps (R241). -/
def acceptEntry (ring : Nat) (act : Nat → Bytes → State → State) (t : Nat) (e : Bytes) (s : State) : State :=
  match stepOne s e with
  | some d => completeEntry s ring t (eTag e) stBad d 0 0 (!decide (eTag e = 0))
  | none =>
    if eTag e = 0 then completeEntry s ring t 0 stBad 0x03 0 0 false
    else match duplicateOf s t (eTag e) with
      | some (detail, delivered, position) =>
        completeEntry (s.bump 0x2806 3) ring t (eTag e) stDuplicate detail delivered position false
      | none => act t e s

/-! ## Step 3: operands -/

/-- A temperature is 0 or finite positive. −0 equals 0 (DEDUCED, log 36). -/
def temperatureOk (v : Nat) : Bool := decide (v < 0x7F80_0000) || decide (v = 0x8000_0000)

/-- A semaphore that a tenant's entry may name (R259). -/
def ownsSem (s : State) (t n : Nat) : Bool := decide (n < 1024) && decide (semOwner s n = t)

/-- Prompt tokens in host memory; none where the read fails. -/
def readPrompt (s : State) (e : Bytes) : Option (List Nat) :=
  let a := fld e 24 8
  let n := eCount e
  if s.host.readable a (4 * n) then some ((List.range n).map (fun i => leNat (s.host.bytes (a + 4 * i) 4))) else none

/-- Step 3 of GENERATE and CONTINUE on an image slot, in the order of the detail codes (DEDUCED, log 36): the
detail of the failure, or the prompt. With no image there is no vocab to check against. -/
def stepThree (s : State) (t slot : Nat) (e : Bytes) : Except Nat (List Nat) :=
  if bitOf (eFlags e) 4 && !ownsSem s t (eSem e) then .error 0x06
  else if !temperatureOk (fld e 44 4) then .error 0x07
  else match readPrompt s e with
    | none => .error 0x09
    | some toks =>
      match manifestOf s slot with
      | some m => if toks.any (fun x => decide (m.vocab ≤ x)) then .error 0x08 else .ok toks
      | none => .ok toks

/-! ## Step 4: the image (Image states and admission) -/

/-- What the image's state makes of a submission. -/
inductive Entrance where
  | admitted
  | held
  | refused (status detail : Nat)

/-- Admission by image state; a slot whose stage lay on a lost node holds no usable image (R316). -/
def entrance (s : State) (slot : Nat) : Entrance :=
  if s.ferry.orphaned.contains slot then .refused stNoModel 0
  else match imageState s slot with
    | .ready => .admitted
    | .swapping =>
      match s.images.swap with
      | some j => if j.slot = slot ∧ !j.head.man.kvCompatible then .held else .admitted
      | none => .admitted
    | .swapStalled => .refused stFault 0x01
    | .suspect => .refused stFault 0x01
    | .verifying => .refused stFault 0x01
    | _ => .refused stNoModel 0

/-! ## Steps 5 and 6 -/

/-- No deck can run a turn (R353). -/
def noDecks (s : State) : Bool := (workDecks s []).isEmpty

/-- Step 5 for a GENERATE: the berth quota, counting every berth in use, then the free berths, then the context
limit (R242). -/
def stepFive (s : State) (t slot : Nat) (e : Bytes) : Option (Nat × Nat) :=
  let limit := min (((manifestOf s slot).map (·.maxContext)).getD 0) (s.val (tenantObj t 0) 3)
  if s.val 0x2802 (t + 1) ≤ (s.serving.berths.filter (fun b => decide (b.tenant = t))).length then some (stQuota, 0x01)
  else if 4096 ≤ s.serving.berths.length then some (stQuota, 0x02)
  else if limit ≤ eCount e then some (stFull, 0x01)
  else none

/-- What an entry's flags and sampler fields make of a berth. -/
def Berth.asked (b : Berth) (ring cls : Nat) (e : Bytes) : Berth :=
  { b with
    ring := ring, tag := eTag e, cls := cls
    keep := bitOf (eFlags e) 0, autoReplay := bitOf (eFlags e) 1, progress := bitOf (eFlags e) 2
    secret := b.secret || bitOf (eFlags e) 3, signal := bitOf (eFlags e) 4, semaphore := eSem e
    output := fld e 32 8, maxNew := fld e 40 4, temperature := BitVec.ofNat 32 (fld e 44 4), seed := fld e 48 8
    topK := fld e 56 2, topP := fld e 58 2
    delivered := 0, full := 0, staging := [], unreported := 0, failing := 0, finished := false }

/-- A new berth of a request, before its prefix lookup. -/
def newBerth (s : State) (num t slot ring cls node : Nat) (e : Bytes) (toks : List Nat) : Berth :=
  ({ num := num, tenant := t, ring := ring, tag := 0, slot := slot, cls := cls, keep := false, autoReplay := false,
     progress := false, secret := false, signal := false, semaphore := 0
     st := if node = 0 then .ready else .waiting
     position := 0, tokens := toks, promptEnd := toks.length, output := 0, maxNew := 0, delivered := 0
     temperature := 0, seed := 0, topK := 0, topP := 0, admitted := s.serving.nextAdmission, lastTurn := s.turns
     publishVersion := ((manifestOf s slot).map (·.version)).getD 0, shareKey := shareKey s t, table := [], taken := []
     full := 0, staging := [], unreported := 0, stagedAt := 0, failing := 0, finished := false, node := node } : Berth).asked
    ring cls e

/-- Put a berth into the table. -/
def addBerth (s : State) (b : Berth) : State :=
  s.setServing { s.serving with berths := s.serving.berths ++ [b], nextAdmission := s.serving.nextAdmission + 1 }

/-- Step 6 (R273): the prefix lookup of a berth that is not private; its position starts after what matched. -/
def lookupPrefix (s : State) (b : Berth) : State :=
  if b.secret then s
  else
    let r := mapPrefix s b.slot b.shareKey b.publishVersion b.tokens
    setBerth r.1 b.num (fun b => { b with
      table := r.2, position := r.2.length * ((manifestOf s b.slot).map (·.span)).getD 0 })

/-- A GENERATE takes the free berth of the lowest number, here or on another node (R308). -/
def takeBerth (ring t slot : Nat) (e : Bytes) (toks : List Nat) (s : State) : State :=
  let node := placeNode s
  let b := newBerth s (leastFree (s.serving.berths.map (·.num))) t slot ring (ringOf s ring).cls node e toks
  let s1 := addBerth s b
  if node = 0 then lookupPrefix s1 b else sendPlace s1 node b e toks

/-- The entry waits at admission, and every later entry of its ring with it (R241). -/
def holdEntry (ring : Nat) (e : Bytes) (s : State) : State := setRing s ring { ringOf s ring with held := some e }

/-- Steps 4 to 6 of a GENERATE whose operands have passed. -/
def generateFrom (ring t : Nat) (e : Bytes) (toks : List Nat) (s : State) : State :=
  let slot := fld e 2 1
  match entrance s slot with
  | .refused status detail => reply ring t e status detail s
  | .held => holdEntry ring e s
  | .admitted =>
    match stepFive s t slot e with
    | some p => reply ring t e p.1 p.2 s
    | none =>
      if decide (placeNode s = 0) && noDecks s then reply ring t e stFault 0x06 s else takeBerth ring t slot e toks s

/-- GENERATE from step 3 on. -/
def doGenerate (ring t : Nat) (e : Bytes) (s : State) : State :=
  let slot := fld e 2 1
  if 7 < slot then reply ring t e stBad 0x05 s
  else match stepThree s t slot e with
    | .error 0x09 => reply ring t e stBad 0x09 (hostReadError s)
    | .error d => reply ring t e stBad d s
    | .ok toks => generateFrom ring t e toks s

/-- An entry held at admission is looked at again once its image may be admitted or refused (R241). -/
def releaseHeld (ring : Nat) (act : Nat → Bytes → State → State) (e : Bytes) (s : State) : State :=
  act ((ringTenant s ring).getD 0) e (setRing s ring { ringOf s ring with held := none })

/-- A ring row of GENERATE or CONTINUE: the entry held at admission, else the next one. -/
def submitRow (ring : Nat) (mine : Nat → Bool) (act : Nat → Bytes → State → State) (s : State) :
    Host.Outcome State Fault Refusal :=
  match (ringOf s ring).held with
  | some e =>
    if mine (eOp e) && s.running && s.serves && !holding s then .next (releaseHeld ring act e s) else .next s
  | none => ringRow ring mine (acceptEntry ring act) s

/-- GENERATE (R241). An opcode that names no entry is completed here as well: its value is reserved. -/
def execGenerateReq (ring : Nat) (s : State) : Host.Outcome State Fault Refusal :=
  submitRow ring (fun op => decide (op = 1) || decide (op = 0) || decide (6 < op)) (doGenerate ring) s

/-! ## CONTINUE (R244) -/

/-- The parked berth whose last request has a tag; one that is being prefilled again is parked too. -/
def parkedBerth (s : State) (t tag : Nat) : Option Berth :=
  s.serving.berths.find? (fun b => decide (b.tenant = t) && decide (b.tag = tag)
    && (decide (b.st = .parked) || (decide (b.st = .ready) && b.finished)))

/-- A parked berth takes a new request: its prompt is appended at the position count. The turn it last took part in still
orders it (R246). -/
def continueBerth (ring : Nat) (e : Bytes) (toks : List Nat) (b : Berth) (s : State) : State :=
  let cls := (ringOf s ring).cls
  let s1 := setBerth s b.num (fun b =>
    { b.asked ring cls e with
      tokens := b.tokens ++ toks, promptEnd := b.tokens.length + toks.length
      st := if b.node = 0 then .ready else .waiting
      admitted := s.serving.nextAdmission })
  let s2 := s1.setServing { s1.serving with nextAdmission := s1.serving.nextAdmission + 1 }
  if b.node = 0 then s2 else sendPlace s2 b.node b e toks

/-- Steps 4 and 5 of a CONTINUE. -/
def continueFrom (ring t : Nat) (e : Bytes) (toks : List Nat) (b : Berth) (s : State) : State :=
  match entrance s b.slot with
  | .refused status detail => reply ring t e status detail s
  | .held => holdEntry ring e s
  | .admitted =>
    if contextLimit s b ≤ b.tokens.length + eCount e then reply ring t e stFull 0x01 s
    else if b.node = 0 && noDecks s then reply ring t e stFault 0x06 s
    else continueBerth ring e toks b s

/-- CONTINUE from step 3 on. -/
def doContinue (ring t : Nat) (e : Bytes) (s : State) : State :=
  match parkedBerth s t (eTarget e) with
  | none => reply ring t e stBad 0x04 s
  | some b =>
    match stepThree s t b.slot e with
    | .error 0x09 => reply ring t e stBad 0x09 (hostReadError s)
    | .error d => reply ring t e stBad d s
    | .ok toks => continueFrom ring t e toks b s

/-- CONTINUE (R244). -/
def execContinueReq (ring : Nat) (s : State) : Host.Outcome State Fault Refusal :=
  submitRow ring (fun op => decide (op = 3)) (doContinue ring) s

/-! ## CANCEL and CLOSE (R244, R253 to R257) -/

/-- Mask a berth's rows from the next tile issue (R202, R255). -/
def maskRows (s : State) (num : Nat) : State :=
  modTurn s (fun t => { t with batch := t.batch.map (fun x => if x.berth = num then { x with cancelled := true } else x) })

/-- Nodes that a cancel is forwarded to: the one a berth is placed on, or in pipeline layout the stages of the turn in
progress that has rows of it (R202, R294, R308). -/
def cancelNodes (s : State) (b : Berth) : List Nat :=
  if b.node ≠ 0 then [b.node]
  else match s.turn with
    | some t => if t.cascade && inPipeline s && t.batch.any (fun e => decide (e.berth = b.num)) then otherStages s t.slot else []
    | none => []

/-- Cancel a live berth: its rows are masked, it shows CLOSING and its request completes CANCELLED. -/
def cancelBerth (s : State) (b : Berth) (detail : Nat) : State :=
  let s1 := maskRows s b.num
  let s2 := (cancelNodes s b).foldl (fun s n => sendCancel s n b.num) s1
  finishNow s2 b stCancelled detail 0

/-- The window's entry of a target keeps the mark of its first late cancel (R257). -/
def markLate (s : State) (t tag : Nat) : State :=
  s.setServing { s.serving with recent := amod s.serving.recent t (fun l =>
    l.map (fun d => if d.tag = tag then { d with lateMark := true } else d)) }

/-- What a cancel comes to (R255 to R257): `detail` is 0x01 by CANCEL, 0x02 by CLOSE. -/
def acceptCancel (ring t : Nat) (e : Bytes) (detail : Nat) (s : State) : State :=
  match liveBerth s t (eTarget e) with
  | some b => reply ring t e stCancelled detail (cancelBerth s b detail)
  | none =>
    match findDone s t (eTarget e) with
    | none => reply ring t e stLate 0x02 (s.bump 0x2806 4)
    | some d =>
      if d.status = stCancelled then reply ring t e stCancelled detail s
      else reply ring t e stLate (if d.lateMark then 0x03 else 0x01) (markLate (s.bump 0x2806 4) t (eTarget e))

/-- CANCEL (R253). -/
def execCancelReq (ring : Nat) (s : State) : Host.Outcome State Fault Refusal :=
  ringRow ring (fun op => decide (op = 2)) (acceptEntry ring (fun t e s => acceptCancel ring t e 0x01 s)) s

/-- CLOSE from step 3 on: a live berth is cancelled, a parked one is freed at the next barrier, anything else may not
be named (R244). -/
def doClose (ring t : Nat) (e : Bytes) (s : State) : State :=
  match liveBerth s t (eTarget e) with
  | some _ => acceptCancel ring t e 0x02 s
  | none =>
    match parkedBerth s t (eTarget e) with
    | some b =>
      let s1 := setBerth s b.num (fun b => { b with st := .closing, finished := true })
      reply ring t e stStop 0 (if b.node = 0 then s1 else sendFree s1 b.node b.num)
    | none => reply ring t e stBad 0x04 s

/-- CLOSE (R244). -/
def execCloseReq (ring : Nat) (s : State) : Host.Outcome State Fault Refusal :=
  ringRow ring (fun op => decide (op = 4)) (acceptEntry ring (doClose ring)) s

/-- PARK_LIMIT (R244): a berth parked for Park Limit is freed without a completion. -/
def execParkLimit (b : Nat) (s : State) : Host.Outcome State Fault Refusal :=
  match berthOf s b with
  | some x =>
    if x.st = .parked ∧ s.val (tenantObj x.tenant 0) 2 ≠ 0 ∧ s.running then
      let s1 := if x.node = 0 then s else sendFree s x.node b
      .next (if x.staging.isEmpty then freeBerth s1 x else setBerth s1 b (fun x => { x with st := .closing }))
    else .next s
  | none => .next s

/-! ## Semaphores on rings (R258, R259) -/

/-- SEM_SIGNAL from step 3 on. -/
def doSignal (ring t : Nat) (e : Bytes) (s : State) : State :=
  if ownsSem s t (eSem e) then reply ring t e stStop 0 (signalNow s (eSem e) (fld e 32 8))
  else reply ring t e stBad 0x06 s

/-- SEM_SIGNAL. -/
def execSemSignal (ring : Nat) (s : State) : Host.Outcome State Fault Refusal :=
  ringRow ring (fun op => decide (op = 5)) (acceptEntry ring (doSignal ring)) s

/-- SEM_WAIT from step 3 on: at its level already, it completes at once; else it holds its ring. -/
def doWait (ring t : Nat) (e : Bytes) (s : State) : State :=
  if !ownsSem s t (eSem e) then reply ring t e stBad 0x06 s
  else if fld e 32 8 ≤ semValue s (eSem e) then reply ring t e stStop 0 s
  else setRing s ring { ringOf s ring with wait := some ⟨eSem e, fld e 32 8, eTag e⟩ }

/-- SEM_WAIT. -/
def execSemWait (ring : Nat) (s : State) : Host.Outcome State Fault Refusal :=
  ringRow ring (fun op => decide (op = 6)) (acceptEntry ring (doWait ring)) s

/-- SEM_WAIT_SATISFIED (R258): the level is reached, the wait completes and fetching resumes. -/
def execSemWaitSatisfied (ring : Nat) (s : State) : Host.Outcome State Fault Refusal :=
  let r := ringOf s ring
  match r.wait with
  | some w =>
    if w.level ≤ semValue s w.sem ∧ s.running then
      .next (completeEntry (setRing s ring { r with wait := none }) ring ((ringTenant s ring).getD 0) w.tag stStop 0 0 0 true)
    else .next s
  | none => .next s

/-- A wait on a semaphore is pending, on a ring or at a deck (R258). -/
def semAwaited (s : State) (n : Nat) : Bool :=
  s.serving.rings.any (fun p => match p.2.wait with | some w => decide (w.sem = n) | none => false)
    || (List.finRange 16).any (fun k =>
      let d := s.decks.get k
      let w := slotWord d.bundle .m
      d.stalled && decide (fOp w = 0x0E) && decide ((d.sGet (fA w)).toNat % 1024 = n))

end Sys2Proof.Machine
end

