-- ==== Sys2Proof/Machine/Experts.lean ====
section
/-! DEFINITION. Expert routing: the routing step, the dispatch table, counters and records, the bias loop, and the
settings of an expert layer (R279 to R294). -/

namespace Sys2Proof.Machine

/-! ## The working area (R135, R352; log 38) -/

/-- Bytes from the activation base that the experts' regions use (R279). -/
def expertTop (s : State) (slot : Nat) : Nat :=
  (((imageOf s slot).head.map (·.experts)).getD []).foldl (fun m e =>
    let row := alignUp (4 * e.experts) 64
    let groups := e.experts + e.shared
    max m (max (e.logitsOffset + 256 * row)
      (e.tableOffset + 64 + 8 * groups + 12 * (256 * (e.topK + e.shared) + 7 * e.experts) + 128))) 0

/-- No retired word lies in a range (R352). -/
def noRetired (s : State) (a n : Nat) : Bool := s.tiers.retiredWords.all (fun w => !overlaps w 8 a n)

/-- The turn's activation base: the working area's first byte, or the first place above a retired word that has 8 MiB
without one. -/
def actBase (s : State) : Nat :=
  ((0 :: sortNat (s.tiers.retiredWords.map (fun w => w / 64 * 64 + 64))).find? (fun a => noRetired s a 0x80_0000)).getD 0

/-- Where tables of n bytes lie: as high in the working area as they fit, within its upper quarter and above the
experts' regions; none where they do not fit (R268). -/
def tablePlace (s : State) (slot n : Nat) : Option Nat :=
  let lo := max (workEnd s / 4 * 3) (actBase s + expertTop s slot)
  let tops := workEnd s :: (sortNat s.tiers.retiredWords).reverse
  ((tops.filter (fun t => decide (n ≤ t))).map (fun t => (t - n) / 64 * 64)).find? (fun a =>
    decide (lo ≤ a) && decide (a + n ≤ workEnd s) && noRetired s a n)

/-- The serving plane's read of the hold (R144). -/
def planeRead (s : State) (a n : Nat) : State × List Octet := readHold (query s 0xFF .read) s a n

/-- The serving plane's write of the hold. -/
def planeWrite (s : State) (a : Nat) (octs : List Octet) : State := writeHold (query s 0xFF .write) s a octs

/-! ## Selection and gates (R282, R283, R286) -/

/-- The larger of two scores comes first, ties to the lower expert. -/
def scoreBefore (a b : Nat × Nat) : Bool :=
  if flt fp32 b.2 a.2 then true else if flt fp32 a.2 b.2 then false else decide (a.1 ≤ b.1)

/-- The k experts of highest score, in rank order (R282). -/
def selectExperts (k : Nat) (logits bias : List Nat) : List Nat :=
  let z := (logits.zip bias).zipIdx.map (fun p => (p.2, fadd fp32 p.1.1 p.1.2))
  ((sortBy scoreBefore z).take k).map (·.1)

/-- exp2((l − m) × log2 e), each step rounded (R283). -/
def gateExp (l m : Nat) : Nat := fexp2 (fmul fp32 (fsub fp32 l m) 0x3FB8_AA3B)

/-- Gates of the selected experts from the unbiased logits (R283). -/
def gatesOf (gateFn : Nat) (logits selected : List Nat) : List Nat :=
  let covers := if gateFn = 1 then List.range logits.length else sortNat selected
  let l (e : Nat) : Nat := (logits[e]?).getD 0
  let m := (covers.drop 1).foldl (fun m e => if flt fp32 m (l e) then l e else m) (l ((covers.head?).getD 0))
  let sum := covers.foldl (fun a e => fadd fp32 a (gateExp (l e) m)) 0
  selected.map (fun e => fdiv fp32 (gateExp (l e) m) sum)

/-- A batch row as a routing step sees it. -/
structure RouteRow where
  row : Nat
  tag : Nat
  offset : Nat
  deriving DecidableEq, Repr

/-- What a row selects: experts in rank order with their gates, or poison. -/
structure Choice where
  row : RouteRow
  experts : List Nat
  gates : List Nat
  bad : Bool
  deriving DecidableEq, Repr

/-- Rows of the batch that are not masked, in batch order (R280, R281). -/
def routedRows (batch : List BatchEntry) : List RouteRow :=
  batch.zipIdx.flatMap (fun p =>
    if p.1.cancelled then [] else (List.range p.1.rows).map (fun o => ⟨p.1.firstRow + o, p.2, o⟩))

/-- What a row chooses (R282, R283, R286): poison, NaN or infinity among its logits makes all of it poison. -/
def chooseRow (e : ExpertEntry) (bias : List Nat) (s : State) (r : RouteRow) : State × Choice :=
  let a := actBase s + e.logitsOffset + r.row * alignUp (4 * e.experts) 64
  let q := planeRead s a (4 * e.experts)
  let logits := (List.range e.experts).map (fun i => leNat (vals ((q.2.drop (4 * i)).take 4)))
  if anyBad q.2 || logits.any (fun x => !isFinite fp32 x) then
    let first := Config.poisonedExpert q.1.draws
    (q.1.draw, ⟨r, (List.range e.topK).map (fun k => (first + k) % e.experts), List.replicate e.topK 0, true⟩)
  else
    let sel := selectExperts e.topK logits bias
    (q.1, ⟨r, sel, gatesOf e.gateFn logits sel, false⟩)

/-! ## Assignment (R284, R285) -/

/-- A filled slot of a group. -/
structure RouteSlot where
  row : RouteRow
  rank : Nat
  gate : Nat
  bad : Bool
  deriving DecidableEq, Repr

/-- Where assignment stands. -/
structure Assigning where
  groups : List (List RouteSlot)
  counts : List GroupCount
  poolUsed : Nat
  deriving DecidableEq, Repr

/-- One assignment: a slot within capacity, else one of the pool, else dropped. -/
def assignOne (e : ExpertEntry) (c : Choice) (a : Assigning) (rank : Nat) : Assigning :=
  let x := (c.experts[rank]?).getD 0
  let held := ((a.groups[x]?).getD []).length
  let slot : RouteSlot := ⟨c.row, rank, (c.gates[rank]?).getD 0, c.bad⟩
  let put := lmod a.groups x (fun g => g ++ [slot])
  let counted := lmod a.counts x (fun g => { g with assigned := g.assigned + 1 })
  if held < e.capacity then { a with groups := put, counts := counted }
  else if a.poolUsed < e.pool then
    { groups := put, poolUsed := a.poolUsed + 1, counts := lmod counted x (fun g => { g with overflow := g.overflow + 1 }) }
  else { a with counts := lmod counted x (fun g => { g with dropped := g.dropped + 1 }) }

/-- Assign every rank of every row, in order (R284). -/
def assignRows (e : ExpertEntry) (choices : List Choice) : Assigning :=
  choices.foldl (fun a c => (List.range e.topK).foldl (assignOne e c) a)
    ⟨List.replicate e.experts [], List.replicate e.experts ⟨0, 0, 0, 0⟩, 0⟩

/-- fp32 1.0. -/
def gateOne : Nat := 0x3F80_0000

/-- The groups of the dispatch table: the routed experts, then the shared ones with every row (R285). -/
def allGroups (e : ExpertEntry) (rows : List RouteRow) (a : Assigning) : List (List RouteSlot) :=
  a.groups ++ List.replicate e.shared (rows.map (fun r => ⟨r, 0xFF, gateOne, false⟩))

/-- Padding slots of a group. -/
def groupPad (g : List RouteSlot) : Nat := alignUp g.length 8 - g.length

/-- The four counters of each group. -/
def groupCounts (e : ExpertEntry) (groups : List (List RouteSlot)) (a : Assigning) : List GroupCount :=
  groups.zipIdx.map (fun p =>
    if p.2 < e.experts then { ((a.counts[p.2]?).getD ⟨0, 0, 0, 0⟩) with padding := groupPad p.1 }
    else ⟨p.1.length, 0, 0, groupPad p.1⟩)

/-! ## The dispatch table (R287) -/

/-- Good octets. -/
def clean (bs : Bytes) : List Octet := bs.map (⟨·, false⟩)

/-- First slot of each group. -/
def groupStarts : List (List RouteSlot) → Nat → List Nat
  | [], _ => []
  | g :: r, n => n :: groupStarts r (n + alignUp g.length 8)

/-- The slot entry of 8 bytes: a poisoned row's gate is poison. -/
def slotEntry : Option RouteSlot → List Octet
  | some x => clean (leBytes 2 x.row.row ++ leBytes 1 x.rank ++ [0]) ++ (leBytes 4 x.gate).map (⟨·, x.bad⟩)
  | none => clean (leBytes 2 0xFFFF ++ [0xFE, 0] ++ leBytes 4 0)

/-- The rowmap entry of a slot. -/
def slotMap : Option RouteSlot → Bytes
  | some x => leBytes 4 (x.row.tag + x.row.offset * 2 ^ 16)
  | none => leBytes 4 0xFFF

/-- A group's slots, padded to a multiple of 8. -/
def paddedSlots (g : List RouteSlot) : List (Option RouteSlot) := g.map some ++ List.replicate (groupPad g) none

/-- The whole table. -/
def dispatchTable (turn rows poolUsed : Nat) (counts : List GroupCount) (groups : List (List RouteSlot)) : List Octet :=
  let slots := groups.flatMap paddedSlots
  let mapOff := alignUp (64 + 8 * groups.length) 64
  let slotOff := mapOff + alignUp (4 * slots.length) 64
  let header := padTo 64 (leBytes 2 groups.length ++ leBytes 2 rows ++ leBytes 4 slots.length ++ leBytes 4 mapOff
    ++ leBytes 4 slotOff ++ leBytes 4 (counts.map (·.dropped)).sum ++ leBytes 2 poolUsed ++ leBytes 2 0 ++ leBytes 4 turn)
  let directory := ((groups.zip (groupStarts groups 0)).map (fun p =>
    leBytes 4 p.2 ++ leBytes 2 (alignUp p.1.length 8) ++ leBytes 2 p.1.length)).flatten
  clean (header ++ padTo (mapOff - 64) directory ++ padTo (slotOff - mapOff) (slots.map slotMap).flatten)
    ++ slots.flatMap slotEntry

/-- A poisoned gate reaches a routing step: the attempt fails (R286, R359). -/
def failPoisoned (bad : Bool) (s : State) : State := if bad then failAttempt .integrity s else s

/-- The settings of an expert layer in force. -/
def expertLayer (s : State) (slot layer : Nat) : Option ExpertLayer := aget s.experts.layers (slot, layer)

/-- Biases that enter the selection: zero but in mode 2 (R282). -/
def biasInForce (s : State) (slot : Nat) (e : ExpertEntry) : List Nat :=
  match expertLayer s slot e.layer with
  | some x => if x.mode = 2 then x.bias.map BitVec.toNat else List.replicate e.experts 0
  | none => List.replicate e.experts 0

/-- Route a layer of the turn: choose, assign, write the table, keep what the commit counts. -/
def routeLayer (e : ExpertEntry) (t : Turn) (s : State) : State :=
  let rows := routedRows t.batch
  let bias := biasInForce s t.slot e
  let chosen := rows.foldl (fun acc r => let c := chooseRow e bias acc.1 r; (c.1, acc.2 ++ [c.2])) (s, [])
  let a := assignRows e chosen.2
  let groups := allGroups e rows a
  let counts := groupCounts e groups a
  let s1 := planeWrite chosen.1 (actBase s + e.tableOffset)
    (dispatchTable (s.turns % 2 ^ 32) rows.length a.poolUsed counts groups)
  failPoisoned (chosen.2.any (·.bad))
    (modTurn s1 (fun t => { t with routeDue := false, routings := t.routings ++ [⟨e.layer, rows.length, a.poolUsed, counts⟩] }))

/-- The expert layer whose router program was dispatched last. -/
def dueExpert (s : State) (t : Turn) : Option ExpertEntry :=
  (((imageOf s t.slot).head.map (·.experts)).getD []).find? (fun e => decide (e.routerEntry + 1 = t.next))

/-- ROUTING_STEP (R280): when every program of the router entry has reached DONE. -/
def execRoutingStep (s : State) : Host.Outcome State Fault Refusal :=
  match s.turn with
  | none => .next s
  | some t =>
    if t.routeDue ∧ t.busy = [] ∧ t.queued = [] ∧ t.failing = none ∧ s.running then
      match dueExpert s t with
      | some e => .next (routeLayer e t s)
      | none => .next (modTurn s (fun t => { t with routeDue := false }))
    else .next s

/-! ## Counters and records at the commit point (R288, R289, R291) -/

/-- Add counters, 64 bits each. -/
def GroupCount.plus (a b : GroupCount) : GroupCount where
  assigned := (a.assigned + b.assigned) % 2 ^ 64
  overflow := (a.overflow + b.overflow) % 2 ^ 64
  dropped := (a.dropped + b.dropped) % 2 ^ 64
  padding := (a.padding + b.padding) % 2 ^ 64

/-- One expert's bias after an update (R291). -/
def biasAfter (step limit mean : Nat) (b n : Nat) : Nat :=
  let n32 := ofInt fp32 n
  let moved := if flt fp32 n32 mean then fadd fp32 b step else if flt fp32 mean n32 then fsub fp32 b step else b
  if flt fp32 limit moved then limit
  else if flt fp32 moved (fneg fp32 limit) then fneg fp32 limit else moved

/-- The update of every bias from a full window, which is emptied (R291). -/
def biasUpdate (x : ExpertLayer) : ExpertLayer :=
  let mean := roundTo fp32 false x.window.sum x.window.length
  { x with
    bias := (x.bias.zip x.window).map (fun p => BitVec.ofNat 32 (biasAfter x.step.toNat x.limit.toNat mean p.1.toNat p.2))
    window := x.window.map (fun _ => 0), windowTurns := 0 }

/-- A committed turn enters the window of a layer in mode 2; whether the biases step (R291). -/
def windowStep (x : ExpertLayer) (r : Routing) : ExpertLayer × Bool :=
  if x.mode ≠ 2 then (x, false)
  else
    let y := { x with window := (x.window.zip r.groups).map (fun p => p.1 + p.2.assigned), windowTurns := x.windowTurns + 1 }
    if y.interval ≤ y.windowTurns then (biasUpdate y, true) else (y, false)

/-- Bytes of a record. -/
def ExpertRecord.size (r : ExpertRecord) : Nat := 32 + 8 * r.groups.length

/-- A record as it is read (Expert record). -/
def ExpertRecord.bytes (r : ExpertRecord) : Bytes :=
  padTo 32 (leBytes 4 r.seq ++ leBytes 4 r.turn ++ leBytes 1 r.slot ++ leBytes 1 r.layer ++ leBytes 2 r.groups.length
      ++ leBytes 2 r.rows ++ leBytes 2 r.poolUsed ++ leBytes 1 r.mode ++ leBytes 1 (b2n r.update))
    ++ (r.groups.map (fun g =>
        leBytes 2 g.assigned ++ leBytes 2 g.overflow ++ leBytes 2 g.dropped ++ leBytes 1 g.padding ++ [0])).flatten

/-- The newest records that fit in a number of bytes. -/
def newestFitting (room : Nat) : List ExpertRecord → List ExpertRecord
  | [] => []
  | r :: l => if ((r :: l).map ExpertRecord.size).sum ≤ room then r :: l else newestFitting room l

/-- Append a record to the ring; the oldest are overwritten and counted lost (R289). -/
def appendRecord (s : State) (r : ExpertRecord) : State :=
  if s.val 0x2A01 1 = 0 then s
  else
    let all := s.experts.records ++ [r]
    let kept := newestFitting (s.val 0x2A01 1 * 1024) all
    let e := { s.experts with records := kept, nextSeq := (s.experts.nextSeq + 1) % 2 ^ 32 }
    let s1 : State := { s with experts := e.withCursor s.experts.cursor }
    s1.bumpBy 0x2A01 5 32 (all.length - kept.length)

/-- Count one committed routing (R288, R289, R291). -/
def countRouting (slot : Nat) (s : State) (r : Routing) : State :=
  let s0 := s.bumpBy 0x2A00 2 64 1
  match expertLayer s0 slot r.layer with
  | none => s0
  | some x =>
    if x.mode = 0 then s0
    else
      let w := windowStep x r
      let y := { w.1 with totals := (x.totals.zip r.groups).map (fun p => p.1.plus p.2) }
      let s1 : State := { s0 with experts := { s0.experts with layers := aset s0.experts.layers (slot, r.layer) y } }
      appendRecord s1 ⟨s1.experts.nextSeq, s.turns % 2 ^ 32, slot, r.layer, r.rows, r.poolUsed, x.mode, w.2, r.groups⟩

/-- Count the routings of the committed attempt, in layer order. -/
def countRoutings (slot : Nat) (l : List Routing) (s : State) : State :=
  (sortBy (fun a b => decide (a.layer ≤ b.layer)) l).foldl (countRouting slot) s

/-! ## Reading the ring (R290) -/

/-- Sequence of the oldest record; 0 where there is none. -/
def oldestExpert (s : State) : Nat := ((s.experts.records.head?).map (·.seq)).getD 0

/-- Sequence of the newest record; 0 where there is none. -/
def newestExpert (s : State) : Nat := ((s.experts.records.getLast?).map (·.seq)).getD 0

/-- As many of some records as fit in a number of bytes. -/
def firstFitting : Nat → List ExpertRecord → List ExpertRecord
  | _, [] => []
  | room, r :: l => if r.size ≤ room then r :: firstFitting (room - r.size) l else []

/-- Records from the read cursor on, at most 65,536 bytes (R290). -/
def expertRead (s : State) : List ExpertRecord :=
  firstFitting 65536 (s.experts.records.dropWhile (fun r => !inSpan s.experts.cursor (2 ^ 31) r.seq))

/-! ## Settings (R290, R292) -/

/-- RING_SIZE (R290): the ring is emptied; refused where the tier-1 reserve cannot take it. -/
def applyRingSize (val : Bytes) (s : State) : Applied :=
  let s1 := s.setVal 0x2A01 1 (leNat val)
  guarded
    [(decide (leNat val ≤ 65536), abRange), (decide (tierCharge s1 1 0xFF ≤ tierQuota s1 1 0xFF), abQuota)]
    (fun _ => accept { s1 with experts := { s1.experts with records := [] } }) s

/-- RING_SIZE. -/
def execRingSize (ch : Channel) (val : Bytes) (s : State) : Host.Outcome State Fault Refusal :=
  objectWrite ch 0x2A01 1 val (applyRingSize val) s

/-- A finite value that is positive, or may be zero. -/
def positiveF32 (zero : Bool) (v : Nat) : Bool :=
  isFinite fp32 v && (flt fp32 0 v || (zero && feq fp32 v 0))

/-- The limit that a bias vector written now will meet: the newest that waits, else the one in force. -/
def limitAhead (s : State) (k : Nat × Nat) : Nat :=
  let waiting := s.experts.changes.filterMap (fun p =>
    if p.1 = k then (match p.2 with | .limit x => some x.toNat | _ => none) else none)
  (waiting.getLast?).getD (((expertLayer s k.1 k.2).map (·.limit.toNat)).getD 0)

/-- Checks of a write to a layer's setting. -/
def expertChecks (s : State) (k : Nat × Nat) (idx : Nat) (val : Bytes) (x : ExpertLayer) : List (Bool × Nat) :=
  let v := leNat val
  let words := (List.range (val.length / 4)).map (fun i => fld val (4 * i) 4)
  let b := limitAhead s k
  match idx with
  | 0x2A10 => [(decide (v ≤ 2), abRange)]
  | 0x2A11 => [(decide (1 ≤ v) && decide (v ≤ 4096), abRange)]
  | 0x2A12 => [(positiveF32 false v, abRange)]
  | 0x2A13 => [(positiveF32 true v, abRange)]
  | _ =>
    [(decide (val.length = 4 * x.bias.length), abLength),
     (words.all (fun w => isFinite fp32 w && !flt fp32 b (fabs fp32 w)), abRange)]

/-- The change that a write asks for. -/
def expertChange (idx : Nat) (val : Bytes) : ExpertChange :=
  let v := leNat val
  match idx with
  | 0x2A10 => .mode v
  | 0x2A11 => .interval v
  | 0x2A12 => .step (BitVec.ofNat 32 v)
  | 0x2A13 => .limit (BitVec.ofNat 32 v)
  | _ => .bias ((List.range (val.length / 4)).map (fun i => BitVec.ofNat 32 (fld val (4 * i) 4)))

/-- A write to a setting or the bias vector of a layer of the channel's slot: it waits for the barrier (R292). A bias
vector is writable under P and M only. -/
def applyExpert (ch : Channel) (idx sub : Nat) (val : Bytes) (s : State) : Applied :=
  let k := (s.sel ch 0x2A00 1, sub - 1)
  match expertLayer s k.1 k.2 with
  | none => refuse abInconsistent s
  | some x =>
    guarded (expertChecks s k idx val x)
      (fun s => accept { s with experts := { s.experts with changes := s.experts.changes ++ [(k, expertChange idx val)] } }) s

/-- BIAS_VECTOR (R292). -/
def execBiasVector (ch : Channel) (layer : Fin 255) (val : Bytes) (s : State) : Host.Outcome State Fault Refusal :=
  objectWrite ch 0x2A14 (layer.val + 1) val (applyExpert ch 0x2A14 (layer.val + 1) val) s

/-- Bring a bias within a limit. -/
def clampBias (limit : Nat) (b : BitVec 32) : BitVec 32 := BitVec.ofNat 32 (biasAfter 0 limit 0 b.toNat 0)

/-- A change takes effect (R292): a new mode or interval empties the window, a lower limit clamps the biases. -/
def ExpertLayer.change (x : ExpertLayer) : ExpertChange → ExpertLayer
  | .mode m => if m = x.mode then x else { x with mode := m, window := x.window.map (fun _ => 0), windowTurns := 0 }
  | .interval u => if u = x.interval then x else { x with interval := u, window := x.window.map (fun _ => 0), windowTurns := 0 }
  | .step y => { x with step := y }
  | .limit y => { x with limit := y, bias := x.bias.map (clampBias y.toNat) }
  | .bias b => { x with bias := b }

/-- Changes that wait take effect at the barrier, in the order of their writes. -/
def expertsBarrier (s : State) : State :=
  { s with experts := { s.experts with
      layers := s.experts.changes.foldl (fun l p => amod l p.1 (fun x => x.change p.2)) s.experts.layers
      changes := [] } }

end Sys2Proof.Machine
end

