-- ==== Sys2Proof/Machine/Sampler.lean ====
section
/-! DEFINITION. The sampler: the random value of a position and the choice of a token (R249, R250). -/

namespace Sys2Proof.Machine

/-- Random value of a seed at a position (R249). -/
def drawWord (seed position : Nat) : BitVec 64 :=
  mix (BitVec.ofNat 64 seed ^^^ (BitVec.ofNat 64 position * 0x9E3779B97F4A7C15#64))

/-- The exact fp32 in [0, 1) that it gives (R249). -/
def drawUnit (seed position : Nat) : Nat := pack fp32 (.fin false (drawWord seed position >>> 40).toNat (-24))

/-- Id of the largest logit, ties to the lowest id. -/
def largestLogit (logits : List Nat) : Nat :=
  (logits.zipIdx.foldl (fun m p => match m with
    | none => some p
    | some q => if flt fp32 q.1 p.1 then some p else some q) (none : Option (Nat × Nat))).elim 0 (·.2)

/-- A candidate: its id and its scaled logit. -/
structure Candidate where
  id : Nat
  z : Nat
  deriving DecidableEq, Repr

/-- Candidates by z descending, ties by id ascending (R250). -/
def candidateBefore (a b : Candidate) : Bool :=
  if flt fp32 b.z a.z then true else if flt fp32 a.z b.z then false else decide (a.id ≤ b.id)

/-- Candidates kept: the first top_k of the sorted ids, or all. -/
def keptCandidates (logits : List Nat) (temperature topK : Nat) : List Candidate :=
  let l := sortBy candidateBefore (logits.zipIdx.map (fun p => ⟨p.2, fdiv fp32 p.1 temperature⟩))
  if topK = 0 ∨ logits.length < topK then l else l.take topK

/-- Weight of a candidate against the first (R250). -/
def candidateWeight (m z : Nat) : Nat :=
  if isFinite fp32 m then fexp2 (fmul fp32 (fsub fp32 z m) 0x3FB8_AA3B)
  else if feq fp32 z m then gateOne else 0

/-- Running sums of weights, each rounded. -/
def runningSums : List Nat → Nat → List Nat
  | [], _ => []
  | w :: r, c => let c' := fadd fp32 c w; c' :: runningSums r c'

/-- a × p / 65,536, rounded once. -/
def scaleTopP (a p : Nat) : Nat := pack fp32 (mulVal (unpack fp32 a) (.fin false p (-16)))

/-- The token drawn from logits (R250). -/
def sampleToken (logits : List Nat) (temperature topK topP seed position : Nat) : Nat :=
  if feq fp32 temperature 0 ∨ topK = 1 then largestLogit logits
  else
    let kept := keptCandidates logits temperature topK
    let m := ((kept.head?).map (·.z)).getD 0
    let sums := runningSums (kept.map (fun k => candidateWeight m k.z)) 0
    let total := (sums.getLast?).getD 0
    let last := sums.length - 1
    let cut := if topP = 0 then last else (sums.findIdx? (fun x => !flt fp32 x (scaleTopP total topP))).getD last
    let t := fmul fp32 (drawUnit seed position) ((sums[cut]?).getD 0)
    let j := ((sums.take (cut + 1)).findIdx? (fun x => flt fp32 t x)).getD cut
    ((kept[j]?).map (·.id)).getD 0

end Sys2Proof.Machine
end

