-- ==== Sys2Proof/Machine/TurnRun.lean ====
section
/-! DEFINITION. A turn up to its commit point: batch formation, the tables the decks read, dispatch, sampling
(R15, R213, R245 to R250, R267, R268, R310, R311, R343, R351). -/

namespace Sys2Proof.Machine

/-! ## Order -/

/-- Order of a batch (R246): class, then the time since a berth last took part, then admission. -/
def batchBefore (a b : Berth) : Bool :=
  if a.cls ≠ b.cls then decide (a.cls ≤ b.cls)
  else if a.lastTurn ≠ b.lastTurn then decide (a.lastTurn ≤ b.lastTurn)
  else decide (a.admitted ≤ b.admitted)

/-- Berths that may run, in order. -/
def runnableOrder (s : State) : List Berth := sortBy batchBefore (s.serving.berths.filter (canRun s))

/-! ## Batch formation (R246, R268) -/

/-- Rows a berth takes while `left` rows remain, and whether they are prefill. -/
def rowsFor (s : State) (b : Berth) (left : Nat) : Nat × Bool :=
  if b.promptEnd ≤ b.position then (min 1 left, false)
  else
    let n := min (b.promptEnd - b.position) (min (s.val 0x2804 1) left)
    (if b.position + n = b.promptEnd then n else n / 16 * 16, true)

/-- Entries of a berth's KV map. -/
def mapEntries (m : Manifest) (position rows : Nat) : Nat := (position + rows + m.span - 1) / m.span

/-- Bytes of a KV map in the working area: a multiple of 64 (log 38). -/
def mapBytes (m : Manifest) (position rows : Nat) : Nat := alignUp (4 * mapEntries m position rows) 64

/-- Where formation stands. -/
structure Forming where
  st : State
  batch : List BatchEntry
  rows : Nat
  maps : Nat

/-- Bytes of the batch table of n berths. -/
def tableBytes (n : Nat) : Nat := alignUp (64 + 32 * n) 64

/-- A berth of the batch keeps a completion slot for its TOKENS. -/
def keepSlot (b : Berth) (s : State) : State × Bool :=
  if b.progress && !b.finished && decide (b.ring < 65536) then
    (setRing s b.ring { ringOf s b.ring with reserved := (ringOf s b.ring).reserved + 1 }, true)
  else (s, false)

/-- Offer a berth to the batch. -/
def offerBerth (slot : Nat) (m : Manifest) (f : Forming) (b : Berth) : Forming :=
  let r := rowsFor f.st b (256 - f.rows)
  let maps := f.maps + mapBytes m b.position r.1
  if 256 ≤ f.batch.length ∨ r.1 = 0 ∨ !progressRoom f.st b then f
  else if (tablePlace f.st slot (tableBytes (f.batch.length + 1) + maps)).isNone then f
  else
    let k := keepSlot b f.st
    let yields := !b.finished && decide (b.promptEnd ≤ b.position + r.1)
    ⟨k.1, f.batch ++ [⟨b.num, b.position, r.1, f.rows, r.2, yields, false, k.2⟩], f.rows + r.1, maps⟩

/-- Take at the barrier the sets that a berth's rows of a pipeline turn will need (R311). -/
def takeAhead (m : Manifest) (s : State) (e : BatchEntry) : State :=
  let first := e.position / m.span
  let last := (e.position + e.rows - 1) / m.span
  (List.range (last + 1 - first)).foldl (fun s i =>
    match berthOf s e.berth with
    | none => s
    | some b =>
      let r := setFor s b (first + i)
      if r.2.isSome then r.1 else markFull r.1 e.berth 2) s

/-- Berths of a pipeline turn at their context limit. -/
def markLimit (s : State) (e : BatchEntry) : State :=
  match berthOf s e.berth with
  | some b => if contextLimit s b < e.position + e.rows then markFull s e.berth 3 else s
  | none => s

/-! ## Starting a turn -/

/-- A turn about to be dispatched. -/
def newTurn (slot number : Nat) (batch : List BatchEntry) (rows : Nat) (cascade inputs : Bool) : Turn where
  slot := slot
  number := number
  batch := batch
  rows := rows
  attempt := 0
  replays := 0
  next := 0
  queued := []
  busy := []
  routeDue := false
  drawn := []
  reruns := 0
  failing := none
  suspects := []
  spared := []
  sources := []
  metNow := []
  program := none
  signals := []
  routings := []
  damaged := []
  journalled := []
  reported := false
  cascade := cascade
  inputs := inputs

/-- This device holds a slot's first stage (R310). -/
def firstStage (s : State) (slot : Nat) : Bool := !inPipeline s || decide ((stageNodes s slot).head? = some s.nodeId)

/-- This device holds a slot's last stage, with the output head and the sampler (R310). -/
def lastStage (s : State) (slot : Nat) : Bool := !inPipeline s || decide ((stageNodes s slot).getLast? = some s.nodeId)

/-- The device runs a turn: it is in ACTIVE, and no idle timeout is due (R60). -/
def goActive (s : State) : State :=
  s.setPower { s.power with state := .active, readyDue := false, dozeDue := false, watchDue := false }

/-- Berths of a batch take part in the turn that now counts. -/
def takePart (batch : List BatchEntry) (s : State) : State :=
  batch.foldl (fun s e => setBerth s e.berth (fun b => { b with lastTurn := s.turns, full := 0, taken := [] })) s

/-- The batch that may form now: none without a runnable berth, or while fewer than 256 entries of the hold are free
(R251). A member forms none in pipeline layout (R311). -/
def formBatch (s : State) : Option (Nat × Forming) :=
  if inPipeline s ∧ s.ferry.role = .member then none
  else if holding s ∧ 2048 < s.serving.hold.length + 256 then none
  else
    let order := runnableOrder s
    match order.head? with
    | none => none
    | some b =>
      match manifestOf s b.slot with
      | none => none
      | some m =>
        let f := (order.filter (fun x => decide (x.slot = b.slot))).foldl (offerBerth b.slot m) ⟨s, [], 0, 0⟩
        if f.batch = [] then none else some (b.slot, f)

/-! ## The tables the decks read (R267) -/

/-- Sets of a berth as a KV map of n entries. -/
def kvMap (table : List (Option Nat)) (n : Nat) : Bytes := ((table ++ List.replicate n none).take n).flatMap pageEntry

/-- Place of the batch table and each entry's map, given the table's address. -/
def mapPlaces (m : Manifest) : List BatchEntry → Nat → List Nat
  | [], _ => []
  | e :: r, a => a :: mapPlaces m r (a + mapBytes m e.position e.rows)

/-- Bytes of the batch table and the KV maps of a turn. -/
def tablesSize (m : Manifest) (batch : List BatchEntry) : Nat :=
  tableBytes batch.length + (batch.map (fun e => mapBytes m e.position e.rows)).sum

/-- Address of the turn's batch table. -/
def tableAt (s : State) (t : Turn) : Nat :=
  match manifestOf s t.slot with
  | some m => (tablePlace s t.slot (tablesSize m t.batch)).getD 0
  | none => 0

/-- An entry of the batch table. -/
def batchEntryBytes (m : Manifest) (e : BatchEntry) (place : Nat) : Bytes :=
  padTo 32 (leBytes 4 e.position ++ leBytes 2 e.rows ++ leBytes 2 e.firstRow ++ leBytes 8 place
    ++ leBytes 4 (mapEntries m e.position e.rows) ++ leBytes 1 (b2n e.prefill + 2 * b2n e.yields))

/-- The batch table (Batch table header, Batch table berth entry). -/
def batchTableBytes (s : State) (m : Manifest) (t : Turn) (places : List Nat) : Bytes :=
  padTo 64 (leBytes 2 t.batch.length ++ leBytes 2 t.rows ++ leBytes 1 t.slot ++ leBytes 1 m.blocksPerPage ++ leBytes 2 0
    ++ leBytes 8 (partitionBase s t.slot) ++ leBytes 4 (setBytes s t.slot) ++ leBytes 4 (s.turns % 2 ^ 32))
    ++ ((t.batch.zip places).map (fun p => batchEntryBytes m p.1 p.2)).flatten

/-- The helm writes the batch table and one KV map for each berth of the batch. -/
def writeTables (t : Turn) (s : State) : State :=
  match manifestOf s t.slot with
  | none => s
  | some m =>
    let a := tableAt s t
    let places := mapPlaces m t.batch (a + tableBytes t.batch.length)
    (t.batch.zip places).foldl (fun s p =>
      poke s p.2 (kvMap (((berthOf s p.1.berth).map (·.table)).getD []) (mapEntries m p.1.position p.1.rows)))
      (poke s a (batchTableBytes s m t places))

/-! ## Dispatch (R185, R213, R351) -/

/-- A layer-table entry is run here: all of them on one device, a stage's own in pipeline layout (R310); a vision
stage goes with the embedding (DEDUCED, log 35). -/
def entryHeld (s : State) (slot : Nat) (e : LayerEntry) : Bool :=
  if !inPipeline s then true
  else match e.kind with
    | 2 => (heldLayers s slot).contains e.layer
    | 3 => lastStage s slot
    | _ => firstStage s slot

/-- The layer table of the image a turn serves. -/
def layerTableOf (s : State) (slot : Nat) : List LayerEntry := ((imageOf s slot).head.map (·.layerTable)).getD []

/-- The next entry to dispatch, with its index. -/
def nextEntryOf (s : State) (t : Turn) : Option (LayerEntry × Nat) :=
  (layerTableOf s t.slot).zipIdx.find? (fun p => decide (t.next ≤ p.2) && entryHeld s t.slot p.1)

/-- Address of a tensor's first byte in its home for the turn: a tier-0 copy, else a tier-1 copy, else its home. -/
def homeAddress (s : State) (slot i : Nat) : Nat :=
  match tensorOf s (imageHandle slot i) with
  | some t => (t.copy0).getD ((t.copy1).getD t.homeAddr)
  | none => (((imageOf s slot).head.bind (fun h => h.tensorTable[i]?)).map (tensorAddress (imageOf s slot) i)).getD 0

/-- Address of its first length-table byte there: a tier-1 copy's lies in the device area (R144). -/
def lengthAddress (s : State) (slot i : Nat) : Nat :=
  let own := (((imageOf s slot).head.bind (fun h => h.tensorTable[i]?)).map (tableAddress s (imageOf s slot) i)).getD 0
  match tensorOf s (imageHandle slot i) with
  | some t =>
    if t.copy0.isSome then Config.noLengthTable (imageHandle slot i)
    else match t.copy1 with
      | some a => areaBase s + (a - lpddrBase) / 4096
      | none => own
  | none => own

/-- The value of a layer-table argument (Argument encoding). -/
def resolveArg (s : State) (t : Turn) (a : Nat) : Nat :=
  match a / 2 ^ 60 with
  | 0 => a % 2 ^ 60
  | 1 => homeAddress s t.slot (a % 2 ^ 21)
  | 2 => lengthAddress s t.slot (a % 2 ^ 21)
  | 3 => actBase s + a % 2 ^ 32
  | _ => tableAt s t

/-- First byte of a deck's code area (R184). -/
def codeArea (k : Fin 16) : Nat := deckBase + k.val * 0x10_0000

/-- Copy the program section into a deck's code area, unless it holds it: false where a word of it cannot be corrected
(R213). -/
def loadCode (k : Fin 16) (slot : Nat) (s : State) : State × Bool :=
  match (imageOf s slot).head with
  | none => (s, true)
  | some h =>
    if (s.decks.get k).code = some slot then (s, true)
    else
      let r := headPart s slot h.man.programOffset h.man.programLength
      if anyBad r.2 then (r.1, false) else (poke r.1 (codeArea k) (vals r.2), true)

/-- Faults armed on a deck, or on the second of its pair, strike in the first attempt of a turn in which it takes part
(R361). -/
def armDeck (k : Fin 16) (s : State) : State :=
  let own (d : Nat) : Bool := decide (d = k.val) || (decide (s.integrity.mode = 1) && decide (d = k.val + 1))
  match s.turn with
  | some t =>
    if t.attempt ≠ 0 then s
    else match s.integrity.armed.find? (fun a => own a.1 && !decide (a.2.1 = 4)) with
      | some a =>
        (modDeck s k (fun d => { d with injected := some a.2 })).setIntegrity
          { s.integrity with armed := s.integrity.armed.erase a }
      | none => s
  | none => s

/-- Start a logical deck of the entry dispatched last on a physical deck. A program section that cannot be read fails
the attempt, with the damaged word as its source (R350, R352; DEDUCED, log 112). -/
def startLogical (t : Turn) (e : LayerEntry) (s : State) (p : Nat × Nat) : State :=
  if h : p.2 < 16 then
    let k : Fin 16 := ⟨p.2, h⟩
    let c := loadCode k t.slot s
    if !c.2 then modTurn (failAttempt .integrity c.1) (fun t => { t with queued := t.queued.erase p })
    else
    let s1 := armDeck k c.1
    modTurn (startProgram k p.1 e.layer e.decks e.entry t.slot (e.args.map (resolveArg s1 t)) s1)
      (fun t => { t with busy := t.busy ++ [p.2], queued := t.queued.erase p })
  else s

/-- Of logical decks that wait, those whose physical deck is free, the first of each (R351). -/
def startable : List (Nat × Nat) → List Nat → List (Nat × Nat)
  | [], _ => []
  | p :: r, busy => if busy.contains p.2 then startable r busy else p :: startable r (p.2 :: busy)

/-- Start what can start of the entry dispatched last. -/
def startQueued (s : State) : State :=
  match s.turn with
  | none => s
  | some t =>
    match (layerTableOf s t.slot)[t.next - 1]? with
    | none => s
    | some e => (startable t.queued t.busy).foldl (startLogical t e) s

/-- Dispatch an entry: its logical decks are assigned, and after a router entry a routing step is due. -/
def dispatchEntry (t : Turn) (p : LayerEntry × Nat) (s : State) : State :=
  let s1 := if t.next = 0 then writeTables t s else s
  let assigned := assignment s1 p.1.decks (excludedNow s1)
  let router := (((imageOf s t.slot).head.map (·.experts)).getD []).any (fun e => decide (e.routerEntry = p.2))
  if assigned = [] then failAttempt .integrity s1
  else startQueued (modTurn s1 (fun t => { t with next := p.2 + 1, queued := assigned, routeDue := router }))

/-- A turn's attempt is running here. -/
def attemptRuns (s : State) (t : Turn) : Bool :=
  s.running && t.inputs && !t.reported && t.failing.isNone

/-- LAYER_DISPATCH (R213): the next entry once the one before has ended, or logical decks that waited for a physical
one. -/
def execLayerDispatch (s : State) : Host.Outcome State Fault Refusal :=
  match s.turn with
  | none => .next s
  | some t =>
    if !attemptRuns s t then .next s
    else if t.queued ≠ [] then .next (startQueued s)
    else if t.busy ≠ [] ∨ t.routeDue then .next s
    else match nextEntryOf s t with
      | some p => .next (dispatchEntry t p s)
      | none => .next s

/-- Every program of the attempt has ended. -/
def programsDone (s : State) (t : Turn) : Bool :=
  attemptRuns s t && decide (t.busy = []) && decide (t.queued = []) && !t.routeDue && (nextEntryOf s t).isNone

/-! ## Sampling (R250, R343) -/

/-- The serving plane reads a part of the LPDDR, past the region entries (R144) and not past a sealed range, which weight
streams and the mover alone read (R147). -/
def planeLpddr (s : State) (a n : Nat) : State × List Octet :=
  let q := query s 0xFF .read
  if !mapped s a then (accessError 9 0xFF a s, poison n)
  else if !sealedPermits s q a then (refuseLine q s a, poison n)
  else readLpddr q s a n

/-- The serving plane reads logits: port B of the hold, the LPDDR, else through the fabric. -/
def readLogits (s : State) (a n : Nat) : State × List Octet :=
  match areaOf a with
  | .general => planeRead s a n
  | .dualPort => planeRead s a n
  | .lpddr =>
    (cuts 4096 (n / 4096 + 2) a n).foldl (fun acc p =>
      let r := planeLpddr acc.1 p.1 p.2
      (r.1, acc.2 ++ r.2)) (s, [])
  | _ => let r := memRead (query s 1 .read) s a n; (r.1, r.2.1)

/-- Sampler mismatches of a draw: what the two units show, and an armed one (R361). -/
def takeMismatch (s : State) (n : Nat) : State × Nat :=
  match s.turn, s.integrity.armed.find? (fun a => decide (a.2.1 = 4)) with
  | some t, some a =>
    if t.attempt = 0 then (s.setIntegrity { s.integrity with armed := s.integrity.armed.erase a }, n + 1) else (s, n)
  | _, _ => (s, n)

/-- Record n sampler mismatches that reruns follow, and one more that none follows if `last` (R343, R347). -/
def sampleErrors (n : Nat) (last : Bool) (s : State) : State :=
  let s1 := (List.range n).foldl (fun s _ => s.error (.plain 4 0xFF 6 0)) s
  if last then s1.error (.plain 4 0xFF 1 0) else s1

/-- Draw a berth's token from logits that are good. -/
def drawToken (b : Berth) (e : BatchEntry) (logits : List Nat) : Nat :=
  sampleToken logits b.temperature.toNat b.topK b.topP b.seed (e.position + e.rows)

/-- Sample one berth: poison or NaN fails the attempt; a mismatch reruns the sampler, at most Replay Limit times. -/
def sampleBerth (tag addr mismatches vocab : Nat) (b : Berth) (e : BatchEntry) (s : State) : State :=
  let r := readLogits s addr (4 * vocab)
  let logits := (List.range vocab).map (fun i => leNat (vals ((r.2.drop (4 * i)).take 4)))
  if anyBad r.2 || logits.any (isNan fp32) then failAttempt .integrity r.1
  else
    let m := takeMismatch r.1 mismatches
    let limit := s.val 0x2D01 3
    let s1 := modTurn (sampleErrors (min m.2 limit) (decide (limit < m.2)) m.1)
      (fun t => { t with reruns := t.reruns + min m.2 limit })
    if limit < m.2 then failAttempt .integrity s1
    else modTurn s1 (fun t => { t with drawn := t.drawn ++ [(tag, drawToken b e logits)] })

/-- SAMPLING: a token-yielding berth of the batch that has not been drawn; only the last stage samples. -/
def execSampling (tag logits mismatches : Nat) (s : State) : Host.Outcome State Fault Refusal :=
  match s.turn with
  | none => .next s
  | some t =>
    match t.batch[tag]? with
    | none => .next s
    | some e =>
      if !programsDone s t || !lastStage s t.slot || !e.yields || e.cancelled || (aget t.drawn tag).isSome then .next s
      else match berthOf s e.berth, manifestOf s t.slot with
        | some b, some m => .next (sampleBerth tag logits mismatches m.vocab b e s)
        | _, _ => .next s

end Sys2Proof.Machine
end

