-- ==== Sys2Proof/Machine/Commit.lean ====
section
/-! DEFINITION. The commit point, on one device and in a cascade, and what an attempt that fails becomes
(R16, R210, R248, R269, R270, R307, R311, R343, R350 to R354, R359). -/

namespace Sys2Proof.Machine

/-! ## One berth of a commit (R204, R240, R248) -/

/-- Give a berth's kept completion slot back. -/
def releaseSlot (ring : Nat) (s : State) : State :=
  setRing s ring { ringOf s ring with reserved := (ringOf s ring).reserved - 1 }

/-- A berth loses the sets it took in the turn (R204). -/
def dropTaken (b : Berth) (s : State) : State :=
  setBerth (b.taken.foldl (fun s n => unref s b.slot n) s) b.num (fun b => { b with
    table := b.table.map (fun o => match o with
      | some n => if b.taken.contains n then none else some n
      | none => none)
    taken := [], full := 0 })

/-- What a commit has gathered: requests to signal for once every completion is posted, and tokens delivered. -/
structure Tally where
  st : State
  signal : List Berth
  tokens : Nat

/-- A token is one of the tenant's stop tokens (R248). -/
def isStop (s : State) (t token : Nat) : Bool :=
  (List.range 4).any (fun i => decide (s.val (tenantObj t 1) (i + 1) = token) && !decide (token = 0xFFFF_FFFF))

/-- A berth's positions advance; a parked one that has been refilled is parked again (R270). -/
def advance (rows : Nat) (token : Option Nat) (b : Berth) : Berth :=
  let p := b.position + rows
  { b with
    position := p, taken := [], full := 0
    tokens := match token with | some x => b.tokens.take p ++ [x] | none => b.tokens
    st := if b.finished && decide (b.tokens.length ≤ p) then .parked else b.st }

/-- Complete a berth's request at a commit; its signal follows later (R260). -/
def finishAt (b : Berth) (status detail : Nat) (a : Tally) : Tally :=
  match berthOf a.st b.num with
  | some x => { a with st := finishBerth a.st x status detail a.st.turns, signal := if b.signal then a.signal ++ [b] else a.signal }
  | none => a

/-- Post TOKENS (R248). -/
def postTokens (num : Nat) (s : State) : State :=
  match berthOf s num with
  | some b => postCompletion s ⟨b.ring, b.tag, stTokens, false, false, b.num, b.delivered, b.position, 0, s.turns⟩
  | none => s

/-- The progress of a berth that goes on (R245, R248): TOKENS if it asked for them and a slot is free. -/
def progressOf (b : Berth) (slotHeld : Bool) (a : Tally) : Tally :=
  if b.progress && !b.finished && (slotHeld || decide (0 < freeSlots a.st b.ring)) then { a with st := postTokens b.num a.st } else a

/-- Deliver a drawn token and settle what it makes of the request. -/
def settleToken (b : Berth) (token : Nat) (slotHeld : Bool) (a : Tally) : Tally :=
  let stop := isStop a.st b.tenant token
  let last := stop || decide (b.maxNew ≤ b.delivered + 1)
  let s1 := deliverToken a.st b token b.position last stop
  match berthOf s1 b.num with
  | none => { a with st := s1 }
  | some x =>
    if x.failing = 4 then finishAt x stFault 4 { a with st := s1 }
    else
      let a1 : Tally := { a with st := s1, tokens := a.tokens + 1 }
      if stop then finishAt x stStop 0 a1
      else if last then finishAt x stLength 0 a1
      else progressOf x slotHeld a1

/-- One berth of the turn: cancelled and failing ones commit nothing, a context-full one completes (R204), the others
advance. `keep` tells that a completion slot was kept for its TOKENS. -/
def commitBerth (num rows : Nat) (keep cancelled : Bool) (token : Option Nat) (full : Nat) (a : Tally) : Tally :=
  match berthOf a.st num with
  | none => a
  | some b =>
    let a0 : Tally := if keep then { a with st := releaseSlot b.ring a.st } else a
    if cancelled || decide (b.failing ≠ 0) || decide (b.st = .closing) then a0
    else if full ≠ 0 then finishAt b stFull full { a0 with st := dropTaken b a0.st }
    else
      let a1 : Tally := { a0 with st := setBerth a0.st num (advance rows token) }
      match token, berthOf a1.st num with
      | some x, some b1 => settleToken b1 x keep a1
      | _, some b1 => progressOf b1 keep a1
      | _, none => a1

/-! ## The end of a turn -/

/-- Change the error records of the present turn that satisfy a condition. -/
def turnRecords (s : State) (p : ErrorRecord → Bool) (f : ErrorRecord → ErrorRecord) : State :=
  s.setIntegrity { s.integrity with
    log := s.integrity.log.map (fun r => if decide (r.turn = s.turns % 2 ^ 32) && p r then f r else r) }

/-- A committed turn's replayed and rerun errors get the flag recovered, and the recovery is counted (R348, 0x2D05). -/
def countRecovery (t : Turn) (s : State) : State :=
  let s1 := if t.attempt = 0 ∧ t.reruns = 0 then s
    else turnRecords s (fun r => decide (r.outcome = 1) || decide (r.outcome = 6)) (fun r => { r with flags := r.flags ||| 16 })
  if t.replays = 0 then s1
  else ((s1.bumpBy 0x2D05 2 64 1).setVal 0x2D05 4 (Config.elapsed s1.draws % 2 ^ 32)).draw

/-- A program exception that a replay did not repeat was a silent error of its deck (R210). -/
def settleProgram (t : Turn) (s : State) : State :=
  match t.program with
  | some (d, _, _) => silentError s d
  | none => s

/-- The turn ends: its suspects wait for the barrier (R355), and what it armed or latched on the decks goes. -/
def endTurn (t : Turn) (s : State) : State :=
  let l := (t.suspects.filter (fun d => !t.spared.contains d)).dedup
  let s1 := s.setIntegrity { s.integrity with suspects := (s.integrity.suspects ++ l).dedup }
  { s1 with turn := none, decks := s1.decks.map (fun d => { d with injected := none, mismatch := none }) }

/-- Semaphore signals of a committed turn (R259, R312): here, or as SEMSIG packets to other nodes. -/
def turnSignals (l : List (Nat × Nat)) (s : State) : State :=
  l.foldl (fun s p => if p.2 = 0 then signalNow s p.1 1 else sendTo s p.2 7 0 1 0 (leBytes 2 p.1 ++ leBytes 8 1)) s

/-- Publish what the berths of a batch have filled (R274). -/
def publishBatch (batch : List BatchEntry) (s : State) : State :=
  batch.foldl (fun s e => if e.cancelled then s else publishBerth s e.berth) s

/-- Commit the turn here with the tokens drawn (R248): berths in batch order, then publication, counters, signals. -/
def commitTurn (t : Turn) (drawn : List (Nat × Nat)) (s : State) : State :=
  let a := t.batch.zipIdx.foldl (fun a p =>
    let full := ((berthOf a.st p.1.berth).map (·.full)).getD 0
    commitBerth p.1.berth p.1.rows p.1.slotHeld p.1.cancelled (aget drawn p.2) full a) ⟨s, [], 0⟩
  let s1 := countRoutings t.slot t.routings (publishBatch t.batch a.st)
  let s2 := turnSignals t.signals (a.signal.foldl (fun s b => signalRequest b s) s1)
  endTurn t (settleProgram t (countRecovery t (s2.bumpBy 0x2806 2 64 a.tokens)))

/-! ## Cascade messages (R307, R311; their layouts are the model's, log 35) -/

/-- A line of a commit report: berth, status and detail where the request ends, its token, its rows and the
position they begin at. -/
structure ReportLine where
  berth : Nat
  status : Nat
  detail : Nat
  token : Option Nat
  rows : Nat
  position : Nat
  deriving DecidableEq, Repr

/-- The 16 bytes of a line. -/
def ReportLine.bytes (l : ReportLine) : Bytes :=
  fields [(2, l.berth), (1, l.status), (1, l.detail), (1, b2n l.token.isSome), (3, l.position), (4, l.token.getD 0), (4, l.rows)]

/-- A line from its bytes. -/
def reportLine (bs : Bytes) : ReportLine :=
  ⟨fld bs 0 2, fld bs 2 1, fld bs 3 1, if fld bs 4 1 = 1 then some (fld bs 8 4) else none, fld bs 12 4, fld bs 5 3⟩

/-- Send a commit report to the pilot; `outside` marks one of requests that end at a barrier. -/
def sendReport (number : Nat) (outside : Bool) (l : List ReportLine) (s : State) : State :=
  sendMessage s s.ferry.pilotNode 6 1
    (leBytes 4 number ++ leBytes 2 l.length ++ leBytes 2 (b2n outside) ++ (l.map ReportLine.bytes).flatten)

/-- A map of 256 bits, byte 0 first. -/
def bitMap (l : List Nat) : Bytes := leBytes 32 (l.foldl (fun a i => a + 2 ^ i) 0)

/-- Send a turn-commit to a node, with the discard map of batch entries. A stage is told with it what the commit has
published and freed (R311). -/
def sendCommit (node slot number : Nat) (discards : List Nat) (s : State) : State :=
  let k := if inPipeline s then tellTables s node slot else (s, [])
  sendMessage k.1 node 6 2 (leBytes 4 number ++ bitMap discards ++ k.2)

/-- Batch entries whose cancel has been accepted, or that commit nothing for another reason, by index. -/
def discardsOf (s : State) (batch : List BatchEntry) : List Nat :=
  (batch.zipIdx.filter (fun p => p.1.cancelled || (match berthOf s p.1.berth with
    | some b => decide (b.st = .closing) || decide (b.failing ≠ 0)
    | none => true))).map (·.2)

/-- The working-area offset of a stage's input: what the first working-area argument of its first entry names. -/
def inputOffset (l : List LayerEntry) : Option Nat :=
  (l.head?).bind (fun e => (e.args.find? (fun a => decide (a / 2 ^ 60 = 3))).map (· % 2 ^ 32))

/-- The node of the stage after this one, and where it takes its input. -/
def nextStage (s : State) (slot : Nat) : Option (Nat × Nat) :=
  let nodes := (stageNodes s slot).dedup
  let after := (nodes.drop ((nodes.findIdx? (· == s.nodeId)).getD 0 + 1)).head?
  let lastHeld := ((heldLayers s slot).getLast?).getD 0
  let rest := (layerTableOf s slot).filter (fun e => decide (e.kind = 2) && decide (lastHeld < e.layer))
  match after, inputOffset rest with
  | some n, some off => some (n, off)
  | _, _ => none

/-- Send activations as WRITE packets of 504 bytes, the last with the end flag and the turn's number. -/
def sendActivations (node a number : Nat) (bs : Bytes) (s : State) : State :=
  let parts := cuts 504 (bs.length / 504 + 2) 0 bs.length
  parts.zipIdx.foldl (fun s p =>
    sendTo s node 8 2 (b2n (decide (p.2 + 1 = parts.length))) (number % 2 ^ 16)
      (leBytes 8 (a + p.1.1) ++ slice bs p.1.1 p.1.2)) s

/-- A stage's part has passed: its activations go to the next stage; poison among them fails the attempt (R359). -/
def handOn (t : Turn) (s : State) : State :=
  match nextStage s t.slot, manifestOf s t.slot with
  | some (n, off), some m =>
    let r := planeRead s (actBase s + off) (t.rows * m.hidden * 2)
    if anyBad r.2 then failAttempt .integrity r.1
    else modTurn (sendActivations n (actBase s + off) t.number (vals r.2) r.1) (fun t => { t with reported := true })
  | _, _ => modTurn s (fun t => { t with reported := true })

/-- The report of a turn that has passed here. -/
def reportLines (s : State) (t : Turn) : List ReportLine :=
  t.batch.zipIdx.map (fun p =>
    let full := ((berthOf s p.1.berth).map (·.full)).getD 0
    ⟨p.1.berth, if full = 0 then 0 else stFull, full, if full = 0 then aget t.drawn p.2 else none, p.1.rows, p.1.position⟩)

/-- Every berth that yields has its token, or is cancelled. -/
def allDrawn (t : Turn) : Bool :=
  t.batch.zipIdx.all (fun p => !p.1.yields || p.1.cancelled || (aget t.drawn p.2).isSome)

/-- What a commit point does here: on one device and at the last stage that is the pilot the turn commits; elsewhere
the pilot is told, or the next stage goes on (R307, R311). -/
def commitHere (t : Turn) (s : State) : State :=
  if !t.cascade then commitTurn t t.drawn s
  else if !lastStage s t.slot then handOn t s
  else if s.ferry.role = .member then
    modTurn (sendReport t.number false (reportLines s t) s) (fun t => { t with reported := true })
  else
    let discards := discardsOf s t.batch
    (otherStages s t.slot).foldl (fun s n => sendCommit n t.slot t.number discards s) (commitTurn t t.drawn s)

/-- COMMIT_POINT (R248): every program has ended, every token is drawn and every check has passed. -/
def execCommitPoint (s : State) : Host.Outcome State Fault Refusal :=
  match s.turn with
  | none => .next s
  | some t =>
    if programsDone s t && decide (t.damaged = []) && (!lastStage s t.slot || allDrawn t) then
      .next (retryStalled (commitHere t s))
    else .next s

/-! ## Abandoned attempts (R350 to R354) -/

/-- Mask batch entries whose berth satisfies a condition, with the detail its request fails with at the next barrier. -/
def maskBatch (p : Berth → Bool) (detail : Nat) (s : State) : State :=
  match s.turn with
  | none => s
  | some t =>
    t.batch.foldl (fun s e =>
      match berthOf s e.berth with
      | some b =>
        if p b ∧ !e.cancelled then
          let s1 := maskRows s e.berth
          if detail = 0 then s1 else setBerth s1 e.berth (fun b => { b with failing := detail })
        else s
      | none => s) s

/-- Drop the cached copy that an address lies in; none where there is no such copy (R352). -/
def dropCachedAt (s : State) (a : Nat) : Option State :=
  (s.tiers.tensors.find? (fun t => !t.rw && ((match t.copy0 with | some b => overlaps a 1 b t.size | none => false)
      || (match t.copy1 with | some b => overlaps a 1 b t.size | none => false)))).map (fun t =>
    match t.copy0 with
    | some b =>
      if overlaps a 1 b t.size then freeLater (setTensor s t.handle (fun t => { t with copy0 := none })) 0 b t.size
      else (match t.copy1 with
        | some c => freeLater (setTensor s t.handle (fun t => { t with copy1 := none })) 1 c t.size
        | none => s)
    | none => (match t.copy1 with
        | some c => freeLater (setTensor s t.handle (fun t => { t with copy1 := none })) 1 c t.size
        | none => s))

/-- The tenant RW tensor that an address lies in. -/
def tenantTensorAt (s : State) (a : Nat) : Option Tensor :=
  s.tiers.tensors.find? (fun t => t.rw && decide (ownerOf t.handle < 64) && overlaps a 1 t.homeAddr t.size)

/-- Mark the image of the turn suspect, with its record (R225, R347), and fail the turn's berths with detail 0x02. -/
def suspectImage (slot a : Nat) (s : State) : State :=
  let s1 := s.error (.plain 0x0D 0xFF 4 a)
  maskBatch (fun _ => true) 2 (countFault (markSuspect s1 slot a) slot)

/-- A source that failed in two attempts is handled (R352). -/
def handleSource (slot : Nat) (s : State) (a : Nat) : State :=
  match dropCachedAt s a with
  | some s1 => s1
  | none =>
    if s.isSecret a ∨ areaOf a = .flash then suspectImage slot a s
    else match committedAt s a with
      | some (sl, n) =>
        let s1 := damageSet (s.error (.plain 0x0C 0xFF 3 a)) sl n
        maskBatch (fun b => decide (b.slot = sl) && b.table.contains (some n)) 0 s1
      | none =>
        match tenantTensorAt s a with
        | some t => maskBatch (fun b => decide (b.tenant = ownerOf t.handle)) 7 s
        | none =>
          if a < workEnd s then s.setTiers { s.tiers with retiredWords := (s.tiers.retiredWords ++ [a / 8 * 8]).dedup } else s

/-- Completion slots kept for a batch go back. -/
def releaseSlots (t : Turn) (s : State) : State :=
  t.batch.foldl (fun s e =>
    if e.slotHeld then (match berthOf s e.berth with | some b => releaseSlot b.ring s | none => s) else s) s

/-- Decks that still run a program of a turn that ends are reset: their buffered stores are discarded and counted
(R208). -/
def stopBusy (t : Turn) (s : State) : State :=
  (List.finRange 16).foldl (fun s k => if t.busy.contains k.val then resetDeck s k else s) s

/-- The turn ends without a commit. -/
def dropTurn (s : State) : State :=
  match s.turn with
  | some t => endTurn t (settleProgram t (releaseSlots t (stopBusy t s)))
  | none => s

/-- The turn has reached its replay limit (R353, R354): its berths fail with detail 0x06; a stage or a member tells
the pilot. -/
def replayLimit (t : Turn) (s : State) : State :=
  let s1 := turnRecords s (fun r => decide (r.outcome = 1)) (fun r => { r with outcome := 3 })
  let s2 := maskBatch (fun _ => true) 6 (countFault (s1.bump 0x2D05 3) t.slot)
  dropTurn (if t.cascade ∧ inPipeline s ∧ s.ferry.role = .member then
      sendReport t.number false (t.batch.map (fun e => ⟨e.berth, stFault, 6, none, 0, e.position⟩)) s2
    else s2)

/-- The attempt starts again from dispatch, with the same batch (R350). -/
def restart (replay : Bool) (s : State) : State :=
  match s.turn with
  | none => s
  | some t =>
    let s1 := t.batch.foldl (fun s e => setBerth s e.berth (fun b => { b with full := 0 })) s
    let s2 : State := { s1 with decks := s1.decks.map (fun d => { d with injected := none, mismatch := none }) }
    modTurn (s2.bumpBy 0x2D05 1 64 1) (fun t => { t with
      attempt := t.attempt + 1, replays := t.replays + b2n replay, next := 0, queued := [], busy := [], routeDue := false
      drawn := [], failing := none, signals := [], routings := [], damaged := []
      sources := (t.sources ++ t.metNow).dedup, metNow := [] })

/-- Replay, unless the limit is reached, no deck is left, or every berth has been masked (R353). -/
def replayOrEnd (s : State) : State :=
  match s.turn with
  | none => s
  | some t =>
    if t.batch.all (·.cancelled) then dropTurn s
    else if s.val 0x2D01 3 ≤ t.replays ∨ (workDecks s t.suspects).isEmpty then replayLimit t s
    else restart true s

/-- A program exception: the first is replayed on another deck; the same again fails the berths and marks the image
suspect; another one makes the first deck's a silent error (R210). -/
def programFailed (t : Turn) (d pc cause : Nat) (s : State) : State :=
  let note (s : State) : State := modTurn s (fun t => { t with
    program := some (d, pc, cause), suspects := if t.suspects.contains d then t.suspects else t.suspects ++ [d] })
  match t.program with
  | none => replayOrEnd (note s)
  | some (d0, pc0, cause0) =>
    if pc0 = pc ∧ cause0 = cause then
      dropTurn (modTurn (suspectImage t.slot 0 s) (fun t => { t with
        program := none, suspects := t.suspects.filter (fun x => !decide (x = d0)) }))
    else replayOrEnd (note (silentError s d0))

/-- A bank still runs the operation that a deck met. -/
def bankRuns (s : State) (bank : Nat) : Bool := (s.flash.banks.any (fun p => decide (p.1 = bank) && !p.2.suspended))

/-- ATTEMPT_ABANDON (R350): once every deck of the layer has ended. A busy outcome waits for its bank and is no
replay. -/
def execAttemptAbandon (s : State) : Host.Outcome State Fault Refusal :=
  match s.turn with
  | none => .next s
  | some t =>
    if t.busy ≠ [] ∨ !s.running then .next s
    else match t.failing with
      | none => .next s
      | some (.busy bank) => if bankRuns s bank then .next s else .next (restart false s)
      | some (.program d pc cause) => .next (programFailed t d pc cause s)
      | some .integrity =>
        let again := t.metNow.filter (fun a => t.sources.contains a)
        .next (replayOrEnd (again.foldl (handleSource t.slot) s))

/-! ## Reporting (R349) -/

/-- ERROR_REPORT_COALESCE: the 100 µs window of error records closes with one message and one IBI; an error found
asleep is reported after the exit. -/
def execErrorReportCoalesce (s : State) : Host.Outcome State Fault Refusal :=
  let awake : Bool := match s.power.state with | .active => true | .ready => true | .offReady => true | _ => false
  if s.integrity.window && awake then
    .next (((s.setIntegrity { s.integrity with window := false }).msix (s.val 0x2D01 1)).ibi 0xD7)
  else .next s

end Sys2Proof.Machine
end

