-- ==== Sys2Proof/Machine/Power.lean ====
section
/-! DEFINITION. Resets, start-up, firmware selection and harbour mode, host resets, tamper, and the state
transitions of the sleep states (03_watch_and_power.md, R81 to R104, R127, R128, R219, R363, R366). -/

namespace Sys2Proof.Machine

/-! ## What a reset clears (R81) -/

/-- What starts a reset that ends in a start-up; the reset causes of the START record. -/
inductive StartCause where
  | powerOn
  | pin
  | cold
  | warm
  | harbour
  | watchdog
  | tamper (src : TamperSource)
  deriving DecidableEq, Repr

/-- Reset cause code (Journal, START). -/
def StartCause.code : StartCause → Nat
  | .powerOn => 1 | .pin => 2 | .cold => 3 | .warm => 4 | .harbour => 5 | .watchdog => 6 | .tamper _ => 7

/-- A warm reset keeps training results where they exist. -/
def StartCause.isWarm : StartCause → Bool
  | .powerOn => false | .pin => false | .cold => false | _ => true

/-- The clock glitch detector has fired, so the memory clocks cannot be trusted (R84). -/
def StartCause.glitched : StartCause → Bool
  | .tamper .clockGlitch => true
  | _ => false

/-- Volatile memory after a reset: the hold, the deck stores and the LPDDR; the secure hold at power-on
alone (Reset types). -/
def resetMem (m : Mem) (secureToo : Bool) : Mem :=
  (((m.clear 0 dualEnd).clear deckBase deckEnd).clear lpddrBase lpddrEnd).clear dualEnd
    (if secureToo then secureEnd else dualEnd)

/-- Stores still buffered in every deck (R84). -/
def storesBuffered (s : State) : Nat := (s.decks.toList.map (fun d => d.store.length)).sum

/-- Drain every deck's store buffer (R66, R84). -/
def drainDecks (s : State) : State := (List.finRange 16).foldl (fun s k => drainAll k s) s

/-- A bank's operation at a reset (R128): a program pulse completes, an erase leaves its sector
indeterminate. -/
def stopBank (s : State) (p : Nat × BankOp) : State :=
  if p.2.erase then
    s.setFlash { s.flash with indeterminate :=
      if s.flash.indeterminate.contains p.2.sector then s.flash.indeterminate
      else s.flash.indeterminate ++ [p.2.sector] }
  else match descOf s p.2.queue p.2.seq with
    | none => s
    | some d =>
      let a := flashBase + d.offset + d.done
      s.setMem (clearMarks (s.mem.setBytes a (slice d.source d.done d.pulse)) a d.pulse)

/-- Sectors a region change has still to clear. -/
def carryChange (s : State) (p : Nat × RegionChange) : Nat × RegionChange :=
  let left := (s.flash.helm.filter (fun d => decide (d.owner = .clearing p.1) && !d.isFinished)).map (fun d => d.rest d.done)
  (p.1, { p.2 with toClear := if p.2.clearing then left else p.2.toClear, clearing := false, after := [] })

/-- Both queues and their completions are lost (R128); accepted region changes go on (R118). What the device itself had
still to write of counters and of the region table is written (DESIGN CHOICE, log 108). -/
def stopFlash (s : State) : State :=
  let s1 := s.flash.banks.foldl stopBank s
  (s1.setFlash { s1.flash with
    changes := s1.flash.changes.map (carryChange s1)
    helm := [], priv := [], backlog := [], unread := [], banks := [], waiting := [] }).ownOperations

/-- The serving plane, the decks and everything else that no reset with a start-up keeps. -/
def clearPlanes (s : State) : State :=
  { s with
    chans := []
    inbox := []
    decks := Vector.replicate 16 (Deck.reset 0)
    serving := Serving.reset
    turn := none
    kv := ⟨[], [], []⟩
    experts := ⟨[], [], [], 0, 0⟩
    ferry := Ferry.reset
    media := Media.reset
    images := { s.images with job := none, swap := none, ask := none, retry := none }
    integrity := { s.integrity with
      log := [], nextSeq := 0, cursor := 0, mode := 0, commands := [], armed := [], window := false, suspects := [] }
    tiers := Tiers.reset s.tiers.fitted s.tiers.rate s.tiers.training s.tiers.ranks }

/-- The custody record after a reset: commands accepted and not begun, the service authorisation (R97) and
a store in progress end; events queued and not written are lost (Corners). A reset that found the clocks stopped is
unclean (R84). -/
def clearCustody (c : Custody) (cause : StartCause) (lost : Nat) (stopped : Bool) : Custody :=
  { c with
    cause := cause.code
    resetPending := none, transition := none, serviceAuth := false, storing := none, helmStopped := false
    storesLost := lost, unclean := decide (0 < lost) || stopped
    repaired := false
    journal := { c.journal with queue := [], lost := [], erasing := false } }

/-- The fabric and memory clocks run as a reset begins (R84): no PLL has lost lock and no glitch was detected. -/
def clocksRun (cause : StartCause) (s : State) : Bool := !cause.glitched && !s.power.pllLost

/-- Everything a reset clears before the start-up (R81, R84, R128). -/
def clearForReset (cause : StartCause) (s : State) : State :=
  let runs := clocksRun cause s
  let s1 := if cause.isWarm && runs then closeAllBlocks (drainDecks s) else s
  let lost := if cause.isWarm then storesBuffered s1 else 0
  let s2 := clearPlanes (stopFlash s1)
  (s2.setMem (resetMem s2.mem (decide (cause = .powerOn)))).setCustody (clearCustody s2.custody cause lost (cause.isWarm && !runs))

/-! ## Counters at start-up (R102 to R104) -/

/-- A sector left indeterminate is erased; a partly programmed word is completed (R102). -/
def CtrSector.mend (c : CtrSector) : CtrSector :=
  if c.indeterminate then CtrSector.blank
  else if c.partialWord then { c with consumed := c.consumed + 1, partialWord := false }
  else c

/-- Every word of a sector has been consumed (R103). -/
def CtrSector.full (c : CtrSector) : Bool := decide (255 ≤ c.consumed)

/-- A full sector gives its value to its twin (R103). -/
def switchFull (c twin : CtrSector) (v : Nat) : CtrSector × CtrSector :=
  if c.full then (CtrSector.blank, ⟨false, .valid v, 0, false⟩) else (c, twin)

/-- A counter as start-up leaves it (R104): the greater of two valid sectors stays and the other is erased,
and a switch that was cut off runs again. -/
def Counter.mend (c : Counter) : Counter :=
  let a := c.a.mend
  let b := c.b.mend
  match a.value, b.value with
  | some x, some y => if y < x ∨ (x = y ∧ b.full) then ⟨a, CtrSector.blank⟩ else ⟨CtrSector.blank, b⟩
  | some x, none => let p := switchFull a b x; ⟨p.1, p.2⟩
  | none, some y => let p := switchFull b a y; ⟨p.2, p.1⟩
  | none, none => ⟨a, b⟩

/-- Both sectors are fully erased. -/
def Counter.isErased (c : Counter) : Bool := c.a.isErased && c.b.isErased

/-- A part whose counters 2 and 5 are fully erased is BLANK: every erased counter gets base 0 (R104). -/
def initCounters (l : List Counter) : List Counter :=
  let erased (n : Nat) : Bool := ((l[n]?).map Counter.isErased).getD false
  if erased 2 && erased 5 then l.map (fun c => if c.isErased then Counter.at 0 else c) else l

/-- The counters after step 4 of a start-up. -/
def startCounters (l : List Counter) : List Counter := initCounters (l.map Counter.mend)

/-- A COUNTER record for each counter that was repaired. -/
def counterRecords (old new : List Counter) (s : State) : State :=
  ((List.range 16).zip (old.zip new)).foldl (fun s p =>
    if p.2.1 = p.2.2 then s
    else s.event 4 0 0 [p.1, p.2.1.value, p.2.2.value]) s

/-- Erase counts after the repair: a sector that was not erased and is has been (R130). -/
def mendWear (old new : List Counter) (wear : List (Nat × Nat)) : List (Nat × Nat) :=
  ((List.range 16).zip (old.zip new)).foldl (fun w p =>
    wearOf (wearOf w (1536 + 2 * p.1) (b2n (p.2.1.a.wiped p.2.2.a))) (1537 + 2 * p.1) (b2n (p.2.1.b.wiped p.2.2.b))) wear

/-- Read and repair the counters (step 4). -/
def mendCounters (s : State) : State :=
  let new := startCounters s.custody.counters
  let s1 := s.setFlash { s.flash with wear := mendWear s.custody.counters new s.flash.wear }
  counterRecords s.custody.counters new (s1.setCustody { s1.custody with
    counters := new, repaired := !decide (new = s.custody.counters) })

/-! ## The calibration row (R89, R129) -/

/-- Whether the calibration row passes its check. -/
def calPasses (s : State) : Bool :=
  let r := s.flash.calRow
  decide (fld r 0 4 = 0x5357_CA1B) && decide (fld r 4 2 = 1)
    && decide (fld r 6 1 = (match s.part.grade with | .t => 1 | .l => 2))
    && decide (fld r 7 1 = s.val 0x1000 4) && decide (fld r 8 8 = s.part.uniqueId)
    && zeroAt r 0x14 12 && zeroAt r 0xC8 8 && zeroAt r 0x220 0xDDC
    && (List.range 16).all (fun d => decide (-4 ≤ calTrim r d) && decide (calTrim r d ≤ 4))
    && decide (fld r 0xFFC 4 = (crc32 (r.take 0xFFC)).toNat)

/-! ## Firmware slots (R90 to R92, R375) -/

/-- First byte of a firmware slot. -/
def slotBase (slot : Nat) : Nat := flashBase + slot * 0x30_0000

/-- An image is empty when its first word is erased (R90). -/
def fwEmpty (s : State) (a : Nat) : Bool := decide (s.mem.bytes a 16 = List.replicate 16 0xFF)

/-- An image's header. -/
def fwHeader (s : State) (a : Nat) : Bytes := s.mem.bytes a 128

/-- Length of an image: header, body and signature. -/
def fwLength (h : Bytes) : Nat := 128 + fld h 28 4 + 64

/-- The fields a header keeps zero: the reserved ones, and in a watch image those marked helm only (a
non-zero one there is DEDUCED to make the header bad, log 42). -/
def fwReserved (h : Bytes) (kind : Nat) : Bool :=
  zeroAt h 22 6 && zeroAt h 64 64 && decide (fld h 5 1 < 2)
    && (decide (kind = 1) || (zeroAt h 5 3 && zeroAt h 18 4))

/-- A header is bad (R90): magic, kind, a reserved field, the length or a poisoned word. -/
def fwBad (s : State) (a kind last : Nat) : Bool :=
  let h := fwHeader s a
  flashBad s.mem a 128 || !decide (fld h 0 4 = 0x5357_4657) || !decide (fld h 4 1 = kind)
    || !fwReserved h kind || decide (last < a + fwLength h)

/-- The signature of an image over its header and body. -/
def fwSigned (s : State) (a : Nat) : Bool :=
  let n := 128 + fld (fwHeader s a) 28 4
  !flashBad s.mem a (n + 64) && signed Config.firmwareKey (s.mem.bytes a n) (s.mem.bytes (a + n) 64)

/-- Where the watch image lies: the first 4 KiB boundary at or after the end of the helm image. -/
def watchPlace (s : State) (slot : Nat) : Nat :=
  slotBase slot + alignUp (fwLength (fwHeader s (slotBase slot))) 4096

/-- The pair of a slot is signed and whole: result 0, or 5 or 1 (R90). -/
def slotForm (s : State) (slot : Nat) : Nat :=
  let a := slotBase slot
  let last := a + 0x30_0000
  if fwEmpty s a then 5
  else if fwBad s a 1 last then 1
  else if fwEmpty s (watchPlace s slot) then 5
  else if fwBad s (watchPlace s slot) 2 last || !fwSigned s a || !fwSigned s (watchPlace s slot) then 1
  else 0

/-- The result of a slot (R90). -/
def slotResult (s : State) (slot : Nat) : Nat :=
  let h := fwHeader s (slotBase slot)
  let w := fwHeader s (watchPlace s slot)
  let stepping := s.val 0x1000 4
  if slotForm s slot ≠ 0 then slotForm s slot
  else if fld h 12 4 < s.counter 0 ∨ fld w 12 4 < s.counter 1 then 2
  else if fld w 16 2 < fld h 16 2 ∨ fld h 18 2 < fld w 16 2 then 3
  else if stepping < fld h 6 1 ∨ (fld h 7 1 < stepping ∧ fld h 5 1 = 0) then 4
  else 0

/-- The slot a start-up runs, with what its headers report (R90, R91). -/
def runSlot (slot : Nat) (s : State) : State :=
  let h := fwHeader s (slotBase slot)
  let w := fwHeader s (watchPlace s slot)
  s.setCustody { s.custody with
    activeSlot := slot
    helmVersion := fld h 8 4, watchVersion := fld w 8 4
    helmSecurity := fld h 12 4, watchSecurity := fld w 12 4
    feature := fld h 20 2, watchAbi := fld w 16 2
    gated := decide (fld h 7 1 < s.val 0x1000 4) }

/-- No firmware pair runs: harbour mode with a cause (R93, R94). -/
def runHarbour (cause : Nat) (s : State) : State :=
  s.setCustody { s.custody with
    harbour := cause, activeSlot := 0xFF
    helmVersion := 0, watchVersion := 0, helmSecurity := 0, watchSecurity := 0
    feature := 0, watchAbi := 0, gated := false }

/-- Slots are tried in order (R90). -/
def chooseFirmware (s : State) : State :=
  let a := slotResult s 0
  let b := slotResult s 1
  if a = 0 then runSlot 0 (s.setCustody { s.custody with harbour := 0, resultA := 0 })
  else if b = 0 then runSlot 1 (s.setCustody { s.custody with harbour := 0, resultA := a, resultB := 0 })
  else runHarbour 1 (s.setCustody { s.custody with resultA := a, resultB := b })

/-- The harbour cause met before the slots are tried, 0 none, in start-up order (R93). -/
def harbourBefore (cause : StartCause) (s : State) : Nat :=
  if !s.flash.calValid then 6
  else if s.custody.counters.any (fun c => c.value?.isNone) then 5
  else if s.lifecycle = .final then 7
  else if bitOf s.custody.straps 6 then 2
  else match cause with
    | .harbour => 3
    | .tamper _ => 4
    | _ => if s.custody.tamperHarbour && !s.board.tamperN then 4 else 0

/-- Choose a firmware pair or harbour mode, and advance the boot count (step 5). -/
def selectFirmware (cause : StartCause) (s : State) : State :=
  let s1 := s.setCustody { s.custody with resultA := 6, resultB := 6, harbour := 0 }
  let early := harbourBefore cause s1
  (if early = 0 then chooseFirmware s1 else runHarbour early s1).advanceCounter 6 1

/-! ## LPDDR training (R142, R143) -/

/-- Rates the LPDDR may be trained at, highest first. -/
def trainingRates : List Nat := [9600, 8533, 7500, 6400]

/-- The fitted configuration is supported (R142). -/
def lpddrSupported (b : Board) : Bool :=
  b.uniform && [8, 16, 32].contains b.lpddrGiB && [1, 2].contains b.ranks

/-- The highest allowed rate at which training passes. -/
def bestRate (s : State) : Option Nat :=
  trainingRates.find? (fun r => decide (r ≤ s.val 0x2400 1) && s.board.passing.contains r)

/-- Training failed with a reason, or did not run. -/
def untrained (reason : Nat) (s : State) : State :=
  s.setTiers { s.tiers with fitted := 0, rate := 0, training := reason, ranks := 0 }

/-- Train the LPDDR; a failure is journalled (R143). -/
def train (s : State) : State :=
  if !lpddrSupported s.board then (untrained 2 s).event 9 0 2 []
  else match bestRate s with
    | none => (untrained 1 s).event 9 0 1 []
    | some r => s.setTiers { s.tiers with fitted := s.board.lpddrGiB, rate := r, training := 0, ranks := s.board.ranks }

/-- Step 7: skipped by a warm reset that finds training results; harbour mode never trains (R94). -/
def trainStep (cause : StartCause) (s : State) : State :=
  if s.inHarbour then untrained 3 s
  else if cause.isWarm && !decide (s.tiers.fitted = 0) then s
  else train s

/-! ## Flash at start-up (R127) -/

/-- Sectors of the counters that an interrupted erase left indeterminate. -/
def counterMarks (s : State) : List Nat :=
  ((List.range 16).zip s.custody.counters).flatMap (fun p =>
    (if p.2.a.indeterminate then [1536 + 2 * p.1] else []) ++ (if p.2.b.indeterminate then [1537 + 2 * p.1] else []))

/-- Every indeterminate sector found is counted and journalled. -/
def countIndeterminate (s : State) : State :=
  (s.flash.indeterminate ++ counterMarks s).foldl (fun s n => (s.bump 0x2240 4).event 8 0 1 [n]) s

/-- Indeterminate sectors of region 2 are erased before their data are used. -/
def mendSystemArea (s : State) : State :=
  (s.flash.indeterminate.filter (fun n => decide (1536 ≤ n) && decide (n ≤ 2047))).foldl
    (fun s n => dropJournalSector (eraseSector s n) n) s

/-- The other indeterminate sectors are erased through the helm queue. -/
def reeraseOthers (s : State) : State :=
  helmErases (s.flash.indeterminate.map (fun n => (n, n))) 0 .reerase s

/-- Clearings go on, and in READY those that failed are tried again (R117). -/
def resumeClearing (s : State) : State :=
  beginAllClearing (s.setFlash { s.flash with changes := s.flash.changes.map (fun p =>
    if s.inHarbour then p else (p.1, { p.2 with toClear := p.2.toClear ++ p.2.failed, failed := [] })) })

/-! ## Images at start-up (R219, R221) -/

/-- State that a failing check of an installed head leaves. -/
def failedState (code : Nat) : ImageState :=
  if code = abFeature then .unsupported else if code = abRollback then .revoked else .broken

/-- State that a head which passes leaves: what was marked damaged stays so (DEDUCED, log 43). -/
def passedState : ImageState → ImageState
  | .suspect => .suspect
  | .broken => .broken
  | _ => .ready

/-- Erase the runs of a slot found INSTALLING or REMOVING. -/
def eraseSlot (slot : Nat) (s : State) : State :=
  let im := imageOf s slot
  match im.head with
  | none => setImage s slot (fun _ => Image.reset)
  | some h => helmErases (h.flashRuns im.bankFirst) 0 (.removal slot) s

/-- Check an installed head again. -/
def recheckHead (slot : Nat) (s : State) : State :=
  let k := keptHead s slot
  match checkHead k.1 k.2 with
  | .ok h =>
    let s1 := setImage k.1 slot (fun im => { im with head := some h, replaced := 0, toReplace := 0, failing := none, faults := 0 })
    let s2 := makeReady s1 slot
    (setImage s2 slot (fun im => { im with st := passedState (imageOf s slot).st })).event 11 0 0 [slot, 0]
  | .error code =>
    (setImage k.1 slot (fun im => { im with st := failedState code, failing := none, faults := 0 })).event 11 0 0 [slot, code]

/-- A slot at start-up: a loaded image is gone with the LPDDR; an installed one is checked again. -/
def restartSlot (s : State) (slot : Nat) : State :=
  let im := imageOf s slot
  if im.tier ≠ 2 then setImage s slot (fun _ => Image.reset)
  else match im.st with
    | .empty => s
    | .installing => eraseSlot slot s
    | .removing => eraseSlot slot s
    | _ => recheckHead slot s

/-- Loaded images are lost whatever starts; installed heads are read by helm firmware, so not in harbour mode. -/
def restartImages (s : State) : State :=
  if s.inHarbour then
    (List.range 8).foldl (fun s i => if (imageOf s i).tier ≠ 2 then setImage s i (fun _ => Image.reset) else s) s
  else (List.range 8).foldl restartSlot s

/-! ## Start-up (R87, R88) -/

/-- Lifecycle code of the newest START record that no LIFECYCLE record follows (R98): after step 4 the transition has
its record. -/
def lastStartLifecycle (j : Journal) : Option Nat :=
  match j.records.reverse.find? (fun r => decide (r.event.cls ≤ 1)) with
  | some r => if r.event.cls = 0 then some (fld r.event.data 3 1) else none
  | none => none

/-- A LIFECYCLE record that a power loss kept from being written is queued late (R98). -/
def lateLifecycle (s : State) : State :=
  match lastStartLifecycle s.custody.journal with
  | none => s
  | some c => if c = s.lifecycle.code then s else s.event 1 1 0 [c, s.lifecycle.code]

/-- A thermal trip or an unclean reset is journalled at the next start-up (R78, Event classes). -/
def lateRecords (s : State) : State :=
  let s1 := if s.power.tripFlag then s.event 5 0 2 [] else s
  if s.custody.unclean then s1.event 5 0 4 [s.custody.storesLost] else s1

/-- Check Mode that the parameters hold, with off replaced where the lifecycle refuses it (R345). -/
def loadMode (s : State) : State :=
  let m := s.val 0x2D00 1
  let refused := decide (m = 2) && (match s.lifecycle with
    | .deployed => true | .service => true | .final => true | _ => false)
  if refused then ((s.setVal 0x2D00 1 0).setIntegrity { s.integrity with mode := 0 }).event 10 0 0x20 [m]
  else s.setIntegrity { s.integrity with mode := m }

/-- The clocks and the link after a start-up: a command, the watchdog and tamper leave the link as it was; a
power-on or pin reset leaves it down (log 4). -/
def powerUp (cause : StartCause) (s : State) : State :=
  let p := s.power
  let fresh := decide (cause = .powerOn) || decide (cause = .pin)
  let base := { Power.reset (s.val 0x2020 1) with readings := p.readings, avg1s := p.avg1s, avg10ms := p.avg10ms }
  s.setPower (if fresh then { base with link := .down, fllLocked := p.fllLocked && decide (cause = .pin) }
    else { base with
      link := p.link, dState := p.dState, aspmL1 := p.aspmL1, aspmL12 := p.aspmL12,
      completionMs := p.completionMs, fllLocked := p.fllLocked })

/-- Power the decks at the requested point, or keep them off in harbour mode (R94, R76). -/
def startDecks (s : State) : State := if s.inHarbour then unpowerDecks s else powerDecks s

/-- RAIL_EN is high after a start-up (R363). -/
def startPins (old : Power) (s : State) : State := if old.railEn then s else s.emit (.railEn true)

/-- What is queued after READY or harbour mode has been reached: flash work that waited, and the images. -/
def afterReady (s : State) : State :=
  resumeClearing (if s.inHarbour then restartImages s else reeraseOthers (restartImages s))

/-- Start-up after everything has been cleared, in the order of the start-up table. `note` queues the record
of what caused the reset. -/
def startUp (cause : StartCause) (note : State → State) (s : State) : State :=
  let old := s.power
  let s0 := loadParameters s
  let s1 := s0.setFerry { s0.ferry with layout := s0.val 0x2B01 0 }
  let s2 := s1.setFlash { s1.flash with calValid := calPasses s1 }
  let s3 := mendSystemArea (countIndeterminate s2)
  let s4 := scanJournal (trainStep cause (selectFirmware cause (mendCounters s3)))
  let s5 := startRecord (lateRecords (lateLifecycle (note s4)))
  let s6 := s5.setCustody { s5.custody with planned := false, unclean := false }
  afterReady (startPins old (startDecks (powerUp cause (loadMode s6))))

/-- A reset with its start-up, from a part whose rails are up. -/
def resetStart (cause : StartCause) (note : State → State) (s : State) : State :=
  startUp cause note (clearForReset cause s)

/-! ## Resets (R81 to R87) -/

/-- The part is held in reset with everything of a reset cleared; the start-up waits for RST_N. -/
def holdReset (cause : StartCause) (s : State) : State :=
  let s1 := clearForReset cause s
  let s2 : State := { s1 with
    board := { s1.board with rstN := false }
    images := { s1.images with slots := s1.images.slots.map (fun im => if im.tier = 2 then im else Image.reset) } }
  s2.setPower { Power.reset s.power.point with
    state := .held, link := .down, refclk := false, fllLocked := s.power.fllLocked && !decide (cause = .powerOn)
    tripFlag := s.power.tripFlag, railEn := s.power.railEn, readings := s.power.readings }

/-- POWER_ON_RESET (R81, R82): the rails rise; it completes at the first rising edge of RST_N. -/
def execPowerOnReset (s : State) : Host.Outcome State Fault Refusal :=
  match s.power.state with
  | .off =>
    let h := holdReset .powerOn s
    .next { h with board := { h.board with swPgood := true } }
  | _ => .next s

/-- RST_N_ASSERT (R82): a pin reset; a power-on reset that has not completed stays one. -/
def execRstNAssert (s : State) : Host.Outcome State Fault Refusal :=
  match s.power.state with
  | .off => .next { s with board := { s.board with rstN := false } }
  | .held => .next { s with board := { s.board with rstN := false } }
  | _ =>
    let h := holdReset .pin s
    .next (if s.power.tripped then h.emit (.thermtripN true) else h)

/-- The strap value sampled at the rising edge of RST_N (0x2104:01; R82). -/
def strapValue (b : Board) : Nat := b2n b.pilot + 2 * (b.nodeId % 8) + 16 * (b.i3cAddr % 4) + 64 * b2n b.bootSel

/-- The straps are sampled at the rising edge of RST_N and the start-up runs (R82, R87). -/
def leaveReset (s : State) : State :=
  startUp (if s.custody.cause = 1 then .powerOn else .pin) id { s with
    board := { s.board with rstN := true }
    custody := { s.custody with straps := strapValue s.board } }

/-- The reset an accepted command starts. -/
def ResetCommand.cause : ResetCommand → StartCause
  | .warm => .warm | .cold => .cold | .harbour => .harbour

/-- A reset that the device starts by itself: not in reset or without rails, and not after a thermal trip,
which RST_N or power removal alone ends (R78). -/
def resetsItself (s : State) : Bool := !isDown s && !s.power.tripped

/-- RESET_DELAY (R83): the reset of an accepted command begins. -/
def execResetDelay (s : State) : Host.Outcome State Fault Refusal :=
  match s.custody.resetPending with
  | some c => if resetsItself s then .next (resetStart c.cause id s) else .next s
  | none => .next s

/-- HELM_WATCHDOG (R86): a warm reset with cause 0x06, reported as a HELM error. -/
def execHelmWatchdog (s : State) : Host.Outcome State Fault Refusal :=
  if !resetsItself s then .next s
  else .next (resetStart .watchdog (fun s => s.error (ErrorFacts.plain 0x0E 0 5 0)) s)

/-! ## Host reset (R85) -/

/-- Channels of the mailboxes lose transfers, stored responses and latched requests. -/
def dropMailboxes (l : List (Channel × Chan)) : List (Channel × Chan) :=
  l.map (fun p => match p.1 with
    | .side => p
    | .fwd => p
    | _ => (p.1, { Chan.reset with selects := p.2.selects, request := p.2.request, response := p.2.response }))

/-- A frame that a mailbox forwarded is answered no more. -/
def keepsForward (f : Forward) : Bool := match f.origin with | .side => true | .fwd => true | _ => false

/-- The link and the configuration space after a host reset: link down, the host's settings gone. -/
def hostLink (p : Power) : Power :=
  { p with link := .down, dState := .d0, aspmL1 := false, aspmL12 := false, completionMs := 50, l1Asked := false }

/-- The serving plane is cleared (R85): every berth goes with its KV pages and without a completion; contexts,
camera channels and buffers go (R338); pending base words and window entries go (R138, R149); a pilot clears
its berths at the members (R309). -/
def clearServing (s : State) : State :=
  let s1 := s.serving.berths.foldl freeBerth s
  let s2 := if s1.ferry.role = .pilot then
      ((joinedNodes s1).filter (fun n => !decide (n = s1.nodeId))).foldl sendClear s1 else s1
  let s3 := closeAllBlocks s2
  let s4 : State := { s3 with
    serving := Serving.reset
    media := { Media.reset with posted := s3.media.posted }
    ferry := { s3.ferry with lost := [] }
    tiers := { s3.tiers with pendingBase := [], windows := [], inbound := [] } }
  ((dropBuffers s4).setVal 0x1002 2 0).event 5 0 3 []

/-! ## Tamper (R100) -/

/-- Code of a tamper source (0x2112:03). -/
def tamperCode : TamperSource → Nat
  | .pin => 1 | .voltageGlitch => 2 | .clockGlitch => 3

/-- Whether an event counts: TAMPER_N counts on each new assertion. -/
def tamperCounts (src : TamperSource) (s : State) : Bool :=
  match s.power.state, src with
  | .off, _ => false
  | _, .pin => s.board.tamperN
  | _, _ => true

/-- The pin is low from the event on. -/
def tamperPin (src : TamperSource) (s : State) : State :=
  match src with
  | .pin => { s with board := { s.board with tamperN := false } }
  | _ => s

/-- The record of a tamper event. -/
def tamperRecord (src : TamperSource) (s : State) : State := s.event 2 0 0 [tamperCode src]

/-- The secure hold is wiped, counter 7 advances and the source is kept. -/
def tamperMark (src : TamperSource) (s : State) : State :=
  let s1 := (wipeSecure s).advanceCounter 7 1
  s1.setCustody { s1.custody with lastTamper := tamperCode src }

/-! ## OFF_READY and OFF (R66, R363, R366) -/

/-- Preparation is done: the device reports OFF_READY and RAIL_EN goes low. -/
def reportOffReady (s : State) : State :=
  ((s.setPower { s.power with state := .offReady, entering := none, command := none, railEn := false }).ibi 0xD4).emit
    (.railEn false)

/-- OFF_PREPARE_DONE (R66): the ferry links, which run at full rate in ACTIVE and READY alone (R296), drop; stores drained, mover idle, the journal queue emptied with the planned power-down
record last. -/
def execOffPrepareDone (s : State) : Host.Outcome State Fault Refusal :=
  match s.power.entering with
  | some .offReady =>
    if s.turn.isSome || !moverIdle s then .next s
    else
      let s1 := ferryToSlow (closeAllBlocks (drainDecks s))
      let s2 := if s1.custody.planned then s1
        else (s1.event 5 0 1 []).setCustody { (s1.event 5 0 1 []).custody with planned := true }
      let s3 := flushJournal 256 s2
      if s3.custody.journal.queue = [] then .next (dropBuffers (reportOffReady s3)) else .next s3
  | _ => .next s

/-- A record that was being written is cut off (R105): after the commit word it exists, after a data word its slot holds
words and no record, before them nothing has happened. How far it had come is a free value. -/
def cutRecord (s : State) : State :=
  let j := s.custody.journal
  if j.queue = [] || j.erasing || !j.slotFree j.slot then s
  else
    match Config.recordWords s.draws with
    | 0 => s.draw
    | 4 => (s.setJournal (j.write (s.counter 6))).draw
    | _ => (s.setJournal { j with torn := j.torn ++ [j.slot] }).draw

/-- Whether a non-volatile change under way had taken hold when power went (R51): a free value. -/
def settleStore (s : State) : State :=
  match s.custody.storing with
  | none => s
  | some (_, c) => if Config.tookHold s.draws then (finishStore s c true).draw else s.draw

/-- A word being programmed as power goes: untouched, complete, or partly programmed, which reads as poison (R128).
`old` is memory before the pulse. -/
def cutWord (old : Mem) (draw a i : Nat) (m : Mem) : Mem :=
  let w := a + 16 * i
  match Config.cutWord draw i with
  | 0 => (m.setBytes w (old.bytes w 16)).setMark w (old.mark w)
  | 1 => m
  | _ => m.setMark w (some .poison)

/-- The pulse of a bank as power goes. -/
def cutPulse (old : Mem) (s : State) (p : Nat × BankOp) : State :=
  if p.2.erase then s
  else match descOf s p.2.queue p.2.seq with
    | none => s
    | some d =>
      let a := flashBase + d.offset + d.done
      (s.setMem ((List.range (d.pulse / 16)).foldl (fun m i => cutWord old s.draws a i m) s.mem)).draw

/-- The rails are gone: everything volatile is lost. -/
def powerOff (s : State) : State :=
  let s1 := clearForReset .powerOn s
  let s2 : State := { s1 with
    obj := []
    board := { s1.board with swPgood := false }
    images := { s1.images with slots := s1.images.slots.map (fun im => if im.tier = 2 then im else Image.reset) }
    custody := { s1.custody with unclean := false }
    tiers := Tiers.reset 0 0 0 0 }
  (unpowerDecks s2).setPower { Power.reset 0 with
    state := .off, link := .down, refclk := false, fllLocked := false, railEn := false, tripFlag := s.power.tripFlag }

/-- POWER_LOSS (R84, R128, R366): a brown-out; what was being written holds a free value. -/
def execPowerLoss (s : State) : Host.Outcome State Fault Refusal :=
  match s.power.state with
  | .off => .next s
  | _ =>
    let s1 := cutRecord (settleStore s)
    let stopped := powerOff s1
    let s2 := s1.flash.banks.foldl (cutPulse s1.mem) { stopped with flash := s1.flash }
    let s3 := s2.setFlash { stopped.flash with indeterminate := stopped.flash.indeterminate }
    .next (s3.setCustody { s3.custody with planned := false })

/-- RAILS_REMOVED (R366): a planned removal, from OFF_READY alone. -/
def execRailsRemoved (s : State) : Host.Outcome State Fault Refusal :=
  match s.power.state with
  | .offReady => .next (powerOff s)
  | _ => .next s

/-! ## DOZE (R18, R60, R61, R64, R65) -/

/-- A video context is open and not paused, or a camera channel is enabled (R61). -/
def mediaAwake (s : State) : Bool :=
  s.media.contexts.any (fun p => decide (p.2.st = .opened))
    || s.media.cameras.any (fun c => bitOf (fld c.record 3 1) 0)

/-- Every store buffer has drained. -/
def storesDrained (s : State) : Bool := s.decks.toList.all (fun d => d.store.isEmpty)

/-- Sleep asked for by command, or by a timeout that the policy lets act. -/
def dozeAsked (s : State) : Bool :=
  (match s.power.command with | some .dozeNow => true | some .watchNow => true | _ => false)
    || (s.power.dozeDue && timeoutsApply s)

/-- What holds whenever the device goes below READY: the watch FLL has locked (R87), the LPDDR is trained
(R143), the device runs and no reset command waits. -/
def mayLeaveReady (s : State) : Bool :=
  s.running && s.power.fllLocked && !decide (s.tiers.fitted = 0) && s.power.entering.isNone && s.power.exiting.isNone
    && s.custody.transition.isNone && !s.serving.clearDue

/-- DOZE entry may start at this barrier (R18). -/
def dozeAllowed (s : State) : Bool :=
  decide (s.power.state = .ready) && mayLeaveReady s && dozeAsked s && s.turn.isNone && !anyRunnable s
    && storesDrained s && moverIdle s && !mediaAwake s

/-- DOZE_ENTRY (R18): entry starts; open blocks are closed and decoded blocks dropped first (R145, R182). -/
def execDozeEntry (s : State) : Host.Outcome State Fault Refusal :=
  if dozeAllowed s then
    let s1 := dropBuffers (closeAllBlocks s)
    .next (s1.setPower { s1.power with entering := some .doze })
  else .next s

/-- The device asks for L1 if the host has enabled it (R67). -/
def askL1 (s : State) : State :=
  if s.power.aspmL1 && decide (s.power.link = .l0) then
    (s.setPower { s.power with l1Asked := true }).emit .l1Request
  else s

/-- DOZE_ENTRY_DONE (DOZE entry, step 5). -/
def execDozeEntryDone (s : State) : Host.Outcome State Fault Refusal :=
  match s.power.entering with
  | some .doze =>
    let s1 := ferryToSlow (clearDeckStores (unpowerDecks s))
    let s2 := s1.setPower { s1.power with
      state := .doze, entering := none, dozeDue := false, watchDue := false, readyDue := false
      command := (match s1.power.command with | some .dozeNow => none | c => c) }
    .next (askL1 s2)
  | _ => .next s

/-- Back in READY (DOZE exit, WATCH exit): decks powered, ferry links retrain. -/
def enterReady (s : State) : State :=
  let s1 := ferryRetrain s
  powerDecks (s1.setPower { s1.power with
    state := .ready, exiting := none, latched := 0, dozeDue := false, watchDue := false, readyDue := false
    refclk := true })

/-! ## WATCH (R55, R56, R58, R59, R62, R63, R67) -/

/-- The link state permits WATCH (R67). -/
def linkSleeps (p : Power) : Bool :=
  decide (p.link = .l12) || ((decide (p.link = .l2) || decide (p.link = .l3)) && decide (p.dState = .d3cold))

/-- WATCH asked for by command, or by a timeout that the policy lets act. -/
def watchAsked (s : State) : Bool :=
  decide (s.power.command = some .watchNow) || (s.power.watchDue && timeoutsApply s && !decide (s.val 0x2002 3 = 0))

/-- No segmented transfer is open on any channel (R61). -/
def noTransfer (s : State) : Bool := s.chans.all (fun p => p.2.xfer.isNone)

/-- RW tensors homed in tier 0. -/
def nearHomes (s : State) : List Tensor := s.tiers.tensors.filter (fun t => t.rw && decide (t.home = 0))

/-- Move them to tier 1, each within its owner's quota (R59): none where one cannot move. -/
def moveDownAll : List Tensor → State → Option State
  | [], s => some s
  | t :: r, s =>
    if shortfall s 1 (ownerOf t.handle) (t.size / 1024) ≠ 0 then none
    else
      let m := rehome s t.handle 1
      if m.2 then moveDownAll r (m.1.setPower { m.1.power with movedDown := t.handle :: m.1.power.movedDown })
      else none

/-- Drop every cached tier-0 copy of an RO tensor; those of NEAR_PIN are fetched again (R59). -/
def dropNearCopies (s : State) : State :=
  let l := s.tiers.tensors.filter (fun t => !t.rw && t.copy0.isSome)
  let s1 := l.foldl (fun s t => freePlace s (0, t.copy0.getD 0, t.size)) s
  let s2 := s1.setTiers { s1.tiers with tensors := s1.tiers.tensors.map (fun t =>
    if t.rw then t else { t with copy0 := none }) }
  s2.setPower { s2.power with refetch := (l.filter (·.nearPin)).map (·.handle) ++ s2.power.refetch }

/-- Every buffer of every paused context lies in the tier-1 pool (R339). -/
def pausedInTier1 (s : State) : Bool :=
  s.media.buffers.all (fun b =>
    match aget s.media.contexts b.2.owner with
    | some c => decide (c.st ≠ .paused) || (decide (lpddrBase ≤ b.2.luma) && decide (lpddrBase ≤ b.2.chroma))
    | none => true)

/-- What DOZE must meet for WATCH entry. -/
def watchReady (s : State) : Bool :=
  decide (s.power.state = .doze) && s.power.entering.isNone && s.power.exiting.isNone && s.power.fllLocked
    && watchAsked s && linkSleeps s.power && noTransfer s && pausedInTier1 s

/-- WATCH_ENTRY (R59): the moves and drops; an entry that a quota stops leaves the device in DOZE. Moves that had landed
take effect first, since tier 0 loses its contents; the blocks the moves open are closed before WATCH (R145). -/
def execWatchEntry (s : State) : Host.Outcome State Fault Refusal :=
  if watchReady s then
    let s0 := landAll s
    match moveDownAll (nearHomes s0) s0 with
    | none => .next s
    | some s1 =>
      let s2 := dropBuffers (closeAllBlocks (dropNearCopies s1))
      .next (s2.setPower { s2.power with entering := some .watch })
  else .next s

/-- The berth whose held-output deadline is the earliest (R74): its oldest record not yet reported was staged
first. -/
def earliestDeadline (s : State) : Option Nat :=
  if s.val 0x2011 2 = 0 then none
  else ((s.serving.berths.filter (fun b => decide (0 < b.unreported))).foldl (fun (o : Option Berth) b =>
    match o with
    | none => some b
    | some x => if b.stagedAt < x.stagedAt then some b else some x) none).map (·.num)

/-- WATCH_ENTRY_DONE (WATCH entry, step 5; R363): the deadline timer is armed, the switched rails go, and
with them what R58 does not save; Watch Fast and SLOWCLK Source take effect (R55, R56). -/
def execWatchEntryDone (s : State) : Host.Outcome State Fault Refusal :=
  match s.power.entering with
  | some .watch =>
    let fast := decide (s.val 0x2003 1 = 1)
    let s1 := s.setMem (s.mem.clear 0 dualEnd)
    let s2 := s1.setPower { s1.power with
      state := .watch, entering := none, command := none, watchDue := false
      watchFast := fast, slowInput := decide (s.val 0x2003 2 = 1), refclk := fast
      deadline := earliestDeadline s, railEn := false }
    .next ({ s2 with board := { s2.board with swPgood := false } }.emit (.railEn false))
  | _ => .next s

/-! ## What time alone does (log 15) -/

/-- A running deck errs silently: what an injected fault of the class would show shows there (R340, R342, R344). -/
def silentFault (cls : Nat) (s : State) : State :=
  let p := Config.mishapPlace s.draws
  let d := s.decks.get p.1
  if d.status = .running ∧ d.injected.isNone then s.setDeck p.1 { d with injected := some (cls, p.2.val, false) } else s

/-- What may go wrong inside the device between commands, by a free value: the helm firmware stops (R86), a PLL loses lock
(R84), the next LPDDR link transfer is disturbed (R146), or a deck errs silently: an array's residue (R340) or the parity
of a register (R342). -/
def mishap (s : State) : State :=
  match Config.mishap s.draws with
  | 1 => (s.setCustody { s.custody with helmStopped := true }).draw
  | 2 => (s.setPower { s.power with pllLost := true }).draw
  | 3 => (s.setTiers { s.tiers with linkNext := .corrected }).draw
  | 4 => (s.setTiers { s.tiers with linkNext := .failedTwice }).draw
  | 5 => (silentFault 1 s).draw
  | 6 => (silentFault 3 s).draw
  | _ => s.draw

/-- Time passes with no command to serve: the Minimum Progress of resumed erases is made (R112), and something may go
wrong. A device that does not run stays as it is. -/
def tick (s : State) : State := if s.serves then mishap (passProgress s) else s

end Sys2Proof.Machine
end

