-- ==== Sys2Proof/Machine/Barrier.lean ====
section
/-! DEFINITION. The turn barrier (R17): what waits for it takes effect, and the next batch is formed
(R15, R77, R85, R98, R225, R230, R244 to R246, R255, R270, R311, R316, R345, R355 to R358). -/

namespace Sys2Proof.Machine

/-! ## Requests that end at a barrier -/

/-- A berth's request ends at a barrier. A pilot's request that a member runs is reported to the pilot
(log 35). -/
def endAtBarrier (status detail : Nat) (s : State) (b : Berth) : State :=
  let s1 := finishNow s b status detail 0
  if b.ring < 65536 then s1 else sendReport 0 true [⟨b.num, status, detail, none, 0, b.position⟩] s1

/-- Live berths of this device that satisfy a condition, in the order of admission (a berth placed on a member
is ended by that member). -/
def liveHere (s : State) (p : Berth → Bool) : List Berth :=
  s.serving.berths.filter (fun b => b.live && decide (b.node = 0) && p b)

/-- End every live berth of this device that satisfies a condition. -/
def endAll (p : Berth → Bool) (status : Nat) (detail : Berth → Nat) (s : State) : State :=
  (liveHere s p).foldl (fun s b => endAtBarrier status (detail b) s b) s

/-- A berth loses its sets and is prefilled again from its prompt and its committed tokens (R230, R270). A parked
one does so without a request. -/
def refill (s : State) (b : Berth) : State :=
  setBerth (dropSets s b) b.num (fun b => { b with
    position := 0, promptEnd := b.tokens.length, table := [], taken := [], full := 0, st := .ready })

/-- Parked berths of this device that satisfy a condition: those with auto_replay are prefilled again, the others
are freed. -/
def resettle (p : Berth → Bool) (s : State) : State :=
  (s.serving.berths.filter (fun b => decide (b.st = .parked) && decide (b.node = 0) && p b)).foldl
    (fun s b => if b.autoReplay then refill s b else freeBerth s b) s

/-! ## What takes effect, in order (log 44) -/

/-- Requests lost with a node complete LINK_LOST (R316). -/
def endLost (s : State) : State :=
  let s1 := s.ferry.lost.foldl (fun s n =>
    match berthOf s n with
    | some b => if b.live then finishNow s b stLinkLost 0 0 else s
    | none => s) s
  s1.setFerry { s1.ferry with lost := [] }

/-- Live berths of an image that failed or was revoked complete FAULT (R225, R227, R231). -/
def endImage (s : State) (slot : Nat) : State :=
  match (imageOf s slot).failing with
  | none => s
  | some detail =>
    setImage (endAll (fun b => decide (b.slot = slot)) stFault (fun _ => detail) s) slot (fun im => { im with failing := none })

/-- Every image's. -/
def endImages (s : State) : State := (List.range 8).foldl endImage s

/-- Berths that a turn left failing complete FAULT with their detail. -/
def endFailing (s : State) : State := endAll (fun b => decide (b.failing ≠ 0)) stFault (·.failing) s

/-- A berth maps a damaged set. -/
def mapsDamaged (s : State) (b : Berth) : Bool :=
  b.table.any (fun o => match o with
    | some n => decide ((kvSet s b.slot n).st = .damaged)
    | none => false)

/-- Berths that map a damaged set: auto_replay refills, the others complete FAULT with detail 0x05 (R270). -/
def settleDamaged (s : State) : State :=
  let hit := mapsDamaged s
  let s1 := resettle hit (endAll (fun b => !b.autoReplay && hit b) stFault (fun _ => 5) s)
  (liveHere s1 (fun b => b.autoReplay && hit b)).foldl refill s1

/-- The first barrier of a swap that is not KV-compatible (R230). A berth that is kept keeps the publish version it was
admitted with (R277). -/
def firstSwapBarrier (s : State) : State :=
  match s.images.swap with
  | none => s
  | some j =>
    if j.phase = .staged ∧ j.replaced = 0 ∧ j.head.man.kvCompatible = false then
      let mine : Berth → Bool := fun b => decide (b.slot = j.slot)
      let s1 := resettle mine (endAll (fun b => !b.autoReplay && mine b) stVersion (fun _ => 0) s)
      let s2 := (liveHere s1 (fun b => b.autoReplay && mine b)).foldl refill s1
      withdrawSlot s2 j.slot
    else s

/-- With no deck left in service, every berth that could run completes FAULT with detail 0x06. -/
def endWithoutDecks (s : State) : State :=
  if noDecks s then endAll (canRun s) stFault (fun _ => 6) s else s

/-- Berths that have completed release their sets, and are freed once their staged records have gone (R255, R72). -/
def reclaim (s : State) : State :=
  (s.serving.berths.filter (fun b => decide (b.st = .closing) && b.finished)).foldl
    (fun s b => if b.staging.isEmpty then freeBerth s b else dropSets s b) s

/-- Decks that a suspect deck is stepped with: its pair in paired mode (R355). -/
def steppedWith (s : State) (d : Nat) : List Nat :=
  if s.integrity.mode = 1 then [d / 2 * 2, d / 2 * 2 + 1] else [d]

/-- Suspect decks are stepped, margin commands and the check mode take effect, and decks are powered accordingly
(R345, R355 to R358). -/
def marginsAtBarrier (s : State) : State :=
  let s1 := ((s.integrity.suspects.flatMap (steppedWith s)).dedup).foldl stepDeck s
  let s2 := s1.integrity.commands.foldl applyMargin s1
  let s3 := s2.setIntegrity { s2.integrity with suspects := [], commands := [], mode := s2.val 0x2D00 1 }
  if s.integrity.suspects.isEmpty && s.integrity.commands.isEmpty && decide (s3.integrity.mode = s.integrity.mode) then s3
  else powerDecks (drainDecks s3)

/-- Throttling steps, the end of an emergency and the operating point (R77 to R80). -/
def powerAtBarrier (s : State) : State := pointAtBarrier (emergencyExit (throttleStep s))

/-- Try each handle in turn: those that cannot be served yet stay. -/
def tryEach (act : State → Nat → State × Bool) (l : List Nat) (s : State) : State × List Nat :=
  l.foldl (fun (p : State × List Nat) h =>
    let m := act p.1 h
    (m.1, if m.2 then p.2 else p.2 ++ [h])) (s, [])

/-- The copies pinned near are fetched again (R59). One that finds no place is tried again at the next barrier. -/
def copiesBack (s : State) : State :=
  let r := tryEach refetchCopy s.power.refetch s
  r.1.setPower { r.1.power with refetch := r.2 }

/-- RW tensors moved down for WATCH come back, and the copies pinned near are fetched again (R59). -/
def tensorsBack (s : State) : State :=
  let r := tryEach (fun s h => rehome s h 0) s.power.movedDown s
  copiesBack (r.1.setPower { r.1.power with movedDown := r.2 })

/-- The layout written to 0x2B01 is in force from the barrier on (R17, R306); a change leaves no stage's tables known. -/
def layoutAtBarrier (s : State) : State :=
  if s.ferry.layout = s.val 0x2B01 0 then s
  else s.setFerry { s.ferry with layout := s.val 0x2B01 0, told := [] }

/-- Everything that takes effect at a barrier. -/
def barrierEffects (s : State) : State :=
  let s1 := layoutAtBarrier (if s.serving.clearDue then clearServing s else s)
  let s2 := firstSwapBarrier (settleDamaged (endFailing (endImages (revokeImages (endLost s1)))))
  let s3 := powerAtBarrier (marginsAtBarrier (reclaim s2))
  let s4 := deckResets (expertsBarrier (tensorsBack (tierBarrier s3)))
  let r := swapAtBarrier (endWithoutDecks s4)
  r.1.setServing { r.1.serving with held := r.2 || r.1.power.raising.isSome || refetchWaits r.1 }

/-! ## Forming the batch (R15, R246, R311) -/

/-- Word of a batch table for a page-table entry: the set, valid, newly taken, open. -/
def tableWord (s : State) (b : Berth) (o : Option Nat) : Bytes :=
  match o with
  | none => leBytes 4 0
  | some n => leBytes 4 (n + 2 ^ 31 + 2 ^ 30 * b2n (b.taken.contains n)
      + 2 ^ 29 * b2n (decide ((kvSet s b.slot n).st = .opened)))

/-- A berth's entry of a batch table sent to a stage (log 35). -/
def stageEntry (s : State) (e : BatchEntry) : Bytes :=
  match berthOf s e.berth with
  | none => []
  | some b =>
    leBytes 2 e.berth ++ leBytes 1 (b2n e.prefill + 2 * b2n e.yields) ++ leBytes 1 b.full ++ leBytes 4 e.position
      ++ leBytes 2 e.rows ++ leBytes 2 e.firstRow ++ leBytes 4 b.topK ++ leBytes 4 b.topP ++ leBytes 4 b.temperature.toNat
      ++ leBytes 8 b.seed ++ leBytes 4 b.table.length ++ b.table.flatMap (tableWord s b)

/-- The batch table sent to a stage, with what has changed in the slot's KV tables (R311, log 35). -/
def stageTable (s : State) (t : Turn) (kv : Bytes) : Bytes :=
  leBytes 4 t.number ++ leBytes 1 t.slot ++ leBytes 1 0 ++ leBytes 2 t.batch.length ++ leBytes 4 kv.length ++ kv
    ++ t.batch.flatMap (stageEntry s)

/-- The pilot of a pipeline takes the sets the rows will need and tells every stage (R311). -/
def pipelineStart (m : Manifest) (t : Turn) (s : State) : State :=
  let s1 := t.batch.foldl markLimit (t.batch.foldl (takeAhead m) s)
  let s2 := (otherStages s1 t.slot).foldl (fun s n =>
    let k := tellTables s n t.slot
    sendMessage k.1 n 6 0 (stageTable k.1 t k.2)) s1
  let mine := (stageNodes s2 t.slot).contains s2.nodeId
  { s2 with turn := some { t with cascade := true, inputs := firstStage s2 t.slot, reported := !mine } }

/-- Ring of a berth that the pilot placed: no ring of this device. -/
def placedRing (num : Nat) : Nat := 0x10000 + num

/-- A set newly taken, as a page-table word of a batch table says, is zero at this stage too (R266). -/
def takeWord (slot : Nat) (s : State) (w : Nat) : State :=
  if bitOf w 31 && bitOf w 30 then zeroRange s (setAddr s slot (w % 2 ^ 29)) (setBytes s slot) else s

/-- Set numbers of the words of a table. -/
def wordSets (l : List Nat) : List (Option Nat) := l.map (fun w => if bitOf w 31 then some (w % 2 ^ 29) else none)

/-- An entry of a batch table: the batch entry and the shadow berth it stands for; masked where its cancel has come. -/
def stageBerth (s : State) (slot : Nat) (cancels : List Nat) (b : Bytes) (words : List Nat) : BatchEntry × Berth :=
  let num := fld b 0 2
  let fresh := newBerth s num 0 slot (placedRing num) 0 0 [] []
  ({ berth := num, position := fld b 4 4, rows := fld b 8 2, firstRow := fld b 10 2, prefill := bitOf (fld b 2 1) 0
     yields := bitOf (fld b 2 1) 1, cancelled := cancels.contains num, slotHeld := false },
   { fresh with
     position := fld b 4 4, promptEnd := fld b 4 4 + fld b 8 2, topK := fld b 12 4, topP := fld b 16 4
     temperature := BitVec.ofNat 32 (fld b 20 4), seed := fld b 24 8, full := fld b 3 1
     table := wordSets words
     taken := (words.filter (fun w => bitOf w 31 && bitOf w 30)).map (· % 2 ^ 29) })

/-- The entries of a batch table from an offset on, with their words. -/
def tableEntries : Nat → Bytes → List (Bytes × List Nat)
  | 0, _ => []
  | n + 1, b =>
    let k := fld b 32 4
    (slice b 0 36, (List.range k).map (fun i => fld b (36 + 4 * i) 4)) :: tableEntries n (b.drop (36 + 4 * k))

/-- The turn of a batch table starts at this stage; the berths of an earlier one go. -/
def startStage (m : Bytes) (cancels : List Nat) (s : State) : State :=
  let number := fld m 0 4
  let slot := fld m 4 1
  let kv := fld m 8 4
  let s1 := s.setServing { s.serving with berths := s.serving.berths.filter (fun b => decide (b.ring < 65536)) }
  let l := tableEntries (fld m 6 2) (m.drop (12 + kv))
  let made := l.map (fun p => stageBerth s1 slot cancels p.1 p.2)
  let batch := made.map (·.1)
  match entrance s1 slot with
  | .refused _ _ => sendReport number false (batch.map (fun e => ⟨e.berth, stFault, 6, none, 0, e.position⟩)) s1
  | _ =>
    let s2 := l.foldl (fun s p => p.2.foldl (takeWord slot) s) (takeTables slot (slice m 12 kv) s1)
    let s3 := goActive ((s2.setServing { s2.serving with berths := s2.serving.berths ++ made.map (·.2) }).bumpBy 0x2806 1 64 1)
    { s3 with turn := some (newTurn slot number batch ((batch.map (·.rows)).sum) true (firstStage s3 slot)) }

/-- A stage starts the turn whose batch table waits (R311). -/
def startWaiting (s : State) : State :=
  match s.ferry.batch with
  | some (m, cancels) => startStage m cancels (s.setFerry { s.ferry with batch := none })
  | none => s

/-- A turn starts: it is counted, its berths take part, and it awaits its dispatches. -/
def startTurn (slot : Nat) (f : Forming) : State :=
  let s1 := goActive (takePart f.batch (f.st.bumpBy 0x2806 1 64 1))
  let member := decide (s1.ferry.role = .member)
  let t := newTurn slot (s1.turns % 2 ^ 32) f.batch f.rows member true
  match inPipeline s1, manifestOf s1 slot with
  | true, some m => pipelineStart m t s1
  | _, _ => { s1 with turn := some t }

/-- READY is entered at a barrier that finds nothing runnable, once Ready Timeout has run out or a sleep command
waits (R60, R65). -/
def readyAtBarrier (s : State) : State :=
  let asked := match s.power.command with | some .dozeNow => true | some .watchNow => true | _ => false
  match s.power.state with
  | .active =>
    if (s.power.readyDue || asked) && !anyRunnable s then s.setPower { s.power with state := .ready, readyDue := false } else s
  | _ => s

/-- The next batch is formed, or the device goes idle; a stage starts the turn whose table waits. -/
def formNext (s : State) : State :=
  if s.ferry.batch.isSome then startWaiting s
  else match formBatch s with
    | some (slot, f) => startTurn slot f
    | none => readyAtBarrier s

/-! ## Lifecycle transition (R98) -/

/-- The steps of a transition: berths abandoned, secure hold wiped, counter advanced, record written, warm reset. -/
def runTransition (counter : Nat) (leaves enters : Lifecycle) (s : State) : State :=
  let s1 := (wipeSecure (s.serving.berths.foldl freeBerth s)).advanceCounter counter 1
  let s2 := flushJournal 256 (s1.event 1 0 0 [leaves.code, enters.code, counter])
  resetStart .warm id s2

/-! ## The barrier -/

/-- A barrier is met: no turn runs, and the device neither sleeps nor is on its way there. -/
def atBarrier (s : State) : Bool :=
  s.running && s.turn.isNone && (match s.power.entering with | some .doze => false | some .watch => false | _ => true)

/-- A held barrier has not been released: a point is being raised (R77), a layer is being copied (R229), or a copy
pinned near has not been fetched again, which is done before the first turn (R59). -/
def stillHeld (s : State) : Bool :=
  s.power.raising.isSome || refetchWaits s || (match s.images.swap with | some j => decide (j.phase = .copying) | none => false)

/-- The barrier of a device that runs turns. -/
def meetBarrier (s : State) : State :=
  if s.serving.held then
    let s1 := copiesBack s
    if stillHeld s1 then s1 else formNext (s1.setServing { s1.serving with held := false })
  else
    let s1 := barrierEffects s
    if s1.serving.held then s1 else formNext s1

/-- A barrier of a device that runs no turns, in harbour mode or OFF_READY: what a host reset left to clear goes, with
its record (R85). -/
def idleBarrier (s : State) : State :=
  if s.serves && s.turn.isNone && s.serving.clearDue then clearServing s else s

/-- TURN_BARRIER (R17). A pending lifecycle transition is all that happens at its barrier (R98), which harbour mode
meets too; its counter is advanced through the helm queue, so it waits while bank 0 is busy (R123). -/
def execTurnBarrier (s : State) : Host.Outcome State Fault Refusal :=
  match s.custody.transition with
  | some (n, leaves, enters) =>
    if s.serves && s.turn.isNone && s.systemFree then .next (runTransition n leaves enters s) else .next s
  | none => if atBarrier s then .next (meetBarrier s) else .next (idleBarrier s)

end Sys2Proof.Machine
end

