-- ==== Sys2Proof/Machine/Media.lean ====
section
/-! DEFINITION. The video engine: stream contexts, jobs, the frame-buffer pool and completions
(14_video_and_camera.md, R318 to R331, R336 to R338). The standards' own results come with the commands. -/

namespace Sys2Proof.Machine

/-- Change the media state. -/
def State.setMedia (s : State) (m : Media) : State := { s with media := m }

/-- A context that has never been written (R321). -/
def Context.blank : Context where
  st := .closed
  record := List.replicate 32 0
  staged := none
  closing := false
  flushing := false
  jobs := []
  completions := []
  frames := 0
  waited := 0
  current := none
  running := false
  encoding := none
  awaiting := []
  longTerm := false
  refs := []
  skipping := false

/-- Stream context c. -/
def State.ctx (s : State) (c : Nat) : Context := agetD s.media.contexts c Context.blank

/-- Change a stream context. -/
def State.setCtx (s : State) (c : Nat) (x : Context) : State :=
  s.setMedia { s.media with contexts := aset s.media.contexts c x }

/-- Camera channel k. -/
def State.cam (s : State) (k : Nat) : Camera := (s.media.cameras[k]?).getD Camera.reset

/-- Change a camera channel. -/
def State.setCam (s : State) (k : Nat) (x : Camera) : State :=
  s.setMedia { s.media with cameras := lmod s.media.cameras k (fun _ => x) }

/-- Change a registered buffer's marks. -/
def State.modBuffer (s : State) (b : Nat) (f : FrameBuffer → FrameBuffer) : State :=
  s.setMedia { s.media with buffers := amod s.media.buffers b f }

/-- A buffer with no mark (R325). -/
def FrameBuffer.free (b : FrameBuffer) : Bool := !b.queued && !b.ref && !b.longTerm && !b.held

/-! ## The context record (Context record) -/

/-- The context decodes. -/
def Context.decodes (x : Context) : Bool := decide (fld x.record 0 1 = 1)
/-- The context is LIVE. -/
def recLive (r : Bytes) : Bool := decide (fld r 3 1 = 0)
/-- Luma samples per second that a record asks for. -/
def recRate (r : Bytes) : Nat := fld r 4 2 * fld r 6 2 * fld r 8 2

/-- A record with no reserved bit set (R7, Context record). -/
def recFormed (r : Bytes) : Bool :=
  decide (r.length = 32) && zeroAt r 15 1 && zeroAt r 22 10 && decide (fld r 10 1 < 2)

/-- The rate-control fields are zero wherever the record table says so: in a decode record, and those of the other mode
(R374). -/
def recZeros (r : Bytes) : Bool :=
  if fld r 0 1 = 1 then zeroAt r 11 1 && zeroAt r 14 1 && zeroAt r 16 6
  else if fld r 11 1 = 1 then zeroAt r 14 1 else zeroAt r 16 4

/-- Codec and profile of a record fit its kind (R318, R319). -/
def recCodec (r : Bytes) : Bool :=
  match fld r 0 1, fld r 1 1, fld r 2 1 with
  | 1, 1, 1 => true
  | 1, 2, 2 => true
  | 1, 2, 3 => true
  | 1, 3, 4 => true
  | 2, 1, 1 => true
  | 2, 2, 2 => true
  | _, _, _ => false

/-- The fields of a record lie within the ranges of R318, R319 and the record table. -/
def recRanges (r : Bytes) : Bool :=
  let w := fld r 4 2
  let h := fld r 6 2
  recCodec r && recZeros r && decide (fld r 3 1 ≤ 1) && decide (w % 2 = 0) && decide (h % 2 = 0)
    && (if fld r 0 1 = 1 then decide (1 ≤ w) && decide (w ≤ 4096) && decide (1 ≤ h) && decide (h ≤ 2304)
        else decide (16 ≤ w) && decide (w ≤ 1920) && decide (16 ≤ h) && decide (h ≤ 1088))
    && (if recLive r then decide (1 ≤ fld r 8 2) && decide (fld r 8 2 ≤ 240) else decide (fld r 8 2 = 0))
    && decide (fld r 12 2 ≤ 1023) && decide (fld r 11 1 ≤ 1)
    && (decide (fld r 0 1 = 1)
        || (if fld r 11 1 = 0 then decide (fld r 14 1 ≤ 51)
            else decide (100 ≤ fld r 16 4) && decide (fld r 16 4 ≤ 100000)))

/-- Luma samples per second of the other open or paused LIVE contexts of a kind, staged records included. -/
def otherRate (s : State) (c kind : Nat) : Nat :=
  (s.media.contexts.map (fun p =>
    let r := p.2.staged.getD p.2.record
    if p.1 ≠ c ∧ p.2.st ≠ .closed ∧ fld r 0 1 = kind ∧ recLive r then recRate r else 0)).sum

/-- The limit of a kind's pipeline (R318, R319). -/
def rateLimit (kind : Nat) : Nat := if kind = 1 then 248832000 else 124416000

/-- A LIVE record fits what its pipeline has left (R321). -/
def recFits (s : State) (c : Nat) (r : Bytes) : Bool :=
  !recLive r || decide (otherRate s c (fld r 0 1) + recRate r ≤ rateLimit (fld r 0 1))

/-- The checks of R321 on a record. -/
def recChecks (s : State) (c : Nat) (r : Bytes) : List (Bool × Nat) :=
  [(recFormed r, abMalformed), (recRanges r, abRange), (recFits s c r, abInconsistent)]

/-! ## Completions (R327, R328) -/

/-- The completion vector's message. -/
def mediaMsix (s : State) : State := s.msix (s.val 0x2C12 2)

/-- A completion has been posted: the next one has the next order number. -/
def countPosted (s : State) : State := s.setMedia { s.media with posted := s.media.posted + 1 }

/-- A completion becomes readable in a context's queue. -/
def ctxPost (s : State) (c : Nat) (x : MediaCompletion) : State :=
  mediaMsix (countPosted
    (s.setCtx c { s.ctx c with completions := (s.ctx c).completions ++ [{ x with num := s.media.posted }] }))

/-- A completion that delivers its buffer marks it held. -/
def deliver (s : State) (b : Nat) : State := s.modBuffer b (fun f => { f with queued := false, held := true })

/-- The record's semaphore is signalled once (R328). -/
def ctxSignal (s : State) (c : Nat) : State :=
  let r := (s.ctx c).record
  if bitOf (fld r 10 1) 0 then signalNow s (fld r 12 2) 1 else s

/-- Post one output frame: its tag and frame number are the context's output count. -/
def postFrame (s : State) (c : Nat) (w : Reorder) : State :=
  let n := (s.ctx c).frames
  let delivers := decide (w.status ≤ 2)
  let s1 := if delivers then deliver s w.buffer else s.modBuffer w.buffer (fun f => { f with queued := false })
  let s2 := s1.setCtx c { s1.ctx c with frames := (n + 1) % 2 ^ 32 }
  let s3 := ctxPost s2 c ⟨n % 2 ^ 16, w.status, if delivers then w.buffer else 0xFF, w.flags, w.concealed, n, 0, 0⟩
  if delivers then ctxSignal s3 c else s3

/-- Output the first k awaiting frames, in display order. -/
def outputFrames (s : State) (c k : Nat) : State :=
  let l := sortBy (fun a b => decide (a.order ≤ b.order)) (s.ctx c).awaiting
  (l.take k).foldl (fun s w => postFrame s c w) (s.setCtx c { s.ctx c with awaiting := l.drop k })

/-! ## Frame boundaries (R322, R337, R338) -/

/-- A job completes with a status and no buffer. -/
def jobDone (s : State) (c status : Nat) (j : Job) : State :=
  ctxPost s c ⟨j.tag, status, 0xFF, 0, 0, (s.ctx c).frames, 0, 0⟩

/-- Every queued job completes ABORTED. -/
def abortJobs (s : State) (c : Nat) : State :=
  let jobs := (s.ctx c).jobs
  jobs.foldl (fun s j => jobDone s c 5 j) (s.setCtx c { s.ctx c with jobs := [] })

/-- The context's reference marks are cleared; frames it held back for reordering are given up. -/
def clearRefMarks (s : State) (c : Nat) : State :=
  let s1 := s.setMedia { s.media with
    buffers := s.media.buffers.map (fun p =>
      if p.2.owner = c then (p.1, { p.2 with ref := false, longTerm := false, queued := false }) else p) }
  s1.setCtx c { s1.ctx c with refs := [], longTerm := false, awaiting := [] }

/-- What waits for the context's frame boundary takes effect there. -/
def atBoundary (s : State) (c : Nat) : State :=
  if (s.ctx c).running then s
  else
    let s1 := match (s.ctx c).staged with
      | some r => s.setCtx c { s.ctx c with record := r, staged := none }
      | none => s
    let s2 := if (s1.ctx c).flushing then
        let s2 := clearRefMarks s1 c
        s2.setCtx c { s2.ctx c with flushing := false }
      else s1
    if (s2.ctx c).closing then
      let s3 := clearRefMarks (abortJobs s2 c) c
      s3.setCtx c { s3.ctx c with closing := false, st := .closed }
    else s2

/-! ## Commands (Context commands) -/

/-- The context a channel has selected; none while it selects a camera channel. -/
def selCtx (ch : Channel) (s : State) : Option Nat :=
  if s.sel ch 0x2C10 1 < 32 then some (s.sel ch 0x2C10 1) else none

/-- Act on the selected context. -/
def onCtx (ch : Channel) (act : Nat → State → Applied) (s : State) : Applied :=
  match selCtx ch s with
  | some c => act c s
  | none => refuse abInconsistent s

/-- OPEN. -/
def openCtx (c : Nat) (s : State) : Applied :=
  guarded ((decide ((s.ctx c).st = .closed), abNotIdle) :: recChecks s c (s.ctx c).record)
    (fun s => accept (s.setCtx c { s.ctx c with st := .opened, waited := 0, skipping := false })) s

/-- PAUSE. -/
def pauseCtx (c : Nat) (s : State) : Applied :=
  guarded [(decide ((s.ctx c).st = .opened), abNotIdle)]
    (fun s => accept (s.setCtx c { s.ctx c with st := .paused })) s

/-- RESUME. -/
def resumeCtx (c : Nat) (s : State) : Applied :=
  guarded [(decide ((s.ctx c).st = .paused), abNotIdle)]
    (fun s => accept (s.setCtx c { s.ctx c with st := .opened })) s

/-- CLOSE (R338). -/
def closeCtx (c : Nat) (s : State) : Applied :=
  guarded [(!decide ((s.ctx c).st = .closed), abNotIdle)]
    (fun s => accept (atBoundary (s.setCtx c { s.ctx c with closing := true }) c)) s

/-- FLUSH. -/
def flushCtx (c : Nat) (s : State) : Applied :=
  guarded [(!decide ((s.ctx c).st = .closed), abNotIdle)]
    (fun s =>
      let s1 := abortJobs s c
      accept (atBoundary (s1.setCtx c { s1.ctx c with flushing := true }) c)) s

/-- Every write of 0x2C10:03. -/
def applyContextCommand (ch : Channel) (val : Bytes) (s : State) : Applied :=
  match leNat val with
  | 0x53570060 => onCtx ch openCtx s
  | 0x53570061 => onCtx ch pauseCtx s
  | 0x53570062 => onCtx ch resumeCtx s
  | 0x53570063 => onCtx ch closeCtx s
  | 0x53570064 => onCtx ch flushCtx s
  | _ => refuse abSignature s

/-- CONTEXT_OPEN (R321). -/
def execContextOpen (ch : Channel) (val : Bytes) (s : State) : Host.Outcome State Fault Refusal :=
  objectWrite ch 0x2C10 3 val (command val 0x53570060 (onCtx ch openCtx)) s

/-- CONTEXT_PAUSE (R322). -/
def execContextPause (ch : Channel) (val : Bytes) (s : State) : Host.Outcome State Fault Refusal :=
  objectWrite ch 0x2C10 3 val (command val 0x53570061 (onCtx ch pauseCtx)) s

/-- CONTEXT_RESUME (R322). -/
def execContextResume (ch : Channel) (val : Bytes) (s : State) : Host.Outcome State Fault Refusal :=
  objectWrite ch 0x2C10 3 val (command val 0x53570062 (onCtx ch resumeCtx)) s

/-- CONTEXT_CLOSE (R338). -/
def execContextClose (ch : Channel) (val : Bytes) (s : State) : Host.Outcome State Fault Refusal :=
  objectWrite ch 0x2C10 3 val (command val 0x53570063 (onCtx ch closeCtx)) s

/-- CONTEXT_FLUSH (R320). -/
def execContextFlush (ch : Channel) (val : Bytes) (s : State) : Host.Outcome State Fault Refusal :=
  objectWrite ch 0x2C10 3 val (command val 0x53570064 (onCtx ch flushCtx)) s

/-- The bytes of a record that may change while its context is open or paused (R337): class, rate and the
encode rate-control fields. -/
def mutableByte (i : Nat) : Bool := [3, 8, 9, 11, 14, 16, 17, 18, 19, 20, 21].contains i

/-- Two records differ in nothing else. -/
def sameFixed (a b : Bytes) : Bool :=
  (List.range 32).all (fun i => mutableByte i || decide (a.getD i 0 = b.getD i 0))

/-- A write of 0x2C10:02 (R337). -/
def writeContextRecord (val : Bytes) (c : Nat) (s : State) : Applied :=
  match (s.ctx c).st with
  | .closed => accept (s.setCtx c { s.ctx c with record := val })
  | _ =>
    guarded ((sameFixed val (s.ctx c).record, abNotIdle) :: recChecks s c val)
      (fun s => accept (atBoundary (s.setCtx c { s.ctx c with staged := some val }) c)) s

/-- Every write of 0x2C10:02. -/
def applyContextRecord (ch : Channel) (val : Bytes) (s : State) : Applied :=
  guarded [(decide (val.length = 32), abLength)] (onCtx ch (writeContextRecord val)) s

/-- CONTEXT_RECORD (R337). -/
def execContextRecord (ch : Channel) (val : Bytes) (s : State) : Host.Outcome State Fault Refusal :=
  objectWrite ch 0x2C10 2 val (applyContextRecord ch val) s

/-! ## Jobs (R323) -/

/-- A job's reserved fields are zero; which flags are defined depends on the context's kind. -/
def jobFormed (decodes : Bool) (val : Bytes) : Bool :=
  zeroAt val 5 3 && zeroAt val 20 12
    && (if decodes then decide (fld val 1 1 < 2) && zeroAt val 4 1 else decide (fld val 1 1 < 8))

/-- Every write of 0x2C11:01. -/
def applyJob (val : Bytes) (s : State) : Applied :=
  let c := fld val 0 1
  let x := s.ctx c
  let d := x.decodes
  let n := fld val 16 4
  guarded [(decide (val.length = 32), abLength), (jobFormed d val, abMalformed), (decide (c < 32), abRange),
      (!decide (x.st = .closed), abNotIdle), (decide (x.jobs.length < 64), abNotIdle),
      (!d || (decide (1 ≤ n) && decide (n ≤ 16777216)), abRange), (d || decide (fld val 4 1 < 128), abRange),
      (d || (match aget s.media.buffers (fld val 4 1) with
             | some b => decide (b.format = 1) && decide (b.width ≤ 1920) && decide (b.height ≤ 1088)
             | none => false), abInconsistent)]
    (fun s => accept (s.setCtx c { s.ctx c with
      jobs := (s.ctx c).jobs ++ [⟨fld val 1 1, fld val 2 2, fld val 4 1, fld val 8 8, n⟩] })) s

/-- JOB (R323). -/
def execMediaJob (ch : Channel) (val : Bytes) (s : State) : Host.Outcome State Fault Refusal :=
  objectWrite ch 0x2C11 1 val (applyJob val) s

/-- JOB_CONSUMED (R323): the decoder has read the oldest chunk in full; end of stream outputs every frame
held for reordering. -/
def execJobConsumed (c : Fin 32) (s : State) : Host.Outcome State Fault Refusal :=
  let x := s.ctx c.val
  match x.jobs with
  | [] => .next s
  | j :: rest =>
    if s.running ∧ x.st ≠ .closed ∧ x.decodes ∧ x.completions.length < 64 then
      let s1 := jobDone (s.setCtx c.val { x with jobs := rest }) c.val 6 j
      .next (if bitOf j.flags 0 then outputFrames s1 c.val (s1.ctx c.val).awaiting.length else s1)
    else .next s

/-! ## The frame-buffer pool (R324, R325) -/

/-- Bytes of a sample of a buffer's format. -/
def sampleBytes (format : Nat) : Nat := if format = 2 then 2 else 1

/-- The planes of a buffer: first byte and size. -/
def FrameBuffer.planes (b : FrameBuffer) : List (Nat × Nat) :=
  [(b.luma, b.pitch * b.height), (b.chroma, b.pitch * b.height / 2)]

/-- A plane lies in the working area or in the tier-1 pool outside every sealed range (R324). -/
def planePlaced (s : State) (a n : Nat) : Bool :=
  decide (a + n ≤ workEnd s)
    || (decide (lpddrBase ≤ a) && decide (a + n ≤ lpddrBase + tier1Size s)
        && s.tiers.sealedRanges.all (fun p => !overlaps a n (lpddrBase + p.2.first * 4096) (p.2.pages * 4096)))

/-- The owner suits the buffer (R324). -/
def ownerSuits (s : State) (b : FrameBuffer) : Bool :=
  if b.owner = 0x20 ∨ b.owner = 0x21 then decide (b.format = 1)
  else if b.owner < 32 ∧ fld (s.ctx b.owner).record 0 1 = 2 then
    decide (b.format = 1) && decide (b.width ≤ 1920) && decide (b.height ≤ 1088)
  else true

/-- The buffer a descriptor describes. -/
def bufferOf (val : Bytes) : FrameBuffer where
  format := fld val 1 1
  owner := fld val 2 1
  width := fld val 4 2
  height := fld val 6 2
  luma := fld val 8 8
  chroma := fld val 16 8
  pitch := fld val 24 4
  queued := false
  ref := false
  longTerm := false
  held := false

/-- The ranges of a descriptor's fields. -/
def bufferRanges (b : FrameBuffer) : Bool :=
  (decide (b.owner ≤ 0x21) || decide (b.owner = 0xFF))
    && decide (b.width % 2 = 0) && decide (16 ≤ b.width) && decide (b.width ≤ 4096)
    && decide (b.height % 2 = 0) && decide (16 ≤ b.height) && decide (b.height ≤ 4096)
    && decide (b.luma % 256 = 0) && decide (b.chroma % 256 = 0)
    && decide (b.pitch % 256 = 0) && decide (b.width * sampleBytes b.format ≤ b.pitch)

/-- The planes of a buffer share no byte with one another or with another registered buffer. -/
def planesApart (s : State) (n : Nat) (b : FrameBuffer) : Bool :=
  !overlaps b.luma (b.pitch * b.height) b.chroma (b.pitch * b.height / 2)
    && s.media.buffers.all (fun p => decide (p.1 = n)
      || b.planes.all (fun q => p.2.planes.all (fun r => !overlaps q.1 q.2 r.1 r.2)))

/-- Every write of 0x2C01:01 (R324). -/
def applyRegister (val : Bytes) (s : State) : Applied :=
  let n := fld val 0 1
  let b := bufferOf val
  let isFree := match aget s.media.buffers n with
    | some old => old.free
    | none => true
  guarded [(decide (val.length = 32), abLength), (zeroAt val 3 1 && zeroAt val 28 4, abMalformed),
      (isFree, abNotIdle), (decide (n < 128), abRange), (decide (b.format ≤ 2), abRange),
      (decide (b.format = 0) || bufferRanges b, abRange),
      (decide (b.format = 0) || b.planes.all (fun p => planePlaced s p.1 p.2), abInconsistent),
      (decide (b.format = 0) || planesApart s n b, abInconsistent),
      (decide (b.format = 0) || ownerSuits s b, abInconsistent)]
    (fun s => accept (s.setMedia { s.media with
      buffers := if b.format = 0 then adel s.media.buffers n else aset s.media.buffers n b })) s

/-- REGISTER (R324). -/
def execRegisterBuffer (ch : Channel) (val : Bytes) (s : State) : Host.Outcome State Fault Refusal :=
  objectWrite ch 0x2C01 1 val (applyRegister val) s

/-- Every write of 0x2C01:04 (R325). -/
def applyRelease (val : Bytes) (s : State) : Applied :=
  guarded [(decide (leNat val < 128), abRange)]
    (fun s => accept (s.modBuffer (leNat val) (fun f => { f with held := false }))) s

/-- RELEASE (R325). -/
def execReleaseBuffer (ch : Channel) (val : Bytes) (s : State) : Host.Outcome State Fault Refusal :=
  objectWrite ch 0x2C01 4 val (applyRelease val) s

/-- The lowest FREE buffer of an owner that a test accepts. -/
def freeBuffer (s : State) (owner : Nat) (ok : FrameBuffer → Bool) : Option Nat :=
  (sortNat ((s.media.buffers.filter (fun p => decide (p.2.owner = owner) && p.2.free && ok p.2)).map (·.1))).head?

/-! ## Starting frames (R322) -/

/-- Kind of a pipeline's contexts. -/
def pipeKind : Pipeline → Nat
  | .decode => 1
  | .encode => 2

/-- A frame of the context is ready. -/
def frameReady (s : State) (c : Nat) (x : Context) : Bool :=
  decide (x.st = .opened) && !x.closing && !x.jobs.isEmpty && decide (x.completions.length < 64)
    && (!x.decodes || (freeBuffer s c (fun _ => true)).isSome)

/-- The ready contexts of a pipeline in number order. -/
def readyCtxs (s : State) (kind : Nat) : List (Nat × Context) :=
  sortBy (fun a b => decide (a.1 ≤ b.1))
    (s.media.contexts.filter (fun p => decide (fld p.2.record 0 1 = kind) && frameReady s p.1 p.2))

/-- The context that has waited longest, the lowest number among equals. -/
def longestWait : List (Nat × Context) → Option Nat
  | [] => none
  | p :: r =>
    match longestWait r with
    | none => some p.1
    | some q => if (agetD r q p.2).waited ≤ p.2.waited then some p.1 else some q

/-- The context that starts its next frame: LIVE by waiting, else the FILE context that follows the last
one served. -/
def nextCtx (s : State) (kind : Nat) : Option Nat :=
  let l := readyCtxs s kind
  let live := l.filter (fun p => recLive p.2.record)
  match longestWait live with
  | some c => some c
  | none =>
    let last := aget s.media.lastFile kind
    match l.find? (fun p => match last with | some n => decide (n < p.1) | none => true) with
    | some p => some p.1
    | none => (l.head?).map (·.1)

/-- A frame of a context starts: a decode frame takes a FREE buffer; an encode frame takes its job and, for
its reconstructed picture, a FREE buffer of the context if there is one. -/
def startFrame (s : State) (c : Nat) : State :=
  let x := s.ctx c
  let b := freeBuffer s c (fun _ => true)
  let s1 := s.setCtx c { x with
    running := true, waited := 0, current := b
    encoding := if x.decodes then none else x.jobs.head?
    jobs := if x.decodes then x.jobs else x.jobs.drop 1 }
  match b with
  | some n => s1.modBuffer n (fun f => { f with queued := true })
  | none => s1

/-- NEXT_FRAME_START (R322): the pipeline stands at a frame boundary. -/
def execNextFrameStart (pipe : Pipeline) (s : State) : Host.Outcome State Fault Refusal :=
  let kind := pipeKind pipe
  if !s.running || s.media.contexts.any (fun p => p.2.running && decide (fld p.2.record 0 1 = kind)) then .next s
  else match nextCtx s kind with
    | none => .next s
    | some c =>
      let waiting := (readyCtxs s kind).map (·.1)
      let s1 := waiting.foldl (fun s n => s.setCtx n { s.ctx n with waited := (s.ctx n).waited + 1 }) s
      let s2 := startFrame s1 c
      .next (if recLive (s.ctx c).record then s2
        else s2.setMedia { s2.media with lastFile := aset s2.media.lastFile kind c })

/-! ## Writing planes (R330, R331) -/

/-- The video engine's read of bytes of a buffer. -/
def engineRead (s : State) (a n : Nat) : State × List Octet :=
  let r := memRead (query s 18 .read) s a n
  (r.1, r.2.1)

/-- Write one line of a plane of `rows` lines at `base`: what would fall outside the plane is suppressed and
counted (R330). -/
def writePlaneLine (m base pitch rows : Nat) (s : State) (p : Nat × List Octet) : State :=
  if rows ≤ p.1 then s.bump 0x2C40 4
  else
    let s1 := (memWrite (query s m .write) s (base + p.1 * pitch) (p.2.take pitch)).1
    if p.2.length ≤ pitch then s1 else s1.bump 0x2C40 4

/-- Write the lines of a plane. -/
def writePlane (m base pitch rows : Nat) (lines : List (List Octet)) (s : State) : State :=
  lines.zipIdx.foldl (fun s p => writePlaneLine m base pitch rows s (p.2, p.1)) s

/-- A byte of mid-grey: 0x80 in NV12, the high byte of 0x8000 in P010. -/
def greyByte (bps i : Nat) : Byte := if bps = 1 ∨ i % 2 = 1 then 0x80 else 0

/-- Lines of a plane of a reference buffer, read clamped to its planes. -/
def refLines (s : State) (base pitch rows width n : Nat) : State × List (List Octet) :=
  (List.range n).foldl (fun acc y =>
    let r := engineRead acc.1 (base + min y (rows - 1) * pitch) (min width pitch)
    (r.1, acc.2 ++ [r.2])) (s, [])

/-- A sample of luma x, y lies in a damaged area. -/
def damagedAt (l : List Rect) (x y : Nat) : Bool :=
  l.any (fun r => decide (r.x ≤ x) && decide (x < r.x + r.w) && decide (r.y ≤ y) && decide (y < r.y + r.h))

/-- One line of a concealed plane. `sub` is 1 for luma and 2 for chroma, where a line holds pairs of samples;
`ref` gives the nearest reference's line, if there is one. -/
def concealLine (facts : PictureFacts) (plane : Bytes) (sub bytes y : Nat) (ref : Option (List Octet)) : List Octet :=
  let bps := if facts.deep then 2 else 1
  (List.range bytes).map (fun i =>
    let x := if sub = 1 then i / bps else i / (2 * bps) * 2
    let bad := (List.range sub).any (fun dy => (List.range sub).any (fun dx =>
      damagedAt facts.damaged (x + dx) (y * sub + dy)))
    if bad then
      (match ref with
       | some l => l.getD i ⟨greyByte bps i, false⟩
       | none => ⟨greyByte bps i, false⟩)
    else ⟨plane.getD (y * bytes + i) 0, false⟩)

/-- Distance of two numbers. -/
def natDist (a b : Nat) : Nat := if a ≤ b then b - a else a - b

/-- The reference whose output order lies closest, ties to the earlier (R331). -/
def nearestRef (refs : List (Nat × Nat)) (order : Nat) : Option Nat :=
  ((sortBy (fun a b => decide (natDist a.1 order < natDist b.1 order)
      || (decide (natDist a.1 order = natDist b.1 order) && decide (a.1 ≤ b.1))) refs).head?).map (·.2)

/-- Write a picture into a buffer, its damaged areas concealed. -/
def writePicture (s : State) (c b : Nat) (facts : PictureFacts) : State :=
  match aget s.media.buffers b with
  | none => s
  | some fb =>
    let bytes := facts.width * (if facts.deep then 2 else 1)
    let near := if facts.damaged.isEmpty then none
      else (nearestRef (s.ctx c).refs facts.order).bind (fun n => aget s.media.buffers n)
    let y := match near with
      | some r => refLines s r.luma r.pitch r.height bytes facts.height
      | none => (s, [])
    let uv := match near with
      | some r => refLines y.1 r.chroma r.pitch (r.height / 2) bytes (facts.height / 2)
      | none => (y.1, [])
    let lumaLines := (List.range facts.height).map (fun n => concealLine facts facts.luma 1 bytes n (y.2[n]?))
    let chromaLines := (List.range (facts.height / 2)).map (fun n =>
      concealLine facts facts.chroma 2 bytes n (uv.2[n]?))
    writePlane 18 fb.chroma fb.pitch (fb.height / 2) chromaLines
      (writePlane 18 fb.luma fb.pitch fb.height lumaLines uv.1)

/-- Per cent of a picture's area that is damaged, rounded to nearest. -/
def concealedPercent (facts : PictureFacts) : Nat :=
  let n := ((List.range facts.height).map (fun y =>
    ((List.range facts.width).filter (fun x => damagedAt facts.damaged x y)).length)).sum
  let all := facts.width * facts.height
  if all = 0 then 0 else min 100 ((200 * n + all) / (2 * all))

/-! ## Frames complete (R320, R325 to R331) -/

/-- The standard removes buffers from the reference set. -/
def dropRefs (s : State) (c : Nat) (bs : List Nat) : State :=
  let s1 := bs.foldl (fun s b => s.modBuffer b (fun f => if f.owner = c then { f with ref := false, longTerm := false } else f)) s
  s1.setCtx c { s1.ctx c with refs := (s1.ctx c).refs.filter (fun p => !bs.contains p.2) }

/-- The frame in progress is over: the context stands at its boundary. -/
def frameOver (s : State) (c : Nat) : State :=
  atBoundary (s.setCtx c { s.ctx c with running := false, current := none, encoding := none }) c

/-- The stream's own profile is one the decoder supports for the codec, its level is at most 5.1 and its pictures are
progressive frames (R318, R320). -/
def streamSupported (r : Bytes) (facts : PictureFacts) : Bool :=
  (match fld r 1 1 with
    | 1 => decide (facts.profile = 1)
    | 2 => decide (facts.profile = 2) || decide (facts.profile = 3)
    | _ => decide (facts.profile = 4))
    && decide (facts.level ≤ 51) && !facts.interlaced

/-- The picture is larger than its context's maximum (R320). -/
def tooLarge (r : Bytes) (facts : PictureFacts) : Bool :=
  decide (fld r 4 2 < facts.width) || decide (fld r 6 2 < facts.height)
    || (facts.deep && (decide (fld r 2 1 = 1) || decide (fld r 2 1 = 2)))

/-- A picture that is not decoded completes UNSUPPORTED in its turn, with nothing written and its buffer FREE again;
decoding resumes at the next random-access point whose sequence is supported, and pictures before that are not decoded
either (R320; log 54). -/
def notDecoded (s : State) (c b : Nat) (facts : PictureFacts) : State :=
  let s1 := s.modBuffer b (fun f => { f with queued := false })
  outputFrames (s1.setCtx c { s1.ctx c with
    skipping := true, awaiting := (s1.ctx c).awaiting ++ [⟨facts.order, 0xFF, 3, 0, 0⟩] }) c facts.outputs

/-- A decode frame completes with a status: its picture is written, its marks set, and what the standard
outputs is posted. -/
def decodeDone (s : State) (c b : Nat) (facts : PictureFacts) (timeout : Bool) : State :=
  let x := s.ctx c
  if !streamSupported x.record facts || tooLarge x.record facts || (x.skipping && !facts.randomAccess) then
    notDecoded s c b facts
  else
    let status := if timeout then 2 else if facts.damaged.isEmpty then 0 else 1
    let pct := if facts.damaged.isEmpty then 0 else concealedPercent facts
    let flags := (if facts.grain then 32 else 0) + (if facts.poison ∧ !facts.damaged.isEmpty then 128 else 0)
    let s0 := s.setCtx c { x with skipping := false }
    let s1 := dropRefs (writePicture s0 c b facts) c facts.dropped
    let s2 := (if status = 0 then s1 else (s1.bump 0x2C40 2).event 14 0 status [c, status, pct]).bumpBy 0x2C40 1 64 1
    let s3 := if facts.asReference then
        let s3 := s2.modBuffer b (fun f => { f with ref := true, longTerm := facts.longTerm })
        s3.setCtx c { s3.ctx c with refs := (s3.ctx c).refs ++ [(facts.order, b)] }
      else s2
    let s4 := if facts.shown then
        s3.setCtx c { s3.ctx c with awaiting := (s3.ctx c).awaiting ++ [⟨facts.order, b, status, flags, pct⟩] }
      else s3.modBuffer b (fun f => { f with queued := false })
    outputFrames s4 c facts.outputs

/-- Whether the input buffer of an encode reads as poison anywhere (15_integrity.md, Poison consumed). -/
def inputPoison (s : State) (b : Nat) : State × Bool :=
  match aget s.media.buffers b with
  | none => (s, false)
  | some fb =>
    let y := refLines s fb.luma fb.pitch fb.height fb.width fb.height
    let uv := refLines y.1 fb.chroma fb.pitch (fb.height / 2) fb.width (fb.height / 2)
    (uv.1, (y.2 ++ uv.2).any anyBad)

/-- The encoder's references after a picture (R319, R326): the reconstructed picture takes the place of the
short-term reference, and of the long-term one if its job marks it. -/
def encodeRefs (s : State) (c : Nat) (facts : PictureFacts) (long : Bool) : State :=
  let x := s.ctx c
  let old := (s.media.buffers.filter (fun p => decide (p.2.owner = c) && p.2.ref && (long || !p.2.longTerm))).map (·.1)
  let s1 := dropRefs s c (old.filter (fun b => !decide (some b = x.current)))
  let s2 := match x.current with
    | some b =>
      let s2 := (writePicture s1 c b facts).modBuffer b (fun f => { f with queued := false, ref := true, longTerm := long })
      s2.setCtx c { s2.ctx c with refs := (s2.ctx c).refs ++ [(facts.order, b)] }
    | none => s1
  s2.setCtx c { s2.ctx c with longTerm := (s2.ctx c).longTerm || long }

/-- An encode frame completes: the coded picture goes to its job's output area, or does not fit (R323, R327). -/
def encodeDone (s : State) (c : Nat) (j : Job) (facts : PictureFacts) : State :=
  let x := s.ctx c
  let p := inputPoison s j.buffer
  let flags := (if bitOf j.flags 2 ∧ !x.longTerm then 64 else 0) + (if p.2 then 128 else 0)
  let n := x.frames
  let s1 := p.1.setCtx c { p.1.ctx c with frames := (n + 1) % 2 ^ 32 }
  if j.length < facts.coded.length then
    let s2 := match x.current with
      | some b => s1.modBuffer b (fun f => { f with queued := false })
      | none => s1
    ctxPost s2 c ⟨j.tag, 7, 0xFF, flags, 0, n, 0, 0⟩
  else
    let s2 := encodeRefs (hostWrite s1 j.address facts.coded).1 c facts (bitOf j.flags 1)
    let s3 := s2.modBuffer j.buffer (fun f => { f with held := true })
    ctxSignal (ctxPost s3 c ⟨j.tag, 0, j.buffer, flags, 0, n, facts.coded.length, 0⟩) c

/-- FRAME_DONE (R327): the frame in progress of a context completes. -/
def execFrameDone (c : Fin 32) (facts : PictureFacts) (s : State) : Host.Outcome State Fault Refusal :=
  let x := s.ctx c.val
  if !s.running || !x.running then .next s
  else if x.decodes then
    match x.current with
    | some b => .next (frameOver (decodeDone s c.val b facts false) c.val)
    | none => .next s
  else match x.encoding with
    | some j => .next (frameOver (encodeDone s c.val j facts) c.val)
    | none => .next s

/-- FRAME_BUDGET (R329): a decode frame whose budget has expired is concealed and completes TIMEOUT. -/
def execFrameBudget (c : Fin 32) (facts : PictureFacts) (s : State) : Host.Outcome State Fault Refusal :=
  let x := s.ctx c.val
  if !s.running || !x.running || !x.decodes then .next s
  else match x.current with
    | some b => .next (frameOver (decodeDone s c.val b facts true) c.val)
    | none => .next s

/-! ## What the dictionary reads -/

/-- Bytes of a completion. -/
def MediaCompletion.toBytes (m : MediaCompletion) : Bytes :=
  fields [(2, m.tag), (1, m.status), (1, m.buffer), (2, m.flags), (1, m.concealed), (1, 0), (4, m.frame), (4, m.bytes)]

/-- Unread completions of the selected context or camera channel. -/
def mediaUnread (ch : Channel) (s : State) : List MediaCompletion :=
  match selCtx ch s with
  | some c => (s.ctx c).completions.take 64
  | none => (s.cam (s.sel ch 0x2C10 1 - 0x20)).completions.take 64

/-- Order number after the last of the completions that a read of the selected queue serves. -/
def mediaMark (ch : Channel) (s : State) : Nat := (((mediaUnread ch s).getLast?).map (·.num + 1)).getD 0

/-- Completions of a context, or from 0x20 on of a camera channel, read in full are consumed: those numbered below n,
which the read has served. -/
def consumeMedia (k n : Nat) (s : State) : State :=
  let left (l : List MediaCompletion) : List MediaCompletion := l.filter (fun x => decide (n ≤ x.num))
  if k < 32 then s.setCtx k { s.ctx k with completions := left (s.ctx k).completions }
  else s.setCam (k - 32) { s.cam (k - 32) with completions := left (s.cam (k - 32)).completions }

/-- 0x2C01:03 for a buffer. -/
def bufferWord (s : State) (b : Nat) : Nat :=
  match aget s.media.buffers b with
  | some f => b2n f.queued + 2 * b2n f.ref + 4 * b2n f.longTerm + 8 * b2n f.held + 16 + 256 * f.owner
  | none => 0

end Sys2Proof.Machine
end

