-- ==== Sys2Proof/Machine/Camera.lean ====
section
/-! DEFINITION. The camera port and its front end (14_video_and_camera.md, R332 to R336). -/

namespace Sys2Proof.Machine

/-! ## Channel records -/

/-- The channel is enabled. -/
def camEnabled (r : Bytes) : Bool := bitOf (fld r 3 1) 0

/-- The scale f of a record: 1, 2, 4 or 8, the same for both directions. -/
def camScale (r : Bytes) : Option Nat :=
  [1, 2, 4, 8].find? (fun f => decide (fld r 8 2 * f = fld r 4 2) && decide (fld r 10 2 * f = fld r 6 2))

/-- The ranges of a record's fields, enabled or not (R374). -/
def camRanges (r : Bytes) : Bool :=
  let w := fld r 4 2
  let h := fld r 6 2
  decide (fld r 0 1 ≤ 3) && [0x2A, 0x2B, 0x1E].contains (fld r 1 1) && decide (fld r 2 1 ≤ 3)
    && decide (w % 4 = 0) && decide (16 ≤ w) && decide (w ≤ 4096)
    && decide (h % 2 = 0) && decide (16 ≤ h) && decide (h ≤ 3072)
    && (camScale r).isSome && decide (fld r 28 2 ≤ 1023)

/-- Every write of 0x2C30:01 and :02 (R336): staged while the channel is enabled. -/
def applyCameraRecord (k : Nat) (val : Bytes) (s : State) : Applied :=
  guarded [(decide (val.length = 32), abLength), (decide (fld val 3 1 < 8) && zeroAt val 30 2, abMalformed),
      (camRanges val, abRange)]
    (fun s =>
      let s1 := s.setVal 0x2C30 (k + 1) (leNat val)
      let c := s1.cam k
      accept (s1.setCam k (if camEnabled c.record then { c with staged := some val } else { c with record := val }))) s

/-- Every write of 0x2C32:01 (R336). Lanes value 3, which the object's row marks reserved, is malformed (R7, and R374's last
sentence; DEDUCED, log 54). -/
def applyReceiver (val : Bytes) (s : State) : Applied :=
  let v := leNat val % 2 ^ 18
  guarded [(decide (v / 2 ^ 16 ≤ 2), abMalformed), (decide (80 ≤ v % 2 ^ 16) && decide (v % 2 ^ 16 ≤ 2500), abRange)]
    (fun s =>
      let s1 := s.setVal 0x2C32 1 v
      accept (s1.setMedia { s1.media with staged := some v })) s

/-! ## Integer arithmetic of the front end (R334) -/

/-- n / d to nearest, ties away from zero (R4). -/
def roundInt (n : Int) (d : Nat) : Int :=
  if 0 ≤ n then (2 * n + d) / (2 * d) else -((2 * (-n) + d) / (2 * d))

/-- A rounded quotient held between 0 and a maximum. -/
def clampDiv (n : Int) (d hi : Nat) : Nat := min hi (roundInt n d).toNat

/-- Colour site of a pixel, in the order R, Gr, Gb, B. -/
def siteOf (bayer x y : Nat) : Nat := (y + bayer / 2) % 2 * 2 + (x + bayer % 2) % 2

/-- Colour of a site: 0 red, 1 green, 2 blue. -/
def siteColour (site : Nat) : Nat := if site = 0 then 0 else if site = 3 then 2 else 1

/-- A coordinate mirrored at the edges. -/
def mirror (i : Int) (n : Nat) : Nat := if i < 0 then (-i).toNat else if n ≤ i.toNat then 2 * n - 2 - i.toNat else i.toNat

/-- A pixel of a list of lines. -/
def pix (lines : List (List Nat)) (x y : Nat) : Nat := (lines.getD y []).getD x 0

/-- Steps 1 and 2: black level and gain of each site. -/
def levelLines (r : Bytes) (top : Nat) (lines : List (List Nat)) : List (List Nat) :=
  lines.zipIdx.map (fun l => l.1.zipIdx.map (fun p =>
    let site := siteOf (fld r 2 1) p.2 l.2
    clampDiv ((p.1 - fld r (12 + 2 * site) 2) * fld r (20 + 2 * site) 2 : Nat) 1024 top))

/-- Step 3: one colour of a pixel by bilinear interpolation. -/
def demosaic (bayer w h : Nat) (lines : List (List Nat)) (colour x y : Nat) : Nat :=
  if siteColour (siteOf bayer x y) = colour then pix lines x y
  else
    let near := ([-1, 0, 1] : List Int).flatMap (fun dy => ([-1, 0, 1] : List Int).map (fun dx => ((x : Int) + dx, (y : Int) + dy)))
    let sites := (near.map (fun p => (mirror p.1 w, mirror p.2 h))).filter
      (fun p => decide (siteColour (siteOf bayer p.1 p.2) = colour))
    clampDiv ((sites.map (fun p => pix lines p.1 p.2)).sum : Nat) sites.length 0xFFFF

/-- Step 4: BT.709 limited-range YCbCr at 8 bits of a colour whose maximum is `top` (log 55). -/
def toYCbCr (top red green blue : Nat) : Nat × Nat × Nat :=
  let l : Int := 2126 * red + 7152 * green + 722 * blue
  (clampDiv (16 * (10000 * top) + 219 * l) (10000 * top) 255,
   clampDiv (128 * (18556 * top) + 224 * (10000 * blue - l)) (18556 * top) 255,
   clampDiv (128 * (15748 * top) + 224 * (10000 * red - l)) (15748 * top) 255)

/-- Bits of a raw pixel of a data type. -/
def rawTop (dataType : Nat) : Nat := if dataType = 0x2B then 1023 else 255

/-- Y, Cb and Cr of every pixel of a frame. -/
def frameYCbCr (r : Bytes) (lines : List (List Nat)) : List (List (Nat × Nat × Nat)) :=
  let w := fld r 4 2
  let h := fld r 6 2
  if fld r 1 1 = 0x1E then lines.map (fun l => l.map (fun v => (v % 256, v / 256 % 256, v / 65536)))
  else
    let top := rawTop (fld r 1 1)
    let lev := levelLines r top lines
    (List.range h).map (fun y => (List.range w).map (fun x =>
      toYCbCr top (demosaic (fld r 2 1) w h lev 0 x y) (demosaic (fld r 2 1) w h lev 1 x y)
        (demosaic (fld r 2 1) w h lev 2 x y)))

/-- Step 5: the average of one component over an n by n area. -/
def areaMean (sel : Nat × Nat × Nat → Nat) (img : List (List (Nat × Nat × Nat))) (n x y : Nat) : Nat :=
  let vs := ((img.drop (y * n)).take n).flatMap (fun l => ((l.drop (x * n)).take n).map sel)
  clampDiv (vs.sum : Nat) vs.length 255

/-- A byte of a frame. -/
def octetOf (v : Nat) : Octet := ⟨BitVec.ofNat 8 v, false⟩

/-- The NV12 planes of a frame of exactly height lines of width pixels (steps 1 to 6). -/
def nv12Of (r : Bytes) (lines : List (List Nat)) : List (List Octet) × List (List Octet) :=
  let f := (camScale r).getD 1
  let img := frameYCbCr r lines
  let w := fld r 8 2
  let h := fld r 10 2
  ((List.range h).map (fun y => (List.range w).map (fun x => octetOf (areaMean (·.1) img f x y))),
   (List.range (h / 2)).map (fun y => (List.range (w / 2)).flatMap (fun x =>
     [octetOf (areaMean (·.2.1) img (2 * f) x y), octetOf (areaMean (·.2.2) img (2 * f) x y)])))

/-! ## Lines (R333, R335) -/

/-- Groups of n of a list, at most `fuel`. -/
def groups {α : Type} (n : Nat) : Nat → List α → List (List α)
  | 0, _ => []
  | _, [] => []
  | fuel + 1, l => l.take n :: groups n fuel (l.drop n)

/-- The pixels a payload carries: RAW8 and RAW10 values, or Y + 256 Cb + 65536 Cr of YUV422. The packing of
RAW10 and YUV422 is CSI-2's own (log 55). -/
def payloadPixels (dataType : Nat) (p : Bytes) : List Nat :=
  let b := p.map (·.toNat)
  if dataType = 0x2B then
    (groups 5 (b.length + 1) b).flatMap (fun g =>
      (List.range (min 4 (g.length - 1))).map (fun i => g.getD i 0 * 4 + g.getD 4 0 / 4 ^ i % 4))
  else if dataType = 0x1E then
    (groups 4 (b.length + 1) b).flatMap (fun g =>
      [g.getD 1 0 + 256 * g.getD 0 0 + 65536 * g.getD 2 0, g.getD 3 0 + 256 * g.getD 0 0 + 65536 * g.getD 2 0].take
        (g.length / 2))
  else b

/-- A pixel of mid-grey. -/
def greyPixel (dataType : Nat) : Nat :=
  if dataType = 0x2B then 0x200 else if dataType = 0x1E then 0x808080 else 0x80

/-- Measure a line against width (R335): its flags and its pixels. -/
def measureLine (w : Nat) (l : List Nat) : Nat × List Nat :=
  if l.length < w then (4, l ++ List.replicate (w - l.length) (l.getLastD 0))
  else if w < l.length then (8, l.take w) else (0, l)

/-- Set flags of the frame in progress. -/
def Camera.flag (c : Camera) (f : Nat) : Camera := { c with flags := c.flags ||| f }

/-- Close the open line; one that received no pixel is no line. -/
def Camera.closeLine (c : Camera) : Camera :=
  if c.inLine then
    let l := c.lines.getLastD []
    if l.isEmpty then { c with inLine := false, lines := c.lines.dropLast }
    else
      let m := measureLine (fld c.record 4 2) l
      { c with inLine := false, lines := c.lines.dropLast ++ [m.2] }.flag m.1
  else c

/-- Line Start in a frame. -/
def Camera.openLine (c : Camera) : Camera :=
  let c1 := c.closeLine
  if c1.lines.length < fld c1.record 6 2 then { c1 with inLine := true, lines := c1.lines ++ [[]] } else c1.flag 2

/-- Line data in a frame: appended to the open line, or a line of its own; a packet whose CRC fails is
replaced by the previous line or mid-grey (R333). -/
def Camera.lineData (c : Camera) (p : LongPacket) : Camera :=
  let before := if c.inLine then c.lines.dropLast else c.lines
  let px := if p.crcGood then payloadPixels p.dataType p.payload
    else before.getLastD (List.replicate (fld c.record 4 2) (greyPixel p.dataType))
  let c1 := if p.crcGood then c else c.flag 16
  if c1.inLine then
    { c1 with lines := before ++ [if p.crcGood then c1.lines.getLastD [] ++ px else px] }
  else if c1.lines.length < fld c1.record 6 2 then ({ c1 with inLine := true, lines := c1.lines ++ [px] }).closeLine
  else c1.flag 2

/-! ## Frames (R335, R336) -/

/-- A packet is discarded and counted. -/
def csiDiscard (s : State) : State := s.bump 0x2C40 5

/-- The channels that receive a virtual channel. -/
def camsOf (s : State) (vc : Nat) : List Nat :=
  [0, 1].filter (fun k => camEnabled (s.cam k).record && decide (fld (s.cam k).record 0 1 = vc))

/-- A camera completion. -/
def camPost (s : State) (k status buffer flags : Nat) : State :=
  let c := s.cam k
  mediaMsix (countPosted (s.setCam k { c with
    frames := (c.frames + 1) % 2 ^ 32
    completions := c.completions ++ [⟨c.frames % 2 ^ 16, status, buffer, flags, 0, c.frames, 0, s.media.posted⟩] }))

/-- The frame completes DROPPED with buffer 0xFF, and its buffer, if it had one, is FREE again. -/
def camDrop (s : State) (k : Nat) (buffer : Option Nat) (flags : Nat) : State :=
  let s1 := match buffer with
    | some b => s.modBuffer b (fun f => { f with queued := false })
    | none => s
  (camPost s1 k 4 0xFF flags).bump 0x2C40 3

/-- A frame with lines and a buffer is filled, processed, written and delivered. -/
def camDeliver (s : State) (k b : Nat) (r : Bytes) (lines : List (List Nat)) (flags : Nat) : State :=
  match aget s.media.buffers b with
  | none => camDrop s k none flags
  | some fb =>
    let img := nv12Of r (lines ++ List.replicate (fld r 6 2 - lines.length) (lines.getLastD []))
    let s1 := writePlane 19 fb.chroma fb.pitch (fb.height / 2) img.2
      (writePlane 19 fb.luma fb.pitch fb.height img.1 s)
    let s2 := camPost (deliver s1 b) k 0 b flags
    if bitOf (fld r 3 1) 2 then signalNow s2 (fld r 28 2) 1 else s2

/-- The frame in progress ends: short frames are filled or dropped, the front end writes NV12, and the
buffer is delivered (R335). -/
def camFrameEnd (s : State) (k : Nat) : State :=
  let c := (s.cam k).closeLine
  let short := decide (c.lines.length < fld c.record 6 2)
  let flags := if short then c.flags ||| 1 else c.flags
  let s1 := s.setCam k { c with inFrame := false, buffer := none, lines := [], flags := 0 }
  match c.buffer with
  | some b =>
    if c.lines.isEmpty || (short && bitOf (fld c.record 3 1) 1) then camDrop s1 k (some b) flags
    else camDeliver s1 k b c.record c.lines flags
  | none => camDrop s1 k none flags

/-- The staged receiver setting takes effect at a Frame Start; a change of lane rate needs LP-11 first. -/
def receiverStart (lp11 : Bool) (s : State) : State :=
  match s.media.staged with
  | some v =>
    if v % 2 ^ 16 = s.media.receiver % 2 ^ 16 ∨ lp11 then s.setMedia { s.media with receiver := v, staged := none } else s
  | none => s

/-- A frame of a channel starts under the settings now in force; a full completion queue keeps it from
starting (R327), and without a FREE buffer that suits the record it will be dropped. -/
def camFrameStart (s : State) (k : Nat) : State :=
  let s1 := if (s.cam k).inFrame then camFrameEnd s k else s
  let c := s1.cam k
  let s2 := match c.staged with
    | some r => s1.setCam k { c with record := r, staged := none }
    | none => s1
  let r := (s2.cam k).record
  if camEnabled r ∧ (s2.cam k).completions.length < 64 then
    let b := freeBuffer s2 (0x20 + k) (fun f => decide (fld r 8 2 ≤ f.width) && decide (fld r 10 2 ≤ f.height))
    let s3 := s2.setCam k { s2.cam k with inFrame := true, buffer := b, lines := [], flags := 0, inLine := false }
    match b with
    | some n => s3.modBuffer n (fun f => { f with queued := true })
    | none => s3
  else s2

/-- A short packet: an uncorrectable header is discarded and counted (R333); else `act` for each channel
that receives it. -/
def shortPacketRow (h : ShortPacket) (act : State → Nat → State) (s : State) : Host.Outcome State Fault Refusal :=
  if !s.running then .next s
  else if h.ecc = .bad then .next (csiDiscard s)
  else .next ((camsOf s h.vc.val).foldl act s)

/-- FRAME_START (R335). -/
def execFrameStart (h : ShortPacket) (s : State) : Host.Outcome State Fault Refusal :=
  shortPacketRow h (fun s k => camFrameStart (receiverStart h.lp11 s) k) s

/-- FRAME_END (R335). -/
def execFrameEnd (h : ShortPacket) (s : State) : Host.Outcome State Fault Refusal :=
  shortPacketRow h (fun s k => if (s.cam k).inFrame then camFrameEnd s k else csiDiscard s) s

/-- LINE_START (R335). -/
def execLineStart (h : ShortPacket) (s : State) : Host.Outcome State Fault Refusal :=
  shortPacketRow h (fun s k => if (s.cam k).inFrame then s.setCam k (s.cam k).openLine else csiDiscard s) s

/-- LINE_END (R335). -/
def execLineEnd (h : ShortPacket) (s : State) : Host.Outcome State Fault Refusal :=
  shortPacketRow h (fun s k => if (s.cam k).inFrame then s.setCam k (s.cam k).closeLine else csiDiscard s) s

/-- LONG_PACKET (R332, R333): packets of another data type than the channel's are discarded and counted. -/
def execLongPacket (p : LongPacket) (s : State) : Host.Outcome State Fault Refusal :=
  if !s.running then .next s
  else if p.ecc = .bad then .next (csiDiscard s)
  else .next ((camsOf s p.vc.val).foldl (fun s k =>
    let c := s.cam k
    if p.dataType = fld c.record 1 1 ∧ c.inFrame then s.setCam k (c.lineData p) else csiDiscard s) s)

end Sys2Proof.Machine
end

