-- ==== Sys2Proof/Machine/Joining.lean ====
section
/-! DEFINITION. Ferry links coming up and going down, joining, and losing nodes
(13_ferry_cascade.md, R295, R298, R301 to R305, R316, R317). -/

namespace Sys2Proof.Machine

/-! ## Routes (R305) -/

/-- Routes to every node heard of. -/
def helloRoutes (s : State) : List (Nat × Nat) :=
  (List.range 8).filterMap (fun i => (helloRoute s (i + 1)).map (fun p => (i + 1, p)))

/-- Ports of a device that lead to joined nodes, in order, with the node each leads to: its own by their neighbours, those
of another device by a free value (log 46). -/
def linksOf (s : State) (n : Nat) : List (Nat × Nat) :=
  ([0, 1, 2].map (fun p => (p, if n = s.nodeId then (s.port p).neighbour else Config.farLink s.draws n p))).filter
    (fun l => (joinedNodes s).contains l.2)

/-- Node b lies within a number of hops of node a. -/
def reaches (s : State) (b : Nat) : Nat → Nat → Bool
  | 0, a => decide (a = b)
  | k + 1, a => decide (a = b) || (linksOf s a).any (fun l => reaches s b k l.2)

/-- The route of fewest hops from a node to another, ties to the lower port (R305): the port and the node it leads to. -/
def routeFrom (s : State) (a b : Nat) : Option (Nat × Nat) :=
  (List.range 8).findSome? (fun k => (linksOf s a).find? (fun l => reaches s b k l.2))

/-- The hop from this device to a node by its own routes. -/
def ownHop (s : State) (b : Nat) : Option (Nat × Nat) := (aget s.ferry.routes b).map (fun p => (p, (s.port p).neighbour))

/-- Nodes on the way from a node to another, the ends among them. -/
def wayTo (s : State) (b : Nat) : Nat → Nat → List Nat
  | 0, a => [a]
  | k + 1, a =>
    if a = b then [a]
    else match (if a = s.nodeId then ownHop s b else routeFrom s a b) with
      | some l => a :: wayTo s b k l.2
      | none => [a]

/-- Joined nodes other than one. -/
def othersJoined (s : State) (n : Nat) : List Nat := (joinedNodes s).filter (fun m => !decide (m = n))

/-- The children of a node in the broadcast tree (R305): the first hops beyond it of the ways from the pilot that lead
through it. As each way is the lowest by port at every hop, the ways make up a tree. -/
def treeBelow (s : State) (m : Nat) : List Nat :=
  (((othersJoined s m).filter (fun n => (wayTo s n 8 s.nodeId).contains m)).filterMap (fun n =>
    (if m = s.nodeId then ownHop s n else routeFrom s m n).map (·.1))).dedup

/-- The pilot recomputes its routes and its broadcast tree. -/
def pilotRoutes (s : State) : State :=
  let s1 := s.setFerry { s.ferry with routes := helloRoutes s }
  s1.setFerry { s1.ferry with children := treeBelow s1 s1.nodeId }

/-! ## HELLO and JOIN payloads -/

/-- The PILOT strap as sampled (R82). -/
def pilotStrap (s : State) : Bool := bitOf s.custody.straps 0

/-- The device's own HELLO payload (HELLO payload). -/
def helloPayload (s : State) : Bytes :=
  fields [(8, s.part.uniqueId), (1, s.nodeId),
    (1, b2n (pilotStrap s) + 2 * b2n s.inHarbour + 4 * b2n (decide (s.ferry.role ≠ .unmoored))),
    (1, 0xB1), (1, s.lifecycle.code), (2, 1), (2, 1), (2, s.custody.feature)] ++ List.replicate 46 0

/-- A HELLO from its payload; none where it is not of 64 bytes. -/
def helloOf (p : Packet) (port : Nat) : Option Hello :=
  let b := p.payload
  if b.length = 64 then
    some { uniqueId := fld b 0 8, node := fld b 8 1, pilot := bitOf (fld b 9 1) 0, harbour := bitOf (fld b 9 1) 1
           joined := bitOf (fld b 9 1) 2, stepping := fld b 10 1, lifecycle := fld b 11 1, protoMin := fld b 12 2
           protoMax := fld b 14 2, feature := fld b 16 2, port := port, hops := p.hops }
  else none

/-- The routes that a JOIN gives a member: one byte a node, 0xFF none (R305). -/
def routeBytes (s : State) (node : Nat) : Bytes :=
  (List.range 8).map (fun i =>
    if i + 1 = node then 0xFF else ((routeFrom s node (i + 1)).map (fun l => BitVec.ofNat 8 l.1)).getD 0xFF)

/-- The JOIN of an accepted member (R304; its layout is the model's, log 34). -/
def joinPayload (s : State) (node : Nat) : Bytes :=
  fields [(1, 1), (1, 0), (1, s.ferry.joined.toNat), (1, s.nodeId), (2, s.ferry.proto), (2, 0)] ++ routeBytes s node
    ++ fields [(1, ((treeBelow s node).map (2 ^ ·)).sum)]

/-- A refusal. -/
def refusalPayload (reason : Nat) : Bytes := fields [(1, 0), (1, reason)]

/-- Send a JOIN towards a node by the port its HELLO came by; devices on the way pass it on by the HELLOs they have heard,
joined or not. -/
def sendJoin (s : State) (h : Hello) (payload : Bytes) : State :=
  enqueue s h.port (mkPacket 3 0 (ownNode s) (if h.hops = 0 then 0 else h.node) 1 0 0 payload)

/-- Send every member its JOIN, and start the broadcast flows afresh, as the members do. -/
def sendJoins (s : State) : State :=
  let s1 := s.setFerry { s.ferry with flowTx := s.ferry.flowTx.filter (fun p => !decide (p.1.1 = 15)) }
  ((othersJoined s1 s1.nodeId).foldl (fun s n =>
    match (hellosOf s n).head? with
    | some h => sendJoin s h (joinPayload s n)
    | none => s) s1).draw

/-! ## Losing nodes (R316, R317) -/

/-- The turn in progress uses a node. -/
def turnUses (s : State) (n : Nat) : Bool :=
  match s.turn with
  | some t => t.cascade && ((inPipeline s && (stageNodes s t.slot).contains n) || decide (n = s.ferry.pilotNode))
  | none => false

/-- Reads of a node's memory that have not been answered fail: they return poison (R313, R14). -/
def failReads (s : State) (n : Nat) : State :=
  s.setFerry { s.ferry with reads := s.ferry.reads.map (fun r =>
    if r.node = n ∧ r.whole = false then { r with got := poison r.len, whole := true } else r) }

/-- A slot has a stage on a node. -/
def stageOn (s : State) (slot n : Nat) : Bool := inPipeline s && (stageNodes s slot).contains n

/-- Requests that end with a lost node: those placed on it, and in pipeline layout those on a slot with a stage
on it. -/
def lostWith (s : State) (n : Nat) (b : Berth) : Bool :=
  if inPipeline s then stageOn s b.slot n else decide (b.node = n)

/-- What the image command and the swap make of lost nodes (R315, R222, R231). -/
def commandsLose (gone : Nat → Bool) (s : State) : State := swapLoses gone (jobLoses gone s)

/-- The pilot loses a node (R316): out of the mask, journalled, its turn abandoned, its requests to end at the next
barrier, its stages orphaned with their maps kept. -/
def loseNode (reason : Nat) (s : State) (n : Nat) : State :=
  let s1 := if turnUses s n then dropTurn s else s
  let hit := (s1.serving.berths.filter (fun b => lostWith s1 n b))
  let slots := (List.range 8).filter (fun i => stageOn s1 i n && !(stageNodes s1 i).isEmpty)
  let s2 := s1.setFerry { s1.ferry with
    stageMaps := slots.foldl (fun m i => aset m i (padTo 256 ((stageNodes s1 i).map (BitVec.ofNat 8)))) s1.ferry.stageMaps
    orphaned := (s1.ferry.orphaned ++ slots).dedup
    lost := s1.ferry.lost ++ ((hit.filter Berth.live).map (·.num))
    joined := s1.ferry.joined &&& ~~~ (1#8 <<< (n - 1))
    messages := s1.ferry.messages.filter (fun p => !decide (p.1.1 = n))
    told := s1.ferry.told.filter (fun p => !decide (p.1.1 = n))
    sent := s1.ferry.sent.filter (fun p => !decide (p.1 = n))
    gaps := s1.ferry.gaps.filter (fun p => !decide (p.1 % 16 = n))
    flowTx := s1.ferry.flowTx.filter (fun p => !decide (p.1.1 = n))
    flowRx := s1.ferry.flowRx.filter (fun p => !decide (p.1.1 % 16 = n)) }
  let s3 := (hit.filter (fun b => decide (b.st = .parked))).foldl freeBerth s2
  let s4 := commandsLose (fun m => decide (m = n)) (failReads s3 n)
  let s5 := (othersJoined s4 s4.nodeId).foldl (fun s m => sendFlowless s m 12 (fields [(1, n), (1, reason)])) s4
  (s5.bump 0x2B10 1).event 13 0 1 [n, reason]

/-- A stage's KV tables are the pilot's: its sets are freed and its tree goes (R311, R317). -/
def dropTables (s : State) : State :=
  if inPipeline s ∧ s.ferry.role = .member then
    let s1 := (s.kv.sets.map (·.1)).foldl (fun s k => freeSet s k.1 k.2) s
    s1.setKv { s1.kv with nodes := [] }
  else s

/-- The device is unmoored: its cascade state goes, and with it every berth a pilot placed here (R303, R317). -/
def unmoor (reason : Nat) (s : State) : State :=
  let placed := s.serving.berths.filter (fun b => decide (65536 ≤ b.ring))
  let s1 := match s.turn with
    | some t => if t.cascade then dropTurn s else s
    | none => s
  let s2 := dropTables (placed.foldl freeBerth s1)
  let s3 := commandsLose (fun _ => true) (((List.range 8).map (· + 1)).foldl failReads s2)
  s3.setFerry { s3.ferry with
    role := .unmoored, joined := 0, proto := 0, reason := reason, pilotNode := 0, routes := [], children := []
    flowTx := [], flowRx := [], sent := [], gaps := [], broadcasts := [], told := [], batch := none, accepted := none
    messages := [] }

/-- The cascade of a device ends: a pilot loses every member first. -/
def disband (reason : Nat) (s : State) : State :=
  unmoor reason (if s.ferry.role = .pilot then
    (othersJoined s s.nodeId).foldl (loseNode reason) s else s)

/-- The pilot recomputes routes and tree, loses every joined node that no route leads to, and tells the others their new
routes (R305, R316). With no member
left it is unmoored (log 45). -/
def pilotSettles (reason : Nat) (s : State) : State :=
  let s1 := pilotRoutes s
  let gone := (joinedNodes s1).filter (fun n => !decide (n = s1.nodeId) && (aget s1.ferry.routes n).isNone)
  let s2 := gone.foldl (loseNode reason) s1
  if (joinedNodes s2).all (fun n => decide (n = s2.nodeId)) then unmoor 1 s2 else sendJoins (pilotRoutes s2)

/-- A member that no route to the pilot is left to becomes unmoored, and its neighbours learn that no way to the pilot
leads through it (R317, log 46). -/
def cutOff (s : State) : State :=
  let pilot := s.ferry.pilotNode
  let s1 := (unmoor 9 s).event 13 0 9 [pilot]
  (List.range 3).foldl (fun s q => if (s.port q).st = .full then sendNeighbour s q 12 0 (fields [(1, pilot), (1, 9)]) else s) s1

/-- A member takes other ways for routes by a dead port and tells the pilot of the dead link; with no way to the pilot it
is unmoored (R305, R317). -/
def memberSettles (dead neighbour : Nat) (s : State) : State :=
  let routes := s.ferry.routes.filterMap (fun p =>
    if p.2 = dead then (helloRoute s p.1).map (fun q => (p.1, q)) else some p)
  let s1 := s.setFerry { s.ferry with routes := routes, children := s.ferry.children.filter (fun c => !decide (c = dead)) }
  if (aget routes s1.ferry.pilotNode).isNone then cutOff s1
  else sendFlowless s1 s1.ferry.pilotNode 12 (fields [(1, neighbour), (1, 0x40)])

/-- A neighbour has lost its way to the pilot: so has this member, where its own way leads through it and no other is
known (R317, log 46). -/
def wayLost (port : Nat) (s : State) : State :=
  let pilot := s.ferry.pilotNode
  if s.ferry.role = .member ∧ aget s.ferry.routes pilot = some port then
    let s1 := s.setFerry { s.ferry with
      hellos := s.ferry.hellos.filter (fun h => !(decide (h.port = port) && decide (h.node = pilot))) }
    match helloRoute s1 pilot with
    | some q => s1.setFerry { s1.ferry with routes := aset s1.ferry.routes pilot q }
    | none => cutOff s1
  else s

/-- A link between other devices is down: which of the farther nodes are still heard of, the pilot cannot see (free
values, log 46). -/
def innerLinkDown (s : State) : State :=
  pilotSettles 1 (s.setFerry { s.ferry with
    hellos := s.ferry.hellos.filter (fun h => decide (h.hops = 0) || Config.stillHeard s.draws h.port h.node) }).draw

/-- Packets of a dead link wait for the new routes, in order, ahead of later ones; broadcasts for the children,
whose flow check drops what they have had (R305, R301). -/
def resendOver (l : List Waiting) (s : State) : State :=
  let ports (s : State) (p : Packet) : List Nat :=
    if p.dst = 0 then [] else if p.dst = 15 then s.ferry.children
    else (match aget s.ferry.routes p.dst with | some q => [q] | none => [])
  let back (s : State) (w : Waiting) : State :=
    let l := ports s w.packet
    if l.isEmpty then leaveBuffer s w
    else l.foldl (fun s q => s.setPort q { s.port q with outbox := w :: (s.port q).outbox }) s
  let s1 := l.reverse.foldl back s
  (List.range 3).foldl (fun s q => askFullRate (pump s q) q) s1

/-- Buffers of a link that is down hold nothing any more. -/
def forgetHeld (n : Nat) (w : Waiting) : Waiting := if (w.held.map (·.1)) = some n then { w with held := none } else w

/-- A link is down (R298, R302): the port starts afresh and awaits training. A device that hears no other is unmoored
for want of a link (0x2B00:06). -/
def linkDown (n : Nat) (s : State) : State :=
  let q := s.port n
  let s0 := s.setPort n Port.reset
  let s1 := s0.setFerry { s0.ferry with
    ports := s0.ferry.ports.map (fun p => { p with outbox := p.outbox.map (forgetHeld n) })
    hellos := s.ferry.hellos.filter (fun h => !decide (h.port = n)) }
  let s2 := match s1.ferry.role with
    | .pilot => pilotSettles 1 s1
    | .member => memberSettles n q.neighbour s1
    | .unmoored => if s1.ferry.hellos.isEmpty then s1.setFerry { s1.ferry with reason := 1 } else s1
  resendOver ((q.unacked.map (fun p => (⟨p, none⟩ : Waiting)) ++ q.outbox).map (forgetHeld n)) s2

/-! ## Flow resets (R301; their messages are the model's, log 66) -/

/-- The source's end of a flow begins again, and its control packets that were not acknowledged go out again. -/
def resetTx (node cls : Nat) (s : State) : State :=
  let again := if cls = 0 then (s.ferry.sent.filter (fun p => decide (p.1 = node))).map (·.2) else []
  let mine (w : Waiting) : Bool :=
    w.held.isNone && decide (w.packet.dst = node) && decide (w.packet.cls = cls) && !w.packet.flowless
  let s1 := s.setFerry { s.ferry with
    flowTx := adel s.ferry.flowTx (node, cls)
    sent := if cls = 0 then s.ferry.sent.filter (fun p => !decide (p.1 = node)) else s.ferry.sent
    ports := s.ferry.ports.map (fun p => { p with outbox := p.outbox.filter (fun w => !mine w) }) }
  again.foldl (fun s p => sendTo s node p.kind 0 (fld p.header 6 1) p.context p.payload) s1

/-- The destination's end of a flow begins again. -/
def resetRx (key : Nat × Nat) (s : State) : State :=
  s.setFerry { s.ferry with flowRx := adel s.ferry.flowRx key, gaps := s.ferry.gaps.filter (fun k => !decide (k = key)) }

/-- A reset of the flow from one node to another: each end of it here begins again. Reads that the lost packets belonged
to fail, and their turns are replayed. -/
def resetEnds (src tag dst : Nat) (s : State) : State :=
  let cls := tag % 4
  let bc := decide (0x90 ≤ tag)
  let s1 := if src = s.nodeId then resetTx (if bc then 15 else dst) cls s else s
  let s2 := if dst = s.nodeId || (bc && !decide (src = s.nodeId)) then resetRx (src + 16 * b2n bc, cls) s1 else s1
  if cls < 2 then s2
  else if src = s.nodeId then failReads s2 dst
  else if dst = s.nodeId then failReads s2 src
  else s2

/-- The pieces of a broadcast go out again. -/
def recast (s : State) : State :=
  match s.images.job with
  | some j => castParts j.slot (j.pieces.map (fun p => ⟨j.mask, p.1, p.2⟩)) s
  | none => s

/-- A turn abandoned for a flow gap is run again from its barrier, with its batch (R316). -/
def rerunTurn (s : State) : State :=
  match s.turn with
  | none => s
  | some t =>
    match manifestOf s t.slot with
    | none => dropTurn s
    | some m =>
      let s1 := endTurn t (settleProgram t (stopBusy t s))
      pipelineStart m (newTurn t.slot t.number t.batch t.rows true true)
        (t.batch.foldl (fun s e => setBerth s e.berth (fun b => { b with full := 0 })) s1)

/-- A pipeline turn in progress uses the flow between two nodes. -/
def turnOver (s : State) (a b : Nat) : Bool :=
  match s.turn with
  | some t => t.cascade && inPipeline s && (stageNodes s t.slot).contains a && (stageNodes s t.slot).contains b
  | none => false

/-- The pilot resets a flow with a gap (R301): the destination first, then the source, and a turn in progress that used
it is run again. A broadcast is reset at every member and its pieces go out again. -/
def resetFlow (src tag dst : Nat) (s : State) : State :=
  let bytes := fields [(1, src), (1, tag), (1, dst)]
  let ends := if 0x90 ≤ tag then othersJoined s s.nodeId else [dst, src].filter (fun n => !decide (n = s.nodeId))
  let s1 := resetEnds src tag dst (ends.foldl (fun s n => sendFlowless s n 12 bytes) s)
  let s2 := if 0x90 ≤ tag then recast s1 else s1
  if 2 ≤ tag % 4 ∧ turnOver s2 src dst = true then rerunTurn s2 else s2

/-- Gaps that the pilot itself has met. -/
def settleGaps (s : State) : State :=
  if s.ferry.role = .pilot then
    s.ferry.gaps.foldl (fun s k => resetFlow (k.1 % 16) (0x80 + k.2 + k.1 / 16 * 16) s.nodeId s) s
  else s

/-! ## Links (R295, R298, R302) -/

/-- Lanes a port trains at with some lanes failed; none where lane 0 fails (R295). -/
def lanesLeft (failed : List (Fin 4)) : Option Nat :=
  if failed.contains 0 then none
  else if failed.isEmpty then some 4
  else if failed.contains 1 then some 1
  else some 2

/-- The ferry runs at full rate only in ACTIVE and READY (R296). -/
def ferryAwake (s : State) : Bool :=
  (match s.power.state with | .active => true | .ready => true | _ => false) && s.power.entering.isNone
    && !s.power.tripped

/-- A port is in use. -/
def portUp (s : State) (n : Nat) : Bool := !decide ((s.port n).st = .down)

/-- LINK_TRAINED (R295): a link that was down starts afresh with a HELLO; one that returns from slow crossing goes
on where it was. -/
def execLinkTrained (port : Fin 3) (failed : List (Fin 4)) (s : State) : Host.Outcome State Fault Refusal :=
  let n := port.val
  let q := s.port n
  if !ferryAwake s || decide (q.st = .full) then .next s
  else match lanesLeft failed, bitOf (s.val 0x2B30 1) n with
    | some k, true =>
      if q.st = .down then
        let s1 := s.setPort n { Port.reset with st := .full, lanes := k }
        .next (sendNeighbour s1 n 2 0 (helloPayload s1))
      else .next (feedBranches (pump (s.setPort n { q with st := .full, lanes := k, silence := 0, wakeSent := false }) n))
    | _, _ => .next (if portUp s n then linkDown n s else s)

/-- Resend, or after eight resends in a row without progress the link is down (R298). -/
def resendOrDown (n : Nat) (s : State) : State := if 8 ≤ (s.port n).resends then linkDown n s else resend s n

/-- RETRY_TIMEOUT (R298): while packets are unacknowledged. -/
def execRetryTimeout (port : Fin 3) (s : State) : Host.Outcome State Fault Refusal :=
  let q := s.port port.val
  if q.st ≠ .full ∨ q.unacked.isEmpty = true then .next s else .next (resendOrDown port.val s)

/-- KEEPALIVE_SILENCE (R302). -/
def execKeepaliveSilence (port : Fin 3) (s : State) : Host.Outcome State Fault Refusal :=
  let q := s.port port.val
  if q.st = .slow ∧ 10 ≤ q.silence then .next (linkDown port.val s) else .next s

/-! ## HELLO (R303) -/

/-- Keep a HELLO: the latest of its device by its port; the neighbour is known by it. -/
def keepHello (h : Hello) (s : State) : State :=
  let s1 := s.setFerry { s.ferry with
    hellos := s.ferry.hellos.filter (fun x => !(decide (x.uniqueId = h.uniqueId) && decide (x.port = h.port))) ++ [h] }
  if h.hops = 0 then s1.setPort h.port { s1.port h.port with neighbour := h.node } else s1

/-- Relay a HELLO to the other ports while its hops allow (log 46). -/
def relayHello (p : Packet) (port : Nat) (s : State) : State :=
  if p.hops + 1 < 8 then
    queueTo s ([0, 1, 2].filter (fun q => !decide (q = port) && decide ((s.port q).st = .full))) p.hop none
  else s

/-- A HELLO is delivered (R303): relayed, and kept for the join decision; the device's own is ignored. -/
def takeHello (port : Nat) (p : Packet) (s : State) : State :=
  match helloOf p port with
  | none => s
  | some h => if h.uniqueId = s.part.uniqueId then s else keepHello h (relayHello p port s)

/-! ## The join decision (R303) -/

/-- The other devices heard, each by its best HELLO. -/
def othersHeard (s : State) : List Hello :=
  ((s.ferry.hellos.map (·.uniqueId)).dedup).filterMap (fun u =>
    (sortBy (fun a b => decide (a.hops < b.hops) || (decide (a.hops = b.hops) && decide (a.port ≤ b.port)))
      (s.ferry.hellos.filter (fun h => decide (h.uniqueId = u)))).head?)

/-- The lifecycles a cascade may hold: FACTORY, DEVELOPMENT, DEPLOYED. -/
def cascadeLifecycle (c : Nat) : Bool := decide (1 ≤ c) && decide (c ≤ 3)

/-- Outcome of a member at the pilot (Join outcomes). -/
def memberReason (s : State) (l : List Hello) (h : Hello) : Nat :=
  if h.harbour then 7
  else if h.node = s.nodeId ∨ l.any (fun x => decide (x.node = h.node) && decide (x.uniqueId ≠ h.uniqueId)) = true then 5
  else if 1 < h.protoMin ∨ h.protoMax < 1 then 4
  else if h.lifecycle ≠ s.lifecycle.code ∨ cascadeLifecycle h.lifecycle = false then 6
  else 0

/-- A refusal is counted, journalled and sent. -/
def refuseMember (s : State) (h : Hello) (reason : Nat) : State :=
  sendJoin ((s.bump 0x2B10 2).event 13 0 2 [h.uniqueId, h.node, reason]) h (refusalPayload reason)

/-- Objects of the pilot that each member holds a copy of (R304): index, subs and size. -/
def sharedObjects : List (Nat × Nat × Nat) :=
  [(0x2800, 64, 1), (0x2801, 128, 1), (0x2802, 64, 2), (0x2804, 1, 2), (0x2903, 64, 4), (0x2911, 64, 1)]

/-- A semaphore's select, owner, value and deck access go to a member. -/
def copySem (node : Nat) (s : State) (n : Nat) : State :=
  [(1, 2, n), (2, 1, semOwner s n), (3, 8, semValue s n), (4, 1, b2n (semDeck s n))].foldl
    (fun s p => memberWrite s node 0x2803 p.1 false (leBytes p.2.1 p.2.2)) s

/-- Semaphores that are not as reset leaves them. -/
def semsInUse (s : State) : List Nat :=
  (List.range 1024).filter (fun n => !decide (semOwner s n = 0xFF) || !decide (semValue s n = 0) || semDeck s n)

/-- The pilot copies its objects to a member that has joined, and the layout that every joined node applies (R304, R306;
the latter DEDUCED, log 46). -/
def copyAll (s : State) (node : Nat) : State :=
  let s1 := sharedObjects.foldl (fun s o => (List.range o.2.1).foldl (fun s i =>
    memberWrite s node o.1 (i + 1) false (leBytes o.2.2 (s.val o.1 (i + 1)))) s) s
  memberWrite ((semsInUse s1).foldl (copySem node) s1) node 0x2B01 0 false (leBytes 1 (s.val 0x2B01 0))

/-- Slots whose stages all lie on joined nodes again are orphaned no longer, once the nodes that have joined hold their
layers again: whether they do is a free value (R316, R317, log 45). -/
def readopt (fresh : List Nat) (s : State) : State :=
  (s.setFerry { s.ferry with orphaned := s.ferry.orphaned.filter (fun i =>
    (stageNodes s i).any (fun n => !(joinedNodes s).contains n
      || (fresh.contains n && !Config.holdsLayers s.draws n i))) }).draw

/-- Members accepted by the pilot's decision join, and those that are not any more are lost. -/
def acceptMembers (good : List Hello) (s : State) : State :=
  let mask := (good.foldl (fun m h => m ||| (1#8 <<< (h.node - 1))) (1#8 <<< (s.nodeId - 1)))
  let fresh := (good.map (·.node)).filter (fun n => !bitOf s.ferry.joined.toNat (n - 1))
  let s2 := ((joinedNodes s).filter (fun n => !bitOf mask.toNat (n - 1))).foldl (loseNode 1) s
  let s3 := s2.setFerry { s2.ferry with
    role := .pilot, joined := mask, proto := 1, reason := 0, pilotNode := s2.nodeId
    flowTx := s2.ferry.flowTx.filter (fun p => !fresh.contains p.1.1)
    flowRx := s2.ferry.flowRx.filter (fun p => !fresh.contains (p.1.1 % 16)) }
  fresh.foldl copyAll (sendJoins (pilotRoutes (readopt fresh s3)))

/-- The pilot's decision: members accepted and lost, then those refused. -/
def pilotDecides (s : State) : State :=
  let l := othersHeard s
  let good := l.filter (fun h => decide (memberReason s l h = 0))
  let bad := l.filter (fun h => !decide (memberReason s l h = 0))
  let s1 := if !good.isEmpty then acceptMembers good s
    else if s.ferry.role = .pilot then disband 1 s else s
  bad.foldl (fun s1 h => refuseMember s1 h (memberReason s l h)) s1

/-- JOIN_DECISION (R303): each device takes the outcomes that concern it from the HELLOs it has heard. -/
def execJoinDecision (s : State) : Host.Outcome State Fault Refusal :=
  if !s.serves then .next s
  else if s.ferry.hellos.isEmpty then
    .next (match s.ferry.role with | .unmoored => s.setFerry { s.ferry with reason := 1 } | _ => s)
  else
    let l := othersHeard s
    let pilots := (l.filter (·.pilot)).length + b2n (pilotStrap s)
    let pilotHarbour := if pilotStrap s then s.inHarbour else l.any (fun h => h.pilot && h.harbour)
    if pilots = 0 then .next (disband 2 s)
    else if 2 ≤ pilots then .next ((disband 3 s).event 13 0 3 [])
    else if pilotHarbour || s.inHarbour then .next (disband 7 s)
    else if pilotStrap s then .next (pilotDecides s)
    else .next s

/-- What a JOIN makes of a device: a member, or refused (R304). The flows between it and the pilot begin at
joining, and the broadcast flows with every JOIN. The level agreed with its own host ends, so its rings stay idle
(R49). -/
def takeJoin (b : Bytes) (s : State) : State :=
  if fld b 0 1 = 1 then
    let pilot := fld b 3 1
    let fresh := decide (s.ferry.role = .unmoored)
    let s1 := if fresh then s.setVal 0x1002 2 0 else s
    s1.setFerry { s1.ferry with
      role := .member, joined := BitVec.ofNat 8 (fld b 2 1), proto := fld b 4 2, reason := 0, pilotNode := pilot
      routes := (List.range 8).filterMap (fun i => if fld b (8 + i) 1 < 3 then some (i + 1, fld b (8 + i) 1) else none)
      children := [0, 1, 2].filter (fun i => bitOf (fld b 16 1) i)
      flowTx := if fresh then [] else s1.ferry.flowTx
      flowRx := if fresh then [] else s1.ferry.flowRx.filter (fun p => !decide (p.1.1 = pilot + 16)) }
  else if s.ferry.role = .unmoored then
    (s.setFerry { s.ferry with reason := fld b 1 1 }).event 13 0 2 [fld b 1 1]
  else (unmoor (fld b 1 1) s).event 13 0 2 [fld b 1 1]

/-- A JOIN is delivered (R304). A device with the PILOT strap takes none, and one in harbour mode stays unmoored (R94,
R303). -/
def takeJoinPacket (p : Packet) (s : State) : State :=
  if pilotStrap s || s.inHarbour then s else takeJoin p.payload s

/-- A member learns that a node has been lost (R316). -/
def nodeLost (n reason : Nat) (s : State) : State :=
  if 1 ≤ n ∧ n ≤ 8 then
    let s1 := if turnUses s n then dropTurn s else s
    let s2 := commandsLose (fun m => decide (m = n)) (failReads s1 n)
    (s2.setFerry { s2.ferry with joined := s2.ferry.joined &&& ~~~ (1#8 <<< (n - 1)) }).event 13 0 1 [n, reason]
  else s

/-- A LOSS is delivered: a node lost (R316), or, with a reason of the model's own, a neighbour without a way to the pilot,
a dead link, a flow's gap, or a flow's reset (R301, R305, R317; logs 46 and 66). -/
def takeLoss (port : Nat) (p : Packet) (s : State) : State :=
  let n := fld p.payload 0 1
  let reason := fld p.payload 1 1
  let dst := fld p.payload 2 1
  if p.dst = 0 then wayLost port s
  else match s.ferry.role with
    | .pilot =>
      if !(joinedNodes s).contains p.src then s
      else if reason = 0x40 then innerLinkDown s
      else if 0x80 ≤ reason then resetFlow n reason dst s
      else s
    | .member =>
      if p.src ≠ s.ferry.pilotNode then s
      else if 0x80 ≤ reason then resetEnds n reason dst s
      else nodeLost n reason s
    | .unmoored => s

end Sys2Proof.Machine
end

