-- ==== Sys2Proof/Machine/CascadeTurn.lean ====
section
/-! DEFINITION. Requests and turns that cross devices: BERTH, batch table, commit report and turn-commit
(R307 to R311). The payloads and the order of their messages are the model's (logs 34 and 35). -/

namespace Sys2Proof.Machine

/-! ## Messages of several packets -/

/-- The end-of-message flag (Packet header). -/
def endsMessage (p : Packet) : Bool := bitOf (fld p.header 6 1) 0

/-- A packet of a message: the whole message once its last packet has come. -/
def gather (s : State) (p : Packet) : State × Option Bytes :=
  let key := (p.src, p.kind)
  let all := agetD s.ferry.messages key [] ++ p.payload
  if endsMessage p then (s.setFerry { s.ferry with messages := adel s.ferry.messages key }, some all)
  else (s.setFerry { s.ferry with messages := aset s.ferry.messages key all }, none)

/-- Act on a whole message. -/
def onMessage (p : Packet) (act : Bytes → State → State) (s : State) : State :=
  let r := gather s p
  match r.2 with
  | some m => act m r.1
  | none => r.1

/-- The device is a member and its pilot speaks. -/
def fromPilot (s : State) (p : Packet) : Bool := decide (s.ferry.role = .member) && decide (p.src = s.ferry.pilotNode)

/-- The device is the pilot and a joined member speaks. -/
def fromMember (s : State) (p : Packet) : Bool := decide (s.ferry.role = .pilot) && (joinedNodes s).contains p.src

/-! ## BERTH (R308, R309) -/

/-- The tokens of a message from an offset on. -/
def tokensOf (m : Bytes) (off : Nat) : List Nat :=
  (List.range ((m.length - off) / 4)).map (fun i => fld m (off + 4 * i) 4)

/-- A request is placed here: a new berth with its own prefix lookup, or a parked berth that continues. An image that
cannot be run here ends it at once. -/
def placeHere (num : Nat) (m : Bytes) (s : State) : State :=
  let t := fld m 1 1
  let e := slice m 4 64
  let toks := tokensOf m 68
  match berthOf s num with
  | some _ =>
    let s1 := setBerth s num (fun b => { b.asked (placedRing num) (fld m 2 1) e with
      signal := false, tokens := b.tokens ++ toks, promptEnd := b.tokens.length + toks.length, st := .ready
      admitted := s.serving.nextAdmission })
    s1.setServing { s1.serving with nextAdmission := s1.serving.nextAdmission + 1 }
  | none =>
    match entrance s (fld e 2 1) with
    | .refused status detail => sendReport 0 true [⟨num, status, detail, none, 0, 0⟩] s
    | _ =>
      let b := { newBerth s num t (fld e 2 1) (placedRing num) (fld m 2 1) 0 e toks with signal := false }
      lookupPrefix (addBerth s b) b

/-- A berth is only to be reclaimed. -/
def closeHere (num : Nat) (s : State) : State := setBerth s num (fun b => { b with st := .closing, finished := true })

/-- A cancel of a berth (R308): its rows are masked. A stage's berth stands for the turn alone, which may still wait for its
barrier (R294, R311). -/
def cancelHere (num : Nat) (s : State) : State :=
  if inPipeline s then
    maskRows (s.setFerry { s.ferry with batch := s.ferry.batch.map (fun p => (p.1, p.2 ++ [num])) }) num
  else closeHere num (maskRows s num)

/-- What a BERTH message asks. -/
def takeBerthMessage (num : Nat) (m : Bytes) (s : State) : State :=
  match fld m 0 1 with
  | 1 => placeHere num m s
  | 2 => cancelHere num s
  | 3 => ((s.serving.berths.filter (fun b => decide (65536 ≤ b.ring))).map (·.num)).foldl (fun s n => closeHere n s) s
  | 4 => closeHere num s
  | 5 => setBerth s num (fun b => { b with finished := true })
  | _ => s

/-- A BERTH packet is delivered (R308). -/
def takeBerthPacket (p : Packet) (s : State) : State :=
  if fromPilot s p then onMessage p (takeBerthMessage p.context) s else s

/-! ## Batch table (R311) -/

/-- A batch table has come (R311): it waits for the stage's turn barrier, which its arrival is where nothing holds it
(R17). What was left of an earlier turn goes. -/
def takeTable (m : Bytes) (s : State) : State :=
  let s1 := dropTurn s
  let s2 := s1.setFerry { s1.ferry with batch := some (m, []) }
  if s2.custody.transition.isNone && atBarrier s2 then meetBarrier s2 else s2

/-! ## Commit report (R307) -/

/-- Lines of a report. -/
def reportOf (m : Bytes) : List ReportLine := (List.range (fld m 4 2)).map (fun i => reportLine (slice m (8 + 16 * i) 16))

/-- A line of a report of requests that have ended at a member's barrier. -/
def endedAway (src : Nat) (s : State) (l : ReportLine) : State :=
  match berthOf s l.berth with
  | some b => if b.live ∧ b.node = src then sendFree (finishNow s b l.status l.detail 0) src l.berth else s
  | none => s

/-- The report of the pipeline turn in progress. A stage that gave up fails every berth of the turn. -/
def acceptPipeline (number : Nat) (l : List ReportLine) (s : State) : State :=
  match s.turn with
  | none => s
  | some t =>
    if t.cascade = false ∨ t.number ≠ number then s
    else if l.any (fun x => decide (x.status = stFault)) then dropTurn (maskBatch (fun _ => true) 6 (countFault s t.slot))
    else
      let index (n : Nat) : Option Nat := t.batch.findIdx? (fun e => decide (e.berth = n))
      let drawn := l.filterMap (fun x => match index x.berth, x.token with | some i, some k => some (i, k) | _, _ => none)
      let s1 := l.foldl (fun s x => if x.status = stFull then setBerth s x.berth (fun b => { b with full := x.detail }) else s) s
      let discards := discardsOf s1 t.batch
      (otherStages s1 t.slot).foldl (fun s n => sendCommit n t.slot number discards s) (commitTurn t drawn s1)

/-- One line of a member's report in replica layout. -/
def acceptLine (src : Nat) (a : Tally) (l : ReportLine) : Tally :=
  match berthOf a.st l.berth with
  | some b =>
    if b.node = src ∧ b.live then
      commitBerth l.berth l.rows false false l.token (if l.status = stFull then l.detail else 0)
        { a with st := setBerth a.st l.berth (fun b => { b with position := l.position }) }
    else a
  | none => a

/-- What became of a line's berth is told to its member before the turn-commit: parked, or to be freed. -/
def tellMember (src : Nat) (s : State) (l : ReportLine) : State :=
  match berthOf s l.berth with
  | some b =>
    if b.finished ∧ b.node = src then
      (match b.st with
       | .parked => sendMessage s src 5 l.berth [5, 0, 0, 0]
       | _ => sendFree s src l.berth)
    else s
  | none => s

/-- The report of a member's own turn in replica layout. -/
def acceptReplica (src number : Nat) (l : List ReportLine) (s : State) : State :=
  let discards := (l.zipIdx.filter (fun p => match berthOf s p.1.berth with
    | some b => !b.live || !decide (b.node = src)
    | none => true)).map (·.2)
  let a := l.foldl (acceptLine src) ⟨s, [], 0⟩
  let s1 := (a.signal.foldl (fun s b => signalRequest b s) a.st).bumpBy 0x2806 2 64 a.tokens
  sendCommit src 0 number discards (l.foldl (tellMember src) s1)

/-- A whole commit report. -/
def takeReport (src : Nat) (m : Bytes) (s : State) : State :=
  let number := fld m 0 4
  let l := reportOf m
  if fld m 6 2 = 1 then l.foldl (endedAway src) s
  else
    let s1 := s.setFerry { s.ferry with accepted := some number }
    retryStalled (if inPipeline s1 then acceptPipeline number l s1 else acceptReplica src number l s1)

/-! ## Turn-commit (R307) -/

/-- One batch entry at a turn-commit: discarded and context-full ones lose the sets they took, the others advance. A
finished berth keeps only the tokens it has been fed. A stage's sets are as the pilot tells it. -/
def commitEntry (t : Turn) (map : Nat) (s : State) (p : BatchEntry × Nat) : State :=
  match berthOf s p.1.berth with
  | none => s
  | some b =>
    if bitOf map p.2 || decide (b.full ≠ 0) then (if inPipeline s then s else dropTaken b s)
    else setBerth s b.num (fun b =>
      let b1 := advance p.1.rows (aget t.drawn p.2) b
      if b1.finished then { b1 with tokens := b1.tokens.take b1.position } else b1)

/-- The turn-commit of the turn that this device has reported: positions advance and sets are published, at a stage as the
pilot has published them (R307, R311). -/
def takeCommit (m : Bytes) (s : State) : State :=
  match s.turn with
  | none => s
  | some t =>
    if t.cascade = false ∨ t.reported = false ∨ t.number ≠ fld m 0 4 then s
    else
      let map := fld m 4 32
      let s1 := t.batch.zipIdx.foldl (commitEntry t map) s
      let kept := (t.batch.zipIdx.filter (fun p => !bitOf map p.2)).map (·.1)
      let s2 := if inPipeline s1 then takeTables t.slot (m.drop 36) s1 else publishBatch kept s1
      let s3 := turnSignals t.signals (countRoutings t.slot t.routings s2)
      retryStalled (endTurn t (settleProgram t (countRecovery t s3)))

/-- A TURN packet is delivered (R307, R311): context [1:0] says which message it is; the pilot's acceptance of a report is
the turn's commit point. -/
def takeTurnPacket (p : Packet) (s : State) : State :=
  match p.context % 4 with
  | 0 => if fromPilot s p && s.running then onMessage p takeTable s else s
  | 1 => if fromMember s p then onMessage p (takeReport p.src) s else s
  | 2 => if fromPilot s p then onMessage p takeCommit s else s
  | _ => s

end Sys2Proof.Machine
end

