-- ==== Sys2Proof/Machine/Crossing.lean ====
section
/-! DEFINITION. What crosses devices besides turns: semaphores, reads and writes of node windows, pieces of
images, and the layout and stage maps (R306, R310, R312, R313, R315). -/

namespace Sys2Proof.Machine

/-! ## SEMSIG (R312) -/

/-- Nodes that may signal a semaphore, 0x2B20:02. -/
def nodesAllowed (s : State) (sem : Nat) : Nat := s.val (0x10000 + sem) 0x20

/-- A SEMSIG is delivered (R312): from a node that is still joined; it is wake source bit 4, so it aborts an entry (R18,
R70). -/
def takeSignal (p : Packet) (s : State) : State :=
  let n := fld p.payload 0 2
  if !(joinedNodes s).contains p.src then s
  else
    let s1 := wake 16 s
    if n < 1024 ∧ bitOf (nodesAllowed s n) (p.src - 1) = true then signalNow s1 n (fld p.payload 2 8) else s1.bump 0x2B10 3

/-! ## WRITE, READ, READ_DATA (R313, R315) -/

/-- A piece of a container: to the image command on its slot, else to the swap; the command's answer follows once its
checks have been made. -/
def takeBroadcast (slot off : Nat) (data : List Octet) (s : State) : State :=
  let mine := match s.images.job with
    | some j => decide (j.slot = slot) && !decide (j.source = 0)
    | none => false
  let r := if mine then takePiece s slot off data else takeSwapPiece s slot off data
  match r.2 with
  | some (ch, code) => if mine then lateAnswer ch 0x2701 1 code r.1 else lateAnswer ch 0x2710 1 code r.1
  | none => r.1

/-- The last activations of a stage's input have arrived (R311). -/
def inputsArrive (p : Packet) (s : State) : State :=
  match s.turn with
  | some t =>
    if t.cascade ∧ t.inputs = false ∧ p.cls = 2 ∧ endsMessage p = true ∧ p.context = t.number % 2 ^ 16 then
      { s with turn := some { t with inputs := true } }
    else s
  | none => s

/-- A WRITE is delivered: weights feed an install, a load or a swap; the others are written by the ferry inbound master of
the receiving port. -/
def takeWrite (port : Nat) (p : Packet) (s : State) : State :=
  let a := fld p.payload 0 8
  let data : List Octet := (p.payload.drop 8).map (⟨·, false⟩)
  if p.cls = 1 then
    if p.dst ≠ 15 ∨ bitOf (p.context / 256) (s.nodeId - 1) = true then takeBroadcast (p.context % 8) a data s else s
  else inputsArrive p (memWrite (query s (21 + port) .write) s a data).1

/-- Runs of octets that are all poison or all sound. -/
def octetRuns : List Octet → List (List Octet)
  | [] => []
  | o :: r =>
    match octetRuns r with
    | [] => [[o]]
    | [] :: t => [o] :: t
    | (q :: g) :: t => if o.bad = q.bad then (o :: q :: g) :: t else [o] :: (q :: g) :: t

/-- The READ_DATA packets of a read: each one poison or sound, context bit 0 marking poison (log 47). -/
def sendReadData (s : State) (node cls : Nat) (octs : List Octet) : State :=
  let runs := octetRuns octs
  runs.zipIdx.foldl (fun s p =>
    sendTo s node 10 cls (b2n (decide (p.2 + 1 = runs.length))) (b2n (anyBad p.1)) (vals p.1)) s

/-- A READ is delivered: read by the ferry inbound master; what it may not read comes back as poison. -/
def takeRead (port : Nat) (p : Packet) (s : State) : State :=
  let n := fld p.payload 8 4
  if n = 0 ∨ 512 < n ∨ p.src = 0 then s
  else
    let r := memRead (query s (21 + port) .read) s (fld p.payload 0 8) n
    sendReadData r.1 p.src p.cls ((r.2.1 ++ poison n).take n)

/-- Class that a remote read travels in. -/
def readClass (r : RemoteRead) : Nat := farClass r.node r.addr

/-- Add the bytes of a READ_DATA to the oldest read of its node and class that awaits some. -/
def fillRead (s : State) (src cls : Nat) (octs : List Octet) : List RemoteRead → List RemoteRead
  | [] => []
  | r :: l =>
    if r.node = src ∧ r.whole = false ∧ readClass r = cls then
      { r with got := r.got ++ octs, whole := decide (r.len ≤ (r.got ++ octs).length) } :: l
    else r :: fillRead s src cls octs l

/-- READ_DATA is delivered (R313): what waited for the bytes goes on. -/
def takeReadData (p : Packet) (s : State) : State :=
  let octs : List Octet := p.payload.map (⟨·, bitOf p.context 0⟩)
  let s1 := s.setFerry { s.ferry with reads := fillRead s p.src p.cls octs s.ferry.reads }
  retryStalled (retryPrograms (retryReads s1))

/-! ## Layout and stage maps (R306, R310) -/

/-- The cascade has no live or parked berth, no image command running and no swap. -/
def cascadeIdle (s : State) : Bool :=
  !s.serving.berths.any (fun b => b.live || decide (b.st = .parked)) && s.images.job.isNone && s.images.swap.isNone

/-- A pilot's write goes to every member. -/
def toMembers (idx sub : Nat) (domain : Bool) (val : Bytes) (s : State) : State :=
  if s.ferry.role = .pilot then
    ((joinedNodes s).filter (fun n => !decide (n = s.nodeId))).foldl (fun s n => memberWrite s n idx sub domain val) s
  else s

/-- Every write of 0x2B01:00. While a turn runs it is in force from the next barrier on (R17). -/
def applyLayout (val : Bytes) (s : State) : Applied :=
  guarded [(cascadeIdle s, abNotIdle), (decide (leNat val ≤ 1), abRange)]
    (fun s =>
      let s1 := toMembers 0x2B01 0 false val (s.setVal 0x2B01 0 (leNat val))
      accept (if s.turn.isNone then layoutAtBarrier s1 else s1)) s

/-- LAYOUT (R306). -/
def execLayoutWrite (ch : Channel) (val : Bytes) (s : State) : Host.Outcome State Fault Refusal :=
  objectWrite ch 0x2B01 0 val (applyLayout val) s

/-- The layers a map assigns: those of the slot's image, or, for an empty slot, the bytes before the first zero
(DEDUCED, log 46). -/
def mappedLayers (s : State) (slot : Nat) (val : Bytes) : List Nat :=
  let l := val.map (·.toNat)
  if imageLayers s slot = 0 then l.takeWhile (fun n => !decide (n = 0)) else l.take (imageLayers s slot)

/-- A list with runs of equal elements made one. -/
def squeeze : List Nat → List Nat
  | [] => []
  | x :: r =>
    match squeeze r with
    | [] => [x]
    | y :: t => if x = y then y :: t else x :: y :: t

/-- Every node of a map is joined and holds one run (R310). -/
def mapFits (s : State) (l : List Nat) : Bool :=
  l.all (fun n => (joinedNodes s).contains n) && decide ((squeeze l).Nodup)

/-- Every write of 0x2B02. -/
def applyStageMap (slot : Nat) (val : Bytes) (s : State) : Applied :=
  guarded [(decide (val.length = 256), abLength), (cascadeIdle s, abNotIdle),
      (mapFits s (mappedLayers s slot val), abInconsistent)]
    (fun s => accept (toMembers 0x2B02 (slot + 1) true val (s.setFerry { s.ferry with
      stageMaps := aset s.ferry.stageMaps slot val
      told := s.ferry.told.filter (fun p => !decide (p.1.2 = slot))
      orphaned := s.ferry.orphaned.filter (fun i => !decide (i = slot)) }))) s

/-- STAGE_MAP (R310). -/
def execStageMap (ch : Channel) (slot : Fin 8) (val : Bytes) (s : State) : Host.Outcome State Fault Refusal :=
  objectWrite ch 0x2B02 (slot.val + 1) val (applyStageMap slot.val val) s

end Sys2Proof.Machine
end

