-- ==== Sys2Proof/Machine/DictRead.lean ====
section
/-! DEFINITION. What every object of the dictionary reads as (the "Objects defined in this chapter" tables): the
settings and counters as they are kept, and the objects that show state kept elsewhere. Keys are index × 256 +
sub-index. -/

namespace Sys2Proof.Machine

/-- The number of a key whose value is computed; none where the value is the one kept for the object. -/
abbrev Reading := Option Nat

/-- The first reading that gives a value. -/
def firstReading : List Reading → Reading
  | [] => none
  | some v :: _ => some v
  | none :: r => firstReading r

/-- Code of 0x2001. -/
def PowerState.code : PowerState → Nat
  | .active => 1 | .ready => 2 | .doze => 3 | .watch => 4 | .offReady => 5 | .off => 0 | .held => 0

/-- Code of 0x1000:03. -/
def Grade.code : Grade → Nat
  | .t => 1 | .l => 2

/-- The two's complement of a reading in 32 bits. -/
def int32 (i : Int) : Nat := (i % 2 ^ 32).toNat

/-- Identity, versions, transports and the store (02_object_dictionary.md). -/
def read02 (s : State) : Nat → Reading
  | 0x100003 => some s.part.grade.code
  | 0x100005 => some s.part.uniqueId
  | 0x100007 => some s.tiers.fitted
  | 0x100008 => some s.nodeId
  | 0x100009 => some s.part.dateCode
  | 0x100101 => some s.custody.helmVersion
  | 0x100102 => some s.custody.watchVersion
  | 0x100103 => some s.part.bootRomVersion
  | 0x100104 => some (if s.inHarbour then 0xFF else s.custody.activeSlot)
  | 0x100105 => some s.custody.feature
  | 0x100106 => some s.custody.watchAbi
  | 0x110102 => some (0x30 + s.custody.straps / 16 % 4)
  | 0x120201 => some (b2n (newestCopy s).isSome)
  | 0x120202 => some s.custody.storeCount
  | _ => none

/-- Power states, clocks, temperature (03_watch_and_power.md). -/
def read03 (s : State) : Nat → Reading
  | 0x200100 => some s.power.state.code
  | 0x200401 => some (b2n s.power.fllLocked)
  | 0x200402 => some (b2n s.power.refclk)
  | 0x202002 => some s.power.point
  | 0x202003 => some (pointKHz s.power.point)
  | 0x203004 => some (int32 (hottest s.power.readings))
  | 0x203203 => some s.power.avg10ms
  | k => if k / 256 = 0x2031 ∧ k % 256 ≠ 0 then some (int32 (s.power.readings.getD (k % 256 - 1) 0)) else none

/-- Resets, lifecycle, journal, counters (04_start_up_and_custody.md). -/
def read04 (s : State) : Nat → Reading
  | 0x210002 => some s.custody.cause
  | 0x210201 => some s.custody.resultA
  | 0x210202 => some s.custody.resultB
  | 0x210301 => some s.custody.harbour
  | 0x210401 => some s.custody.straps
  | 0x211001 => some s.lifecycle.code
  | 0x211201 => some (b2n s.custody.tamperHarbour)
  | 0x211202 => some (s.counter 7)
  | 0x211203 => some s.custody.lastTamper
  | 0x212002 => some (if s.custody.journal.records.isEmpty then Config.unstatedRead 0x2120 2 else s.custody.journal.oldest)
  | 0x212003 => some (if s.custody.journal.records.isEmpty then Config.unstatedRead 0x2120 3 else s.custody.journal.newest)
  | 0x212004 => some s.custody.journal.cursor
  | 0x212005 => some s.custody.journal.queue.length
  | k =>
    if k / 256 = 0x2122 ∧ k % 256 ≠ 0 then some (agetD s.custody.journal.lost (k % 256 - 1) 0)
    else if k / 256 = 0x2130 ∧ k % 256 ≠ 0 then some (s.counter (k % 256 - 1))
    else none

/-- The weight flash (05_weight_flash.md). -/
def read05 (s : State) : Nat → Reading
  | 0x220003 => some (s.flash.priv.length % 32 + 256 * (s.flash.unread.length % 32))
  | 0x220101 => some (s.flash.helm.filter (fun d => !d.isFinished)).length
  | 0x221101 => some (b2n s.flash.calValid)
  | 0x224102 => some (agetD s.flash.wear (s.val 0x2241 1) 0)
  | k =>
    if 0x2220 ≤ k / 256 ∧ k / 256 ≤ 0x222F then
      if k % 256 = 1 then some ((s.flash.regions[k / 256 - 0x2220]?).map Region.word |>.getD 0)
      else if k % 256 = 2 then some (regionState s (k / 256 - 0x2220))
      else none
    else none

/-- A sealed range's word: first page, pages, in use. -/
def sealedWord (s : State) (n : Nat) : Nat :=
  match aget s.tiers.sealedRanges n with
  | some r => r.first + r.pages * 2 ^ 32 + 2 ^ 63
  | none => 0

/-- A tenant's own figures (R160): tier-0 quota and use, tier-1 quota and use, KiB. -/
def ownFigure (s : State) (ch : Channel) (sub : Nat) : Nat :=
  match chanTenant ch with
  | none => Config.unstatedRead 0x2423 sub
  | some t =>
    match sub with
    | 1 => tierQuota s 0 t
    | 2 => usageWord s t % 2 ^ 32
    | 3 => tierQuota s 1 t
    | _ => usageWord s t / 2 ^ 32

/-- Hold, LPDDR, window, tensors and quotas (06_hold_and_tiers.md). -/
def read06 (s : State) (ch : Channel) : Nat → Reading
  | 0x240002 => some s.tiers.rate
  | 0x240003 => some s.tiers.training
  | 0x240004 => some s.tiers.ranks
  | 0x240101 => some (if s.tiers.fitted = 0 then 0 else areaBase s)
  | 0x240102 => some (tier1Size s / 1024)
  | 0x241003 => some s.tiers.windows.length
  | 0x242101 => some (s.sel ch 0x2421 1)
  | 0x242201 => some s.tiers.tensors.length
  | k =>
    if 0x2310 ≤ k / 256 ∧ k / 256 ≤ 0x2328 ∧ k % 256 ≠ 0 then some (regionWord s (k / 256 - 0x2310) (k % 256))
    else if k / 256 = 0x2402 ∧ k % 256 ≠ 0 then some (sealedWord s (k % 256))
    else if k / 256 = 0x2423 ∧ k % 256 ≠ 0 then some (ownFigure s ch (k % 256))
    else if k / 256 = 0x2432 ∧ k % 256 ≠ 0 then some (usageWord s (k % 256 - 1))
    else none

/-- Code of a deck's state. -/
def DeckStatus.code : DeckStatus → Nat
  | .off => 0 | .idle => 1 | .running => 2 | .halted => 3 | .retired => 4 | .paired => 5

/-- Deck d of an index 0x4000 + d × 0x100. -/
def deckOf (s : State) (idx : Nat) : Option Deck := (s.decks.toList)[(idx - 0x4000) / 0x100]?

/-- Decks and images (08_decks.md, 09_model_images.md). -/
def read08 (s : State) : Nat → Reading
  | 0x260002 => some (decksInService s)
  | 0x271003 => some (swapStatus s)
  | k =>
    if 0x4000 ≤ k / 256 ∧ k / 256 ≤ 0x4F00 ∧ k % 256 = 1 then some ((deckOf s (k / 256)).map (·.status.code) |>.getD 0)
    else none

/-- The semaphore a channel has selected in 0x2803:01. -/
def selSem (s : State) (ch : Channel) : Nat := s.sel ch 0x2803 1

/-- Tenant objects T + 0x02 to T + 0x05 (10_rings_and_turns.md). -/
def readTenant (s : State) (ch : Channel) (t off sub : Nat) : Reading :=
  let mine := s.serving.berths.filter (fun b => decide (b.tenant = t))
  match off, sub with
  | 2, 1 => some (s.sel ch (tenantObj t 2) 1)
  | 3, 1 => some (mine.filter Berth.live).length
  | 3, 2 => some (mine.filter (fun b => decide (b.st = .parked))).length
  | 4, 1 => some (s.sel ch (tenantObj t 4) 1)
  | 5, 1 => some (s.sel ch (tenantObj t 5) 1)
  | 5, 2 =>
    let n := s.sel ch (tenantObj t 5) 1
    some (if semOwner s n = t then semValue s n else Config.unstatedRead 0x3005 2)
  | _, _ => none

/-- Serving (10_rings_and_turns.md). -/
def read10 (s : State) (ch : Channel) : Nat → Reading
  | 0x280301 => some (selSem s ch)
  | 0x280302 => some (semOwner s (selSem s ch))
  | 0x280303 => some (semValue s (selSem s ch))
  | 0x280304 => some (b2n (semDeck s (selSem s ch)))
  | 0x280502 => some s.serving.hold.length
  | 0x280606 => some s.serving.berths.length
  | k =>
    if 0x3000 ≤ k / 256 ∧ k / 256 < 0x4000 then readTenant s ch ((k / 256 - 0x3000) / 0x40) ((k / 256 - 0x3000) % 0x40) (k % 256)
    else none

/-- A tenant's own KV figures: quota and pages charged. -/
def ownKv (s : State) (ch : Channel) (sub : Nat) : Nat :=
  match chanTenant ch with
  | none => Config.unstatedRead 0x2905 sub
  | some t => if sub = 1 then s.val 0x2903 (t + 1) else kvCharged s t

/-- KV pages and the tree (11_kv_and_prefixes.md). -/
def read11 (s : State) (ch : Channel) : Nat → Reading
  | 0x290501 => some (ownKv s ch 1)
  | 0x290502 => some (ownKv s ch 2)
  | 0x291001 => some s.kv.nodes.length
  | 0x291201 => some (s.sel ch 0x2912 1)
  | k =>
    if k / 256 = 0x2901 ∧ k % 256 ≠ 0 then some (partitionBase s (k % 256 - 1))
    else if k / 256 = 0x2902 ∧ k % 256 ≠ 0 then some (freeSets s (k % 256 - 1))
    else if k / 256 = 0x2904 ∧ k % 256 ≠ 0 then some (kvCharged s (k % 256 - 1))
    else none

/-- The layer a channel's slot and a sub-index name. -/
def selLayer (s : State) (ch : Channel) (sub : Nat) : Option ExpertLayer := expertLayer s (s.sel ch 0x2A00 1) (sub - 1)

/-- A setting of an expert layer; 0xFF where the layer is none. -/
def layerSetting (f : ExpertLayer → Nat) (o : Option ExpertLayer) : Reading := some ((o.map f).getD 0xFF)

/-- Experts (12_experts.md). -/
def read12 (s : State) (ch : Channel) : Nat → Reading
  | 0x2A0001 => some (s.sel ch 0x2A00 1)
  | 0x2A0102 => some s.experts.cursor
  | 0x2A0103 => some (if s.experts.records.isEmpty then Config.unstatedRead 0x2A01 3 else oldestExpert s)
  | 0x2A0104 => some (if s.experts.records.isEmpty then Config.unstatedRead 0x2A01 4 else newestExpert s)
  | k =>
    if k % 256 = 0 then none
    else match k / 256 with
      | 0x2A10 => layerSetting (·.mode) (selLayer s ch (k % 256))
      | 0x2A11 => layerSetting (·.interval) (selLayer s ch (k % 256))
      | 0x2A12 => layerSetting (·.step.toNat) (selLayer s ch (k % 256))
      | 0x2A13 => layerSetting (·.limit.toNat) (selLayer s ch (k % 256))
      | _ => none

/-- Code of 0x2B00:01. -/
def Role.code : Role → Nat
  | .unmoored => 0 | .pilot => 1 | .member => 2

/-- Code of a port's state. -/
def PortState.code : PortState → Nat
  | .down => 0 | .slow => 1 | .training => 2 | .full => 3

/-- A port's word, 0x2B03. -/
def portWord (p : Port) : Nat := p.st.code + p.lanes % 8 * 4 + p.neighbour % 16 * 256

/-- The cascade (13_ferry_cascade.md). -/
def read13 (s : State) (ch : Channel) : Nat → Reading
  | 0x2B0001 => some s.ferry.role.code
  | 0x2B0002 => some s.ferry.joined.toNat
  | 0x2B0003 => some s.ferry.proto
  | 0x2B0006 => some s.ferry.reason
  | 0x2B0007 => some s.ferry.pilotNode
  | 0x2B2001 => some (s.sel ch 0x2B20 1)
  | 0x2B2002 => some (nodesAllowed s (s.sel ch 0x2B20 1))
  | k => if k / 256 = 0x2B03 ∧ k % 256 ≠ 0 then some (portWord (s.port (k % 256 - 1))) else none

/-- Code of a context's state. -/
def CtxState.code : CtxState → Nat
  | .closed => 0 | .opened => 1 | .paused => 2

/-- Media (14_video_and_camera.md). -/
def read14 (s : State) (ch : Channel) : Nat → Reading
  | 0x2C0102 => some (s.sel ch 0x2C01 2)
  | 0x2C0103 => some (bufferWord s (s.sel ch 0x2C01 2))
  | 0x2C1001 => some (s.sel ch 0x2C10 1)
  | 0x2C1004 =>
    some (match selCtx ch s with
      | some c => (s.ctx c).st.code
      | none => Config.unstatedRead 0x2C10 4)
  | _ => none

/-- Oldest and newest sequence of the error log. -/
def logSequence (s : State) (sub : Nat) : Nat :=
  match s.integrity.log.head?, s.integrity.log.getLast? with
  | some a, some b => if sub = 2 then a.seq else b.seq
  | _, _ => Config.unstatedRead 0x2D03 sub

/-- Integrity (15_integrity.md). -/
def read15 (s : State) (ch : Channel) : Nat → Reading
  | 0x2D0002 => some s.integrity.mode
  | 0x2D0301 => some s.integrity.cursor
  | 0x2D0302 => some (logSequence s 2)
  | 0x2D0303 => some (logSequence s 3)
  | 0x2D1101 => some (s.sel ch 0x2D11 1)
  | k => if k / 256 = 0x2D10 ∧ k % 256 ≠ 0 then some (marginWord s (k % 256 - 1)) else none

/-- The value of an object whose type has a fixed size. -/
def numberAt (ch : Channel) (idx sub : Nat) (s : State) : Nat :=
  let k := objKey idx sub
  (firstReading [read02 s k, read03 s k, read04 s k, read05 s k, read06 s ch k, read08 s k, read10 s ch k,
    read11 s ch k, read12 s ch k, read13 s ch k, read14 s ch k, read15 s ch k]).getD (s.val idx sub)

/-! ## Strings of bytes -/

/-- A STR as it is kept: its bytes as the low digits of a number, ended by a digit 1. -/
def strNat (bs : Bytes) : Nat := leNat (bs ++ [1])

/-- The bytes of a kept STR. -/
def strBytes : Nat → Nat → Bytes
  | 0, _ => []
  | fuel + 1, n => if n ≤ 1 then [] else BitVec.ofNat 8 (n % 256) :: strBytes fuel (n / 256)

/-- One record of the host window table (0x2410:02; Window update record). -/
def windowRecord (s : State) (i : Nat) : Bytes :=
  match aget s.tiers.windows i with
  | some e =>
    fields [(2, i), (1, e.owner), (1, 1 + 2 * b2n e.coded), (4, 0), (8, e.hostAddress), (8, e.lengthTable)]
  | none => fields [(2, i), (1, 0), (1, 0), (4, 0), (8, 0), (8, 0)]

/-- A requester sees a tensor's record: its own or the device's under class T, any under class P (DEDUCED, log 48). -/
def seesTensor (ch : Channel) (h : Nat) : Bool :=
  match chanTenant ch with
  | some t => decide (ownerOf h = t) || decide (ownerOf h = 0xFF)
  | none => true

/-- 0x2421:02. -/
def tensorQuery (s : State) (ch : Channel) : Bytes :=
  let h := s.sel ch 0x2421 1
  match tensorOf s h with
  | some t => if seesTensor ch h then tensorRecord t else Config.unstatedBytes 0x2421 2
  | none => Config.unstatedBytes 0x2421 2

/-- The 32 bytes of an exception record (R209). -/
def ExcRecord.bytes (r : ExcRecord) : Bytes :=
  fields [(1, r.cause), (1, r.slot), (2, 0), (4, r.pc), (8, r.address), (4, r.turn), (1, r.layer), (1, r.logical), (10, 0)]

/-- Code of a berth state in a berth record. -/
def BerthState.code : BerthState → Nat
  | .free => 0 | .waiting => 1 | .ready => 2 | .parked => 3 | .closing => 4

/-- Flags of a berth: keep, auto_replay, progress, private, signal (Submission entry). -/
def Berth.flagBits (b : Berth) : Nat :=
  b2n b.keep + 2 * b2n b.autoReplay + 4 * b2n b.progress + 8 * b2n b.secret + 16 * b2n b.signal

/-- A ring's number within its tenant's blocks: the blocks in rising order. -/
def ringWithin (s : State) (t ring : Nat) : Nat :=
  ((List.range (ring / 512)).filter (fun b => decide (s.val 0x2801 (b + 1) = t))).length * 512 + ring % 512

/-- The berth of a tenant that a tag names, live or parked. -/
def berthByTag (s : State) (t tag : Nat) : Option Berth :=
  s.serving.berths.find? (fun b => decide (b.tenant = t) && decide (b.tag = tag) && (b.live || decide (b.st = .parked)))

/-- A berth that a tag names in a berth query: live or parked, else one that is CLOSING until a barrier frees it
(R255). -/
def queriedBerth (s : State) (t tag : Nat) : Option Berth :=
  (berthByTag s t tag).orElse (fun _ => s.serving.berths.find? (fun b =>
    decide (b.tenant = t) && decide (b.tag = tag) && decide (b.st = .closing)))

/-- T + 0x04:02, the 16-byte berth record. -/
def berthRecord (s : State) (ch : Channel) (t : Nat) : Bytes :=
  match queriedBerth s t (s.sel ch (tenantObj t 4) 1) with
  | some b =>
    fields [(1, b.st.code), (1, b.cls), (1, b.slot), (1, b.flagBits), (4, b.position), (4, b.delivered), (2, b.num),
      (2, ringWithin s t b.ring)]
  | none => Config.unstatedBytes 0x3004 2

/-- 0x2912:02: the page-table entries of the berth the tenant has named; empty where it names none. -/
def pageTable (s : State) (ch : Channel) : Bytes :=
  match chanTenant ch with
  | some t =>
    match berthByTag s t (s.sel ch 0x2912 1) with
    | some b => b.table.flatMap pageEntry
    | none => []
  | none => []

/-- 0x2A14: the biases in force; empty where the layer is no expert layer. -/
def biasBytes (o : Option ExpertLayer) : Bytes := ((o.map (·.bias)).getD []).flatMap (fun b => leBytes 4 b.toNat)

/-- 0x2A15: 32 bytes for each group. -/
def totalBytes (o : Option ExpertLayer) : Bytes :=
  ((o.map (·.totals)).getD []).flatMap (fun g => fields [(8, g.assigned), (8, g.overflow), (8, g.dropped), (8, g.padding)])

/-- 0x2B02: the stage map of a slot, an even split where none has been written (R310). -/
def stageMapBytes (s : State) (slot : Nat) : Bytes :=
  match aget s.ferry.stageMaps slot with
  | some m => m
  | none => padTo 256 ((stageNodes s slot).map (BitVec.ofNat 8))

/-- 0x2B06: the port to each node, 0xFF where there is none. -/
def routeTable (s : State) : Bytes := (List.range 8).map (fun i => BitVec.ofNat 8 (agetD s.ferry.routes (i + 1) 0xFF))

/-- 0x2C10:02. -/
def contextRecord (s : State) (ch : Channel) : Bytes :=
  match selCtx ch s with
  | some c => (s.ctx c).record
  | none => Config.unstatedBytes 0x2C10 2

/-- The 32 bytes of an error record (Error record). -/
def ErrorRecord.bytes (r : ErrorRecord) : Bytes :=
  fields [(4, r.seq), (1, r.cls), (1, r.master), (1, r.outcome), (1, r.flags), (8, r.address), (4, r.turn), (1, r.deck),
    (1, r.logical), (1, r.array), (1, r.attempt), (8, 0)]

/-- The error records a read of 0x2D04 takes: from the cursor on. -/
def errorRead (s : State) : List ErrorRecord :=
  s.integrity.log.dropWhile (fun r => !inSpan s.integrity.cursor (2 ^ 31) r.seq)

/-- Strings of bytes of the tenant objects. -/
def tenantDomain (s : State) (ch : Channel) (t off : Nat) : Bytes :=
  match off with
  | 2 => (ringOf s (s.sel ch (tenantObj t 2) 1)).bytes
  | 4 => berthRecord s ch t
  | _ => []

/-- The current bytes of a DOMAIN object. -/
def domainAt (ch : Channel) (idx sub : Nat) (s : State) : Bytes :=
  match objKey idx sub with
  | 0x212100 => (journalRead s.custody.journal).flatMap JRecord.bytes
  | 0x220002 => s.flash.unread.flatMap FlashCompletion.bytes
  | 0x221000 => s.flash.calRow
  | 0x241002 => (List.range 4096).flatMap (windowRecord s)
  | 0x242102 => tensorQuery s ch
  | 0x270201 => Config.imageKey
  | 0x291202 => pageTable s ch
  | 0x2A0200 => (expertRead s).flatMap ExpertRecord.bytes
  | 0x2B0600 => routeTable s
  | 0x2C1002 => contextRecord s ch
  | 0x2C1201 => (mediaUnread ch s).flatMap MediaCompletion.toBytes
  | 0x2D0400 => (errorRead s).flatMap ErrorRecord.bytes
  | _ =>
    if 0x3000 ≤ idx ∧ idx < 0x4000 then tenantDomain s ch ((idx - 0x3000) / 0x40) ((idx - 0x3000) % 0x40)
    else if 0x4000 ≤ idx then ((deckOf s idx).map (·.exc.bytes)).getD []
    else match idx with
      | 0x2700 => imageEntry s (sub - 1)
      | 0x2702 => (((s.images.keys[sub - 2]?).getD none).getD [])
      | 0x2A14 => biasBytes (selLayer s ch sub)
      | 0x2A15 => totalBytes (selLayer s ch sub)
      | 0x2B02 => stageMapBytes s (sub - 1)
      | 0x2C30 => leBytes 32 (s.val 0x2C30 sub)
      | _ => []

/-- What a row of the object table reads as. -/
def readObject (ch : Channel) (d : ObjDef) (idx sub : Nat) (s : State) : Bytes :=
  match d.type with
  | .str => strBytes 65 (s.val idx sub)
  | .domain => domainAt ch idx sub s
  | t => leBytes t.size (numberAt ch idx sub s)

end Sys2Proof.Machine
end

