-- ==== Sys2Proof/Machine/DictWrite.lean ====
section
/-! DEFINITION. What a write of every object does (step 10 of R40 and the state checks that are the owner's): the
objects with commands of their own go to their chapters' operations, the others are checked against their stated
range (R24, R374), lose their reserved bits (R8) and are kept. -/

namespace Sys2Proof.Machine

/-! ## Values (R8, R24, R374) -/

/-- A continuation byte of UTF-8. -/
def utf8Tail (b : Byte) (lo hi : Nat) : Bool := decide (lo ≤ b.toNat) && decide (b.toNat ≤ hi)

/-- Well-formed UTF-8, by its first byte (the Unicode standard's table of byte sequences). -/
def utf8Ok : Nat → Bytes → Bool
  | 0, bs => bs.isEmpty
  | _ + 1, [] => true
  | n + 1, b :: r =>
    let tails : List (Nat × Nat) → Bool := fun l =>
      (l.zipIdx.all (fun p => match r[p.2]? with | some x => utf8Tail x p.1.1 p.1.2 | none => false))
        && utf8Ok n (r.drop l.length)
    let c := b.toNat
    if c < 0x80 then utf8Ok n r
    else if c < 0xC2 then false
    else if c < 0xE0 then tails [(0x80, 0xBF)]
    else if c = 0xE0 then tails [(0xA0, 0xBF), (0x80, 0xBF)]
    else if c = 0xED then tails [(0x80, 0x9F), (0x80, 0xBF)]
    else if c < 0xF0 then tails [(0x80, 0xBF), (0x80, 0xBF)]
    else if c = 0xF0 then tails [(0x90, 0xBF), (0x80, 0xBF), (0x80, 0xBF)]
    else if c < 0xF4 then tails [(0x80, 0xBF), (0x80, 0xBF), (0x80, 0xBF)]
    else if c = 0xF4 then tails [(0x80, 0x8F), (0x80, 0xBF), (0x80, 0xBF)]
    else false

/-- A value lies in an object's stated range (R374). -/
def ObjRange.holds : ObjRange → Nat → Bool
  | .any, _ => true
  | .within lo hi mult, v => decide (lo ≤ v) && decide (v ≤ hi) && decide (v % mult = 0)
  | .orNone lo hi off, v => (decide (lo ≤ v) && decide (v ≤ hi)) || decide (v = off)
  | .oneOf l, v => l.contains v
  | .masked _, _ => true

/-- A value without its reserved bits (R8). -/
def ObjRange.clean : ObjRange → Nat → Nat
  | .masked m, v => v &&& m
  | _, v => v

/-- A value is of its object's type and range (R24, R374). -/
def valueOk (d : ObjDef) (val : Bytes) : Bool :=
  match d.type with
  | .str => utf8Ok 64 val
  | .f32 => !isNan fp32 (leNat val)
  | .bool => decide (leNat val ≤ 1)
  | _ => d.range.holds (leNat val)

/-- The number an accepted value is kept as. -/
def keptValue (d : ObjDef) (val : Bytes) : Nat :=
  match d.type with
  | .str => strNat val
  | _ => d.range.clean (leNat val)

/-- The objects held separately for each channel. -/
def perChannel (idx sub : Nat) : Bool :=
  [0x242101, 0x280301, 0x291201, 0x2A0001, 0x2B2001, 0x2C0102, 0x2C1001, 0x2D1101].contains (objKey idx sub)
    || (decide (0x3000 ≤ idx) && decide (idx < 0x4000) && decide (sub = 1)
        && [2, 4, 5].contains ((idx - 0x3000) % 0x40))

/-- Keep an accepted value. -/
def keep (ch : Channel) (idx sub v : Nat) (s : State) : State :=
  if perChannel idx sub then s.setSel ch idx sub v else s.setVal idx sub v

/-- A write of an object that is only kept. -/
def applyKept (ch : Channel) (d : ObjDef) (idx sub : Nat) (val : Bytes) (s : State) : Applied :=
  guarded [(valueOk d val, abRange)] (fun s => accept (keep ch idx sub (keptValue d val) s)) s

/-! ## Objects with rules of their own -/

/-- Requested Point: no point above the grade's highest (R2, R75). -/
def applyPoint (val : Bytes) (s : State) : Applied :=
  guarded [(decide (leNat val ≤ topPoint s.part.grade), abRange)] (fun s => accept (s.setVal 0x2020 1 (leNat val))) s

/-- The grade's sustained and peak power, mW (0x2032). -/
def gradePower : Grade → Nat × Nat
  | .t => (6000, 9000) | .l => (15000, 20000)

/-- Sustained Limit and Peak Limit (R80). -/
def applyPowerLimit (sub : Nat) (val : Bytes) (s : State) : Applied :=
  let v := leNat val
  let top := if sub = 1 then (gradePower s.part.grade).1 else (gradePower s.part.grade).2
  let fits := if sub = 1 then decide (v ≤ s.val 0x2032 2) else decide (s.val 0x2032 1 ≤ v)
  guarded [(decide (v ≤ top) && decide (sub = 2 ∨ 1000 ≤ v), abRange), (fits, abInconsistent)]
    (fun s => accept (s.setVal 0x2032 sub v)) s

/-- Tensor Pool and Host Scratch (R135): only while the hold is idle, and the pool not below the tier-0 quotas. -/
def applyHoldSize (d : ObjDef) (sub : Nat) (val : Bytes) (s : State) : Applied :=
  guarded
    [(holdIdle s, abNotIdle), (valueOk d val, abRange),
     (decide (sub = 2) || decide (quotaSum s 0 ≤ leNat val), abInconsistent)]
    (fun s => accept (s.setVal 0x2300 sub (leNat val))) s

/-- Check Mode (R345): off is refused where R99 refuses it. -/
def applyCheckMode (val : Bytes) (s : State) : Applied :=
  let closed := match s.lifecycle with
    | .deployed => true | .service => true | .final => true | _ => false
  guarded [(!(decide (leNat val = 2) && closed), abLifecycle), (decide (leNat val ≤ 2), abRange)]
    (fun s => accept (s.setVal 0x2D00 1 (leNat val))) s

/-- Share Group (R275). -/
def applyShareGroup (t : Nat) (val : Bytes) (s : State) : Applied :=
  guarded [(!s.serving.berths.any (fun b => decide (b.tenant = t) && (b.live || decide (b.st = .parked))), abNotIdle)]
    (fun s => accept (copyToMembers 0x2911 (t + 1) val (s.setVal 0x2911 (t + 1) (leNat val)))) s

/-- Prefill Chunk, which members hold a copy of (R304). -/
def applyChunk (d : ObjDef) (val : Bytes) (s : State) : Applied :=
  guarded [(valueOk d val, abRange)] (fun s => accept (copyToMembers 0x2804 1 val (s.setVal 0x2804 1 (leNat val)))) s

/-- A stalled deck waits on a semaphore: its bundle's M slot is SEMWAIT (R259). -/
def deckWaits (n : Nat) (d : Deck) : Bool :=
  let w := slotWord d.bundle .m
  d.stalled && decide (fOp w = 0x0E) && decide ((d.sGet (fA w)).toNat = n)

/-- A wait on a semaphore is pending: of a ring or of a deck (R258). -/
def semWaited (s : State) (n : Nat) : Bool :=
  s.serving.rings.any (fun p => match p.2.wait with | some w => decide (w.sem = n) | none => false)
    || s.decks.toList.any (deckWaits n)

/-- A pilot's write of a semaphore object goes to each member, after the select it acts on (R304). -/
def copySemWrite (n sub : Nat) (val : Bytes) (s : State) : State :=
  copyToMembers 0x2803 sub val (copyToMembers 0x2803 1 (leBytes 2 n) s)

/-- 0x2803:02 to 04 of the selected semaphore (R258, R259). -/
def applySem (ch : Channel) (sub : Nat) (val : Bytes) (s : State) : Applied :=
  let n := selSem s ch
  let v := leNat val
  match sub with
  | 2 =>
    guarded [(decide (v < 0x40) || decide (v = 0x7F) || decide (v = 0xFF), abRange)]
      (fun s => accept (copySemWrite n 2 val (s.setVal (0x1_0000 + n) 2 v))) s
  | 3 => guarded [(!semWaited s n, abNotIdle)] (fun s => accept (copySemWrite n 3 val (setSem s n v))) s
  | _ =>
    guarded [(decide (v ≤ 1), abRange)] (fun s => accept (copySemWrite n 4 val (s.setVal (0x1_0000 + n) 4 v))) s

/-- Nodes Allowed of the selected semaphore (R312). -/
def applyNodesAllowed (ch : Channel) (val : Bytes) (s : State) : Applied :=
  accept (s.setVal (0x1_0000 + s.sel ch 0x2B20 1) 0x20 (leNat val))

/-- Ring Select: a ring number; that it is not the tenant's own shows at its record (R235). -/
def applyRingSelect (ch : Channel) (t : Nat) (val : Bytes) (s : State) : Applied :=
  guarded [(decide (leNat val < 65536), abRange)]
    (fun s => accept (s.setSel ch (tenantObj t 2) 1 (leNat val))) s

/-- Select of a tenant's own semaphore. -/
def applyOwnSelect (ch : Channel) (t : Nat) (val : Bytes) (s : State) : Applied :=
  guarded [(decide (leNat val < 1024) && decide (semOwner s (leNat val) = t), abRange)]
    (fun s => accept (s.setSel ch (tenantObj t 5) 1 (leNat val))) s

/-- Value of a tenant's own semaphore (R258). -/
def applyOwnValue (ch : Channel) (t : Nat) (val : Bytes) (s : State) : Applied :=
  let n := s.sel ch (tenantObj t 5) 1
  guarded [(!semWaited s n, abNotIdle), (decide (semOwner s n = t), abInconsistent)]
    (fun s => accept (setSem s n (leNat val))) s

/-- Writes of a tenant's objects. -/
def applyTenantObject (ch : Channel) (d : ObjDef) (idx sub : Nat) (val : Bytes) (s : State) : Applied :=
  let t := (idx - 0x3000) / 0x40
  match (idx - 0x3000) % 0x40, sub with
  | 2, 1 => applyRingSelect ch t val s
  | 2, 2 => applyRingRecord ch t val s
  | 5, 1 => applyOwnSelect ch t val s
  | 5, 2 => applyOwnValue ch t val s
  | _, _ => applyKept ch d idx sub val s

/-- Writes of a region entry word: base words at odd sub-indexes, limit words at even ones (R138). -/
def applyRegionWord (idx sub : Nat) (val : Bytes) (s : State) : Applied :=
  if sub % 2 = 1 then applyRegionBase (idx - 0x2310) ((sub - 1) / 2) val s
  else applyRegionLimit (idx - 0x2310) ((sub - 2) / 2) val s

/-- Writes of the objects that come in rows. -/
def applyRow (ch : Channel) (d : ObjDef) (idx sub : Nat) (val : Bytes) (s : State) : Applied :=
  if 0x2220 ≤ idx ∧ idx ≤ 0x222F then applyRegion (idx - 0x2220) val s
  else if 0x2310 ≤ idx ∧ idx ≤ 0x2328 then applyRegionWord idx sub val s
  else if isTierQuota idx sub then applyTierQuota idx sub val s
  else if 0x2A10 ≤ idx ∧ idx ≤ 0x2A14 then applyExpert ch idx sub val s
  else if 0x3000 ≤ idx ∧ idx < 0x4000 then applyTenantObject ch d idx sub val s
  else if 0x4000 ≤ idx then
    command val 0x5357_0040 (applyDeckReset ⟨(idx - 0x4000) / 0x100 % 16, Nat.mod_lt _ (by decide)⟩) s
  else match idx with
    | 0x2032 => applyPowerLimit sub val s
    | 0x2702 => applyAuthorKey sub val s
    | 0x2800 => applyTenantEnabled (sub - 1) val s
    | 0x2801 => applyBlockOwner (sub - 1) val s
    | 0x2802 => applyBerthQuota (sub - 1) val s
    | 0x2900 => applyPartitionSets (sub - 1) val s
    | 0x2903 => applyKvQuota (sub - 1) val s
    | 0x2911 => applyShareGroup (sub - 1) val s
    | 0x2B02 => applyStageMap (sub - 1) val s
    | 0x2C30 => applyCameraRecord (sub - 1) val s
    | _ => applyKept ch d idx sub val s

/-- Set a read cursor; one older than the oldest record is moved to it (R108, R290). -/
def applyCursor (val : Bytes) (f : Nat → State) : Applied := accept (f (leNat val))

/-- A write of idx:sub, whose checks of R40 up to step 8 have passed. -/
def applyFor (ch : Channel) (d : ObjDef) (idx sub : Nat) (val : Bytes) (s : State) : Applied :=
  match objKey idx sub with
  | 0x100201 => applyHostRange val s
  | 0x120001 => applyStore ch val s
  | 0x120101 => applyRestoreDefaults val s
  | 0x200002 => applyStateCommand val s
  | 0x202001 => applyPoint val s
  | 0x210001 => applyResetCommand val s
  | 0x210101 => applyCommit val s
  | 0x211002 => applyTransitionCommand val s
  | 0x211101 => applyAuthorisation val s
  | 0x211201 => applyTamperHarbour val s
  | 0x212004 => applyCursor val (fun v => s.setJournal (s.custody.journal.withCursor v))
  | 0x220001 => applySubmit val s
  | 0x220005 => applyFlush val s
  | 0x230001 => applyHoldSize d 1 val s
  | 0x230002 => applyHoldSize d 2 val s
  | 0x241001 => applyWindowUpdate val s
  | 0x242001 => applyTensorCommand ch val s
  | 0x270101 => applyImageCommand ch val s
  | 0x271001 => applySwapRequest ch val s
  | 0x271002 => applySwapCommand val s
  | 0x280302 => applySem ch 2 val s
  | 0x280303 => applySem ch 3 val s
  | 0x280304 => applySem ch 4 val s
  | 0x280401 => applyChunk d val s
  | 0x2A0101 => applyRingSize val s
  | 0x2A0102 => applyCursor val (fun v => { s with experts := s.experts.withCursor v })
  | 0x2B0100 => applyLayout val s
  | 0x2B2002 => applyNodesAllowed ch val s
  | 0x2C0101 => applyRegister val s
  | 0x2C0104 => applyRelease val s
  | 0x2C1002 => applyContextRecord ch val s
  | 0x2C1003 => applyContextCommand ch val s
  | 0x2C1101 => applyJob val s
  | 0x2C3201 => applyReceiver val s
  | 0x2D0001 => applyCheckMode val s
  | 0x2D0301 => applyCursor val (fun v => s.setIntegrity (s.integrity.withCursor v))
  | 0x2D1102 => applyMarginCommand ch val s
  | 0x2D3001 => applyInject val s
  | _ => applyRow ch d idx sub val s

/-- A write of an object by its index and sub-index alone. -/
def applyObject (ch : Channel) (idx sub : Nat) (val : Bytes) (s : State) : Applied :=
  match objectAt idx sub with
  | some d => applyFor ch d idx sub val s
  | none => refuse abExists s

/-- TIER_QUOTA_WRITE (R159); with another object it is that object's write. -/
def execTierQuotaWrite (ch : Channel) (idx sub : Nat) (val : Bytes) (s : State) : Host.Outcome State Fault Refusal :=
  if isTierQuota idx sub then objectWrite ch idx sub val (applyTierQuota idx sub val) s
  else objectWrite ch idx sub val (applyObject ch idx sub val) s

/-- RECEIVER_SETTING (R336): a write of the receiver setting or of a channel record; with another object it is that
object's write. -/
def execReceiverSetting (ch : Channel) (idx sub : Nat) (val : Bytes) (s : State) : Host.Outcome State Fault Refusal :=
  if idx = 0x2C32 ∧ sub = 1 then objectWrite ch idx sub val (applyReceiver val) s
  else if idx = 0x2C30 ∧ (sub = 1 ∨ sub = 2) then objectWrite ch idx sub val (applyCameraRecord (sub - 1) val) s
  else objectWrite ch idx sub val (applyObject ch idx sub val) s

end Sys2Proof.Machine
end

