-- ==== Sys2Proof/Machine/Dictionary.lean ====
section
/-! DEFINITION. The dictionary server: a request frame is checked in the order of R40, served and answered
(02_object_dictionary.md, Ops; R27 to R41, R46). -/

namespace Sys2Proof.Machine

/-! ## The form of a request (R27) -/

/-- Type codes of the type table that may stand in a frame (R23). -/
def frameTypes : List Nat := [0, 0x10, 0x11, 0x12, 0x13, 0x18, 0x19, 0x20, 0x30, 0x40, 0x41]

/-- The value bytes of a segment of an object of length L at an offset (R31, R33). -/
def segmentLength (total off : Nat) : Nat := min 48 (total - off)

/-- The length that a segment's value bytes are counted by: the one fixed at offset 0 for a frame of an open
transfer, else the frame's own (R34). -/
def fixedLength (x : Option Transfer) (f : Bytes) : Nat :=
  match x with
  | some t => if frId f = t.id ∧ frOp f = (if t.write then 4 else 3) then t.total else frTotal f
  | none => frTotal f

/-- The bytes the layout makes zero are zero, in a frame that comes while x is open. -/
def zeroFields (x : Option Transfer) (f : Bytes) : Bool :=
  match frOp f with
  | 1 => decide (frTotal f = 0) && decide (frOff f = 0) && zeroAt f 16 48
  | 2 => decide (frOff f = 0) && zeroAt (frPayload f) (min 48 (frTotal f)) 48
  | 3 => decide (frTotal f = 0) && zeroAt f 16 48
  | 4 => zeroAt (frPayload f) (segmentLength (fixedLength x f) (frOff f)) 48
  | _ => decide (frTotal f = 0) && zeroAt f 16 48

/-- A well-formed request frame (R27), on a channel whose open transfer is x (R34). -/
def frameOk (x : Option Transfer) (f : Bytes) : Bool :=
  decide (frNode f ≤ 8) && decide (1 ≤ frOp f) && decide (frOp f ≤ 5) && frameTypes.contains (frType f)
    && zeroFields x f

/-! ## Transfers (R34 to R39) -/

/-- A frame belongs to an open segmented transfer (R34). -/
def belongs (x : Transfer) (f : Bytes) : Bool :=
  decide (frId f = x.id) && decide (frOp f = if x.write then 4 else 3)

/-- The transfer rules of step 2 of R40 for a frame served here: the code they refuse it with, or 0. -/
def transferCode (c : Chan) (f : Bytes) : Nat :=
  let segment := decide (frOp f = 3) || decide (frOp f = 4)
  if frOp f = 5 then 0
  else match c.xfer with
    | some x =>
      if !segment then (if frId f = x.id then abUnknown else 0)
      else if frOff f = 0 then
        (if belongs x f then abOrder else if frId f = x.id then abUnknown else abTransferBusy)
      else if belongs x f then
        (if frOff f ≠ x.next then abOrder else if x.write && decide (frTotal f ≠ x.total) then abLength else 0)
      else if c.timedOut = some (frId f, decide (frOp f = 4)) then abTimedOut
      else abUnknown
    | none =>
      if !segment || decide (frOff f = 0) then 0
      else if c.timedOut = some (frId f, decide (frOp f = 4)) then abTimedOut
      else abUnknown

/-! ## The node (R46) -/

/-- Where a frame is served. -/
inductive Reach where
  | here
  | forward
  | refused (code : Nat)
  deriving DecidableEq, Repr

/-- Step 3 of R40. -/
def reach (s : State) (ch : Channel) (f : Bytes) : Reach :=
  let n := frNode f
  if n = 0 ∨ n = s.nodeId then .here
  else if (chanTenant ch).isSome then .refused abForward
  else match s.ferry.role with
    | .member => .refused abForward
    | .unmoored => .refused abNode
    | .pilot => if (joinedNodes s).contains n && !decide (ch = .fwd) then .forward else .refused abNode

/-! ## What serving a frame comes to -/

/-- The outcome of serving a frame: an answer (type, object length, status, payload), or none yet. -/
inductive Served where
  | answer (type total status : Nat) (payload : Bytes) (s : State)
  | later (s : State)
  | forwarded (s : State)

/-- A refusal before step 6, with type 0x00 (R28). -/
def refuseFrame (code : Nat) (s : State) : Served := .answer 0 0 code [] s

/-- A refusal from step 6 on, with the object's type. -/
def refuseTyped (d : ObjDef) (code : Nat) (s : State) : Served := .answer d.type.code 0 code [] s

/-- The row of an object that exists for the channel (step 5). -/
def rowFor (s : State) (ch : Channel) (idx sub : Nat) : Option ObjDef :=
  (objectAt idx sub).filter (fun d => visible s ch idx d)

/-- A read of another tenant's ring, which the selected number may be (R235). -/
def readsOwn (s : State) (ch : Channel) (idx sub : Nat) : Bool :=
  if 0x3000 ≤ idx ∧ idx < 0x4000 ∧ (idx - 0x3000) % 0x40 = 2 ∧ sub = 2 then
    decide (ringTenant s (s.sel ch idx 1) = some ((idx - 0x3000) / 0x40))
  else true

/-- Step 6, and for legacy I2C its refusal of writes (R45). -/
def classOk (s : State) (ch : Channel) (d : ObjDef) (f : Bytes) : Bool :=
  let writes := decide (frOp f = 2 ∨ frOp f = 4)
  decide ((if writes then d.writers (frIdx f) (frSub f) else d.classes) &&& chanClass ch ≠ 0) && !(decide ((s.chan ch).way = .legacyI2c) && writes)

/-- Step 7 for a read. -/
def readable (d : ObjDef) : Bool := match d.access with | .wo => false | _ => true

/-- Step 7 for a write. -/
def writable (d : ObjDef) (idx sub : Nat) : Bool :=
  (match d.access with | .ro => false | .const => false | _ => true) && !readOnlyRow idx sub

/-- The type of a request matches. -/
def typeOk (d : ObjDef) (f : Bytes) : Bool := decide (frType f = 0) || decide (frType f = d.type.code)

/-- A DOMAIN object. -/
def isDomain (d : ObjDef) : Bool := decide (d.type = .domain)

/-- Change a channel's open transfer and forget the timed-out one (R36). -/
def setTransfer (ch : Channel) (x : Option Transfer) (s : State) : State :=
  s.setChan ch { s.chan ch with xfer := x, timedOut := none }

/-- A transfer closed by timeout is forgotten (R36). -/
def newTransfer (ch : Channel) (s : State) : State := s.setChan ch { s.chan ch with timedOut := none }

/-! ## Expedited transfers (R30) -/

/-- Op 0x01. -/
def serveRead (ch : Channel) (d : ObjDef) (f : Bytes) (s : State) : Served :=
  let bs := readObject ch d (frIdx f) (frSub f) s
  match firstFail
    [(classOk s ch d f, abClass), (readable d, abWriteOnly), (typeOk d f, abType),
     (!isDomain d && decide (bs.length ≤ 48), abTooLarge), (!harbourRefuses s (frIdx f), abHarbour)] with
  | some code => refuseTyped d code s
  | none => .answer d.type.code bs.length 0 bs s

/-- The answer to a write that has been applied or refused. -/
def answerApplied (d : ObjDef) : Applied → Served
  | .done status s => .answer d.type.code 0 status [] s
  | .later s => .later s

/-- The length of an expedited write fits (step 8). -/
def expeditedFits (d : ObjDef) (total : Nat) : Bool :=
  match d.type with
  | .str => decide (total ≤ 48)
  | t => decide (total = t.size)

/-- Op 0x02. -/
def serveWriteFrame (ch : Channel) (d : ObjDef) (f : Bytes) (s : State) : Served :=
  match firstFail
    [(classOk s ch d f, abClass), (writable d (frIdx f) (frSub f), abReadOnly), (typeOk d f, abType),
     (!isDomain d, abTooLarge), (expeditedFits d (frTotal f), abLength), (!harbourRefuses s (frIdx f), abHarbour)] with
  | some code => refuseTyped d code s
  | none =>
    answerApplied d (applyFor ch d (frIdx f) (frSub f) ((frPayload f).take (frTotal f)) s)

/-! ## Segmented reads (R31, R32) -/

/-- The objects whose read consumes entries or advances a cursor (R32). -/
def consumes (idx sub : Nat) : Bool := [0x212100, 0x220002, 0x2A0200, 0x2C1201, 0x2D0400].contains (objKey idx sub)

/-- The sequence after the last of some, or the cursor where there are none. -/
def after (cursor : Nat) (seqs : List Nat) : Nat := match seqs.getLast? with | some n => (n + 1) % 2 ^ 32 | none => cursor

/-- What a consuming read will consume up to: a sequence, an order number, or an order number and the
context it is of. -/
def consumeMark (ch : Channel) (idx sub : Nat) (s : State) : Nat :=
  match objKey idx sub with
  | 0x212100 => after s.custody.journal.cursor ((journalRead s.custody.journal).map (·.seq))
  | 0x220002 => s.flash.consumed + s.flash.unread.length
  | 0x2A0200 => after s.experts.cursor ((expertRead s).map (·.seq))
  | 0x2C1201 => mediaMark ch s * 256 + s.sel ch 0x2C10 1
  | 0x2D0400 => after s.integrity.cursor ((errorRead s).map (·.seq))
  | _ => 0

/-- A consuming read has sent its last byte (R32). -/
def consume (idx sub upto : Nat) (s : State) : State :=
  match objKey idx sub with
  | 0x212100 => s.setJournal (s.custody.journal.withCursor upto)
  | 0x220002 => s.setFlash { s.flash with
      unread := s.flash.unread.drop (upto - s.flash.consumed), consumed := max s.flash.consumed upto }
  | 0x2A0200 => { s with experts := s.experts.withCursor upto }
  | 0x2C1201 => consumeMedia (upto % 256) (upto / 256) s
  | 0x2D0400 => s.setIntegrity (s.integrity.withCursor upto)
  | _ => s

/-- Send the segment at an offset of a transfer; the last one closes it, and consumes. -/
def sendSegment (ch : Channel) (d : ObjDef) (x : Transfer) (off : Nat) (s : State) : Served :=
  let bs := if x.live then padTo x.total (readObject ch d x.idx x.sub s) else x.data
  let n := segmentLength x.total off
  let s1 :=
    if x.total ≤ off + n then consume x.idx x.sub x.upto (setTransfer ch none s)
    else setTransfer ch (some { x with next := off + 48 }) s
  .answer d.type.code x.total 0 (slice bs off n) s1

/-- Op 0x03 at offset 0: the snapshot is taken, or L fixed, and the first segment sent. -/
def startRead (ch : Channel) (d : ObjDef) (f : Bytes) (s : State) : Served :=
  match firstFail
    [(classOk s ch d f, abClass), (readable d, abWriteOnly), (typeOk d f, abType),
     (!harbourRefuses s (frIdx f), abHarbour), (readsOwn s ch (frIdx f) (frSub f), abExists)] with
  | some code => refuseTyped d code s
  | none =>
    let live := isDomain d && !consumes (frIdx f) (frSub f)
    let bs := readObject ch d (frIdx f) (frSub f) s
    let x : Transfer :=
      ⟨frId f, false, frIdx f, frSub f, bs.length, 0, if live then [] else bs, live, consumeMark ch (frIdx f) (frSub f) s⟩
    sendSegment ch d x 0 s

/-! ## Segmented writes (R33) -/

/-- The length of the value that a writable DOMAIN takes, as its owner states it: an authorisation (R97), a window
record (R149), a key (R375), a stage map (R310), a ring record (R235), four bytes for each expert of the layer a bias
vector is of (R292), else a block of 32 bytes. A layer that has no experts takes no length of its own. -/
def domainLength (s : State) (ch : Channel) (d : ObjDef) (sub : Nat) : Option Nat :=
  match d.base with
  | 0x2111 => some 80
  | 0x2410 => some 24
  | 0x2702 => some 64
  | 0x2B02 => some 256
  | 0x3002 => some 64
  | 0x2A14 => (expertLayer s (s.sel ch 0x2A00 1) (sub - 1)).map (fun x => 4 * x.bias.length)
  | _ => some 32

/-- The length of a segmented write fits (step 8), a DOMAIN's the one its owner states. -/
def segmentedFits (s : State) (ch : Channel) (d : ObjDef) (sub total : Nat) : Bool :=
  match d.type with
  | .str => decide (total ≤ 64)
  | .domain => (domainLength s ch d sub).all (fun n => decide (total = n))
  | t => decide (total = t.size)

/-- The segment at an offset of a write transfer: kept, or, with byte L − 1, applied as one change. -/
def takeSegment (ch : Channel) (d : ObjDef) (x : Transfer) (off : Nat) (f : Bytes) (s : State) : Served :=
  let n := segmentLength x.total off
  let bs := x.data ++ (frPayload f).take n
  if x.total ≤ off + n then
    let s1 := setTransfer ch none s
    if harbourRefuses s x.idx then refuseTyped d abHarbour s1
    else answerApplied d (applyFor ch d x.idx x.sub bs s1)
  else .answer d.type.code 0 0 [] (setTransfer ch (some { x with next := off + 48, data := bs }) s)

/-- Op 0x04 at offset 0. -/
def startWrite (ch : Channel) (d : ObjDef) (f : Bytes) (s : State) : Served :=
  match firstFail
    [(classOk s ch d f, abClass), (writable d (frIdx f) (frSub f), abReadOnly), (typeOk d f, abType),
     (segmentedFits s ch d (frSub f) (frTotal f), abLength)] with
  | some code => refuseTyped d code s
  | none => takeSegment ch d ⟨frId f, true, frIdx f, frSub f, frTotal f, 0, [], false, 0⟩ 0 f s

/-! ## Op 0x05 (R35) -/

/-- Op 0x05: the transfer it names is closed and the requester's code recorded; any other changes nothing but what
R36 forgets. -/
def serveAbort (ch : Channel) (f : Bytes) (s : State) : Served :=
  let c := s.chan ch
  match c.xfer with
  | some x =>
    if x.id = frId f then .answer 0 0 0 [] ((s.setChan ch { c with xfer := none }).setVal 0x1102 5 (frOff f))
    else .answer 0 0 0 [] s
  | none =>
    match c.timedOut with
    | some p => if p.1 = frId f then .answer 0 0 0 [] (newTransfer ch s) else .answer 0 0 0 [] s
    | none => .answer 0 0 0 [] s

/-! ## The order of checks (R40) -/

/-- A segment of the open transfer after the first: its checks 5 to 8 were made at offset 0 (R33), but for what
legacy I2C does not serve (R45). -/
def continueTransfer (ch : Channel) (x : Transfer) (f : Bytes) (s : State) : Served :=
  match objectAt x.idx x.sub with
  | none => refuseFrame abExists s
  | some d =>
    if decide ((s.chan ch).way = .legacyI2c) && x.write then refuseTyped d abClass s
    else if x.write then takeSegment ch d x (frOff f) f s
    else sendSegment ch d x (frOff f) s

/-- Steps 5 to 10 for a frame that starts a transfer. -/
def serveStart (ch : Channel) (f : Bytes) (s : State) : Served :=
  match rowFor s ch (frIdx f) (frSub f) with
  | none => refuseFrame abExists s
  | some d =>
    match frOp f with
    | 1 => serveRead ch d f s
    | 2 => serveWriteFrame ch d f s
    | 3 => startRead ch d f s
    | _ => startWrite ch d f s

/-- Steps 4 to 10 for a frame served here. One that is no segment of the open transfer starts a new transfer, so a
transfer closed by timeout is forgotten, whatever the frame is answered (R36, R38; log 94). -/
def serveHere (ch : Channel) (f : Bytes) (s : State) : Served :=
  if frOp f = 5 then
    (if (chanTenant ch).isSome && decide (s.val 0x1002 2 = 0) then refuseFrame abNotAgreed s else serveAbort ch f s)
  else match (s.chan ch).xfer.filter (fun x => belongs x f) with
    | some x =>
      if (chanTenant ch).isSome && decide (s.val 0x1002 2 = 0) then refuseFrame abNotAgreed s
      else continueTransfer ch x f s
    | none =>
      let s1 := newTransfer ch s
      if (chanTenant ch).isSome && decide (s.val 0x1002 2 = 0) then refuseFrame abNotAgreed s1
      else serveStart ch f s1

/-- Forward a frame to a joined node; the channel waits for its response (R46). -/
def forwardFrame (ch : Channel) (f : Bytes) (s : State) : State :=
  sendDict (s.setFerry { s.ferry with forwards := s.ferry.forwards ++ [⟨ch, frNode f, f⟩] }) (frNode f) f

/-- A refusal for transfer rules, with the timed-out transfer forgotten once it has been answered (R36). -/
def refuseTransfer (ch : Channel) (code : Nat) (s : State) : Served :=
  refuseFrame code (if code = abTimedOut then newTransfer ch s else s)

/-- A frame that is no repeat, through the checks of R40. The transfer rules of step 2 are those of the channel that
serves the frame: for one that is forwarded, the member's (log 92). -/
def serveNew (ch : Channel) (f : Bytes) (s : State) : Served :=
  let code2 := transferCode (s.chan ch) f
  if !frameOk (s.chan ch).xfer f then refuseFrame abMalformed s
  else match reach s ch f with
    | .here => if code2 ≠ 0 then refuseTransfer ch code2 s else serveHere ch f s
    | .refused code => if code2 ≠ 0 then refuseTransfer ch code2 s else refuseFrame code s
    | .forward =>
      if decide ((s.chan ch).way = .legacyI2c) && decide (frOp f = 2 ∨ frOp f = 4) then refuseFrame abClass s
      else .forwarded (forwardFrame ch f s)

/-- A frame that fails ends the transfer it belonged to (R28). -/
def endBroken (ch : Channel) (f : Bytes) (status : Nat) (s : State) : State :=
  match (s.chan ch).xfer with
  | some x => if status ≠ 0 ∧ belongs x f then s.setChan ch { s.chan ch with xfer := none } else s
  | none => s

/-- Serve a request frame: a repeat is answered with the stored response (R38), any other executed once. -/
def serveFrame (ch : Channel) (f : Bytes) (s : State) : State :=
  match (s.chan ch).last.filter (fun p => decide (p.1 = f)) with
  | some p => postResponse ch p.2 (s.bump 0x1102 3)
  | none =>
    match serveNew ch f s with
    | .answer type total status payload s1 =>
      respond ch f (responseOf f type total status payload) ((endBroken ch f status s1).countServed status)
    | .later s1 => s1.bump 0x1102 1
    | .forwarded s1 => s1

/-- The server takes up a request that has arrived. -/
def takeUp (a : Arrival) (s : State) : State :=
  { s.setChan a.ch { s.chan a.ch with busy := true, latched := some a.frame, way := a.way } with
    inbox := s.inbox.erase a }

/-- The server, while it runs, takes up and serves the oldest request whose channel has no answer outstanding
(R41). -/
def serveNext (s : State) : State :=
  match s.inbox.find? (fun a => s.serves && (s.chan a.ch).latched.isNone) with
  | some a => serveFrame a.ch a.frame (takeUp a s)
  | none => s

/-- Serve up to n requests. -/
def serveSome : Nat → State → State
  | 0, s => s
  | n + 1, s => serveSome n (serveNext s)

/-- Serve every request that waits, in the order of arrival, once the server runs (R41, R71, R88). Commands come one
after the other, so no two requests arrive in one cycle; a host that submits several at once sends them in the
channel order of R41. -/
def serveLatched (s : State) : State := serveSome s.inbox.length s

/-! ## STORE_DONE (R51) -/

/-- STORE_DONE: the copy in progress is committed, or could not be programmed, and the write is answered; not while bank 0,
which holds the parameter area, is busy with another operation (R123). -/
def execStoreDone (programmed : Bool) (s : State) : Host.Outcome State Fault Refusal :=
  match s.custody.storing with
  | none => .next s
  | some (ch, c) =>
    if !s.systemFree then .next s
    else .next (serveLatched (lateAnswer ch 0x1200 1 (if programmed then 0 else abFlash) (finishStore s c programmed)))

end Sys2Proof.Machine
end

