-- ==== Sys2Proof/Machine/Transports.lean ====
section
/-! DEFINITION. How request frames and register writes arrive: the PCIe mailboxes, the I3C and I2C sideband, the ferry
(02_object_dictionary.md, Transports; R42a to R47, R57, R71, R73, R314), and the events that wake the device, after
which latched requests are served. -/

namespace Sys2Proof.Machine

/-! ## Arrival of a request frame -/

/-- The part has no rails: nothing that arrives is latched. A part in reset latches a request until its start-up has
come to step 9 (R88, log 107). -/
def deaf (s : State) : Bool := match s.power.state with | .off => true | _ => false

/-- A request is latched: the response buffer is no longer ready (R42a, R44). -/
def latch (ch : Channel) (f : Bytes) (way : Way) (s : State) : State :=
  { s.setChan ch { s.chan ch with busy := true, ready := false } with inbox := s.inbox ++ [⟨ch, f, way⟩] }

/-- The wake sources that a frame on a channel is (Wake sources). -/
def channelWake : Channel → BitVec 32
  | .priv => 1 | .tenant _ => 1 | .side => 4 | .fwd => 8

/-- The objects whose reads the shadow dictionary serves (R57). -/
def shadowRead (idx sub : Nat) : Bool :=
  [0x1000, 0x1001, 0x1003, 0x1101, 0x2000, 0x2001, 0x2002, 0x2003, 0x2010, 0x2011].contains idx
    || decide (objKey idx sub = 0x100202) || decide (objKey idx sub = 0x203004)

/-- A frame that the shadow dictionary serves in WATCH (R57): from the sideband or a pilot, for this device, an
expedited read or write of a listed object, or an abort. -/
def shadowFrame (s : State) (ch : Channel) (f : Bytes) : Bool :=
  (match ch with | .side => true | .fwd => true | _ => false)
    && decide (s.power.state = .watch) && s.power.exiting.isNone
    && (decide (frNode f = 0) || decide (frNode f = s.nodeId))
    && (decide (frOp f = 5) || (decide (frOp f = 1) && shadowRead (frIdx f) (frSub f))
      || (decide (frOp f = 2) && [0x2002, 0x2003, 0x2010, 0x2011].contains (frIdx f)))

/-- A frame arrives on a channel that takes it: the shadow dictionary serves it, or it is latched, wakes the device
and is served as soon as the server runs, each in its turn (R29, R41, R46). -/
def arriveFree (ch : Channel) (f : Bytes) (way : Way) (s : State) : State :=
  let s1 := latch ch f way s
  if shadowFrame s ch f then serveFrame ch f (takeUp ⟨ch, f, way⟩ s1) else serveLatched (wake (channelWake ch) s1)

/-- A frame arrives while its channel is busy: a mailbox notes an overrun (R42a) and the sideband counts a discard
(R43). -/
def arriveBusy (ch : Channel) (s : State) : State :=
  match ch with
  | .side => s.bump 0x1102 4
  | _ => serveLatched (wake 1 (s.setChan ch { s.chan ch with overrun := true }))

/-- A channel takes no further request: a mailbox or the sideband that is serving one. No transport rule discards a
forwarded frame, so a member's forwarded channel takes every one (R29, R46). -/
def occupied (ch : Channel) (s : State) : Bool :=
  match ch with
  | .fwd => false
  | _ => (s.chan ch).busy

/-- The host writes a mailbox's request buffer (Mailbox layout), over a link that is then in L0 (R67). -/
def fillRequest (ch : Channel) (f : Bytes) (s : State) : State :=
  match ch with
  | .side => s
  | .fwd => s
  | _ => linkActive (s.setChan ch { s.chan ch with request := f })

/-- A frame arrives on its channel's transport. -/
def arriveFrame (ch : Channel) (f : Bytes) (way : Way) (s : State) : State :=
  let s1 := fillRequest ch f s
  if occupied ch s1 then arriveBusy ch s1 else arriveFree ch f way s1

/-- A frame row: the 64 bytes arrive on the channel, and what they say decides what is served. -/
def frameRow (ch : Channel) (f : Bytes) (s : State) : Host.Outcome State Fault Refusal :=
  if deaf s then .next s else .next (arriveFrame ch (padTo 64 f) .usual s)

/-- EXPEDITED_READ (R30). -/
def execExpeditedRead (ch : Channel) (frame : Bytes) (s : State) : Host.Outcome State Fault Refusal :=
  frameRow ch frame s

/-- EXPEDITED_WRITE (R30). -/
def execExpeditedWrite (ch : Channel) (frame : Bytes) (s : State) : Host.Outcome State Fault Refusal :=
  frameRow ch frame s

/-- SEGMENTED_READ (R31). -/
def execSegmentedRead (ch : Channel) (frame : Bytes) (s : State) : Host.Outcome State Fault Refusal :=
  frameRow ch frame s

/-- SEGMENTED_WRITE (R33). -/
def execSegmentedWrite (ch : Channel) (frame : Bytes) (s : State) : Host.Outcome State Fault Refusal :=
  frameRow ch frame s

/-- ABORT (R35). -/
def execAbortFrame (ch : Channel) (frame : Bytes) (s : State) : Host.Outcome State Fault Refusal :=
  frameRow ch frame s

/-- SEGMENT_TIMEOUT (R36): the open transfer is closed and remembered. -/
def execSegmentTimeout (ch : Channel) (s : State) : Host.Outcome State Fault Refusal :=
  match (s.chan ch).xfer with
  | some x => .next (s.setChan ch { s.chan ch with xfer := none, timedOut := some (x.id, x.write) })
  | none => .next s

/-! ## BAR0 (Mailbox layout; Doorbell; Interrupt and wake status page) -/

/-- The mailbox that a BAR0 offset lies in. -/
def mailboxAt (off : Nat) : Option Channel :=
  if 0x08_0000 ≤ off ∧ off < 0x08_1000 then some .priv
  else if h : 0x0C_0000 ≤ off ∧ off < 0x10_0000 then some (.tenant ⟨(off - 0x0C_0000) / 0x1000, by omega⟩)
  else none

/-- The 4-byte register at an offset that a write covers whole, if it does. -/
def coveredWord (off : Nat) (data : Bytes) (reg : Nat) : Option Nat :=
  if off ≤ reg ∧ reg + 4 ≤ off + data.length then some (fld data (reg - off) 4) else none

/-- Bytes of a write that fall into the request buffer. -/
def writeRequest (ch : Channel) (o : Nat) (data : Bytes) (s : State) : State :=
  if o < 64 then s.setChan ch { s.chan ch with request := overlay (s.chan ch).request o (data.take (64 - o)) } else s

/-- A write of mailbox_status clears response_ready and overrun where it writes ones. -/
def writeStatus (ch : Channel) (v : Nat) (s : State) : State :=
  s.setChan ch { s.chan ch with
    ready := (s.chan ch).ready && !bitOf v 1
    overrun := (s.chan ch).overrun && !bitOf v 2 }

/-- A mailbox doorbell: 1 submits the request buffer, any other value is ignored (R42a). -/
def ringMailbox (ch : Channel) (v : Nat) (s : State) : State :=
  if v ≠ 1 then s else if (s.chan ch).busy then arriveBusy ch s else arriveFree ch (s.chan ch).request .usual s

/-- A write within a mailbox page. -/
def writeMailbox (ch : Channel) (o : Nat) (data : Bytes) (s : State) : State :=
  let s1 := writeRequest ch o data s
  let s2 := match coveredWord o data 0x84 with | some v => writeStatus ch v s1 | none => s1
  match coveredWord o data 0x80 with | some v => ringMailbox ch v s2 | none => s2

/-- A write within the interrupt and wake status page: every field is cleared where it is written one. -/
def writeWakePage (o : Nat) (data : Bytes) (s : State) : State :=
  let m := leNat (slice (List.replicate o 0 ++ data) 0 32)
  s.setServing { s.serving with
    wakePage := s.serving.wakePage &&& ~~~ (BitVec.ofNat 64 m &&& 0xF#64)
    tenantPending := s.serving.tenantPending &&& ~~~ BitVec.ofNat 64 (m / 2 ^ 64)
    blockPending := s.serving.blockPending &&& ~~~ BitVec.ofNat 128 (m / 2 ^ 128) }

/-- A ring doorbell written by its place in BAR0: 8 bytes, or 4 at either half (Doorbell). -/
def writeBell (off : Nat) (data : Bytes) (s : State) : State :=
  if s.power.state = .offReady then s
  else if off % 8 = 0 ∧ data.length = 8 then ringBell s (off / 8) (some (fld data 0 4)) (some (fld data 4 4))
  else if off % 8 = 0 ∧ data.length = 4 then ringBell s (off / 8) (some (fld data 0 4)) none
  else if off % 8 = 4 ∧ data.length = 4 then ringBell s (off / 8) none (some (fld data 0 4))
  else s

/-- A write of BAR0: a wake source wherever it falls; reserved offsets ignore it (R6). -/
def writeBar0 (off : Nat) (data : Bytes) (s : State) : State :=
  let s1 := serveLatched (wake 1 (linkActive s))
  if off < 0x08_0000 then writeBell off data s1
  else match mailboxAt off with
    | some ch => writeMailbox ch (off % 0x1000) data s1
    | none => if 0x10_0000 ≤ off ∧ off < 0x10_1000 then writeWakePage (off - 0x10_0000) data s1 else s1

/-- REGISTER_WRITE (R40, R42a): an object through the checks of R40, or bytes of BAR0. -/
def execRegisterWrite (t : RegTarget) (s : State) : Host.Outcome State Fault Refusal :=
  match t with
  | .object ch idx sub val => objectWrite ch idx sub val (applyObject ch idx sub val) s
  | .bar0 off data => if deaf s then .next s else .next (writeBar0 off data s)

/-! ## The sideband (R43 to R45) -/

/-- A request written over the sideband: 64 bytes on a free channel, else discarded and counted (R43). -/
def sideWrite (data : Bytes) (way : Way) (s : State) : State :=
  if data.length = 64 then arriveFrame .side data way s else s.bump 0x1102 4

/-- The response is ready and the helm runs (R44, R86). -/
def sideReady (s : State) : Bool :=
  (s.chan .side).ready && !s.custody.helmStopped && !s.power.tripped && !isDown s

/-- A read of n bytes: NACKed until a response is ready; the 64th byte ends it, a shorter read leaves it (R44). -/
def sideRead (n : Nat) (s : State) : State :=
  if sideReady s then
    let s1 := s.emit (.read ((s.chan .side).response.take n))
    if 64 ≤ n then s1.setChan .side { s1.chan .side with ready := false } else s1
  else s.emit .nack

/-- I3C_PRIVATE_WRITE (R43): in SDR, or in HDR-DDR with command code 0x21. -/
def execI3cPrivateWrite (ddr : Option Byte) (data : Bytes) (s : State) : Host.Outcome State Fault Refusal :=
  if deaf s then .next s
  else match ddr with
    | some c => if c = 0x21 then .next (sideWrite data .usual s) else .next s
    | none => .next (sideWrite data .usual s)

/-- I3C_PRIVATE_READ (R44): in SDR, or in HDR-DDR with command code 0xA1. -/
def execI3cPrivateRead (ddr : Option Byte) (n : Nat) (s : State) : Host.Outcome State Fault Refusal :=
  if deaf s then .next s
  else match ddr with
    | some c => if c = 0xA1 then .next (sideRead n s) else .next (s.emit .nack)
    | none => .next (sideRead n s)

/-- I2C_LEGACY_TRANSFER (R45): the same frame, if I2C Legacy Enable is true; else the static address is not
acknowledged. -/
def execI2cLegacyTransfer (t : I2cTransfer) (s : State) : Host.Outcome State Fault Refusal :=
  if deaf s then .next s
  else if s.val 0x1101 4 = 0 then .next (s.emit .nack)
  else match t with
    | .write data => .next (sideWrite data .legacyI2c s)
    | .read n => .next (sideRead n s)

/-! ## The ferry (R46, R47, R314) -/

/-- A member's answer to the pilot's own poll of its image entry (log 33), whose transfer is then closed. -/
def pollAnswered (f : Forward) (resp : Bytes) (s : State) : State :=
  let state := if frOff resp = 0 then fld resp 16 1 else 0
  sendDict (memberAnswered s f.node state) f.node (requestFrame 5 f.node 0 0 (frId resp) 0 0 [])

/-- A response has come back to the pilot: it answers the channel the request came on; one that nothing waits for
is discarded (R46, R47). -/
def takeResponse (src : Nat) (resp : Bytes) (s : State) : State :=
  match s.ferry.forwards.find? (fun f => f.answeredBy src resp) with
  | none => s
  | some f =>
    let s1 := dropForward f s
    match f.origin with
    | .fwd => pollAnswered f resp s1
    | ch => respond ch f.frame resp s1

/-- A dictionary frame delivered by the ferry: a request from the pilot to a member, or a response to the pilot. -/
def dictArrive (way : Way) (src : Nat) (f : Bytes) (s : State) : State :=
  if f.length ≠ 64 then s
  else if 128 ≤ frOp f then takeResponse src f s
  else if s.ferry.role = .member ∧ src = s.ferry.pilotNode then arriveFrame .fwd f way s
  else s

/-! ## Ends of an exit (R63, R71) -/

/-- DOZE_EXIT_DONE: the device is in READY and what was latched is served. -/
def execDozeExitDone (s : State) : Host.Outcome State Fault Refusal :=
  match s.power.exiting with
  | some .doze => .next (serveLatched (enterReady s))
  | _ => .next s

/-- WATCH_EXIT_DONE: the rails are up (R364), the saved set is restored and helm code reloaded (R63). -/
def execWatchExitDone (s : State) : Host.Outcome State Fault Refusal :=
  match s.power.exiting with
  | some .watch =>
    if s.board.swPgood && decide (s.power.rail = .idle) then .next (serveLatched (enterReady s)) else .next s
  | _ => .next s

/-! ## Wake sources and events that are one -/

/-- WAKE_SOURCE (R70). -/
def execWakeSource (bits : BitVec 32) (s : State) : Host.Outcome State Fault Refusal := .next (serveLatched (wake bits s))

/-- HOST_L1_EXIT (R68): the link leaves L1.2 and the exit is wake source bit 1. -/
def execHostL1Exit (s : State) : Host.Outcome State Fault Refusal :=
  match s.power.link with
  | .l12 => .next (serveLatched (wake 2 (s.setPower { s.power with link := .l0 })))
  | _ => .next s

/-- CONFIGURATION_REQUEST: served by hardware; as a PCIe access it also wakes the device (R57). -/
def execConfigurationRequest (r : CfgRequest) (s : State) : Host.Outcome State Fault Refusal :=
  if isDown s then .next s else
    let s1 := linkActive s
    .next (serveLatched (wake 1 (s1.setPower (configure r s1.power))))

/-- DOORBELL (R236): a BAR0 write, so a wake source; OFF_READY neither admits nor remembers it (R66). -/
def execDoorbell (ring : Nat) (part : BellPart) (val : BitVec 64) (s : State) : Host.Outcome State Fault Refusal :=
  let lo := bitsOf val.toNat 31 0
  let hi := bitsOf val.toNat 63 32
  if isDown s || decide (s.power.state = .offReady) || decide (65536 ≤ ring) then .next s
  else
    let s1 := serveLatched (wake 1 (linkActive s))
    match part with
    | .both => .next (ringBell s1 ring (some lo) (some hi))
    | .tail => .next (ringBell s1 ring (some lo) none)
    | .head => .next (ringBell s1 ring none (some hi))

/-- HELD_OUTPUT_TIMER (R72): the oldest unreported record of berth b has waited Timer. -/
def execHeldOutputTimer (b : Nat) (s : State) : Host.Outcome State Fault Refusal :=
  match berthOf s b with
  | some x =>
    if x.unreported = 0 ∨ s.val 0x2011 2 = 0 ∨ isDown s then .next s
    else .next (serveLatched (wake 0x20 (hostWake s b .timer)))
  | none => .next s

/-- A latched frame that a host reset leaves: of the sideband or forwarded (R85). -/
def keepsArrival (a : Arrival) : Bool := match a.ch with | .side => true | .fwd => true | _ => false

/-- HOST_RESET (R85, R49): admission and fetching stop at once, the mailbox channels are dropped, Chosen Level
is 0, and the rest follows at the next barrier. -/
def execHostReset (why : HostResetCause) (s : State) : Host.Outcome State Fault Refusal :=
  let b := match why with
    | .perst => { s.board with perstN := false }
    | _ => s.board
  if isDown s then .next { s with board := b }
  else
    let s1 : State := { s with
      board := b
      chans := dropMailboxes s.chans
      inbox := s.inbox.filter (fun a => keepsArrival a)
      power := hostLink s.power
      custody := { s.custody with serviceAuth := false }
      ferry := { s.ferry with forwards := s.ferry.forwards.filter keepsForward }
      serving := { s.serving with stopped := true, clearDue := true } }
    let s2 := s1.setVal 0x1002 2 0
    .next (match why with
      | .perst => serveLatched (wake 2 s2)
      | _ => s2)

/-- RST_N_RELEASE (R82, R87, R88): the start-up runs, and what was latched before the dictionary started is served. -/
def execRstNRelease (s : State) : Host.Outcome State Fault Refusal :=
  match s.power.state with
  | .held => if s.board.rstN then .next s else .next (serveLatched (leaveReset s))
  | _ => .next s

/-- TAMPER (R100, R101). -/
def execTamperEvent (src : TamperSource) (s : State) : Host.Outcome State Fault Refusal :=
  if tamperCounts src s then
    let s1 := tamperMark src (tamperPin src s)
    if s.custody.tamperHarbour && resetsItself s then .next (resetStart (.tamper src) (tamperRecord src) s1)
    else .next (serveLatched (wake 0x40 (tamperRecord src s1)))
  else .next (tamperPin src s)

end Sys2Proof.Machine
end

