-- ==== Sys2Proof/Machine/FerryRows.lean ====
section
/-! DEFINITION. What arrives on a ferry link: packets by their kind and slow-crossing frames by their type
(13_ferry_cascade.md, Packet kinds, Slow-crossing frame; R297, R302). -/

namespace Sys2Proof.Machine

/-- What the delivery of a packet does, by its kind (Packet kinds). -/
def deliverPacket (port : Nat) (p : Packet) (s : State) : State :=
  match p.kind with
  | 0 => takeIdle p s
  | 1 => resendOrDown port s
  | 2 => takeHello port p s
  | 3 => takeJoinPacket p s
  | 4 => dictArrive .usual p.src p.payload s
  | 5 => takeBerthPacket p s
  | 6 => takeTurnPacket p s
  | 7 => serveLatched (takeSignal p s)
  | 8 => serveLatched (takeWrite port p s)
  | 9 => takeRead port p s
  | 10 => takeReadData p s
  | 11 => takeDownshift port s
  | 12 => takeLoss port p s
  | _ => s

/-- A packet arrives at a port, whatever its kind: a reserved one is discarded as corrupted (R297). A gap that the pilot has
met itself is settled (R301). -/
def packetArrives (port : Fin 3) (p : Packet) (s : State) : State :=
  let r := arrive s port.val p
  settleGaps (if r.2 then deliverPacket port.val p r.1 else r.1)

/-- What the delivery of a slow-crossing frame does, by its type (Slow-crossing frame): a WAKE is wake source bit 3, or
bit 4 for a semaphore. -/
def deliverSlow (f : Bytes) (s : State) : State :=
  match fld f 1 1 with
  | 2 => serveLatched (wake (if slowPayload f = [2] then 16 else 8) s)
  | 3 => dictArrive .slowCrossing (fld f 2 1 % 16) (slowPayload f) s
  | 4 => dictArrive .slowCrossing (fld f 2 1 % 16) (slowPayload f) s
  | _ => s

/-- A slow-crossing frame arrives at a port, whatever its type: one of a reserved type is discarded (R302). -/
def slowArrives (port : Fin 3) (f : Bytes) (s : State) : State :=
  let r := slowArrive s port.val f
  if r.2 then deliverSlow f r.1 else r.1

/-- IDLE (R298): link_ack and credits. -/
def execIdlePacket (port : Fin 3) (p : Packet) (s : State) : Host.Outcome State Fault Refusal := .next (packetArrives port p s)

/-- NAK (R298). -/
def execNakPacket (port : Fin 3) (p : Packet) (s : State) : Host.Outcome State Fault Refusal := .next (packetArrives port p s)

/-- HELLO (R303). -/
def execHelloPacket (port : Fin 3) (p : Packet) (s : State) : Host.Outcome State Fault Refusal := .next (packetArrives port p s)

/-- JOIN (R304). -/
def execJoinPacket (port : Fin 3) (p : Packet) (s : State) : Host.Outcome State Fault Refusal := .next (packetArrives port p s)

/-- DICT (R46, R314). -/
def execDictPacket (port : Fin 3) (p : Packet) (s : State) : Host.Outcome State Fault Refusal := .next (packetArrives port p s)

/-- BERTH (R308). -/
def execBerthPacket (port : Fin 3) (p : Packet) (s : State) : Host.Outcome State Fault Refusal := .next (packetArrives port p s)

/-- BATCH_TABLE (R311). -/
def execBatchTable (port : Fin 3) (p : Packet) (s : State) : Host.Outcome State Fault Refusal := .next (packetArrives port p s)

/-- COMMIT_REPORT (R307). -/
def execCommitReport (port : Fin 3) (p : Packet) (s : State) : Host.Outcome State Fault Refusal := .next (packetArrives port p s)

/-- TURN_COMMIT (R307). -/
def execTurnCommit (port : Fin 3) (p : Packet) (s : State) : Host.Outcome State Fault Refusal := .next (packetArrives port p s)

/-- SEMSIG (R312). -/
def execSemsigPacket (port : Fin 3) (p : Packet) (s : State) : Host.Outcome State Fault Refusal := .next (packetArrives port p s)

/-- WRITE (R313, R315). -/
def execWritePacket (port : Fin 3) (p : Packet) (s : State) : Host.Outcome State Fault Refusal := .next (packetArrives port p s)

/-- READ (R313). -/
def execReadPacket (port : Fin 3) (p : Packet) (s : State) : Host.Outcome State Fault Refusal := .next (packetArrives port p s)

/-- READ_DATA (R313). -/
def execReadData (port : Fin 3) (p : Packet) (s : State) : Host.Outcome State Fault Refusal := .next (packetArrives port p s)

/-- DOWNSHIFT (R296). -/
def execDownshift (port : Fin 3) (p : Packet) (s : State) : Host.Outcome State Fault Refusal := .next (packetArrives port p s)

/-- LOSS (R316). -/
def execLossPacket (port : Fin 3) (p : Packet) (s : State) : Host.Outcome State Fault Refusal := .next (packetArrives port p s)

/-- KEEPALIVE (R302). -/
def execKeepalive (port : Fin 3) (f : Bytes) (s : State) : Host.Outcome State Fault Refusal := .next (slowArrives port f s)

/-- WAKE (R302). -/
def execWakeFrame (port : Fin 3) (f : Bytes) (s : State) : Host.Outcome State Fault Refusal := .next (slowArrives port f s)

/-- DICT_REQ (R314). -/
def execDictReq (port : Fin 3) (f : Bytes) (s : State) : Host.Outcome State Fault Refusal := .next (slowArrives port f s)

/-- DICT_RSP (R314). -/
def execDictRsp (port : Fin 3) (f : Bytes) (s : State) : Host.Outcome State Fault Refusal := .next (slowArrives port f s)

end Sys2Proof.Machine
end

