-- ==== Sys2Proof/Machine/Dispatch.lean ====
section
/-! DEFINITION. The dispatch: one arm for each constructor of Instr, each a direct call of its meaning. -/

namespace Sys2Proof.Machine

/-- The effect of a command on everything but the queue. -/
def exec (i : Instr) (s : State) : Host.Outcome State Fault Refusal :=
  match i with
  | .expeditedRead ch frame => Sys2Proof.Machine.execExpeditedRead ch frame s
  | .expeditedWrite ch frame => Sys2Proof.Machine.execExpeditedWrite ch frame s
  | .segmentedRead ch frame => Sys2Proof.Machine.execSegmentedRead ch frame s
  | .segmentedWrite ch frame => Sys2Proof.Machine.execSegmentedWrite ch frame s
  | .abortFrame ch frame => Sys2Proof.Machine.execAbortFrame ch frame s
  | .registerWrite t => Sys2Proof.Machine.execRegisterWrite t s
  | .segmentTimeout ch => Sys2Proof.Machine.execSegmentTimeout ch s
  | .i3cPrivateWrite ddr data => Sys2Proof.Machine.execI3cPrivateWrite ddr data s
  | .i3cPrivateRead ddr n => Sys2Proof.Machine.execI3cPrivateRead ddr n s
  | .i2cLegacyTransfer t => Sys2Proof.Machine.execI2cLegacyTransfer t s
  | .forwardTimeout origin => Sys2Proof.Machine.execForwardTimeout origin s
  | .hostRange ch val => Sys2Proof.Machine.execHostRange ch val s
  | .storeParameters ch val => Sys2Proof.Machine.execStoreParameters ch val s
  | .storeDone programmed => Sys2Proof.Machine.execStoreDone programmed s
  | .restoreDefaults ch val => Sys2Proof.Machine.execRestoreDefaults ch val s
  | .dozeNow ch val => Sys2Proof.Machine.execDozeNow ch val s
  | .watchNow ch val => Sys2Proof.Machine.execWatchNow ch val s
  | .offPrepare ch val => Sys2Proof.Machine.execOffPrepare ch val s
  | .offPrepareDone => Sys2Proof.Machine.execOffPrepareDone s
  | .readyTimeout => Sys2Proof.Machine.execReadyTimeout s
  | .dozeTimeout => Sys2Proof.Machine.execDozeTimeout s
  | .watchTimeout => Sys2Proof.Machine.execWatchTimeout s
  | .dozeEntry => Sys2Proof.Machine.execDozeEntry s
  | .dozeEntryDone => Sys2Proof.Machine.execDozeEntryDone s
  | .watchEntry => Sys2Proof.Machine.execWatchEntry s
  | .watchEntryDone => Sys2Proof.Machine.execWatchEntryDone s
  | .wakeSource bits => Sys2Proof.Machine.execWakeSource bits s
  | .dozeExitDone => Sys2Proof.Machine.execDozeExitDone s
  | .watchExitDone => Sys2Proof.Machine.execWatchExitDone s
  | .hostL1Exit => Sys2Proof.Machine.execHostL1Exit s
  | .heldOutputTimer b => Sys2Proof.Machine.execHeldOutputTimer b s
  | .hostWakeCoalesce => Sys2Proof.Machine.execHostWakeCoalesce s
  | .watchDeadlineTimer => Sys2Proof.Machine.execWatchDeadlineTimer s
  | .pointChangeDone => Sys2Proof.Machine.execPointChangeDone s
  | .thermalSample readings avg1s avg10ms => Sys2Proof.Machine.execThermalSample readings avg1s avg10ms s
  | .powerOnReset => Sys2Proof.Machine.execPowerOnReset s
  | .rstNAssert => Sys2Proof.Machine.execRstNAssert s
  | .rstNRelease => Sys2Proof.Machine.execRstNRelease s
  | .warmReset ch val => Sys2Proof.Machine.execWarmReset ch val s
  | .coldReset ch val => Sys2Proof.Machine.execColdReset ch val s
  | .harbourReset ch val => Sys2Proof.Machine.execHarbourReset ch val s
  | .resetDelay => Sys2Proof.Machine.execResetDelay s
  | .hostReset why => Sys2Proof.Machine.execHostReset why s
  | .helmWatchdog => Sys2Proof.Machine.execHelmWatchdog s
  | .commitCommand ch val => Sys2Proof.Machine.execCommitCommand ch val s
  | .lifecycleToFactory ch val => Sys2Proof.Machine.execLifecycleToFactory ch val s
  | .lifecycleToDevelopment ch val => Sys2Proof.Machine.execLifecycleToDevelopment ch val s
  | .lifecycleToDeployed ch val => Sys2Proof.Machine.execLifecycleToDeployed ch val s
  | .lifecycleToService ch val => Sys2Proof.Machine.execLifecycleToService ch val s
  | .lifecycleLeaveService ch val => Sys2Proof.Machine.execLifecycleLeaveService ch val s
  | .lifecycleToEnd ch val => Sys2Proof.Machine.execLifecycleToEnd ch val s
  | .serviceAuthorisation ch val => Sys2Proof.Machine.execServiceAuthorisation ch val s
  | .tamperEvent src => Sys2Proof.Machine.execTamperEvent src s
  | .journalRecordWritten => Sys2Proof.Machine.execJournalRecordWritten s
  | .flashRead ch val => Sys2Proof.Machine.execFlashRead ch val s
  | .flashProgram ch val => Sys2Proof.Machine.execFlashProgram ch val s
  | .flashErase ch val => Sys2Proof.Machine.execFlashErase ch val s
  | .flashBlankCheck ch val => Sys2Proof.Machine.execFlashBlankCheck ch val s
  | .flashVerify ch val => Sys2Proof.Machine.execFlashVerify ch val s
  | .flashCrc32 ch val => Sys2Proof.Machine.execFlashCrc32 ch val s
  | .descriptorStart q seq => Sys2Proof.Machine.execDescriptorStart q seq s
  | .programPulseDone bank verified => Sys2Proof.Machine.execProgramPulseDone bank verified s
  | .eraseDone bank completed => Sys2Proof.Machine.execEraseDone bank completed s
  | .eraseResume bank => Sys2Proof.Machine.execEraseResume bank s
  | .completionPost => Sys2Proof.Machine.execCompletionPost s
  | .flashFlush ch val => Sys2Proof.Machine.execFlashFlush ch val s
  | .regionWrite ch n val => Sys2Proof.Machine.execRegionWrite ch n val s
  | .regionChangeEffect n => Sys2Proof.Machine.execRegionChangeEffect n s
  | .memoryAccess a => Sys2Proof.Machine.execMemoryAccess a s
  | .scrubRead addr => Sys2Proof.Machine.execScrubRead addr s
  | .regionEntryBase ch m e val => Sys2Proof.Machine.execRegionEntryBase ch m e val s
  | .regionEntryLimit ch m e val => Sys2Proof.Machine.execRegionEntryLimit ch m e val s
  | .windowUpdate ch val => Sys2Proof.Machine.execWindowUpdate ch val s
  | .hostReadTimeout m addr => Sys2Proof.Machine.execHostReadTimeout m addr s
  | .tensorCreate ch val => Sys2Proof.Machine.execTensorCreate ch val s
  | .tensorDestroy ch val => Sys2Proof.Machine.execTensorDestroy ch val s
  | .tensorSetHint ch val => Sys2Proof.Machine.execTensorSetHint ch val s
  | .tensorPin ch val => Sys2Proof.Machine.execTensorPin ch val s
  | .tensorUnpin ch val => Sys2Proof.Machine.execTensorUnpin ch val s
  | .tierQuotaWrite ch idx sub val => Sys2Proof.Machine.execTierQuotaWrite ch idx sub val s
  | .tierMoveStart => Sys2Proof.Machine.execTierMoveStart s
  | .tierMoveDone => Sys2Proof.Machine.execTierMoveDone s
  | .nop k slot w last => Sys2Proof.Machine.execNop k slot w last s
  | .add k w last => Sys2Proof.Machine.execAdd k w last s
  | .sub k w last => Sys2Proof.Machine.execSub k w last s
  | .andOp k w last => Sys2Proof.Machine.execAndOp k w last s
  | .orOp k w last => Sys2Proof.Machine.execOrOp k w last s
  | .xorOp k w last => Sys2Proof.Machine.execXorOp k w last s
  | .shl k w last => Sys2Proof.Machine.execShl k w last s
  | .shr k w last => Sys2Proof.Machine.execShr k w last s
  | .sra k w last => Sys2Proof.Machine.execSra k w last s
  | .mul k w last => Sys2Proof.Machine.execMul k w last s
  | .mulhu k w last => Sys2Proof.Machine.execMulhu k w last s
  | .slt k w last => Sys2Proof.Machine.execSlt k w last s
  | .sltu k w last => Sys2Proof.Machine.execSltu k w last s
  | .seq k w last => Sys2Proof.Machine.execSeq k w last s
  | .addi k w last => Sys2Proof.Machine.execAddi k w last s
  | .andi k w last => Sys2Proof.Machine.execAndi k w last s
  | .ori k w last => Sys2Proof.Machine.execOri k w last s
  | .movhi k w last => Sys2Proof.Machine.execMovhi k w last s
  | .br k w last => Sys2Proof.Machine.execBr k w last s
  | .jmp k w last => Sys2Proof.Machine.execJmp k w last s
  | .call k w last => Sys2Proof.Machine.execCall k w last s
  | .jr k w last => Sys2Proof.Machine.execJr k w last s
  | .pset k w last => Sys2Proof.Machine.execPset k w last s
  | .pand k w last => Sys2Proof.Machine.execPand k w last s
  | .por k w last => Sys2Proof.Machine.execPor k w last s
  | .pnot k w last => Sys2Proof.Machine.execPnot k w last s
  | .pget k w last => Sys2Proof.Machine.execPget k w last s
  | .pput k w last => Sys2Proof.Machine.execPput k w last s
  | .gets k w last => Sys2Proof.Machine.execGets k w last s
  | .doneOp k w last => Sys2Proof.Machine.execDoneOp k w last s
  | .deckCompletion k => Sys2Proof.Machine.execDeckCompletion k s
  | .ld k w last => Sys2Proof.Machine.execLd k w last s
  | .st k w last => Sys2Proof.Machine.execSt k w last s
  | .vld k w last => Sys2Proof.Machine.execVld k w last s
  | .vst k w last => Sys2Proof.Machine.execVst k w last s
  | .vldr k w last => Sys2Proof.Machine.execVldr k w last s
  | .vstr k w last => Sys2Proof.Machine.execVstr k w last s
  | .wsld k w last => Sys2Proof.Machine.execWsld k w last s
  | .wsend k w last => Sys2Proof.Machine.execWsend k w last s
  | .rmld k w last => Sys2Proof.Machine.execRmld k w last s
  | .kvput k w last => Sys2Proof.Machine.execKvput k w last s
  | .fence k w last => Sys2Proof.Machine.execFence k w last s
  | .semsig k w last => Sys2Proof.Machine.execSemsig k w last s
  | .semwait k w last => Sys2Proof.Machine.execSemwait k w last s
  | .vadd k w last => Sys2Proof.Machine.execVadd k w last s
  | .vsub k w last => Sys2Proof.Machine.execVsub k w last s
  | .vmul k w last => Sys2Proof.Machine.execVmul k w last s
  | .vmax k w last => Sys2Proof.Machine.execVmax k w last s
  | .vmin k w last => Sys2Proof.Machine.execVmin k w last s
  | .vand k w last => Sys2Proof.Machine.execVand k w last s
  | .vor k w last => Sys2Proof.Machine.execVor k w last s
  | .vxor k w last => Sys2Proof.Machine.execVxor k w last s
  | .vfma k w last => Sys2Proof.Machine.execVfma k w last s
  | .vabs k w last => Sys2Proof.Machine.execVabs k w last s
  | .vneg k w last => Sys2Proof.Machine.execVneg k w last s
  | .vcvt k w last => Sys2Proof.Machine.execVcvt k w last s
  | .vcmplt k w last => Sys2Proof.Machine.execVcmplt k w last s
  | .vcmpeq k w last => Sys2Proof.Machine.execVcmpeq k w last s
  | .vsel k w last => Sys2Proof.Machine.execVsel k w last s
  | .vbcast k w last => Sys2Proof.Machine.execVbcast k w last s
  | .vextr k w last => Sys2Proof.Machine.execVextr k w last s
  | .vperm k w last => Sys2Proof.Machine.execVperm k w last s
  | .vrcp k w last => Sys2Proof.Machine.execVrcp k w last s
  | .vrsqrt k w last => Sys2Proof.Machine.execVrsqrt k w last s
  | .vexp2 k w last => Sys2Proof.Machine.execVexp2 k w last s
  | .vred k w last => Sys2Proof.Machine.execVred k w last s
  | .qrow k w last => Sys2Proof.Machine.execQrow k w last s
  | .mma k w last => Sys2Proof.Machine.execMma k w last s
  | .accz k w last => Sys2Proof.Machine.execAccz k w last s
  | .accst k w last => Sys2Proof.Machine.execAccst k w last s
  | .sequencedOperationDone k u => Sys2Proof.Machine.execSequencedOperationDone k u s
  | .storeDrain k => Sys2Proof.Machine.execStoreDrain k s
  | .streamStep k ws => Sys2Proof.Machine.execStreamStep k ws s
  | .timeLimit k => Sys2Proof.Machine.execTimeLimit k s
  | .deckReset ch k val => Sys2Proof.Machine.execDeckReset ch k val s
  | .turnBarrier => Sys2Proof.Machine.execTurnBarrier s
  | .layerDispatch => Sys2Proof.Machine.execLayerDispatch s
  | .routingStep => Sys2Proof.Machine.execRoutingStep s
  | .sampling tag logits mismatches => Sys2Proof.Machine.execSampling tag logits mismatches s
  | .commitPoint => Sys2Proof.Machine.execCommitPoint s
  | .attemptAbandon => Sys2Proof.Machine.execAttemptAbandon s
  | .installImage ch val => Sys2Proof.Machine.execInstallImage ch val s
  | .loadImage ch val => Sys2Proof.Machine.execLoadImage ch val s
  | .removeImage ch val => Sys2Proof.Machine.execRemoveImage ch val s
  | .imageVerify ch val => Sys2Proof.Machine.execImageVerify ch val s
  | .commitVersion ch val => Sys2Proof.Machine.execCommitVersion ch val s
  | .imageCommandDone => Sys2Proof.Machine.execImageCommandDone s
  | .swapRequest ch val => Sys2Proof.Machine.execSwapRequest ch val s
  | .swapLayerStaged => Sys2Proof.Machine.execSwapLayerStaged s
  | .swapCopyDone => Sys2Proof.Machine.execSwapCopyDone s
  | .swapAbort ch val => Sys2Proof.Machine.execSwapAbort ch val s
  | .swapResume ch val => Sys2Proof.Machine.execSwapResume ch val s
  | .doorbell ring part val => Sys2Proof.Machine.execDoorbell ring part val s
  | .ringRecord ch t val => Sys2Proof.Machine.execRingRecord ch t val s
  | .generateReq ring => Sys2Proof.Machine.execGenerateReq ring s
  | .cancelReq ring => Sys2Proof.Machine.execCancelReq ring s
  | .continueReq ring => Sys2Proof.Machine.execContinueReq ring s
  | .closeReq ring => Sys2Proof.Machine.execCloseReq ring s
  | .semSignal ring => Sys2Proof.Machine.execSemSignal ring s
  | .semWait ring => Sys2Proof.Machine.execSemWait ring s
  | .semWaitSatisfied ring => Sys2Proof.Machine.execSemWaitSatisfied ring s
  | .parkLimit b => Sys2Proof.Machine.execParkLimit b s
  | .coalesceTime ring => Sys2Proof.Machine.execCoalesceTime ring s
  | .hostSleepIdle => Sys2Proof.Machine.execHostSleepIdle s
  | .heldOutputFlush => Sys2Proof.Machine.execHeldOutputFlush s
  | .partitionSets ch slot val => Sys2Proof.Machine.execPartitionSets ch slot val s
  | .kvPageQuota ch t val => Sys2Proof.Machine.execKvPageQuota ch t val s
  | .ringSize ch val => Sys2Proof.Machine.execRingSize ch val s
  | .biasVector ch layer val => Sys2Proof.Machine.execBiasVector ch layer val s
  | .linkTrained port failed => Sys2Proof.Machine.execLinkTrained port failed s
  | .idlePacket port p => Sys2Proof.Machine.execIdlePacket port p s
  | .nakPacket port p => Sys2Proof.Machine.execNakPacket port p s
  | .retryTimeout port => Sys2Proof.Machine.execRetryTimeout port s
  | .helloPacket port p => Sys2Proof.Machine.execHelloPacket port p s
  | .joinDecision => Sys2Proof.Machine.execJoinDecision s
  | .joinPacket port p => Sys2Proof.Machine.execJoinPacket port p s
  | .dictPacket port p => Sys2Proof.Machine.execDictPacket port p s
  | .berthPacket port p => Sys2Proof.Machine.execBerthPacket port p s
  | .batchTable port p => Sys2Proof.Machine.execBatchTable port p s
  | .commitReport port p => Sys2Proof.Machine.execCommitReport port p s
  | .turnCommit port p => Sys2Proof.Machine.execTurnCommit port p s
  | .semsigPacket port p => Sys2Proof.Machine.execSemsigPacket port p s
  | .writePacket port p => Sys2Proof.Machine.execWritePacket port p s
  | .readPacket port p => Sys2Proof.Machine.execReadPacket port p s
  | .readData port p => Sys2Proof.Machine.execReadData port p s
  | .downshift port p => Sys2Proof.Machine.execDownshift port p s
  | .lossPacket port p => Sys2Proof.Machine.execLossPacket port p s
  | .keepalive port f => Sys2Proof.Machine.execKeepalive port f s
  | .keepalivePeriod => Sys2Proof.Machine.execKeepalivePeriod s
  | .keepaliveSilence port => Sys2Proof.Machine.execKeepaliveSilence port s
  | .wakeFrame port f => Sys2Proof.Machine.execWakeFrame port f s
  | .dictReq port f => Sys2Proof.Machine.execDictReq port f s
  | .dictRsp port f => Sys2Proof.Machine.execDictRsp port f s
  | .layoutWrite ch val => Sys2Proof.Machine.execLayoutWrite ch val s
  | .stageMap ch slot val => Sys2Proof.Machine.execStageMap ch slot val s
  | .contextOpen ch val => Sys2Proof.Machine.execContextOpen ch val s
  | .contextPause ch val => Sys2Proof.Machine.execContextPause ch val s
  | .contextResume ch val => Sys2Proof.Machine.execContextResume ch val s
  | .contextClose ch val => Sys2Proof.Machine.execContextClose ch val s
  | .contextFlush ch val => Sys2Proof.Machine.execContextFlush ch val s
  | .contextRecord ch val => Sys2Proof.Machine.execContextRecord ch val s
  | .mediaJob ch val => Sys2Proof.Machine.execMediaJob ch val s
  | .registerBuffer ch val => Sys2Proof.Machine.execRegisterBuffer ch val s
  | .releaseBuffer ch val => Sys2Proof.Machine.execReleaseBuffer ch val s
  | .nextFrameStart pipe => Sys2Proof.Machine.execNextFrameStart pipe s
  | .jobConsumed c => Sys2Proof.Machine.execJobConsumed c s
  | .frameDone c facts => Sys2Proof.Machine.execFrameDone c facts s
  | .frameBudget c facts => Sys2Proof.Machine.execFrameBudget c facts s
  | .receiverSetting ch idx sub val => Sys2Proof.Machine.execReceiverSetting ch idx sub val s
  | .frameStart h => Sys2Proof.Machine.execFrameStart h s
  | .frameEnd h => Sys2Proof.Machine.execFrameEnd h s
  | .lineStart h => Sys2Proof.Machine.execLineStart h s
  | .lineEnd h => Sys2Proof.Machine.execLineEnd h s
  | .longPacket p => Sys2Proof.Machine.execLongPacket p s
  | .clearSteps ch val => Sys2Proof.Machine.execClearSteps ch val s
  | .retireDeck ch val => Sys2Proof.Machine.execRetireDeck ch val s
  | .restoreDeck ch val => Sys2Proof.Machine.execRestoreDeck ch val s
  | .injectFault ch val => Sys2Proof.Machine.execInjectFault ch val s
  | .errorReportCoalesce => Sys2Proof.Machine.execErrorReportCoalesce s
  | .swPgood => Sys2Proof.Machine.execSwPgood s
  | .swPgoodTimeout => Sys2Proof.Machine.execSwPgoodTimeout s
  | .railRetry => Sys2Proof.Machine.execRailRetry s
  | .powerLoss => Sys2Proof.Machine.execPowerLoss s
  | .configurationRequest r => Sys2Proof.Machine.execConfigurationRequest r s
  | .linkL12Entry => Sys2Proof.Machine.execLinkL12Entry s
  | .perstNRelease => Sys2Proof.Machine.execPerstNRelease s
  | .pcieLinkUp => Sys2Proof.Machine.execPcieLinkUp s
  | .tamperNRelease => Sys2Proof.Machine.execTamperNRelease s
  | .watchFllLock => Sys2Proof.Machine.execWatchFllLock s
  | .dynamicAddressAssignment addr => Sys2Proof.Machine.execDynamicAddressAssignment addr s
  | .railsRemoved => Sys2Proof.Machine.execRailsRemoved s

end Sys2Proof.Machine
end

