-- ==== Sys2Proof/Machine/Package.lean ====
section
/-! DEFINITION. The rails and the ball map of 16_electrical.md (R362, R363, R365 to R367, R373): facts of the part that no
command changes. -/

namespace Sys2Proof.Machine

/-! ## Rails (R362) -/

/-- The supply rails. -/
inductive Rail where
  | vddWatch | vddioWatch | vddqLp | vddCore | vinDeck | vddLpphy | vddSerdes | vddaSerdes | vddFlash | vddCsi | vddio1v8
  deriving DecidableEq, Repr

/-- Every rail, in the order of the table. -/
def rails : List Rail :=
  [.vddWatch, .vddioWatch, .vddqLp, .vddCore, .vinDeck, .vddLpphy, .vddSerdes, .vddaSerdes, .vddFlash, .vddCsi, .vddio1v8]

/-- A rail of the switched group, which the integrator may remove while RAIL_EN is low (R362, R363). -/
def Rail.switched : Rail → Bool
  | .vddWatch => false | .vddioWatch => false | .vddqLp => false
  | .vddCore => true | .vinDeck => true | .vddLpphy => true | .vddSerdes => true | .vddaSerdes => true
  | .vddFlash => true | .vddCsi => true | .vddio1v8 => true

/-- Minimum, nominal and maximum of a rail in millivolts (R362). -/
def Rail.range : Rail → Nat × Nat × Nat
  | .vddWatch => (760, 800, 840)
  | .vddioWatch => (1710, 1800, 1890)
  | .vddqLp => (470, 500, 530)
  | .vddCore => (720, 750, 780)
  | .vinDeck => (1010, 1050, 1100)
  | .vddLpphy => (720, 750, 780)
  | .vddSerdes => (820, 850, 880)
  | .vddaSerdes => (1160, 1200, 1240)
  | .vddFlash => (1710, 1800, 1890)
  | .vddCsi => (1140, 1200, 1260)
  | .vddio1v8 => (1710, 1800, 1890)

/-- Maximum current of a rail in milliamperes, 7210-T and 7210-L (R362). -/
def Rail.current : Rail → Nat × Nat
  | .vddWatch => (20, 20) | .vddioWatch => (40, 40) | .vddqLp => (1200, 1500) | .vddCore => (3000, 3500)
  | .vinDeck => (8000, 18000) | .vddLpphy => (1000, 1200) | .vddSerdes => (1500, 1500) | .vddaSerdes => (400, 400)
  | .vddFlash => (1600, 1600) | .vddCsi => (60, 60) | .vddio1v8 => (20, 20)

/-- A level in millivolts lies within a rail's range (R362). -/
def Rail.within (r : Rail) (mv : Nat) : Bool := decide (r.range.1 ≤ mv) && decide (mv ≤ r.range.2.2)

/-- Every rail is as R362 asks, given the levels and RAIL_EN: a switched rail is excused while RAIL_EN is low. -/
def railsHold (railEn : Bool) (mv : Rail → Nat) : Bool :=
  rails.all (fun r => (r.switched && !railEn) || r.within (mv r))

/-- SW_PGOOD may be raised: every switched rail is within range (R364). -/
def pgoodDue (mv : Rail → Nat) : Bool := rails.all (fun r => !r.switched || r.within (mv r))

/-- Step of power-up at which a rail rises (R365); power-down takes the steps backwards (R366). -/
def Rail.step : Rail → Nat
  | .vddWatch => 1
  | .vddioWatch => 2 | .vddqLp => 2
  | .vddCore => 3 | .vddio1v8 => 3 | .vddFlash => 3
  | .vinDeck => 4 | .vddLpphy => 4 | .vddSerdes => 4 | .vddaSerdes => 4 | .vddCsi => 4

/-- A rail may begin to rise: those of earlier steps are within range (R365). -/
def mayRise (mv : Rail → Nat) (r : Rail) : Bool := rails.all (fun q => decide (r.step ≤ q.step) || q.within (mv q))

/-- RST_N may be released, once 10 µs have passed: every rail is within range (R365). -/
def mayRelease (mv : Rail → Nat) : Bool := rails.all (fun r => r.within (mv r))

/-- An order in which every rail falls once is that of R366: the steps of power-up reversed, those of steps 2 and 1 after
the switched rails. -/
def fallsInOrder (l : List Rail) : Bool :=
  rails.all (l.contains ·) && (l.zip (l.drop 1)).all (fun p => decide (p.2.step ≤ p.1.step))

/-- Absolute maximum of a rail in millivolts; the minimum of each is −300 (R367). -/
def Rail.stress : Rail → Nat
  | .vddWatch => 950 | .vddCore => 950 | .vddLpphy => 950
  | .vddSerdes => 1000
  | .vddqLp => 650
  | .vinDeck => 1400 | .vddaSerdes => 1400 | .vddCsi => 1400
  | .vddioWatch => 2100 | .vddio1v8 => 2100 | .vddFlash => 2100

/-! ## The ball map (R373) -/

/-- What a position of the 33 × 33 grid carries; a high-speed pair by its name, index and side. -/
inductive Ball where
  | none
  | pair (name : String) (index : Nat) (negative : Bool)
  | lpddr (channel : Nat) (name : String)
  | single (name : String)
  | power (rail : Rail)
  | vss
  deriving DecidableEq, Repr

/-- The letters of row index 1 to 33. -/
def rowLetters : List String :=
  ["A", "B", "C", "D", "E", "F", "G", "H", "J", "K", "L", "M", "N", "P", "T", "U", "V", "W", "Y", "AA", "AB", "AC",
    "AD", "AE", "AF", "AG", "AH", "AJ", "AK", "AL", "AM", "AN", "AP"]

/-- The name of a position. -/
def ballName (row col : Nat) : String := (rowLetters[row - 1]?).getD "" ++ toString col

/-- A position has no ball: the hole in the middle, and AP33. -/
def unpopulated (row col : Nat) : Bool :=
  (decide (13 ≤ row ∧ row ≤ 20) && decide (13 ≤ col ∧ col ≤ 20)) || (decide (row = 33) && decide (col = 33))

/-- Row and P column of the high-speed pairs (the pair table). -/
def highSpeedPairs : List (String × Nat × Nat × Nat) :=
  ((List.range 4).flatMap (fun n =>
    [("PCIE_TX", n, 8 + 2 * n, 1), ("PCIE_RX", n, 8 + 2 * n, 4),
      ("FERRY0_TX", n, 18 + 2 * n, 1), ("FERRY0_RX", n, 18 + 2 * n, 4),
      ("FERRY1_TX", n, 8 + 2 * n, 32), ("FERRY1_RX", n, 8 + 2 * n, 29),
      ("FERRY2_TX", n, 18 + 2 * n, 32), ("FERRY2_RX", n, 18 + 2 * n, 29)]))
  ++ [("PCIE_REFCLK", 0, 16, 1), ("CSI_CLK", 0, 26, 1)]
  ++ (List.range 4).map (fun n => ("CSI_D", n, 26, 4 + 3 * n))

/-- The pair's ball at a position. -/
def pairAt (row col : Nat) : Option Ball :=
  highSpeedPairs.findSome? (fun p =>
    if row = p.2.2.1 ∧ (col = p.2.2.2 ∨ col = p.2.2.2 + 1) then some (.pair p.1 p.2.1 (decide (col = p.2.2.2 + 1)))
    else none)

/-- The block of an LPDDR5X channel, offset rows 1 to 6 of columns 1 to 8; the empty name is VSS, * is VDDQ_LP. -/
def lpddrBlock : List (List String) :=
  [["DQ0", "DQ1", "DQ2", "DQ3", "DQ4", "DQ5", "DQ6", "DQ7"],
    ["WCK0_T", "WCK0_C", "RDQS0_T", "RDQS0_C", "DMI0", "", "*", ""],
    ["CA0", "CA1", "CA2", "CA3", "CA4", "CA5", "CA6", ""],
    ["CK_T", "CK_C", "CS0", "CS1", "DMI1", "", "*", ""],
    ["WCK1_T", "WCK1_C", "RDQS1_T", "RDQS1_C", "", "", "*", ""],
    ["DQ8", "DQ9", "DQ10", "DQ11", "DQ12", "DQ13", "DQ14", "DQ15"]]

/-- A ball of a channel's block at offsets k and j. -/
def lpddrBall (channel k j : Nat) : Ball :=
  match (lpddrBlock[k - 1]?).bind (fun l => l[j - 1]?) with
  | some n => if n = "" then .vss else if n = "*" then .power .vddqLp else .lpddr channel n
  | none => .vss

/-- The LPDDR5X ball at a position: channels 0 to 3 from row A on, 4 to 7 from row AP back. -/
def lpddrAt (row col : Nat) : Option Ball :=
  if 1 ≤ col ∧ col ≤ 32 then
    let c := (col - 1) / 8
    let j := (col - 1) % 8 + 1
    if 1 ≤ row ∧ row ≤ 6 then some (lpddrBall c row j)
    else if 28 ≤ row ∧ row ≤ 33 then some (lpddrBall (c + 4) (34 - row) j)
    else none
  else none

/-- The single signals of row G from column 8 and of row H from column 8. -/
def singles : List String × List String :=
  (["RST_N", "PERST_N", "CLKREQ_N", "WAKE_N", "THERMTRIP_N", "TAMPER_N", "I3C_SCL", "I3C_SDA", "RAIL_EN", "SW_PGOOD",
      "SLOWCLK_XI", "SLOWCLK_XO", "REFCLK_XI", "REFCLK_XO"],
    ["PILOT", "NODE_ID0", "NODE_ID1", "NODE_ID2", "I3C_ADDR0", "I3C_ADDR1", "BOOT_SEL", "TCK", "TMS", "TDI", "TDO",
      "TRST_N", "LP_RESET_N"])

/-- The single signal at a position. -/
def singleAt (row col : Nat) : Option Ball :=
  if row = 7 ∧ col = 33 then some (.single "VDDQ_LP sense")
  else if col < 8 then none
  else if row = 7 then (singles.1[col - 8]?).map Ball.single
  else if row = 8 then (singles.2[col - 8]?).map Ball.single
  else none

/-- A number lies in a range, both ends included. -/
def between (a x b : Nat) : Bool := decide (a ≤ x) && decide (x ≤ b)

/-- The rail of the power region a position lies in. -/
def powerAt (row col : Nat) : Option Rail :=
  if between 11 row 23 && between 11 col 23 && decide ((row + col) % 2 = 0) then some .vinDeck
  else if (between 9 row 10 || between 24 row 25) && between 11 col 23 && decide ((row + col) % 2 = 0) then some .vddCore
  else if (decide (row = 7) || decide (row = 27)) && between 24 col 31 then some .vddLpphy
  else if (between 1 row 6 || between 28 row 33) && decide (col = 33) then some .vddqLp
  else if between 9 row 25 && (decide (col = 3) || decide (col = 31)) && decide (row % 2 = 1) then some .vddSerdes
  else if decide (row = 16) && between 28 col 31 then some .vddaSerdes
  else if between 11 row 23 && between 24 col 26 && decide ((row + col) % 2 = 1) then some .vddFlash
  else if decide (row = 7) && between 1 col 4 then some .vddWatch
  else if decide (row = 7) && between 5 col 7 then some .vddioWatch
  else if decide (row = 8) && between 21 col 24 then some .vddio1v8
  else if decide (row = 26) && between 16 col 18 then some .vddCsi
  else none

/-- The ball map: what a position carries, rows and columns from 1. -/
def ball (row col : Nat) : Ball :=
  if unpopulated row col then .none
  else ((pairAt row col).orElse (fun _ => (lpddrAt row col).orElse (fun _ => (singleAt row col).orElse (fun _ =>
    (powerAt row col).map Ball.power)))).getD .vss

end Sys2Proof.Machine
end

