-- ==== Sys2Proof/WellFormed.lean ====
section
/-! DEFINITION. What spells a command: the operands that the interface of a row can carry. A frame row's
bytes are a 64-byte request frame with that row's op, a deck row's word carries that row's operation code, a
packet row's packet is of that row's kind, and so on. exec is total and does not ask: bytes that another row's
interface would carry are served as what they spell (logs 21 and 104). -/

namespace Sys2Proof

open Machine

/-- A request frame of 64 bytes with an op (Dictionary frame layout, R28). -/
def frameSpells (op : Nat) (f : Bytes) : Bool := decide (f.length = 64) && decide (fld f 0 1 = op)

/-- A slot word with an operation code in bits [7:0] (08_decks.md, Slot encoding). -/
def wordSpells (code : Nat) (w : BitVec 64) : Bool := decide (bitsOf w.toNat 7 0 = code)

/-- The operation codes of a slot (08_decks.md, the operation tables of the four slots). -/
def slotCodes : Slot → List Nat
  | .c => List.range 14 ++ [16, 17, 18, 19, 24, 25, 26, 27, 32, 33, 34, 35, 36, 37, 40, 63]
  | .m => List.range 7 ++ [8, 9, 10, 11, 12, 13, 14]
  | .v => List.range 23 ++ [24]
  | .x => List.range 4

/-- A NOP word, or one whose operation code names no operation of the slot (R190; log 21). -/
def nopSpells (slot : Slot) (w : BitVec 64) : Bool :=
  wordSpells 0 w || !(slotCodes slot).contains (bitsOf w.toNat 7 0)

/-- A packet of a kind (R297). -/
def packetSpells (kind : Nat) (p : Packet) : Bool := decide (p.kind = kind)

/-- A TURN packet whose context [1:0] names a message (R307). -/
def turnSpells (what : Nat) (p : Packet) : Bool := decide (p.kind = 6) && decide (p.context % 4 = what)

/-- A slow-crossing frame of a type (R302). -/
def slowSpells (type : Nat) (f : Bytes) : Bool := decide (fld f 1 1 = type)

/-- The objects of TIER_QUOTA_WRITE: the quotas 0x2430 and 0x2431 and the reserves 0x2433 (R159). -/
def quotaSpells (idx sub : Nat) : Bool :=
  (decide (idx = 0x2430 ∨ idx = 0x2431) && decide (1 ≤ sub) && decide (sub ≤ 64))
    || (decide (idx = 0x2433) && decide (1 ≤ sub) && decide (sub ≤ 2))

/-- The objects of RECEIVER_SETTING: 0x2C32:01 and the channel records 0x2C30 (R336). -/
def receiverSpells (idx sub : Nat) : Bool :=
  decide (idx = 0x2C32 ∧ sub = 1) || decide (idx = 0x2C30 ∧ (sub = 1 ∨ sub = 2))

/-- A write carries the bytes it writes (R136). -/
def accessSpells (a : Access) : Bool := decide (a.kind = .write → a.data.length = a.len)

/-- The command is one that its row's interface can carry. -/
def Instr.wf : Instr → Bool
  | .expeditedRead _ frame => frameSpells 1 frame
  | .expeditedWrite _ frame => frameSpells 2 frame
  | .segmentedRead _ frame => frameSpells 3 frame
  | .segmentedWrite _ frame => frameSpells 4 frame
  | .abortFrame _ frame => frameSpells 5 frame
  | .registerWrite _ => true
  | .segmentTimeout _ => true
  | .i3cPrivateWrite _ _ => true
  | .i3cPrivateRead _ _ => true
  | .i2cLegacyTransfer _ => true
  | .forwardTimeout _ => true
  | .hostRange _ _ => true
  | .storeParameters _ _ => true
  | .storeDone _ => true
  | .restoreDefaults _ _ => true
  | .dozeNow _ _ => true
  | .watchNow _ _ => true
  | .offPrepare _ _ => true
  | .offPrepareDone => true
  | .readyTimeout => true
  | .dozeTimeout => true
  | .watchTimeout => true
  | .dozeEntry => true
  | .dozeEntryDone => true
  | .watchEntry => true
  | .watchEntryDone => true
  | .wakeSource _ => true
  | .dozeExitDone => true
  | .watchExitDone => true
  | .hostL1Exit => true
  | .heldOutputTimer _ => true
  | .hostWakeCoalesce => true
  | .watchDeadlineTimer => true
  | .pointChangeDone => true
  | .thermalSample _ _ _ => true
  | .powerOnReset => true
  | .rstNAssert => true
  | .rstNRelease => true
  | .warmReset _ _ => true
  | .coldReset _ _ => true
  | .harbourReset _ _ => true
  | .resetDelay => true
  | .hostReset _ => true
  | .helmWatchdog => true
  | .commitCommand _ _ => true
  | .lifecycleToFactory _ _ => true
  | .lifecycleToDevelopment _ _ => true
  | .lifecycleToDeployed _ _ => true
  | .lifecycleToService _ _ => true
  | .lifecycleLeaveService _ _ => true
  | .lifecycleToEnd _ _ => true
  | .serviceAuthorisation _ _ => true
  | .tamperEvent _ => true
  | .journalRecordWritten => true
  | .flashRead _ _ => true
  | .flashProgram _ _ => true
  | .flashErase _ _ => true
  | .flashBlankCheck _ _ => true
  | .flashVerify _ _ => true
  | .flashCrc32 _ _ => true
  | .descriptorStart _ _ => true
  | .programPulseDone _ _ => true
  | .eraseDone _ _ => true
  | .eraseResume _ => true
  | .completionPost => true
  | .flashFlush _ _ => true
  | .regionWrite _ _ _ => true
  | .regionChangeEffect _ => true
  | .memoryAccess a => accessSpells a
  | .scrubRead _ => true
  | .regionEntryBase _ _ _ _ => true
  | .regionEntryLimit _ _ _ _ => true
  | .windowUpdate _ _ => true
  | .hostReadTimeout _ _ => true
  | .tensorCreate _ _ => true
  | .tensorDestroy _ _ => true
  | .tensorSetHint _ _ => true
  | .tensorPin _ _ => true
  | .tensorUnpin _ _ => true
  | .tierQuotaWrite _ x n _ => quotaSpells x n
  | .tierMoveStart => true
  | .tierMoveDone => true
  | .nop _ slot w _ => nopSpells slot w
  | .add _ w _ => wordSpells 0x01 w
  | .sub _ w _ => wordSpells 0x02 w
  | .andOp _ w _ => wordSpells 0x03 w
  | .orOp _ w _ => wordSpells 0x04 w
  | .xorOp _ w _ => wordSpells 0x05 w
  | .shl _ w _ => wordSpells 0x06 w
  | .shr _ w _ => wordSpells 0x07 w
  | .sra _ w _ => wordSpells 0x08 w
  | .mul _ w _ => wordSpells 0x09 w
  | .mulhu _ w _ => wordSpells 0x0A w
  | .slt _ w _ => wordSpells 0x0B w
  | .sltu _ w _ => wordSpells 0x0C w
  | .seq _ w _ => wordSpells 0x0D w
  | .addi _ w _ => wordSpells 0x10 w
  | .andi _ w _ => wordSpells 0x11 w
  | .ori _ w _ => wordSpells 0x12 w
  | .movhi _ w _ => wordSpells 0x13 w
  | .br _ w _ => wordSpells 0x18 w
  | .jmp _ w _ => wordSpells 0x19 w
  | .call _ w _ => wordSpells 0x1A w
  | .jr _ w _ => wordSpells 0x1B w
  | .pset _ w _ => wordSpells 0x20 w
  | .pand _ w _ => wordSpells 0x21 w
  | .por _ w _ => wordSpells 0x22 w
  | .pnot _ w _ => wordSpells 0x23 w
  | .pget _ w _ => wordSpells 0x24 w
  | .pput _ w _ => wordSpells 0x25 w
  | .gets _ w _ => wordSpells 0x28 w
  | .doneOp _ w _ => wordSpells 0x3F w
  | .deckCompletion _ => true
  | .ld _ w _ => wordSpells 0x01 w
  | .st _ w _ => wordSpells 0x02 w
  | .vld _ w _ => wordSpells 0x03 w
  | .vst _ w _ => wordSpells 0x04 w
  | .vldr _ w _ => wordSpells 0x05 w
  | .vstr _ w _ => wordSpells 0x06 w
  | .wsld _ w _ => wordSpells 0x08 w
  | .wsend _ w _ => wordSpells 0x09 w
  | .rmld _ w _ => wordSpells 0x0A w
  | .kvput _ w _ => wordSpells 0x0B w
  | .fence _ w _ => wordSpells 0x0C w
  | .semsig _ w _ => wordSpells 0x0D w
  | .semwait _ w _ => wordSpells 0x0E w
  | .vadd _ w _ => wordSpells 0x01 w
  | .vsub _ w _ => wordSpells 0x02 w
  | .vmul _ w _ => wordSpells 0x03 w
  | .vmax _ w _ => wordSpells 0x04 w
  | .vmin _ w _ => wordSpells 0x05 w
  | .vand _ w _ => wordSpells 0x06 w
  | .vor _ w _ => wordSpells 0x07 w
  | .vxor _ w _ => wordSpells 0x08 w
  | .vfma _ w _ => wordSpells 0x09 w
  | .vabs _ w _ => wordSpells 0x0A w
  | .vneg _ w _ => wordSpells 0x0B w
  | .vcvt _ w _ => wordSpells 0x0C w
  | .vcmplt _ w _ => wordSpells 0x0D w
  | .vcmpeq _ w _ => wordSpells 0x0E w
  | .vsel _ w _ => wordSpells 0x0F w
  | .vbcast _ w _ => wordSpells 0x10 w
  | .vextr _ w _ => wordSpells 0x11 w
  | .vperm _ w _ => wordSpells 0x12 w
  | .vrcp _ w _ => wordSpells 0x13 w
  | .vrsqrt _ w _ => wordSpells 0x14 w
  | .vexp2 _ w _ => wordSpells 0x15 w
  | .vred _ w _ => wordSpells 0x16 w
  | .qrow _ w _ => wordSpells 0x18 w
  | .mma _ w _ => wordSpells 0x01 w
  | .accz _ w _ => wordSpells 0x02 w
  | .accst _ w _ => wordSpells 0x03 w
  | .sequencedOperationDone _ _ => true
  | .storeDrain _ => true
  | .streamStep _ _ => true
  | .timeLimit _ => true
  | .deckReset _ _ _ => true
  | .turnBarrier => true
  | .layerDispatch => true
  | .routingStep => true
  | .sampling _ _ _ => true
  | .commitPoint => true
  | .attemptAbandon => true
  | .installImage _ _ => true
  | .loadImage _ _ => true
  | .removeImage _ _ => true
  | .imageVerify _ _ => true
  | .commitVersion _ _ => true
  | .imageCommandDone => true
  | .swapRequest _ _ => true
  | .swapLayerStaged => true
  | .swapCopyDone => true
  | .swapAbort _ _ => true
  | .swapResume _ _ => true
  | .doorbell _ _ _ => true
  | .ringRecord _ _ _ => true
  | .generateReq _ => true
  | .cancelReq _ => true
  | .continueReq _ => true
  | .closeReq _ => true
  | .semSignal _ => true
  | .semWait _ => true
  | .semWaitSatisfied _ => true
  | .parkLimit _ => true
  | .coalesceTime _ => true
  | .hostSleepIdle => true
  | .heldOutputFlush => true
  | .partitionSets _ _ _ => true
  | .kvPageQuota _ _ _ => true
  | .ringSize _ _ => true
  | .biasVector _ _ _ => true
  | .linkTrained _ failed => decide failed.Nodup
  | .idlePacket _ p => packetSpells 0 p
  | .nakPacket _ p => packetSpells 1 p
  | .retryTimeout _ => true
  | .helloPacket _ p => packetSpells 2 p
  | .joinDecision => true
  | .joinPacket _ p => packetSpells 3 p
  | .dictPacket _ p => packetSpells 4 p
  | .berthPacket _ p => packetSpells 5 p
  | .batchTable _ p => turnSpells 0 p
  | .commitReport _ p => turnSpells 1 p
  | .turnCommit _ p => turnSpells 2 p
  | .semsigPacket _ p => packetSpells 7 p
  | .writePacket _ p => packetSpells 8 p
  | .readPacket _ p => packetSpells 9 p
  | .readData _ p => packetSpells 10 p
  | .downshift _ p => packetSpells 11 p
  | .lossPacket _ p => packetSpells 12 p
  | .keepalive _ f => slowSpells 1 f
  | .keepalivePeriod => true
  | .keepaliveSilence _ => true
  | .wakeFrame _ f => slowSpells 2 f
  | .dictReq _ f => slowSpells 3 f
  | .dictRsp _ f => slowSpells 4 f
  | .layoutWrite _ _ => true
  | .stageMap _ _ _ => true
  | .contextOpen _ _ => true
  | .contextPause _ _ => true
  | .contextResume _ _ => true
  | .contextClose _ _ => true
  | .contextFlush _ _ => true
  | .contextRecord _ _ => true
  | .mediaJob _ _ => true
  | .registerBuffer _ _ => true
  | .releaseBuffer _ _ => true
  | .nextFrameStart _ => true
  | .jobConsumed _ => true
  | .frameDone _ _ => true
  | .frameBudget _ _ => true
  | .receiverSetting _ x n _ => receiverSpells x n
  | .frameStart _ => true
  | .frameEnd _ => true
  | .lineStart _ => true
  | .lineEnd _ => true
  | .longPacket p => decide (p.dataType < 64) && decide (p.payload.length < 2 ^ 16)
  | .clearSteps _ _ => true
  | .retireDeck _ _ => true
  | .restoreDeck _ _ => true
  | .injectFault _ _ => true
  | .errorReportCoalesce => true
  | .swPgood => true
  | .swPgoodTimeout => true
  | .railRetry => true
  | .powerLoss => true
  | .configurationRequest _ => true
  | .linkL12Entry => true
  | .perstNRelease => true
  | .pcieLinkUp => true
  | .tamperNRelease => true
  | .watchFllLock => true
  | .dynamicAddressAssignment _ => true
  | .railsRemoved => true

end Sys2Proof
end

