-- ==== Sys2Proof/Safety.lean ====
section
/-! DEFINITION. What counts as a safe run, in the terms claims use: steps that answer a next state, and the
invariants of the state. -/

namespace Sys2Proof.Machine

/-- A step answers a next state. -/
def Steps (s t : State) : Prop := step s = .next t

/-- A state that some steps lead to. -/
inductive Reaches : State → State → Prop where
  | refl (s : State) : Reaches s s
  | step {s t u : State} : Reaches s t → Steps t u → Reaches s u

/-- The memories are in their canonical form. -/
def State.memWf (s : State) : Bool := s.mem.wf && cellsWf (fun _ => 0) s.host.cells

/-- The memories and the decks' accumulators are in their canonical form. -/
def State.canonical (s : State) : Bool :=
  s.memWf && (List.finRange 16).all (fun k => rising (s.decks.get k).acc)

/-! ## Writes of objects -/

/-- A write of len bytes of an object passes the checks of R40 that do not ask its owner, and the server runs. -/
def taken (s : State) (ch : Channel) (idx sub len : Nat) : Bool :=
  s.serves && (match writeChecks s ch idx sub len with
    | .ok _ => true
    | .error _ => false) && !harbourRefuses s idx

/-- A write of an object is answered with a status after its owner made t of the state: the served request is
counted, with its abort, and the answer leaves. -/
def answered (t : State) (ch : Channel) (idx sub status : Nat) : State :=
  (t.countServed status).emit (.wrote ch idx sub status)

/-! ## Bundles of one word -/

/-- A deck takes a bundle of one word: it issues, no word of the bundle has come, its PC can be fetched from, no
sequenced operation is waited for and no parity fault is injected. -/
def alone (s : State) (k : Fin 16) (slot : Slot) (w : BitVec 64) : Bool :=
  let d := s.decks.get k
  issues s k && d.bundle.isEmpty && fetchable d.pc && !d.sequenced.any (waitsFor [⟨slot, w⟩])
    && (match d.injected with
      | some (3, _, _) => false
      | _ => true)

/-- The slot's predicate has bit 0 set and is not poisoned (R191, R192). -/
def enabled (s : State) (k : Fin 16) (w : BitVec 64) : Bool :=
  predOn (s.decks.get k) w && !(s.decks.get k).pPoison (fPred w)

/-- The state while a bundle of one word is looked at. -/
def holdingWord (s : State) (k : Fin 16) (slot : Slot) (w : BitVec 64) : State :=
  s.setDeck k { s.decks.get k with bundle := [⟨slot, w⟩] }

/-- A bundle has been issued: the next one is at PC + 32, and 0x4000 + 0x100 d:05 counts it. -/
def issued (s : State) (k : Fin 16) : State :=
  (modDeck s k (fun d => { d with pc := d.pc + 32, bundle := [], stalled := false })).bumpBy
    (0x4000 + 0x100 * k.val) 5 64 1

end Sys2Proof.Machine
end

