-- ==== Sys2Proof/Certificates/Slice0/Obligations.lean ====
section
/-! DEFINITION. The statements about the block, for the provers. The namespace Sys2Proof.Claims holds the words
they are said in. -/

open Sys2Proof Sys2Proof.Machine

/-! ## The queue -/

/-- A step takes the command at the front of the queue and is exec of it with the queue's rest. On an empty queue time
passes, which is the model's choice (log 15), and a device that does not serve stays as it is. -/
def Obligations.StepRunsTheFrontCommand : Prop :=
  (∀ (c : Instr) (rest : List Instr) (s : State),
    s.pending = c :: rest → step s = exec c { s with pending := rest }) ∧
  (∀ s : State, s.pending = [] → step s = .next (tick s) ∧ (s.serves = false → tick s = s))

/-- Every command answers a next state in every state: nothing stops the block. -/
def Obligations.EveryCommandCompletes : Prop :=
  ∀ (c : Instr) (s : State), ∃ t, exec c s = .next t

/-! ## Decks: the words -/

namespace Sys2Proof.Claims

/-- A row of the deck operations: its constructor. -/
abbrev DeckRow := Fin 16 → BitVec 64 → Bool → Instr

/-- Every row of a slot word but NOP, with its slot and operation code (C-slot to X-slot operations). -/
def deckRows : List (DeckRow × Slot × Nat) :=
  [(.add, .c, 0x01), (.sub, .c, 0x02), (.andOp, .c, 0x03), (.orOp, .c, 0x04), (.xorOp, .c, 0x05), (.shl, .c, 0x06),
   (.shr, .c, 0x07), (.sra, .c, 0x08), (.mul, .c, 0x09), (.mulhu, .c, 0x0A), (.slt, .c, 0x0B), (.sltu, .c, 0x0C),
   (.seq, .c, 0x0D), (.addi, .c, 0x10), (.andi, .c, 0x11), (.ori, .c, 0x12), (.movhi, .c, 0x13), (.br, .c, 0x18),
   (.jmp, .c, 0x19), (.call, .c, 0x1A), (.jr, .c, 0x1B), (.pset, .c, 0x20), (.pand, .c, 0x21), (.por, .c, 0x22),
   (.pnot, .c, 0x23), (.pget, .c, 0x24), (.pput, .c, 0x25), (.gets, .c, 0x28), (.doneOp, .c, 0x3F)] ++
  [(.ld, .m, 0x01), (.st, .m, 0x02), (.vld, .m, 0x03), (.vst, .m, 0x04), (.vldr, .m, 0x05), (.vstr, .m, 0x06),
   (.wsld, .m, 0x08), (.wsend, .m, 0x09), (.rmld, .m, 0x0A), (.kvput, .m, 0x0B), (.fence, .m, 0x0C),
   (.semsig, .m, 0x0D), (.semwait, .m, 0x0E)] ++
  [(.vadd, .v, 0x01), (.vsub, .v, 0x02), (.vmul, .v, 0x03), (.vmax, .v, 0x04), (.vmin, .v, 0x05), (.vand, .v, 0x06),
   (.vor, .v, 0x07), (.vxor, .v, 0x08), (.vfma, .v, 0x09), (.vabs, .v, 0x0A), (.vneg, .v, 0x0B), (.vcvt, .v, 0x0C),
   (.vcmplt, .v, 0x0D), (.vcmpeq, .v, 0x0E), (.vsel, .v, 0x0F), (.vbcast, .v, 0x10), (.vextr, .v, 0x11),
   (.vperm, .v, 0x12), (.vrcp, .v, 0x13), (.vrsqrt, .v, 0x14), (.vexp2, .v, 0x15), (.vred, .v, 0x16),
   (.qrow, .v, 0x18)] ++
  [(.mma, .x, 0x01), (.accz, .x, 0x02), (.accst, .x, 0x03)]

/-- The operations s[d] ← s[a] op s[b] (C-slot operations), with what they compute. -/
def scalarRows : List (DeckRow × Nat × (BitVec 64 → BitVec 64 → BitVec 64)) :=
  [(.add, 0x01, fun a b => a + b), (.sub, 0x02, fun a b => a - b), (.andOp, 0x03, fun a b => a &&& b),
   (.orOp, 0x04, fun a b => a ||| b), (.xorOp, 0x05, fun a b => a ^^^ b),
   (.shl, 0x06, fun a b => a <<< (b.toNat % 64)), (.shr, 0x07, fun a b => a >>> (b.toNat % 64)),
   (.sra, 0x08, fun a b => a.sshiftRight (b.toNat % 64)), (.mul, 0x09, fun a b => a * b),
   (.mulhu, 0x0A, fun a b => BitVec.ofNat 64 (a.toNat * b.toNat / 2 ^ 64)),
   (.slt, 0x0B, fun a b => if a.toInt < b.toInt then 1 else 0),
   (.sltu, 0x0C, fun a b => if a.toNat < b.toNat then 1 else 0), (.seq, 0x0D, fun a b => if a = b then 1 else 0)]

/-- The operations s[d] ← s[a] op imm. -/
def immediateRows : List (DeckRow × Nat × (BitVec 64 → BitVec 64 → BitVec 64)) :=
  [(.addi, 0x10, fun a i => a + i), (.andi, 0x11, fun a i => a &&& i), (.ori, 0x12, fun a i => a ||| i),
   (.movhi, 0x13, fun a i => (i <<< 32) ||| (a &&& 0xFFFF_FFFF#64))]

end Sys2Proof.Claims

open Sys2Proof.Claims

/-! ## Decks: the statements -/

/-- A slot word that does not close its bundle fills its slot and changes nothing else, in every slot row and for every
word (log 21); a deck that does not issue takes no word. -/
def Obligations.WordsJoinTheBundle : Prop :=
  ∀ r ∈ deckRows, ∀ (k : Fin 16) (w : BitVec 64) (s : State),
    (issues s k = true → exec (r.1 k w false) s = .next (s.setDeck k { s.decks.get k with
      bundle := (s.decks.get k).bundle.filter (fun x => !decide (x.slot = r.2.1)) ++ [⟨r.2.1, w⟩] })) ∧
    (issues s k = false → ∀ last, exec (r.1 k w last) s = .next s)

/-- The scalar operations, with registers and with an immediate, alone in a bundle: s[d] takes the result, poisoned
if an operand is (R192), writes to s0 are discarded, the next bundle is at PC + 32; nothing else changes. -/
def Sys2Proof.Claims.ScalarOperations : Prop :=
  (∀ r ∈ scalarRows, ∀ (k : Fin 16) (w : BitVec 64) (s : State),
    wordSpells r.2.1 w = true → rForm w 0 = true → alone s k .c w = true → enabled s k w = true →
    exec (r.1 k w true) s = .next (modDeck (issued s k) k (fun d =>
      d.sSet (fD w) (r.2.2 (d.sGet (fA w)) (d.sGet (fB w))) (d.sPoison (fA w) || d.sPoison (fB w))))) ∧
  (∀ r ∈ immediateRows, ∀ (k : Fin 16) (w : BitVec 64) (s : State),
    wordSpells r.2.1 w = true → iForm w 0 = true → alone s k .c w = true → enabled s k w = true →
    exec (r.1 k w true) s = .next (modDeck (issued s k) k (fun d =>
      d.sSet (fD w) (r.2.2 (d.sGet (fA w)) (fImm w)) (d.sPoison (fA w)))))

/-- Branches and jumps, alone in a bundle: where the next bundle is, what CALL keeps, and that DONE ends the program
and stops every stream. In every slot NOP does nothing, and a word whose operation code names no operation raises
ILLEGAL (R190). In every C-slot row, an alone word whose predicate is off does nothing but
issue its bundle (R191). -/
def Sys2Proof.Claims.ControlOperations : Prop :=
  (∀ (k : Fin 16) (slot : Slot) (w : BitVec 64) (s : State), alone s k slot w = true →
    (wordSpells 0 w = true → iForm w 0 = true → enabled s k w = true →
      exec (.nop k slot w true) s = .next (issued s k)) ∧
    ((slotCodes slot).contains (bitsOf w.toNat 7 0) = false →
      exec (.nop k slot w true) s = .next (raiseDeck k (slotNumber slot) excIllegal 0 (holdingWord s k slot w)))) ∧
  ∀ (k : Fin 16) (w : BitVec 64) (s : State),
    alone s k .c w = true →
    (wordSpells 0x18 w = true → iForm w 1 = true → enabled s k w = true →
      (s.decks.get k).sPoison (fA w) = false →
      exec (.br k w true) s = .next (
        if xor (!decide ((s.decks.get k).sGet (fA w) = 0)) (bitOf (fFl w) 0) then
          modDeck (issued s k) k (fun d => { d with pc := branchTarget (s.decks.get k) w })
        else issued s k)) ∧
    (wordSpells 0x19 w = true → iForm w 0 = true → enabled s k w = true →
      exec (.jmp k w true) s =
        .next (modDeck (issued s k) k (fun d => { d with pc := branchTarget (s.decks.get k) w }))) ∧
    (wordSpells 0x1A w = true → iForm w 0 = true → enabled s k w = true →
      exec (.call k w true) s =
        .next (modDeck (issued s k) k (fun d =>
          { d.sSet (fD w) (BitVec.ofNat 64 ((s.decks.get k).pc + 32)) false with
            pc := branchTarget (s.decks.get k) w }))) ∧
    (wordSpells 0x1B w = true → rForm w 0 = true → enabled s k w = true →
      (s.decks.get k).sPoison (fA w) = false → fetchable ((s.decks.get k).sGet (fA w)).toNat = true →
      exec (.jr k w true) s =
        .next (modDeck (issued s k) k (fun d => { d with pc := ((s.decks.get k).sGet (fA w)).toNat }))) ∧
    (wordSpells 0x3F w = true → iForm w 0 = true → enabled s k w = true →
      exec (.doneOp k w true) s =
        .next (modDeck (issued s k) k (fun d =>
          { d with streams := Vector.replicate 4 none, ending := true }))) ∧
    (∀ r ∈ deckRows, r.2.1 = .c → wordSpells r.2.2 w = true →
      predOn (s.decks.get k) w = false → (s.decks.get k).pPoison (fPred w) = false →
      exec (r.1 k w true) s = .next (issued s k))

/-- The predicate operations and GETS, alone in a bundle: p[d] or s[d] takes the result, poisoned if an operand is;
nothing else changes but what issuing the bundle does. -/
def Sys2Proof.Claims.PredicateOperations : Prop :=
  ∀ (k : Fin 16) (w : BitVec 64) (s : State),
    alone s k .c w = true → enabled s k w = true →
    (∀ d, d = s.decks.get k →
      (wordSpells 0x20 w = true → rForm w 0 = true → 1 ≤ fD w → fD w < 8 →
        exec (.pset k w true) s = .next (modDeck (issued s k) k (fun x =>
          x.pSet (fD w) (if d.sGet (fA w) = 0 then 0 else BitVec.allOnes 64) (d.sPoison (fA w))))) ∧
      (wordSpells 0x21 w = true → rForm w 0 = true → 1 ≤ fD w → fD w < 8 → fA w < 8 → fB w < 8 →
        exec (.pand k w true) s = .next (modDeck (issued s k) k (fun x =>
          x.pSet (fD w) (d.pGet (fA w) &&& d.pGet (fB w)) (d.pPoison (fA w) || d.pPoison (fB w))))) ∧
      (wordSpells 0x22 w = true → rForm w 0 = true → 1 ≤ fD w → fD w < 8 → fA w < 8 → fB w < 8 →
        exec (.por k w true) s = .next (modDeck (issued s k) k (fun x =>
          x.pSet (fD w) (d.pGet (fA w) ||| d.pGet (fB w)) (d.pPoison (fA w) || d.pPoison (fB w))))) ∧
      (wordSpells 0x23 w = true → rForm w 0 = true → 1 ≤ fD w → fD w < 8 → fA w < 8 →
        exec (.pnot k w true) s = .next (modDeck (issued s k) k (fun x =>
          x.pSet (fD w) (~~~ d.pGet (fA w)) (d.pPoison (fA w))))) ∧
      (wordSpells 0x24 w = true → rForm w 0 = true → fA w < 8 →
        exec (.pget k w true) s = .next (modDeck (issued s k) k (fun x =>
          x.sSet (fD w) (d.pGet (fA w)) (d.pPoison (fA w))))) ∧
      (wordSpells 0x25 w = true → rForm w 0 = true → 1 ≤ fD w → fD w < 8 →
        exec (.pput k w true) s = .next (modDeck (issued s k) k (fun x =>
          x.pSet (fD w) (d.sGet (fA w)) (d.sPoison (fA w))))) ∧
      (wordSpells 0x28 w = true → iForm w 0 = true → ∀ n < 5, (fImm w).toNat = n →
        exec (.gets k w true) s = .next (modDeck (issued s k) k (fun x =>
          x.sSet (fD w) (BitVec.ofNat 64 (match n with
            | 0 => d.logical
            | 1 => s.turns % 2 ^ 32
            | 2 => (s.turn.map (·.rows)).getD 0
            | 3 => d.layer
            | _ => d.dispatched)) false))))

namespace Sys2Proof.Claims

/-- The address of an I-form access: s[a] + imm, in 64 bits. -/
def immAddress (s : State) (k : Fin 16) (w : BitVec 64) : Nat := ((s.decks.get k).sGet (fA w) + fImm w).toNat

/-- A load's bytes: the state the read leaves, the word still in its bundle, and the octets it gives. -/
def loaded (s : State) (k : Fin 16) (w : BitVec 64) (n : Nat) (t : State) (l : List Octet) : Prop :=
  deckRead k ((holdingWord s k .m w).decks.get k) (holdingWord s k .m w) (immAddress s k w) n = (t, .got l)

/-- A store of a range is permitted and finds room in the buffer: no line raises, and the check changes nothing. -/
def storable (s : State) (k : Fin 16) (w : BitVec 64) (a n : Nat) (span : Option Nat) : Prop :=
  writePermitted k (holdingWord s k .m w) a n = (holdingWord s k .m w, none) ∧
    storeRoom (s.decks.get k) span = true

end Sys2Proof.Claims

/-- The loads, alone in a bundle: the bytes read go to s[d], to v[d] by the bytes the predicate enables, or to the
rowmap; a stream descriptor that R193 accepts is loaded. -/
def Sys2Proof.Claims.Loads : Prop :=
  ∀ (k : Fin 16) (w : BitVec 64) (s t : State) (l : List Octet),
    alone s k .m w = true → (s.decks.get k).pPoison (fPred w) = false → (s.decks.get k).sPoison (fA w) = false →
    (wordSpells 0x01 w = true → iForm w 7 = true → predOn (s.decks.get k) w = true → immAddress s k w % accessSize w = 0 →
      loaded s k w (accessSize w) t l →
      exec (.ld k w true) s = .next (modDeck (issued t k) k (fun d =>
        d.sSet (fD w) (extendLoad w (leNat (vals l))) false))) ∧
    (wordSpells 0x03 w = true → iForm w 0 = true → immAddress s k w % 64 = 0 → loaded s k w 64 t l →
      exec (.vld k w true) s = .next (modDeck (issued t k) k (fun d =>
        d.vSet (fD w)
          (packElems 1 (keepOff (vEnabled ((s.decks.get k).pGet (fPred w)) 1)
            (vElems ((s.decks.get k).vGet (fD w)) 1) ((vals l).map (·.toNat))))
          (packMarks 1 (keepOff (vEnabled ((s.decks.get k).pGet (fPred w)) 1)
            (vBadElems ((s.decks.get k).vPoison (fD w)) 1) (List.replicate 64 false)))))) ∧
    (wordSpells 0x0A w = true → iForm w 0 = true → predOn (s.decks.get k) w = true → immAddress s k w % 32 = 0 → loaded s k w 32 t l →
      ((List.range 8).map (fun r => fld (vals l) (4 * r) 4)).all rowEntryOk = true →
      exec (.rmld k w true) s = .next (modDeck (issued t k) k (fun d =>
        { d with rowmap := Vector.ofFn (fun i => BitVec.ofNat 32 (fld (vals l) (4 * i.val) 4)) }))) ∧
    (wordSpells 0x08 w = true → iForm w 0 = true → predOn (s.decks.get k) w = true → fD w < 4 → immAddress s k w % 64 = 0 → loaded s k w 64 t l →
      descriptorOk (vals l) (s.decks.get k).logical = true →
      exec (.wsld k w true) s = .next (loadStream k (fD w) (vals l) (issued t k)))

/-- Stores and the stream stop, alone in a bundle: a store waits in the store buffer, one entry or merged into the
newest, and memory does not change; WSEND stops its stream; FENCE passes when the buffer is empty. -/
def Sys2Proof.Claims.Stores : Prop :=
  ∀ (k : Fin 16) (w : BitVec 64) (s : State),
    alone s k .m w = true → (s.decks.get k).pPoison (fPred w) = false → (s.decks.get k).sPoison (fA w) = false →
    (wordSpells 0x02 w = true → iForm w 3 = true → predOn (s.decks.get k) w = true → immAddress s k w % accessSize w = 0 →
      storable s k w (immAddress s k w) (accessSize w) (some (immAddress s k w / 64)) →
      exec (.st k w true) s = .next (modDeck (issued s k) k (placeStore (some (immAddress s k w / 64))
        (storeBytes (immAddress s k w) ((leBytes (accessSize w) ((s.decks.get k).sGet (fB w)).toNat).map
          (fun b => ⟨b, (s.decks.get k).sPoison (fB w)⟩))) [] false))) ∧
    (wordSpells 0x04 w = true → iForm w 0 = true → immAddress s k w % 64 = 0 →
      storable s k w (immAddress s k w) 64 (some (immAddress s k w / 64)) →
      exec (.vst k w true) s = .next (modDeck (issued s k) k (placeStore (some (immAddress s k w / 64))
        (enabledBytes ((s.decks.get k).pGet (fPred w)) 0 (immAddress s k w)
          (vOctets ((s.decks.get k).vGet (fB w)) ((s.decks.get k).vPoison (fB w)))) [] false))) ∧
    (wordSpells 0x09 w = true → rForm w 0 = true → predOn (s.decks.get k) w = true → fD w < 4 →
      exec (.wsend k w true) s = .next (modDeck (issued s k) k (fun d => d.setStream (fD w) none))) ∧
    (wordSpells 0x0C w = true → iForm w 0 = true → predOn (s.decks.get k) w = true → (s.decks.get k).store = [] →
      exec (.fence k w true) s = .next (issued s k)) ∧
    (wordSpells 0x0C w = true → iForm w 0 = true → predOn (s.decks.get k) w = true → (s.decks.get k).store ≠ [] →
      exec (.fence k w true) s = .next (modDeck (holdingWord s k .m w) k (fun d => { d with stalled := true })))

/-- Eight bytes of each row of a list, one after the other, and the state these reads leave; none where a row cannot be
read. -/
def Sys2Proof.Claims.rowsGathered (k : Fin 16) (d : Deck) (w : BitVec 64) : List Nat → State → Option (State × List Octet)
  | [], s => some (s, [])
  | r :: rest, s =>
    match deckRead k d s (rowAddr d w r) 8 with
    | (t, .got l) => (rowsGathered k d w rest t).map (fun x => (x.1, l ++ x.2))
    | _ => none

/-- VLDR, VSTR and KVPUT, alone in a bundle: the rows are gathered as the strided addresses say, the unmasked rows
join the store buffer as one entry (R191, R202, R203). -/
def Obligations.RowTransfers : Prop :=
  ∀ (k : Fin 16) (w : BitVec 64) (s : State),
    alone s k .m w = true → (s.decks.get k).pPoison (fPred w) = false →
    (s.decks.get k).sPoison (fA w) = false → (s.decks.get k).sPoison (fC w) = false →
    (wordSpells 0x05 w = true → rForm w 0 = true → (∀ r < 8, rowAddr (s.decks.get k) w r % 8 = 0) →
      ∀ (t : State) (l : List Octet),
        rowsGathered k ((holdingWord s k .m w).decks.get k) w (List.range 8) (holdingWord s k .m w) = some (t, l) →
        exec (.vldr k w true) s = .next (modDeck (issued t k) k (fun d =>
          d.vSet (fD w)
            (packElems 1 (keepOff (vEnabled ((s.decks.get k).pGet (fPred w)) 1)
              (vElems ((s.decks.get k).vGet (fD w)) 1) ((vals l).map (·.toNat))))
            (packMarks 1 (keepOff (vEnabled ((s.decks.get k).pGet (fPred w)) 1)
              (vBadElems ((s.decks.get k).vPoison (fD w)) 1) (List.replicate 64 false)))))) ∧
    (wordSpells 0x06 w = true → rForm w 0 = true → (∀ r < 8, rowAddr (s.decks.get k) w r % 8 = 0) →
      (∀ r < 8, writePermitted k (holdingWord s k .m w) (rowAddr (s.decks.get k) w r) 8 =
        (holdingWord s k .m w, none)) →
      storeRoom (s.decks.get k) none = true →
      exec (.vstr k w true) s = .next (modDeck (issued s k) k (placeStore none
        (((List.range 8).filter (fun r => !rowMasked s (s.decks.get k) r)).foldl (fun acc r => mergeBytes acc
          (enabledBytes ((s.decks.get k).pGet (fPred w)) (8 * r) (rowAddr (s.decks.get k) w r)
            (((vOctets ((s.decks.get k).vGet (fB w)) ((s.decks.get k).vPoison (fB w))).drop (8 * r)).take 8))) [])
        [] false))) ∧
    (wordSpells 0x0B w = true → rForm w 0 = true → ∀ m : Manifest,
      manifestOf s ((s.turn.map (·.slot)).getD 0) = some m →
      coordOk s ((s.turn.map (·.slot)).getD 0) m (kvCoord ((s.decks.get k).sGet (fA w)).toNat) = true →
      storeRoom (s.decks.get k) none = true →
      ∃ (t : State) (bytes : List StoreByte) (sets : List (Nat × Nat)), exec (.kvput k w true) s = .next t ∧
        t = kvputAct k (s.decks.get k) w m (kvCoord ((s.decks.get k).sGet (fA w)).toNat)
          ((List.range 8).filter (fun r => !rowMasked s (s.decks.get k) r))
          (((heldLayers s ((s.turn.map (·.slot)).getD 0)).findIdx?
            (· == (kvCoord ((s.decks.get k).sGet (fA w)).toNat).layer)).getD 0) (issued s k) ∧
        (t.decks.get k).store = (s.decks.get k).store ++ [⟨none, bytes, false, sets, true⟩] ∧
        (t.decks.get k).pc = (s.decks.get k).pc + 32)

/-- The semaphore operations of a deck, alone in a bundle: SEMSIG adds its signal to those that the commit of the
turn makes, SEMWAIT passes when the semaphore holds s[b] and else stalls the bundle; the semaphore itself does not
change (R259, R312). -/
def Sys2Proof.Claims.DeckSemaphores : Prop :=
  ∀ (k : Fin 16) (w : BitVec 64) (s : State),
    alone s k .m w = true → enabled s k w = true → rForm w 0 = true →
    (s.decks.get k).sPoison (fA w) = false → (s.decks.get k).sPoison (fB w) = false →
    ((s.decks.get k).sGet (fA w)).toNat < 1024 → semDeck s ((s.decks.get k).sGet (fA w)).toNat = true →
    (wordSpells 0x0D w = true →
      exec (.semsig k w true) s = .next (modTurn (issued s k) (fun t =>
        { t with signals := t.signals ++ [(((s.decks.get k).sGet (fA w)).toNat, 0)] }))) ∧
    (wordSpells 0x0E w = true →
      ((s.decks.get k).sGet (fB w)).toNat ≤ semValue s ((s.decks.get k).sGet (fA w)).toNat →
      exec (.semwait k w true) s = .next (issued s k)) ∧
    (wordSpells 0x0E w = true →
      semValue s ((s.decks.get k).sGet (fA w)).toNat < ((s.decks.get k).sGet (fB w)).toNat →
      exec (.semwait k w true) s = .next (modDeck (holdingWord s k .m w) k (fun d => { d with stalled := true })))

namespace Sys2Proof.Claims

/-- Element i of w bytes of a vector register. -/
def elem (v : BitVec 512) (w i : Nat) : Nat := v.toNat / 2 ^ (8 * w * i) % 2 ^ (8 * w)

/-- Some byte of element i of w bytes is poisoned. -/
def elemBad (m : BitVec 64) (w i : Nat) : Bool := !decide (m.toNat / 2 ^ (w * i) % 2 ^ w = 0)

/-- A vector row of one deck word: it writes v[d] of the deck and nothing else but what issuing does. Element i of w
bytes, where the predicate bit of its lowest byte is set, is f i and poisoned where g i holds; the others keep their
value and mark (R191, R192). -/
def writesVector (k : Fin 16) (word : BitVec 64) (s : State) (i : Instr) (w : Nat) (f : Nat → Nat) (g : Nat → Bool) :
    Prop :=
  ∃ (v : BitVec 512) (m : BitVec 64),
    exec i s = .next (modDeck (issued s k) k (fun d => d.vSet (fD word) v m)) ∧
    ∀ n, n < 64 / w →
      (((s.decks.get k).pGet (fPred word)).getLsbD (w * n) = true →
        elem v w n = f n % 2 ^ (8 * w) ∧ elemBad m w n = g n) ∧
      (((s.decks.get k).pGet (fPred word)).getLsbD (w * n) = false →
        elem v w n = elem ((s.decks.get k).vGet (fD word)) w n ∧
        elemBad m w n = elemBad ((s.decks.get k).vPoison (fD word)) w n)

/-- An arithmetic row by element type: integers wrap, floats round once (R166). -/
def byType (fi : Int → Int → Int) (ff : FloatFmt → Nat → Nat → Nat) (t a b : Nat) : Nat :=
  match t with
  | 2 => ff bf16 a b
  | 3 => ff fp16 a b
  | 4 => ff fp32 a b
  | 1 => (fi (bitsInt 32 a) (bitsInt 32 b) % (2 ^ 32 : Int)).toNat
  | _ => (fi (bitsInt 8 a) (bitsInt 8 b) % (2 ^ 8 : Int)).toNat

/-- The element-by-element rows on two registers, with the types they accept and what they compute. -/
def vectorRows : List (DeckRow × Nat × List Nat × (Nat → Nat → Nat → Nat)) :=
  [(.vadd, 0x01, anyType, byType (· + ·) fadd), (.vsub, 0x02, anyType, byType (· - ·) fsub),
   (.vmul, 0x03, anyType, byType (· * ·) fmul), (.vmax, 0x04, anyType, byType max (fun f => fextreme f true)),
   (.vmin, 0x05, anyType, byType min (fun f => fextreme f false)), (.vand, 0x06, [0], fun _ a b => a &&& b),
   (.vor, 0x07, [0], fun _ a b => a ||| b), (.vxor, 0x08, [0], fun _ a b => a ^^^ b)]

/-- The fp32 rows on one register. -/
def functionRows : List (DeckRow × Nat × (Nat → Nat)) :=
  [(.vrcp, 0x13, frcp), (.vrsqrt, 0x14, frsqrt), (.vexp2, 0x15, fexp2)]

end Sys2Proof.Claims

/-- The element-by-element vector operations on two registers, and VFMA on three, alone in a bundle. -/
def Sys2Proof.Claims.VectorArithmetic : Prop :=
  (∀ r ∈ vectorRows, ∀ (k : Fin 16) (w : BitVec 64) (s : State),
    wordSpells r.2.1 w = true → vForm w r.2.2.1 0 = true → alone s k .v w = true →
    (s.decks.get k).pPoison (fPred w) = false →
    writesVector k w s (r.1 k w true) (etBytes (fEt w))
      (fun n => r.2.2.2 (fEt w) (elem ((s.decks.get k).vGet (fA w)) (etBytes (fEt w)) n)
        (elem ((s.decks.get k).vGet (fB w)) (etBytes (fEt w)) n))
      (fun n => elemBad ((s.decks.get k).vPoison (fA w)) (etBytes (fEt w)) n
        || elemBad ((s.decks.get k).vPoison (fB w)) (etBytes (fEt w)) n)) ∧
  (∀ (k : Fin 16) (w : BitVec 64) (s : State) (f : FloatFmt),
    wordSpells 0x09 w = true → vForm w floatTypes 0 = true → alone s k .v w = true →
    (s.decks.get k).pPoison (fPred w) = false → etFloat (fEt w) = some f →
    writesVector k w s (.vfma k w true) (etBytes (fEt w))
      (fun n => ffma f (elem ((s.decks.get k).vGet (fA w)) (etBytes (fEt w)) n)
        (elem ((s.decks.get k).vGet (fB w)) (etBytes (fEt w)) n)
        (elem ((s.decks.get k).vGet (fC w)) (etBytes (fEt w)) n))
      (fun n => elemBad ((s.decks.get k).vPoison (fA w)) (etBytes (fEt w)) n
        || elemBad ((s.decks.get k).vPoison (fB w)) (etBytes (fEt w)) n
        || elemBad ((s.decks.get k).vPoison (fC w)) (etBytes (fEt w)) n))

/-- The vector operations on one register, alone in a bundle: the fp32 functions, and VABS and VNEG, whose result for
the most negative integer is a free value (log 22). -/
def Sys2Proof.Claims.VectorFunctions : Prop :=
  ∀ (k : Fin 16) (w : BitVec 64) (s : State),
    alone s k .v w = true → (s.decks.get k).pPoison (fPred w) = false →
    (∀ r ∈ functionRows, wordSpells r.2.1 w = true → vForm w [4] 0 = true →
      writesVector k w s (r.1 k w true) 4
        (fun n => r.2.2 (elem ((s.decks.get k).vGet (fA w)) 4 n))
        (fun n => elemBad ((s.decks.get k).vPoison (fA w)) 4 n)) ∧
    (∀ f, etFloat (fEt w) = some f → wordSpells 0x0A w = true → vForm w anyType 0 = true →
      writesVector k w s (.vabs k w true) (etBytes (fEt w))
        (fun n => fabs f (elem ((s.decks.get k).vGet (fA w)) (etBytes (fEt w)) n))
        (fun n => elemBad ((s.decks.get k).vPoison (fA w)) (etBytes (fEt w)) n)) ∧
    (∀ f, etFloat (fEt w) = some f → wordSpells 0x0B w = true → vForm w anyType 0 = true →
      writesVector k w s (.vneg k w true) (etBytes (fEt w))
        (fun n => fneg f (elem ((s.decks.get k).vGet (fA w)) (etBytes (fEt w)) n))
        (fun n => elemBad ((s.decks.get k).vPoison (fA w)) (etBytes (fEt w)) n)) ∧
    (etFloat (fEt w) = none → wordSpells 0x0A w = true → vForm w anyType 0 = true →
      writesVector k w s (.vabs k w true) (etBytes (fEt w))
        (fun n => intOrOpen (fEt w)
          (bitsInt (etBits (fEt w)) (elem ((s.decks.get k).vGet (fA w)) (etBytes (fEt w)) n)).natAbs)
        (fun n => elemBad ((s.decks.get k).vPoison (fA w)) (etBytes (fEt w)) n)) ∧
    (etFloat (fEt w) = none → wordSpells 0x0B w = true → vForm w anyType 0 = true →
      writesVector k w s (.vneg k w true) (etBytes (fEt w))
        (fun n => intOrOpen (fEt w)
          (-(bitsInt (etBits (fEt w)) (elem ((s.decks.get k).vGet (fA w)) (etBytes (fEt w)) n))))
        (fun n => elemBad ((s.decks.get k).vPoison (fA w)) (etBytes (fEt w)) n))

/-- The operations that move elements, alone in a bundle: VSEL by the bits of p[c], VBCAST, VPERM; VEXTR writes s[d],
with the element type a free constant (log 25). -/
def Sys2Proof.Claims.VectorMoves : Prop :=
  ∀ (k : Fin 16) (w : BitVec 64) (s : State),
    alone s k .v w = true → (s.decks.get k).pPoison (fPred w) = false →
    (wordSpells 0x0F w = true → vForm w [0] 0 = true → fC w < 8 →
      writesVector k w s (.vsel k w true) 1
        (fun n => if ((s.decks.get k).pGet (fC w)).getLsbD n then elem ((s.decks.get k).vGet (fA w)) 1 n
          else elem ((s.decks.get k).vGet (fB w)) 1 n)
        (fun n => (if ((s.decks.get k).pGet (fC w)).getLsbD n then elemBad ((s.decks.get k).vPoison (fA w)) 1 n
          else elemBad ((s.decks.get k).vPoison (fB w)) 1 n) || (s.decks.get k).pPoison (fC w))) ∧
    (wordSpells 0x10 w = true → vForm w anyType 0 = true →
      writesVector k w s (.vbcast k w true) (etBytes (fEt w))
        (fun _ => ((s.decks.get k).sGet (fA w)).toNat) (fun _ => (s.decks.get k).sPoison (fA w))) ∧
    (wordSpells 0x12 w = true → vForm w [0] 0 = true →
      writesVector k w s (.vperm k w true) 1
        (fun n => elem ((s.decks.get k).vGet (fA w)) 1 (elem ((s.decks.get k).vGet (fB w)) 1 n % 64))
        (fun n => elemBad ((s.decks.get k).vPoison (fB w)) 1 n
          || elemBad ((s.decks.get k).vPoison (fA w)) 1 (elem ((s.decks.get k).vGet (fB w)) 1 n % 64))) ∧
    (wordSpells 0x11 w = true → iForm w 0 = true → predOn (s.decks.get k) w = true →
      (fImm w).toNat < 64 / etBytes (Config.extractType % 5) →
      exec (.vextr k w true) s = .next (modDeck (issued s k) k (fun d =>
        d.sSet (fD w)
          (BitVec.ofNat 64 (elem ((s.decks.get k).vGet (fA w)) (etBytes (Config.extractType % 5)) (fImm w).toNat))
          (elemBad ((s.decks.get k).vPoison (fA w)) (etBytes (Config.extractType % 5)) (fImm w).toNat))))

/-- VCVT, the comparisons and VRED, alone in a bundle. VCVT packs the converted elements from element 0, and
0x2506:01 counts the enabled ones that saturated; a comparison writes the predicate bits of each enabled element's
bytes and leaves those of the others; VRED leaves the sum or the maximum of the enabled elements, taken in element
order, in element 0 and zeros in the others (where none is enabled, the maximum is a free value, log 22). -/
def Sys2Proof.Claims.VectorReductions : Prop :=
  ∀ (k : Fin 16) (w : BitVec 64) (s : State),
    alone s k .v w = true → (s.decks.get k).pPoison (fPred w) = false →
    (wordSpells 0x0C w = true → vForm w anyType 7 = true → bitsOf (fFl w) 2 0 < 5 →
      ∃ (v : BitVec 512) (m : BitVec 64),
        exec (.vcvt k w true) s =
          .next ((modDeck (issued s k) k (fun d => d.vSet (fD w) v m)).bumpBy 0x2506 1 64
            ((List.range (min (64 / etBytes (fEt w)) (64 / etBytes (bitsOf (fFl w) 2 0)))).filter (fun n =>
              (convert (fEt w) (bitsOf (fFl w) 2 0)
                (elem ((s.decks.get k).vGet (fA w)) (etBytes (fEt w)) n)).2
              && ((s.decks.get k).pGet (fPred w)).getLsbD (etBytes (bitsOf (fFl w) 2 0) * n))).length) ∧
        ∀ n, n < 64 / etBytes (bitsOf (fFl w) 2 0) →
          ((s.decks.get k).pGet (fPred w)).getLsbD (etBytes (bitsOf (fFl w) 2 0) * n) = true →
          elem v (etBytes (bitsOf (fFl w) 2 0)) n =
            if n < 64 / etBytes (fEt w) then
              (convert (fEt w) (bitsOf (fFl w) 2 0)
                (elem ((s.decks.get k).vGet (fA w)) (etBytes (fEt w)) n)).1 % 2 ^ (8 * etBytes (bitsOf (fFl w) 2 0))
            else 0) ∧
    (∀ p ∈ [((.vcmplt : DeckRow), 0x0D, (fun (a b : Int) => decide (a < b)), flt),
        (.vcmpeq, 0x0E, (fun (a b : Int) => decide (a = b)), feq)],
      wordSpells p.2.1 w = true → vForm w anyType 0 = true → 1 ≤ fD w → fD w < 8 →
      ∃ (v : BitVec 64) (bad : Bool),
        exec (p.1 k w true) s = .next (modDeck (issued s k) k (fun d => d.pSet (fD w) v bad)) ∧
        (∀ n, n < 64 / etBytes (fEt w) →
          ((s.decks.get k).pGet (fPred w)).getLsbD (etBytes (fEt w) * n) = false →
          ∀ j, j < etBytes (fEt w) →
            v.getLsbD (etBytes (fEt w) * n + j) = ((s.decks.get k).pGet (fD w)).getLsbD (etBytes (fEt w) * n + j)) ∧
        ∀ n, n < 64 / etBytes (fEt w) →
          ((s.decks.get k).pGet (fPred w)).getLsbD (etBytes (fEt w) * n) = true →
          ∀ j, j < etBytes (fEt w) →
            v.getLsbD (etBytes (fEt w) * n + j) =
              (match etFloat (fEt w) with
                | some f => p.2.2.2 f (elem ((s.decks.get k).vGet (fA w)) (etBytes (fEt w)) n)
                    (elem ((s.decks.get k).vGet (fB w)) (etBytes (fEt w)) n)
                | none => p.2.2.1 (bitsInt (etBits (fEt w)) (elem ((s.decks.get k).vGet (fA w)) (etBytes (fEt w)) n))
                    (bitsInt (etBits (fEt w)) (elem ((s.decks.get k).vGet (fB w)) (etBytes (fEt w)) n)))) ∧
    (wordSpells 0x16 w = true → vForm w anyType 1 = true →
      ∀ (a : Nat) (rest : List Nat),
        ((List.range (64 / etBytes (fEt w))).filter (fun n =>
            ((s.decks.get k).pGet (fPred w)).getLsbD (etBytes (fEt w) * n))).map
          (elem ((s.decks.get k).vGet (fA w)) (etBytes (fEt w))) = a :: rest →
        ∃ m : BitVec 64,
          exec (.vred k w true) s = .next (modDeck (issued s k) k (fun d => d.vSet (fD w)
            (BitVec.ofNat 512 (canonicalOf (fEt w) (rest.foldl
              (if bitOf (fFl w) 0 then byType max (fun f => fextreme f true) (fEt w)
                else byType (· + ·) fadd (fEt w)) a))) m)))

namespace Sys2Proof.Claims

/-- The activations of row r that an MMA of a deck takes: none of a masked row (R198, R202). -/
def activations (s : State) (k : Fin 16) (w : BitVec 64) (r : Nat) : List Act :=
  maskRow (rowMasked s (s.decks.get k) r)
    (if bitsOf (fFl w) 1 0 < 2 then intRow (s.decks.get k) (fA w) r else floatRow (s.decks.get k) (fA w) r)

end Sys2Proof.Claims

/-- MMA, alone in a bundle, takes one step of its stream: in every array and row, the entries its mode and column name
take the products of the row's activations with the lane's weights, and with close set the group's scale (R198, R199);
every entry of another bank is as before, and the stream has given its step away. A step whose read met an unmapped or
refused address raises the exception of that address instead (R14, R137, R210; log 111). -/
def Obligations.MmaAccumulates : Prop :=
  (∀ (k : Fin 16) (w : BitVec 64) (s : State) (x : Stream) (step : StreamStep) (rest : List StreamStep)
      (cause address : Nat),
    wordSpells 0x01 w = true → mmaForm w = true → alone s k .x w = true → enabled s k w = true →
    (s.decks.get k).stream (fB w) = some x → x.faulty = false → modeFits (bitsOf (fFl w) 1 0) x.format = true →
    (bitsOf (fFl w) 1 0 = 1 → fC w < 4) → x.buffer = step :: rest → step.fault = some (cause, address) →
    exec (.mma k w true) s = .next (raiseDeck k 3 cause address (holdingWord s k .x w))) ∧
  ∀ (k : Fin 16) (w : BitVec 64) (s : State) (x : Stream) (step : StreamStep) (rest : List StreamStep),
    step.fault = none → wordSpells 0x01 w = true → mmaForm w = true → alone s k .x w = true → enabled s k w = true →
    (s.decks.get k).injected = none → rising (s.decks.get k).acc = true →
    (s.decks.get k).stream (fB w) = some x → x.faulty = false → modeFits (bitsOf (fFl w) 1 0) x.format = true →
    (bitsOf (fFl w) 1 0 = 1 → fC w < 4) → x.buffer = step :: rest → step.closing = bitOf (fFl w) 2 →
    step.lanes.length = 32 →
    ∃ t, exec (.mma k w true) s = .next t ∧
      (t.decks.get k).stream (fB w) = some { x with buffer := rest } ∧
      (∀ (array : Nat) (lane : LaneStep), step.lanes[array]? = some lane → ∀ r < 8,
        ∀ p ∈ laneCells (bitsOf (fFl w) 1 0) (fC w) (bitOf (fFl w) 2) lane (activations s k w r),
          (t.decks.get k).cell (accKey (fD w) array r p.1) =
            p.2 ((s.decks.get k).cell (accKey (fD w) array r p.1))) ∧
      (∀ key, inBank (fD w) key = false → (t.decks.get k).cell key = (s.decks.get k).cell key)

/-- ACCZ zeroes its bank in every array and leaves the others; ACCST writes the unmasked rows, and with fl[2] set
zeroes the bank; QROW quantises eight rows. ACCST and QROW then hold their unit until the operation is done (R189).
Each alone in a bundle. -/
def Sys2Proof.Claims.BankOperations : Prop :=
  ∀ (k : Fin 16) (w : BitVec 64) (s : State),
    (s.decks.get k).injected = none →
    (wordSpells 0x02 w = true → rForm w 0 = true → fD w < 8 → alone s k .x w = true → enabled s k w = true →
      exec (.accz k w true) s = .next (modDeck (issued s k) k (zeroBank (fD w)))) ∧
    (wordSpells 0x03 w = true → rForm w 7 = true → fD w < 8 → alone s k .x w = true → enabled s k w = true →
      (s.decks.get k).sPoison (fA w) = false → (s.decks.get k).sPoison (fB w) = false →
      ((s.decks.get k).sGet (fA w)).toNat % 64 = 0 → ((s.decks.get k).sGet (fB w)).toNat % 64 = 0 →
      (∀ r < 8, rowMasked s (s.decks.get k) r = false →
        writePermitted k (holdingWord s k .x w) (accstAddr (s.decks.get k) w r)
          (if bitOf (fFl w) 1 then 512 else 1024) = (holdingWord s k .x w, none)) →
      (s.decks.get k).store = [] →
      exec (.accst k w true) s = .next (accstAct k (s.decks.get k) w
        ((List.range 8).filter (fun r => !rowMasked s (s.decks.get k) r)) (issued s k))) ∧
    (∀ f, wordSpells 0x18 w = true → vForm w floatTypes 1 = true → alone s k .v w = true →
      etFloat (fEt w) = some f →
      (s.decks.get k).sPoison (fA w) = false → (s.decks.get k).sPoison (fB w) = false →
      (s.decks.get k).sPoison (fC w) = false →
      ∀ src dst stride n : Nat,
        src = ((s.decks.get k).sGet (fA w)).toNat → dst = ((s.decks.get k).sGet (fB w)).toNat →
        stride = bitsOf ((s.decks.get k).sGet (fC w)).toNat 31 0 →
        n = bitsOf ((s.decks.get k).sGet (fC w)).toNat 47 32 →
        bitsOf ((s.decks.get k).sGet (fC w)).toNat 63 48 = 0 → 8 ≤ n → n ≤ 16384 → n % 8 = 0 →
        src % 64 = 0 → dst % 64 = 0 → stride % 64 = 0 →
        srcInside k src stride (n * etBytes (fEt w)) = true → dstInside k dst n = true →
        qrowOverlap src dst stride (n * etBytes (fEt w)) n = false → (s.decks.get k).store = [] →
        exec (.qrow k w true) s =
          .next (qrowAct k (s.decks.get k) w f (etBytes (fEt w)) src dst stride n (issued s k)))

/-- What the bank operations leave: after ACCZ or a clearing ACCST every entry of the bank is zero and every other
entry as before; after ACCST and QROW the deck holds its unit. -/
def Sys2Proof.Claims.BankEffects : Prop :=
  ∀ (k : Fin 16) (w : BitVec 64) (s : State) (d : Deck) (rows : List Nat) (f : FloatFmt)
    (width src dst stride n : Nat),
    (∀ key, inBank (fD w) key = true → (zeroBank (fD w) d).cell key = AccCell.zero) ∧
    (∀ key, inBank (fD w) key = false → rising d.acc = true → (zeroBank (fD w) d).cell key = d.cell key) ∧
    (bitOf (fFl w) 2 = true → ∀ key, inBank (fD w) key = true →
      ((accstAct k d w rows s).decks.get k).cell key = AccCell.zero) ∧
    ((accstAct k d w rows s).decks.get k).sequenced.getLast? = some (.arrays, none) ∧
    ((qrowAct k d w f width src dst stride n s).decks.get k).sequenced.getLast? = some (.vector, some (fD w))

/-- The events of a deck: the oldest store drains, a sequenced operation releases its unit, a stream delivers a step
into its buffer, DONE is reported to the helm, a program over its time raises TIME_LIMIT, and Deck Reset waits for the
barrier. A bundle that stalls is tried again after the first three. -/
def Sys2Proof.Claims.DeckEvents : Prop :=
  ∀ (k : Fin 16) (s : State), s.running = true →
    (∀ e r, (s.decks.get k).store = e :: r →
      exec (.storeDrain k) s =
        .next (retryDeck (modDeck (drainBytes k s e.bytes) k (fun d => { d with store := r })) k)) ∧
    (∀ u, (s.decks.get k).stalled = false →
      exec (.sequencedOperationDone k u) s = .next (modDeck s k (fun d =>
        { d with sequenced := d.sequenced.eraseP (fun x => decide (x.1 = u)) }))) ∧
    (∀ (ws : Fin 4) (x : Stream) (t : State) (st : StreamStep),
      (s.decks.get k).stream ws.val = some x → x.started = true → x.pos < x.total → x.buffer.length < 64 →
      sharers s k x.mask = [] → ∀ note, fetchStep k x s = (t, st, note) →
      ((∀ b, note ≠ .stalled b) → exec (.streamStep k ws) s =
        .next (retryStalled (modDeck (touchTensor t x.base) k (deliverStep ws.val st)))) ∧
      (∀ b, note = .stalled b → exec (.streamStep k ws) s =
        .next (retryStalled (modDeck s k (waitStream ws.val true))))) ∧
    ((s.decks.get k).status = .running → (s.decks.get k).ending = true → (s.decks.get k).store = [] →
      (s.decks.get k).injected = none →
      exec (.deckCompletion k) s = .next (deckFree k (modDeck s k (fun d =>
        { d with status := .idle, ending := false, sequenced := [] })))) ∧
    ((s.decks.get k).status = .running → (s.decks.get k).ending = false →
      exec (.timeLimit k) s = .next (raiseDeck k 0 0x0A 0 s)) ∧
    (∀ ch val, taken s ch (0x4000 + 0x100 * k.val) 8 val.length = true → leNat val = 0x5357_0040 →
      exec (.deckReset ch k val) s =
        .next (answered (modDeck s k (fun d => { d with resetDue := true })) ch (0x4000 + 0x100 * k.val) 8 0))

/-- R209 with R208: a deck that takes an exception has drained its stores, written the exception record with the PC
of its bundle, stopped every stream and halted; no other deck's registers, accumulators or stores change. -/
def Obligations.ExceptionHaltsTheDeck : Prop :=
  ∀ (k : Fin 16) (slot cause address : Nat) (s : State), (s.decks.get k).store.length ≤ 8 →
    let d := s.decks.get k
    let t := raiseDeck k slot cause address s
    (t.decks.get k).status = .halted ∧
    (t.decks.get k).exc = ⟨cause, slot, d.pc, address, s.turns % 2 ^ 32, d.layer, d.logical⟩ ∧
    (t.decks.get k).store = [] ∧ (t.decks.get k).streams = Vector.replicate 4 none ∧
    (t.decks.get k).bundle = [] ∧ (t.decks.get k).s = d.s ∧ (t.decks.get k).v = d.v ∧ (t.decks.get k).acc = d.acc ∧
    (∀ j, j ≠ k → (t.decks.get j).s = (s.decks.get j).s ∧ (t.decks.get j).v = (s.decks.get j).v ∧
      (t.decks.get j).p = (s.decks.get j).p ∧ (t.decks.get j).acc = (s.decks.get j).acc ∧
      (t.decks.get j).store = (s.decks.get j).store ∧ (t.decks.get j).status = (s.decks.get j).status)

/-- R193: WSLD of a descriptor that breaks one of its conditions raises STREAM_FAULT. -/
def Obligations.StreamDescriptorsAreChecked : Prop :=
  ∀ (k : Fin 16) (w : BitVec 64) (s t : State) (l : List Octet) (g : Nat),
    wordSpells 0x08 w = true → iForm w 0 = true → fD w < 4 → alone s k .m w = true → enabled s k w = true →
    (s.decks.get k).sPoison (fA w) = false → immAddress s k w % 64 = 0 → loaded s k w 64 t l →
    g = (match fld (vals l) 30 1 with | 1 => 32 | 2 => 64 | _ => 8) →
    (2 ^ 48 ≤ fld (vals l) 0 8 ∨ 2 ^ 48 ≤ fld (vals l) 8 8 ∨ zeroAt (vals l) 42 22 = false ∨
      fld (vals l) 30 1 = 0 ∨ 3 < fld (vals l) 30 1 ∨
      (¬(flashBase ≤ fld (vals l) 0 8 ∧ fld (vals l) 0 8 < flashEnd) ∧ fld (vals l) 8 8 ≠ 0) ∨
      (fld (vals l) 30 1 ≠ 3 ∧ fld (vals l) 20 4 % g ≠ 0) ∨
      fld (vals l) 32 4 % g ≠ 0 ∨ fld (vals l) 36 4 % g ≠ 0 ∨ fld (vals l) 36 4 < 8 ∨
      fld (vals l) 20 4 < fld (vals l) 32 4 + fld (vals l) 36 4 ∨
      fld (vals l) 31 1 = 0 ∨ 8 < fld (vals l) 31 1 ∨ fld (vals l) 28 2 < 8 ∨
      fld (vals l) 0 8 % 4096 ≠ 0 ∨ (fld (vals l) 40 2).testBit (s.decks.get k).logical = false) →
    exec (.wsld k w true) s = .next (raiseDeck k 1 0x08 (immAddress s k w) t)

/-! ## Writes of objects -/

namespace Sys2Proof.Claims

/-- The channel, index, sub-index and value of a command that writes an object with a row of its own. -/
def writes : Instr → Option (Channel × Nat × Nat × Bytes)
  | .hostRange c v => some (c, 0x1002, 1, v)
  | .storeParameters c v => some (c, 0x1200, 1, v)
  | .restoreDefaults c v => some (c, 0x1201, 1, v)
  | .dozeNow c v | .watchNow c v | .offPrepare c v => some (c, 0x2000, 2, v)
  | .warmReset c v | .coldReset c v | .harbourReset c v => some (c, 0x2100, 1, v)
  | .commitCommand c v => some (c, 0x2101, 1, v)
  | .lifecycleToFactory c v | .lifecycleToDevelopment c v | .lifecycleToDeployed c v | .lifecycleToService c v
  | .lifecycleLeaveService c v | .lifecycleToEnd c v => some (c, 0x2110, 2, v)
  | .serviceAuthorisation c v => some (c, 0x2111, 1, v)
  | .flashRead c v | .flashProgram c v | .flashErase c v | .flashBlankCheck c v | .flashVerify c v
  | .flashCrc32 c v => some (c, 0x2200, 1, v)
  | .flashFlush c v => some (c, 0x2200, 5, v)
  | .regionWrite c n v => some (c, 0x2220 + n.val, 1, v)
  | .regionEntryBase c m e v => some (c, 0x2310 + m.val, 2 * e.val + 1, v)
  | .regionEntryLimit c m e v => some (c, 0x2310 + m.val, 2 * e.val + 2, v)
  | .windowUpdate c v => some (c, 0x2410, 1, v)
  | .tensorCreate c v | .tensorDestroy c v | .tensorSetHint c v | .tensorPin c v
  | .tensorUnpin c v => some (c, 0x2420, 1, v)
  | .tierQuotaWrite c x n v => some (c, x, n, v)
  | .deckReset c k v => some (c, 0x4000 + 0x100 * k.val, 8, v)
  | .installImage c v | .loadImage c v | .removeImage c v | .imageVerify c v
  | .commitVersion c v => some (c, 0x2701, 1, v)
  | .swapRequest c v => some (c, 0x2710, 1, v)
  | .swapAbort c v | .swapResume c v => some (c, 0x2710, 2, v)
  | .ringRecord c t v => some (c, tenantObj t.val 2, 2, v)
  | .partitionSets c n v => some (c, 0x2900, n.val + 1, v)
  | .kvPageQuota c t v => some (c, 0x2903, t.val + 1, v)
  | .ringSize c v => some (c, 0x2A01, 1, v)
  | .biasVector c l v => some (c, 0x2A14, l.val + 1, v)
  | .layoutWrite c v => some (c, 0x2B01, 0, v)
  | .stageMap c n v => some (c, 0x2B02, n.val + 1, v)
  | .contextOpen c v | .contextPause c v | .contextResume c v | .contextClose c v
  | .contextFlush c v => some (c, 0x2C10, 3, v)
  | .contextRecord c v => some (c, 0x2C10, 2, v)
  | .mediaJob c v => some (c, 0x2C11, 1, v)
  | .registerBuffer c v => some (c, 0x2C01, 1, v)
  | .releaseBuffer c v => some (c, 0x2C01, 4, v)
  | .receiverSetting c x n v => some (c, x, n, v)
  | .clearSteps c v | .retireDeck c v | .restoreDeck c v => some (c, 0x2D11, 2, v)
  | .injectFault c v => some (c, 0x2D30, 1, v)
  | .registerWrite (.object c x n v) => some (c, x, n, v)
  | _ => none

/-- The command's write of idx:sub is accepted in s: it answers success, and t is what its owner makes of s. -/
def Accepted (i : Instr) (s t : State) : Prop :=
  ∀ ch idx sub val, writes i = some (ch, idx, sub, val) → taken s ch idx sub val.length = true →
    exec i s = .next (answered t ch idx sub 0)

/-- The command's write is turned down in s by its owner with a code, and changes nothing but the counters of
requests and the answer. -/
def TurnedDown (i : Instr) (code : Nat) (s : State) : Prop :=
  ∀ ch idx sub val, writes i = some (ch, idx, sub, val) → taken s ch idx sub val.length = true →
    exec i s = .next (answered s ch idx sub code)

end Sys2Proof.Claims

/-- A write of an object by any command that is one: nothing happens while the dictionary is not served; a write
that a check of R40 fails is answered with that check's code, and one that harbour mode refuses with its code (R94);
neither changes anything else than the request counters. -/
def Obligations.RefusedWritesChangeNothing : Prop :=
  ∀ (i : Instr) (s : State) (ch : Channel) (idx sub : Nat) (val : Bytes),
    writes i = some (ch, idx, sub, val) →
    (s.serves = false → exec i s = .next s) ∧
    (∀ code, s.serves = true → writeChecks s ch idx sub val.length = .error code →
      exec i s = .next (answered s ch idx sub code)) ∧
    (∀ d, s.serves = true → writeChecks s ch idx sub val.length = .ok d → harbourRefuses s idx = true →
      exec i s = .next (answered s ch idx sub abHarbour))

/-- R50: with a berth live, every write of 0x1002:01 is refused and the interface level stays; where the checks that
stand before it hold, with the code for a block that is not idle. The row and every frame that writes the object are
served by the same owner. -/
def Obligations.HostRangeWaitsForBerths : Prop :=
  (∀ (ch : Channel) (val : Bytes) (s : State), s.anyLive = true → taken s ch 0x1002 1 val.length = true →
    (∃ code, code ≠ 0 ∧ exec (.hostRange ch val) s = .next (answered s ch 0x1002 1 code)) ∧
    (s.inHarbour = false → s.tiers.fitted ≠ 0 →
      exec (.hostRange ch val) s = .next (answered s ch 0x1002 1 abNotIdle))) ∧
  (∀ ch val, applyObject ch 0x1002 1 val = applyHostRange val)

/-- The interface level and the stored set. A range that overlaps levels 1 to 2 chooses the highest of both, any other
chooses 0 (R48); Store Parameters begins a copy whose answer comes with STORE_DONE, which leaves the copy in force as
the only one, with its serial number, or the previous set with the flash error in 0x1202:03 (R51, R53); Restore
Defaults invalidates both copies and the values in force stay (R52). -/
def Sys2Proof.Claims.InterfaceLevelAndStoredSet : Prop :=
  ∀ (ch : Channel) (val : Bytes) (s : State), s.inHarbour = false →
    (s.ferry.role ≠ .member → s.tiers.fitted ≠ 0 → s.anyLive = false →
      bitsOf (leNat val) 15 0 ≤ bitsOf (leNat val) 31 16 →
      (bitsOf (leNat val) 15 0 ≤ 2 → 1 ≤ bitsOf (leNat val) 31 16 →
        Accepted (.hostRange ch val) s (s.setVal 0x1002 2 (min (bitsOf (leNat val) 31 16) 2))) ∧
      ((2 < bitsOf (leNat val) 15 0 ∨ bitsOf (leNat val) 31 16 = 0) → taken s ch 0x1002 1 val.length = true →
        exec (.hostRange ch val) s = .next (answered (s.setVal 0x1002 2 0) ch 0x1002 1 abNotSupported))) ∧
    (s.custody.storing = none → leNat val = 0x5357_0001 → taken s ch 0x1200 1 val.length = true →
      ∃ t, exec (.storeParameters ch val) s = .next t ∧
        t.custody = { s.custody with storing := some (ch, ⟨newestSerial s + 1, storedSet s⟩) } ∧
        (t.chan ch).busy = true ∧ t.mem = s.mem) ∧
    (s.custody.storing = none → leNat val = 0x5357_0002 →
      Accepted (.restoreDefaults ch val) s
        ((s.setCustody { s.custody with storedA := none, storedB := none }).setVal 0x1202 3 0)) ∧
    (∀ c copy, s.custody.storing = some (c, copy) → isDown s = false →
      ∃ t, exec (.storeDone true) s = .next t ∧ t.custody.storing = none ∧
        newestCopy t = some copy ∧ (t.custody.storedA = none ∨ t.custody.storedB = none) ∧
        t.custody.storeCount = (s.custody.storeCount + 1) % 2 ^ 32 ∧
      ∃ u, exec (.storeDone false) s = .next u ∧ u.custody.storing = none ∧
        u.custody.storedA = s.custody.storedA ∧ u.custody.storedB = s.custody.storedB ∧
        u.custody.storeCount = s.custody.storeCount ∧ (c ≠ .side → u.val 0x1202 3 = abFlash))

/-! ## Resets and custody -/

/-- The reset commands of 0x2100:01 and the transitions of 0x2110:02. -/
def Sys2Proof.Claims.CustodyCommands : Prop :=
  ∀ (ch : Channel) (val : Bytes) (s : State),
    (s.custody.resetPending = none →
      (leNat val = 0x5357_0010 →
        Accepted (.warmReset ch val) s (s.setCustody { s.custody with resetPending := some .warm })) ∧
      (leNat val = 0x5357_0011 →
        Accepted (.coldReset ch val) s (s.setCustody { s.custody with resetPending := some .cold })) ∧
      (leNat val = 0x5357_0012 →
        Accepted (.harbourReset ch val) s (s.setCustody { s.custody with resetPending := some .harbour }))) ∧
    (∀ c, s.custody.resetPending = some c →
      TurnedDown (.warmReset ch val) abBusy s ∧ TurnedDown (.coldReset ch val) abBusy s ∧
      TurnedDown (.harbourReset ch val) abBusy s) ∧
    (s.inHarbour = false → leNat val = 0x5357_0020 →
      s.systemFree = true → s.counter 0 ≤ s.custody.helmSecurity → s.counter 1 ≤ s.custody.watchSecurity →
      (s.custody.counters[0]?.map (fun c => c.value?.isSome)) = some true →
      (s.custody.counters[1]?.map (fun c => c.value?.isSome)) = some true →
      taken s ch 0x2101 1 val.length = true →
      ∃ t, exec (.commitCommand ch val) s = .next t ∧
        t.counter 0 = s.custody.helmSecurity ∧ t.counter 1 = s.custody.watchSecurity ∧
        (∀ n, 2 ≤ n → t.counter n = s.counter n) ∧ t.mem = s.mem ∧ t.decks = s.decks) ∧
    (s.inHarbour = true → TurnedDown (.commitCommand ch val) abHarbour s) ∧
    (val.length = 80 → zeroAt val 9 7 = true → fld val 0 8 = s.part.uniqueId → fld val 8 1 = 4 →
      taken s ch 0x2111 1 val.length = true →
      exec (.serviceAuthorisation ch val) s = .next (
        if signed Config.serviceKey (slice val 0 16) (slice val 16 64) then
          answered (s.setCustody { s.custody with serviceAuth := true }) ch 0x2111 1 0
        else answered s ch 0x2111 1 abSigned))

/-- The lifecycle transitions: the states each leaves, the counter it will advance and the state it enters; admission
stops, and the service authorisation is used up (R96 to R98). From any other state, and for SERVICE without the
authorisation, the command is answered with the lifecycle code. -/
def Obligations.LifecycleTransitions : Prop :=
  ∀ (ch : Channel) (val : Bytes) (s : State), s.custody.transition = none →
    (∀ r ∈ [(Instr.lifecycleToFactory ch val, 0x5357_1001, 2, [Lifecycle.blank], Lifecycle.factory),
        (.lifecycleToDevelopment ch val, 0x5357_1002, 3, [.factory], .development),
        (.lifecycleToDeployed ch val, 0x5357_1003, 2, [.factory], .deployed),
        (.lifecycleToService ch val, 0x5357_1004, 4, [.deployed], .service),
        (.lifecycleLeaveService ch val, 0x5357_1005, 4, [.service], .deployed),
        (.lifecycleToEnd ch val, 0x5357_100E, 5,
          [.blank, .factory, .development, .deployed, .service], .final)],
      leNat val = r.2.1 →
      (s.lifecycle ∈ r.2.2.2.1 → (r.2.2.2.2 = .service → s.custody.serviceAuth = true) →
        Accepted r.1 s { s with
          custody := { s.custody with
            transition := some (r.2.2.1, s.lifecycle, r.2.2.2.2), serviceAuth := false }
          serving := { s.serving with stopped := true } }) ∧
      ((s.lifecycle ∉ r.2.2.2.1 ∨ (r.2.2.2.2 = .service ∧ s.custody.serviceAuth = false)) →
        TurnedDown r.1 abLifecycle s))

/-! ## Frames and transports -/

namespace Sys2Proof.Claims

/-- The state once a frame has come by a way and the server has taken it up. -/
def arrived (ch : Channel) (f : Bytes) (way : Way) (s : State) : State :=
  takeUp ⟨ch, f, way⟩ (latch ch f way (fillRequest ch f s))

/-- A frame comes to a channel that is free, of a device that serves and to which nothing else has come. -/
def free (s : State) (ch : Channel) (f : Bytes) : Prop :=
  s.serves = true ∧ (s.chan ch).busy = false ∧ (s.chan ch).latched = none ∧ s.inbox = [] ∧ f.length = 64

/-- Such a frame is not the last frame served there. -/
def comes (s : State) (ch : Channel) (f : Bytes) : Prop := free s ch f ∧ ∀ p, (s.chan ch).last = some p → p.1 ≠ f

/-- The state in which a frame that is no segment of an open transfer is served: a transfer closed by timeout is
forgotten (R36). -/
def served (ch : Channel) (f : Bytes) (s : State) : State := newTransfer ch (arrived ch f .usual s)

/-- A frame that comes and passes steps 1 to 4 of R40, for this device. -/
def passes (s : State) (ch : Channel) (f : Bytes) : Prop :=
  comes s ch f ∧ frameOk (s.chan ch).xfer f = true ∧ reach s ch f = .here ∧ transferCode (s.chan ch) f = 0 ∧
    ((chanTenant ch).isSome = true → s.val 0x1002 2 ≠ 0)

/-- The object of a frame exists for the channel, its class is one that may read or write it, as the frame does, and its
type matches (steps 5, 6, 8 of R40), and harbour mode serves it. -/
def finds (s : State) (ch : Channel) (f : Bytes) (d : ObjDef) : Prop :=
  rowFor s ch (frIdx f) (frSub f) = some d ∧ readsOwn s ch (frIdx f) (frSub f) = true ∧
    (if frOp f = 2 ∨ frOp f = 4 then d.writers (frIdx f) (frSub f) else d.classes) &&& chanClass ch ≠ 0 ∧
    typeOk d f = true ∧ harbourRefuses s (frIdx f) = false

/-- The server runs and no frame has come that it has not taken up. -/
def quiet (s : State) : Prop := s.serves = true ∧ s.inbox = []

/-- The row of each op (Ops). -/
def frameRows : List (Nat × (Channel → Bytes → Instr)) :=
  [(1, .expeditedRead), (2, .expeditedWrite), (3, .segmentedRead), (4, .segmentedWrite), (5, .abortFrame)]

end Sys2Proof.Claims

/-- A frame that comes on a free channel, by any frame row or over I3C and I2C, is served at once; a repeat of the last
frame gets the stored response and is counted in 0x1102:03, with nothing executed (R38). -/
def Obligations.FramesAreServedOnce : Prop :=
  ∀ (ch : Channel) (f : Bytes) (s : State),
    (comes s ch f →
      (∀ r ∈ frameRows, exec (r.2 ch f) s = .next (serveFrame ch f (arrived ch f .usual s))) ∧
      (ch = .side → exec (.i3cPrivateWrite none f) s = .next (serveFrame .side f (arrived .side f .usual s)) ∧
        exec (.i3cPrivateWrite (some 0x21) f) s = .next (serveFrame .side f (arrived .side f .usual s)) ∧
        (s.val 0x1101 4 = 1 →
          exec (.i2cLegacyTransfer (.write f)) s = .next (serveFrame .side f (arrived .side f .legacyI2c s))))) ∧
    (∀ resp, free s ch f → (s.chan ch).last = some (f, resp) →
      ∀ r ∈ frameRows, exec (r.2 ch f) s = .next (postResponse ch resp ((arrived ch f .usual s).bump 0x1102 3)))

/-- Expedited transfers and aborts: a read answers the object's value, at most 48 bytes, and changes nothing else
(R30); a write answers success and leaves what its owner does; an abort of the open transfer closes it and records
the code in 0x1102:05 (R35). Each answer is kept beside its frame. -/
def Obligations.ExpeditedTransfers : Prop :=
  ∀ (ch : Channel) (f : Bytes) (s : State), passes s ch f →
    (∀ d bs, frOp f = 1 → finds s ch f d → readable d = true → isDomain d = false →
      readObject ch d (frIdx f) (frSub f) (served ch f s) = bs → bs.length ≤ 48 →
      exec (.expeditedRead ch f) s = .next (respond ch f (responseOf f d.type.code bs.length 0 bs)
        ((served ch f s).countServed 0))) ∧
    (∀ d t, frOp f = 2 → finds s ch f d → writable d (frIdx f) (frSub f) = true → isDomain d = false →
      expeditedFits d (frTotal f) = true →
      applyFor ch d (frIdx f) (frSub f) ((frPayload f).take (frTotal f)) (served ch f s) = .done 0 t →
      exec (.expeditedWrite ch f) s =
        .next (respond ch f (responseOf f d.type.code 0 0 []) (t.countServed 0))) ∧
    (∀ x, frOp f = 5 → (s.chan ch).xfer = some x → x.id = frId f →
      ∃ t, exec (.abortFrame ch f) s = .next t ∧ (t.chan ch).xfer = none ∧ t.val 0x1102 5 = frOff f ∧
        (t.chan ch).last = some (f, responseOf f 0 0 0 []) ∧ t.mem = s.mem ∧ t.decks = s.decks ∧
        t.serving = s.serving)

/-- Segmented transfers: a read at offset 0 answers the object's length and its first bytes, and stays open while bytes
are left; each next segment answers the bytes at its offset, and the last one closes it (R31). A write gathers its
segments, and its last byte has the whole value applied as one change (R33). -/
def Sys2Proof.Claims.SegmentedTransfers : Prop :=
  ∀ (ch : Channel) (f : Bytes) (s : State), passes s ch f →
    (∀ d bs, frOp f = 3 → frOff f = 0 → (s.chan ch).xfer = none → finds s ch f d → readable d = true →
      readObject ch d (frIdx f) (frSub f) (served ch f s) = bs →
      ∃ t, exec (.segmentedRead ch f) s = .next t ∧
        (t.chan ch).last = some (f, responseOf f d.type.code bs.length 0 (slice bs 0 (min 48 bs.length))) ∧
        ((t.chan ch).xfer.isSome = decide (48 < bs.length)) ∧
        (∀ x, (t.chan ch).xfer = some x → x.next = 48 ∧ x.total = bs.length ∧ x.id = frId f)) ∧
    (∀ d x, frOp f = 3 → (s.chan ch).xfer = some x → x.live = false → belongs x f = true → frOff f = x.next →
      objectAt x.idx x.sub = some d →
      ∃ t, exec (.segmentedRead ch f) s = .next t ∧
        (t.chan ch).last = some (f, responseOf f d.type.code x.total 0
          (slice x.data x.next (min 48 (x.total - x.next)))) ∧
        (t.chan ch).xfer = if x.total ≤ x.next + min 48 (x.total - x.next) then none
          else some { x with next := x.next + 48 }) ∧
    (∀ d, frOp f = 4 → frOff f = 0 → (s.chan ch).xfer = none → finds s ch f d →
      writable d (frIdx f) (frSub f) = true → segmentedFits (served ch f s) ch d (frSub f) (frTotal f) = true → 48 < frTotal f →
      ∃ t, exec (.segmentedWrite ch f) s = .next t ∧
        (t.chan ch).last = some (f, responseOf f d.type.code 0 0 []) ∧
        (t.chan ch).xfer = some ⟨frId f, true, frIdx f, frSub f, frTotal f, 48, (frPayload f).take 48, false, 0⟩ ∧
        t.mem = s.mem ∧ t.decks = s.decks ∧ t.serving = s.serving) ∧
    (∀ d x t, frOp f = 4 → (s.chan ch).xfer = some x → x.write = true → belongs x f = true → frOff f = x.next →
      x.total ≤ x.next + min 48 (x.total - x.next) → objectAt x.idx x.sub = some d → harbourRefuses s x.idx = false →
      applyFor ch d x.idx x.sub (x.data ++ (frPayload f).take (min 48 (x.total - x.next)))
        (setTransfer ch none (arrived ch f .usual s)) = .done 0 t →
      exec (.segmentedWrite ch f) s =
        .next (respond ch f (responseOf f d.type.code 0 0 []) (t.countServed 0)))

/-- A transfer left idle is closed and remembered (R36); a frame that a member did not answer is answered for it
(R47); a private read takes the response and, with its 64th byte, empties it, and before one is ready is not
acknowledged (R44); a write of another length is discarded and counted (R43). -/
def Sys2Proof.Claims.TransportTimeoutsAndReads : Prop :=
  ∀ s : State,
    (∀ ch x, (s.chan ch).xfer = some x →
      exec (.segmentTimeout ch) s =
        .next (s.setChan ch { s.chan ch with xfer := none, timedOut := some (x.id, x.write) })) ∧
    (∀ ch f, s.ferry.forwards.find? (fun f => decide (f.origin = ch)) = some f → ch ≠ .fwd →
      exec (.forwardTimeout ch) s = .next (respond ch f.frame (responseOf f.frame 0 0 abMember [])
        ((dropForward f s).countServed abMember))) ∧
    (sideReady s = true → ∀ n,
      (∀ c, c = none ∨ c = some 0xA1 → exec (.i3cPrivateRead c n) s =
        .next (if 64 ≤ n then (s.emit (.read ((s.chan .side).response.take n))).setChan .side
              { s.chan .side with ready := false }
            else s.emit (.read ((s.chan .side).response.take n)))) ∧
      (s.val 0x1101 4 = 1 → exec (.i2cLegacyTransfer (.read n)) s = exec (.i3cPrivateRead none n) s)) ∧
    (deaf s = false → sideReady s = false → ∀ n,
      exec (.i3cPrivateRead none n) s = .next (s.emit .nack)) ∧
    (deaf s = false → ∀ data : Bytes, data.length ≠ 64 →
      exec (.i3cPrivateWrite none data) s = .next (s.bump 0x1102 4))

/-- A register write: an object that has no row of its own takes what its owner does; in BAR0, over a link that is then in
L0 (R67), a write of 1 to a mailbox doorbell submits the request buffer (R42a), a write into the buffer changes its bytes,
and the interrupt and wake page clears what is written one. -/
def Obligations.RegisterWrites : Prop :=
  ∀ s : State,
    (∀ ch idx sub val t, applyObject ch idx sub val s = .done 0 t →
      Accepted (.registerWrite (.object ch idx sub val)) s t) ∧
    (comes s .priv (s.chan .priv).request →
      exec (.registerWrite (.bar0 0x08_0080 [1, 0, 0, 0])) s = .next (serveFrame .priv (s.chan .priv).request
        (takeUp ⟨.priv, (s.chan .priv).request, .usual⟩ (latch .priv (s.chan .priv).request .usual (linkActive s))))) ∧
    (quiet s → ∀ u, u = linkActive s →
      (∀ (o : Nat) (data : Bytes), o + data.length ≤ 64 → 0 < data.length →
        exec (.registerWrite (.bar0 (0x08_0000 + o) data)) s = .next (u.setChan .priv
          { u.chan .priv with request := overlay (u.chan .priv).request o data })) ∧
      (∀ data : Bytes, data.length = 32 →
        exec (.registerWrite (.bar0 0x10_0000 data)) s = .next (u.setServing { u.serving with
          wakePage := u.serving.wakePage &&& ~~~ (BitVec.ofNat 64 (leNat data) &&& 0xF#64)
          tenantPending := u.serving.tenantPending &&& ~~~ BitVec.ofNat 64 (leNat data / 2 ^ 64)
          blockPending := u.serving.blockPending &&& ~~~ BitVec.ofNat 128 (leNat data / 2 ^ 128) })) ∧
      (∀ (off : Nat) (data : Bytes), 0x10_1000 ≤ off →
        exec (.registerWrite (.bar0 off data)) s = .next u))

/-! ## Sleeping and waking -/

namespace Sys2Proof.Claims

/-- A wake source of DOZE or WATCH is not masked. -/
def unmasked (s : State) (bits : BitVec 32) : Prop := bits &&& 0xFF#32 &&& ~~~ wakeMask s ≠ 0

/-- DOZE or WATCH with no exit begun. -/
def sleeps (s : State) (p : PowerState) : Prop := s.power.state = p ∧ s.power.exiting = none ∧ s.power.entering = none

/-- The state once sources of an unmasked wake have been latched and recorded and the exit from p has begun. -/
def waking (s : State) (p : PowerState) (bits : BitVec 32) : State :=
  recordWake ((latchWake s bits).setPower { (latchWake s bits).power with exiting := some p }) bits

end Sys2Proof.Claims

/-- A wake source that is not masked begins the exit, from WATCH with the rails raised (R63, R70, R364); one that is
masked stays latched (R70); awake, it does nothing. -/
def Sys2Proof.Claims.WakeSourcesAct : Prop :=
  ∀ (bits : BitVec 32) (s : State),
    (sleeps s .doze → unmasked s bits → exec (.wakeSource bits) s = .next (waking s .doze bits)) ∧
    (sleeps s .watch → unmasked s bits → exec (.wakeSource bits) s = .next (raiseRails (waking s .watch bits))) ∧
    (∀ p, sleeps s p → p = .doze ∨ p = .watch → ¬ unmasked s bits →
      exec (.wakeSource bits) s = .next (latchWake s bits)) ∧
    (quiet s → exec (.wakeSource bits) s = .next s)

/-- The other events that wake: a host L1 exit (bit 1), a configuration request and a doorbell (bit 0), a WAKE frame
(bit 3, for a semaphore bit 4), the held-output timers (bit 5), each with what else it does. A configuration request
of a device that is awake changes the settings it names, and no more. -/
def Sys2Proof.Claims.EventsThatWake : Prop :=
  ∀ s : State,
    (sleeps s .doze → s.power.link = .l12 → unmasked s 2 →
      exec .hostL1Exit s = .next (waking (s.setPower { s.power with link := .l0 }) .doze 2)) ∧
    (∀ u, u = linkActive s →
      (sleeps s .doze → ∀ r, exec (.configurationRequest r) s =
        .next (waking (u.setPower (configure r u.power)) .doze 1)) ∧
      (quiet s → ∀ r, exec (.configurationRequest r) s = .next (u.setPower (configure r u.power)))) ∧
    (sleeps s .doze → unmasked s 8 → unmasked s 16 → ∀ (port : Fin 3) (f : Bytes),
      (s.port port.val).st = .slow → slowValid f = true → fld f 1 1 = 2 →
      (fld f 2 1 / 16 = 0 ∨ fld f 2 1 / 16 = ownNode s) →
      exec (.wakeFrame port f) s = .next
        (waking (s.setPort port.val { s.port port.val with silence := 0 }) .doze
          (if slowPayload f = [2] then 16 else 8))) ∧
    (∀ b x, berthOf s b = some x → 0 < x.unreported → s.val 0x2011 2 ≠ 0 →
      (sleeps s .doze →
        exec (.heldOutputTimer b) s = .next (waking (hostWake s b .timer) .doze 0x20)) ∧
      (quiet s → exec (.heldOutputTimer b) s = .next (hostWake s b .timer))) ∧
    (sleeps s .watch → ∀ b, s.power.deadline = some b →
      exec .watchDeadlineTimer s = .next (raiseRails (waking
        ((hostWake s b .timer).setPower { (hostWake s b .timer).power with deadline := none }) .watch 0x20)))

/-- The ends of entries and exits. DOZE: the deck stores are forgotten and the decks off, 0x2001 reads DOZE; its exit
and that of WATCH, with SW_PGOOD high, leave READY with every source unlatched (R62, R63). WATCH: the hold is lost, the
secure hold kept, RAIL_EN low, and the clock policy taken (R56, R58, R363). -/
def Sys2Proof.Claims.EntriesAndExits : Prop :=
  ∀ s : State,
    (dozeAllowed s = true → ∃ t, exec .dozeEntry s = .next t ∧ t.power.entering = some .doze ∧
      t.power.state = .ready ∧ t.serving = s.serving ∧ t.kv = s.kv) ∧
    (s.power.entering = some .doze → ∃ t, exec .dozeEntryDone s = .next t ∧ t.power.state = .doze ∧
      t.power.entering = none ∧ t.mem = s.mem.clear deckBase deckEnd ∧
      (∀ k : Fin 16, (t.decks.get k).status =
        match (s.decks.get k).status with | .retired => .retired | _ => .off) ∧
      t.serving = s.serving ∧ t.kv = s.kv) ∧
    (s.power.exiting = some .doze → s.inbox = [] →
      exec .dozeExitDone s = .next (enterReady s)) ∧
    (s.power.exiting = some .watch → s.board.swPgood = true → s.power.rail = .idle → s.inbox = [] → exec .watchExitDone s = .next (enterReady s)) ∧
    ((enterReady s).power.state = .ready ∧ (enterReady s).power.exiting = none ∧
      (enterReady s).power.latched = 0 ∧ (enterReady s).serving = s.serving) ∧
    (watchReady s = true → ∀ u v, moveDownAll (nearHomes (landAll s)) (landAll s) = some u →
      v = dropBuffers (closeAllBlocks (dropNearCopies u)) →
      exec .watchEntry s = .next (v.setPower { v.power with entering := some .watch })) ∧
    (watchReady s = true → moveDownAll (nearHomes (landAll s)) (landAll s) = none → exec .watchEntry s = .next s) ∧
    (s.power.entering = some .watch → ∃ t, exec .watchEntryDone s = .next t ∧ t.power.state = .watch ∧
      t.power.entering = none ∧ t.power.command = none ∧ t.power.railEn = false ∧
      t.power.watchFast = decide (s.val 0x2003 1 = 1) ∧ t.power.deadline = earliestDeadline s ∧
      t.mem = s.mem.clear 0 dualEnd ∧ t.decks = s.decks ∧ t.serving = s.serving ∧ t.kv = s.kv)

/-- State commands are accepted before anything changes (R65): DOZE_NOW and WATCH_NOW stay pending, the second only
when the host has enabled what it needs, and replace one that is pending, so that a preparation for power removal ends;
OFF_PREPARE, with no berth live and no context open, stops admission (R66). Its end, with nothing left to do, reports
OFF_READY and lowers RAIL_EN. In OFF_READY no command changes anything. -/
def Sys2Proof.Claims.StateCommands : Prop :=
  ∀ (ch : Channel) (val : Bytes) (s : State), s.inHarbour = false →
    (s.power.state ≠ .offReady → s.power.entering ≠ some .offReady →
      (leNat val = 3 → Accepted (.dozeNow ch val) s (s.setPower { s.power with command := some .dozeNow })) ∧
      (leNat val = 4 → watchAllowed s = true →
        Accepted (.watchNow ch val) s (s.setPower { s.power with command := some .watchNow }))) ∧
    (s.power.state ≠ .offReady → s.power.entering = some .offReady → ∀ c, c = .dozeNow ∨ c = .watchNow →
      ∀ t, t = { s with
        power := { s.power with command := some c, entering := none }
        custody := { s.custody with planned := false }
        serving := { s.serving with stopped := s.serving.clearDue || s.custody.transition.isSome } } →
      (leNat val = 3 → c = .dozeNow → Accepted (.dozeNow ch val) s t) ∧
      (leNat val = 4 → c = .watchNow → watchAllowed s = true → Accepted (.watchNow ch val) s t)) ∧
    (s.power.state = .offReady →
      (leNat val = 3 → Accepted (.dozeNow ch val) s s) ∧
      (leNat val = 4 → watchAllowed s = true → Accepted (.watchNow ch val) s s) ∧
      (leNat val = 5 → idleForOff s = true → Accepted (.offPrepare ch val) s s)) ∧
    (leNat val = 4 → watchAllowed s = false → TurnedDown (.watchNow ch val) abInconsistent s) ∧
    (s.power.state ≠ .offReady → leNat val = 5 → idleForOff s = true → Accepted (.offPrepare ch val) s { s with
      power := { s.power with command := some .offPrepare, entering := some .offReady }
      serving := { s.serving with stopped := true } }) ∧
    (leNat val = 5 → idleForOff s = false → TurnedDown (.offPrepare ch val) abNotIdle s) ∧
    (s.power.entering = some .offReady → s.turn = none → moverIdle s = true → storesDrained s = true → s.custody.planned = true →
      s.custody.journal.queue = [] → ∃ t, exec .offPrepareDone s = .next t ∧ t.power.state = .offReady ∧
        t.power.railEn = false ∧ t.power.command = none ∧ (∀ k : Fin 16, (t.decks.get k).store = []))

/-- The timeouts of 0x2002 mark what is due at the next barrier (R60), AUTO policy and a non-zero Doze Timeout provided
(R64); a raised operating point comes into force and its barrier is released (R77). -/
def Sys2Proof.Claims.TimeoutsAndPoints : Prop :=
  ∀ s : State,
    (s.power.state = .active → anyRunnable s = false →
      exec .readyTimeout s = .next (s.setPower { s.power with readyDue := true })) ∧
    (s.power.state = .ready → s.val 0x2000 1 = 0 → s.val 0x2002 2 ≠ 0 →
      exec .dozeTimeout s = .next (s.setPower { s.power with dozeDue := true })) ∧
    (s.power.state = .ready → (s.val 0x2000 1 ≠ 0 ∨ s.val 0x2002 2 = 0) → exec .dozeTimeout s = .next s) ∧
    (s.power.state = .doze → s.val 0x2000 1 = 0 → s.val 0x2002 2 ≠ 0 → s.val 0x2002 3 ≠ 0 →
      exec .watchTimeout s = .next (s.setPower { s.power with watchDue := true })) ∧
    (∀ p, s.power.raising = some p → ∃ t, exec .pointChangeDone s = .next t ∧ t.power.point = p ∧
      t.power.raising = none ∧ t.mem = s.mem ∧ t.serving = s.serving ∧ t.turn = s.turn)

/-- R78, the levels that act at once: a sample keeps the readings and averages; at 105 °C the dividers go to the
emergency setting, at 115 °C the decks and the helm stop, THERMTRIP_N goes low and the flag is set. While the device
sleeps the one sensor of the watch domain serves the trip alone. -/
def Sys2Proof.Claims.ThermalSamples : Prop :=
  (∀ (l : List Int) (a b : Nat) (s : State), s.power.state = .doze ∨ s.power.state = .watch →
    ∃ t, exec (.thermalSample l a b) s = .next t ∧ t.power.readings = l ∧ t.power.avg1s = s.power.avg1s ∧
      t.power.avg10ms = s.power.avg10ms ∧ t.power.emergency = s.power.emergency ∧
      t.power.coolSamples = s.power.coolSamples ∧ t.power.calmSamples = s.power.calmSamples ∧
      t.power.tripped = (s.power.tripped || decide (115000 ≤ hottest l))) ∧
  ∀ (l : List Int) (a b : Nat) (s : State), s.power.state = .active ∨ s.power.state = .ready →
    ∃ t, exec (.thermalSample l a b) s = .next t ∧
      t.power.readings = l ∧ t.power.avg1s = a ∧ t.power.avg10ms = b ∧
      t.power.emergency = (s.power.emergency || decide (105000 ≤ hottest l)) ∧
      t.power.tripped = (s.power.tripped || decide (115000 ≤ hottest l)) ∧
      t.power.tripFlag = (s.power.tripFlag || (decide (115000 ≤ hottest l) && !s.power.tripped)) ∧
      (s.power.tripped = false → 115000 ≤ hottest l → t.out.getLast? = some (.thermtripN false)) ∧
      t.power.state = s.power.state ∧ t.mem = s.mem ∧ t.serving = s.serving ∧ t.turn = s.turn

/-- The rails and pins: SW_PGOOD ends a wait for it, its timeout lowers RAIL_EN and the retry raises it again while a
source is latched (R364); PERST_N, TAMPER_N, the link, the FLL and the bus address take what came (R43, R55, R67, R69,
R87, R100). -/
def Sys2Proof.Claims.RailsAndPins : Prop :=
  ∀ s : State,
    (exec .swPgood s = .next { s with
      board := { s.board with swPgood := true }
      power := { s.power with rail := (match s.power.rail with | .waiting => .idle | r => r) } }) ∧
    (s.power.rail = .waiting → ∃ t, exec .swPgoodTimeout s = .next t ∧
      t.power = { s.power with railEn := false, rail := .retrying } ∧ t.out = s.out ++ [.railEn false] ∧
      t.mem = s.mem ∧ t.serving = s.serving) ∧
    (s.power.rail = .retrying → s.power.latched ≠ 0 → exec .railRetry s = .next (raiseRails s)) ∧
    (exec .perstNRelease s = .next { s with
      board := { s.board with perstN := true }, power := { s.power with link := .down } }) ∧
    (isDown s = false → s.board.perstN = true → ∃ t, exec .pcieLinkUp s = .next t ∧
      t.power = { s.power with link := .l0, dState := .d0, pme := false } ∧
      t.out = s.out ++ (if s.power.pme then [.pme] else [])) ∧
    (exec .tamperNRelease s = .next { s with board := { s.board with tamperN := true } }) ∧
    (isDown s = false → exec .watchFllLock s = .next (s.setPower { s.power with fllLocked := true })) ∧
    (isDown s = false → ∀ addr,
      exec (.dynamicAddressAssignment addr) s = .next (s.setVal 0x1101 1 addr.toNat)) ∧
    (s.power.dState ≠ .d3cold → s.power.l1Asked = true → exec .linkL12Entry s = .next (s.setPower { s.power with
      l1Asked := false, link := if s.power.aspmL12 then .l12 else .l1 })) ∧
    (s.power.dState = .d3cold → linkTrained s.power = true → ∃ t, exec .linkL12Entry s = .next t ∧
      (t.power.link = .l2 ∨ t.power.link = .l3) ∧ t.power.l1Asked = false ∧ t.mem = s.mem ∧ t.serving = s.serving)

/-- The host is woken once for a window (R69, R73): the status page shows the reasons, the ways of 0x2010:03 are
taken, nothing stays due. The idle time of Host Sleep Hint asks for L1 (R251). -/
def Sys2Proof.Claims.HostWakes : Prop :=
  ∀ s : State, s.power.state = .ready → s.power.entering = none →
    (s.power.wakes ≠ [] → ∃ t, exec .hostWakeCoalesce s = .next t ∧ t.power.wakes = [] ∧
      t.serving = { s.serving with
        wakePage := s.power.wakes.foldl (fun w p => w ||| (1#64 <<< wakeBit p.2)) s.serving.wakePage } ∧
      (s.val 0x2010 3 = 1 → s.val 0x1101 3 = 1 → t.out = s.out ++ [.ibi 0xD2]) ∧ t.mem = s.mem) ∧
    (s.running = true → s.val 0x2805 1 = 1 → s.power.aspmL1 = true → s.power.link = .l0 → s.power.l1Asked = false →
      exec .hostSleepIdle s = .next ((s.emit .l1Request).setPower { s.power with l1Asked := true }))

/-! ## Resets -/

/-- The reset events. A power-on holds the part in reset with power-on cause; a rising RST_N samples the straps and
starts up, and serves what was latched before (R88); an accepted command's reset and the watchdog's start up at once, the watchdog's with cause 0x06 and a HELM
error (R82, R83, R86). -/
def Sys2Proof.Claims.ResetEvents : Prop :=
  ∀ s : State,
    (s.power.state = .off → ∃ t, exec .powerOnReset s = .next t ∧ t.power.state = .held ∧ t.custody.cause = 1 ∧
      t.board.rstN = false ∧ t.board.swPgood = true ∧ t.serving = Serving.reset ∧ t.turn = none) ∧
    (s.power.state = .ready ∨ s.power.state = .active → ∃ t, exec .rstNAssert s = .next t ∧
      t.power.state = .held ∧ t.custody.cause = 2 ∧ t.board.rstN = false ∧ t.serving = Serving.reset ∧
      t.decks = Vector.replicate 16 (Deck.reset 0) ∧ t.custody.counters = s.custody.counters) ∧
    (s.power.state = .held → s.board.rstN = false →
      exec .rstNRelease s = .next (serveLatched (startUp (if s.custody.cause = 1 then .powerOn else .pin) id
        { s with board := { s.board with rstN := true }, custody := { s.custody with straps := strapValue s.board } }))) ∧
    (∀ c, s.custody.resetPending = some c → resetsItself s = true →
      exec .resetDelay s = .next (resetStart c.cause id s)) ∧
    (resetsItself s = true →
      exec .helmWatchdog s =
        .next (resetStart .watchdog (fun s => s.error (ErrorFacts.plain 0x0E 0 5 0)) s))

/-- What every reset with a start-up clears first (R81): channels, decks, berths, turn, prefixes, experts, ferry and
media are as at power-on, the flash queues empty, the hold, the deck stores and the LPDDR zero; the secure hold is
zeroed by a power-on alone, and stored copies are kept, and counters but for advances that waited for bank 0. -/
def Sys2Proof.Claims.ResetsClear : Prop :=
  ∀ (c : StartCause) (s : State) (a : Nat),
    let t := clearForReset c s
    t.chans = [] ∧ t.inbox = [] ∧ t.decks = Vector.replicate 16 (Deck.reset 0) ∧ t.serving = Serving.reset ∧ t.turn = none ∧
    t.media = Media.reset ∧ t.ferry = Ferry.reset ∧ t.flash.helm = [] ∧ t.flash.priv = [] ∧ t.flash.banks = [] ∧
    (s.flash.advances = [] → t.custody.counters = s.custody.counters) ∧ t.custody.storedA = s.custody.storedA ∧
    t.custody.storedB = s.custody.storedB ∧ t.custody.cause = c.code ∧ t.custody.resetPending = none ∧
    ((a < dualEnd ∨ (deckBase ≤ a ∧ a < deckEnd) ∨ (lpddrBase ≤ a ∧ a < lpddrEnd)) →
      t.mem.byte a = 0 ∧ t.mem.mark a = none) ∧
    (dualEnd ≤ a → a < secureEnd → c = .powerOn → t.mem.byte a = 0 ∧ t.mem.mark a = none)

/-- Power: a planned removal leaves OFF with nothing volatile; a brown-out leaves OFF from any state. A host reset
stops admission, drops the mailboxes and chooses level 0 (R49, R85); a tamper event advances counter 7 and keeps its
source, and, where it starts harbour mode, resets (R100, R101). -/
def Sys2Proof.Claims.PowerHostAndTamper : Prop :=
  ∀ s : State,
    (s.power.state = .offReady → exec .railsRemoved s = .next (powerOff s)) ∧
    (s.power.state ≠ .off → ∃ t, exec .powerLoss s = .next t ∧ t.power.state = .off ∧ t.serving = Serving.reset ∧
      t.turn = none ∧ t.custody.planned = false ∧ t.obj = [] ∧ t.board.swPgood = false) ∧
    (isDown s = false → ∀ why, why ≠ .perst → ∃ t, exec (.hostReset why) s = .next t ∧
      t.serving = { s.serving with stopped := true, clearDue := true } ∧ t.val 0x1002 2 = 0 ∧
      t.power = hostLink s.power ∧ t.chan .side = s.chan .side ∧ t.chan .fwd = s.chan .fwd ∧
      (∀ c, c ≠ .side → c ≠ .fwd → (t.chan c).xfer = none ∧ (t.chan c).last = none ∧ (t.chan c).busy = false) ∧
      t.mem = s.mem ∧ t.decks = s.decks) ∧
    (∀ src, s.power.state ≠ .off → (src = .pin → s.board.tamperN = true) → s.custody.tamperHarbour = false →
      quiet s → ∃ t, exec (.tamperEvent src) s = .next t ∧ t.custody.lastTamper = tamperCode src ∧
        t.mem = s.mem.clear dualEnd secureEnd ∧ t.decks = s.decks ∧ t.serving = s.serving ∧
        (∀ c, s.systemFree = true → s.custody.counters[7]? = some c → c.value?.isSome = true → t.counter 7 = s.counter 7 + 1)) ∧
    (∀ src, (src = .pin → s.board.tamperN = true) → s.custody.tamperHarbour = true → resetsItself s = true →
      exec (.tamperEvent src) s =
        .next (resetStart (.tamper src) (tamperRecord src) (tamperMark src (tamperPin src s))))

/-! ## Weight flash -/

namespace Sys2Proof.Claims

/-- The rows of Submit, with their opcodes. -/
def submitRows : List (Nat × (Channel → Bytes → Instr)) :=
  [(1, .flashRead), (2, .flashProgram), (3, .flashErase), (4, .flashBlankCheck), (5, .flashVerify), (6, .flashCrc32)]

/-- One descriptor of the host runs, the last of its queue, and nothing waits for the flash. -/
def onlyRuns (s : State) (d : FlashDesc) : Prop :=
  s.flash.helm = [] ∧ s.flash.priv = [d] ∧ d.st = .running ∧ s.flash.waiting = [] ∧ s.flash.changes = [] ∧
    s.flash.advances = [] ∧ s.flash.tableDue = false ∧
    ∀ k : Fin 16, (s.decks.get k).stalled = false ∧
      ∀ n x, (s.decks.get k).stream n = some x → x.waiting = false

end Sys2Proof.Claims

/-- Submit, in the order of its checks: length, form, range and room; a descriptor that passes joins the end of the
privileged queue (R124). Flush ends every descriptor of that queue that has not started as aborted (R125). -/
def Sys2Proof.Claims.FlashSubmissions : Prop :=
  ∀ (ch : Channel) (val : Bytes) (s : State),
    (∀ r ∈ submitRows, (val.length ≠ 32 → TurnedDown (r.2 ch val) abLength s) ∧
      (val.length = 32 → fld val 0 1 = r.1 →
        (descForm val = false → TurnedDown (r.2 ch val) abMalformed s) ∧
        (descForm val = true → descRange val = false → TurnedDown (r.2 ch val) abRange s) ∧
        (descForm val = true → descRange val = true → 16 ≤ s.flash.priv.length →
          TurnedDown (r.2 ch val) abNoEntry s) ∧
        (descForm val = true → descRange val = true → s.flash.priv.length < 16 →
          Accepted (r.2 ch val) s (s.setFlash { s.flash with
            priv := s.flash.priv ++ [parseDesc val s.flash.nextSeq], nextSeq := s.flash.nextSeq + 1 })))) ∧
    (leNat val = 0x5357_0030 → s.flash.changes = [] →
      Accepted (.flashFlush ch val) s (s.setFlash { s.flash with priv := s.flash.priv.map (fun d =>
        match d.st with
        | .waiting => { d with st := .finished (d.completion 11 0 0) }
        | _ => d) }))

/-- A descriptor that starts, under the region table as it then is (R116): one that a check of its range fails ends with that status and does nothing; an erase
takes its bank; a blank check or CRC of words that can all be read ends with what it found (R122, R124, R126). -/
def Sys2Proof.Claims.DescriptorsStart : Prop :=
  ∀ (d : FlashDesc) (s : State), s.serves = true → s.flash.priv = [d] → s.flash.helm = [] → s.flash.changes = [] →
    d.st = .waiting → s.flash.unread.length < 16 →
    (∀ st, startStatus s .priv d = st → st ≠ 0 →
      ∃ t, exec (.descriptorStart .priv d.seq) s = .next t ∧
        t.flash.priv = [{ d with table := newTable s, st := .finished (d.completion st 0 0) }] ∧ t.mem = s.mem ∧
        t.flash.banks = s.flash.banks ∧ t.decks = s.decks ∧ t.serving = s.serving) ∧
    (startStatus s .priv d = 0 → d.opcode = 3 → aget s.flash.banks d.bank = none →
      ∃ t, exec (.descriptorStart .priv d.seq) s = .next t ∧ t.flash.priv = [{ d with table := newTable s, st := .running }] ∧
        (∃ op, aget t.flash.banks d.bank = some op ∧ op.queue = .priv ∧ op.seq = d.seq ∧ op.erase = true ∧
          op.suspended = false ∧ op.sector = (d.offset + d.done) / 4096) ∧
        t.mem = s.mem ∧ t.serving = s.serving) ∧
    (startStatus s .priv d = 0 → (∀ sec ∈ d.sectors, aget s.flash.banks (bankOf sec) = none) →
      marksIn s.mem 16 (flashBase + d.offset) d.length = [] →
      (d.opcode = 6 → ∃ t, exec (.descriptorStart .priv d.seq) s = .next t ∧
        t.flash.priv = [{ d with table := newTable s, st := .finished (d.completion 0 d.length
          (crc32 (s.mem.bytes (flashBase + d.offset) d.length)).toNat) }] ∧ t.mem = s.mem) ∧
      (d.opcode = 4 → firstWritten s.mem (flashBase + d.offset) d.length = none →
        ∃ t, exec (.descriptorStart .priv d.seq) s = .next t ∧
          t.flash.priv = [{ d with table := newTable s, st := .finished (d.completion 0 d.length 0) }] ∧ t.mem = s.mem) ∧
      (∀ o, d.opcode = 4 → firstWritten s.mem (flashBase + d.offset) d.length = some o → o < d.length →
        ∃ t, exec (.descriptorStart .priv d.seq) s = .next t ∧
          t.flash.priv = [{ d with table := newTable s, st := .finished (d.completion 12 o o) }] ∧ t.mem = s.mem))

/-- The last pulse of a program, and the last sector of an erase. A pulse that verified has written its bytes, and with
the verify flag set a word read back different ends the descriptor with that word's offset (R121); one that did not
leaves its words open, ends the descriptor and is counted (R121). What is read back is a free value (log 73). An erased sector reads all ones and its count has
grown; one that could not be erased is indeterminate (R121, R126, R130). Every byte elsewhere stays. -/
def Sys2Proof.Claims.PulsesAndErases : Prop :=
  ∀ (bank : Fin 64) (d : FlashDesc) (op : BankOp) (s : State), onlyRuns s d → s.mem.wf = true →
    s.flash.banks = [(bank.val, op)] → op.queue = .priv → op.seq = d.seq →
    (op.erase = false → d.opcode = 2 → d.done + d.pulse = d.length → d.source.length = d.length →
      (bitOf d.flags 2 = false → readBack s d = none) ∧
      (∃ t, exec (.programPulseDone bank true) s = .next t ∧ t.flash.banks = [] ∧
        (match readBack s d with
          | some off => t.flash.priv = [{ d with
              st := .finished (FlashDesc.completion { d with done := d.done + off } 7 (d.done + off) (d.done + off)) }]
          | none => t.flash.priv = [{ d with
              done := d.length, st := .finished ({ d with done := d.length }.completion 0 d.length 0) }] ∧
            t.mem.bytes (flashBase + d.offset + d.done) d.pulse = slice d.source d.done d.pulse) ∧
        (∀ a, ¬(flashBase + d.offset + d.done ≤ a ∧ a < flashBase + d.offset + d.done + d.pulse) →
          t.mem.byte a = s.mem.byte a)) ∧
      (∃ t, exec (.programPulseDone bank false) s = .next t ∧ t.flash.banks = [] ∧
        t.flash.priv = [{ d with st := .finished (d.completion 5 d.done d.done) }] ∧
        t.count 0x2240 5 = (s.count 0x2240 5 + 1) % 2 ^ 32 ∧
        (∀ a, ¬(flashBase + d.offset + d.done ≤ a ∧ a < flashBase + d.offset + d.done + d.pulse) →
          t.mem.byte a = s.mem.byte a))) ∧
    (op.erase = true → d.opcode = 3 → op.suspended = false → op.sector < 2 ^ 21 → d.done + 4096 = d.length →
      (∃ t, exec (.eraseDone bank true) s = .next t ∧ t.flash.banks = [] ∧
        (∀ a, flashBase + op.sector * 4096 ≤ a → a < flashBase + op.sector * 4096 + 4096 → t.mem.byte a = 0xFF) ∧
        (∀ a, ¬(flashBase + op.sector * 4096 ≤ a ∧ a < flashBase + op.sector * 4096 + 4096) →
          t.mem.byte a = s.mem.byte a) ∧
        agetD t.flash.wear op.sector 0 = min (agetD s.flash.wear op.sector 0 + 1) 0xFFFF_FFFF ∧
        op.sector ∉ t.flash.indeterminate) ∧
      (∃ t, exec (.eraseDone bank false) s = .next t ∧ t.flash.banks = [] ∧ op.sector ∈ t.flash.indeterminate ∧
        t.flash.priv = [{ d with st := .finished (d.completion 6 d.done d.done) }] ∧ t.mem = s.mem ∧
        t.count 0x2240 6 = (s.count 0x2240 6 + 1) % 2 ^ 32))

/-- A resumed erase goes on, and for its Minimum Progress is not suspended again (R112); the completion of the oldest
privileged descriptor is posted when it has finished and the buffer of 16 has space, and stays where it is when there is
none (R124). -/
def Sys2Proof.Claims.ErasesResumeAndCompletionsPost : Prop :=
  ∀ s : State,
    (∀ bank : Fin 64, exec (.eraseResume bank) s = .next (s.setFlash { s.flash with
      banks := amod s.flash.banks bank.val (fun op =>
        { op with suspended := false, fresh := op.fresh || op.suspended }) })) ∧
    (∀ d r c, s.images.job = none → s.flash.priv = d :: r → d.st = .finished c → d.owner = .host →
      bitOf d.flags 0 = false → s.flash.backlog = [] →
      (s.flash.unread.length < 16 → exec .completionPost s =
        .next (s.setFlash { s.flash with priv := r, unread := s.flash.unread ++ [c] })) ∧
      (16 ≤ s.flash.unread.length → exec .completionPost s = .next s))

/-- Regions (R116, R117): a write that passes its checks becomes a change whose removed sectors are erased first; while
one waits another is refused; the change takes effect when its erases have succeeded and bank 0, which keeps the table,
is free (R118, R123), and until then the region stands. -/
def Sys2Proof.Claims.RegionChanges : Prop :=
  ∀ (ch : Channel) (n : Fin 16) (val : Bytes) (s : State),
    (3 ≤ n.val → aget s.flash.changes n.val = none →
      ((regionOf (leNat val)).used = true → (regionOf (leNat val)).first ≤ (regionOf (leNat val)).last) →
      (∀ m < 16, m ≠ n.val →
        ((s.flash.regions[m]?).getD ⟨0, 0, .unused⟩).meets (regionOf (leNat val)) = false ∧
        ((newTable s)[m]?.getD ⟨0, 0, .unused⟩).meets (regionOf (leNat val)) = false) →
      (∀ r ∈ changedRuns ((s.flash.regions[n.val]?).getD ⟨0, 0, .unused⟩) (regionOf (leNat val)),
        tensorsInUse s r.1 r.2 = false) →
      Accepted (.regionWrite ch n val) s (beginClearing (s.setFlash { s.flash with
        changes := aset s.flash.changes n.val ⟨regionOf (leNat val),
          removedRuns ((s.flash.regions[n.val]?).getD ⟨0, 0, .unused⟩) (regionOf (leNat val)), false,
          ((s.flash.helm ++ s.flash.priv).filter (fun d => decide (d.st = .running))).map (·.seq), []⟩ }) n.val)) ∧
    (∀ c, 3 ≤ n.val → aget s.flash.changes n.val = some c → TurnedDown (.regionWrite ch n val) abBusy s) ∧
    (∀ c, aget s.flash.changes n.val = some c → changeDue s n.val c = true → s.systemFree = true →
      exec (.regionChangeEffect n) s = .next (s.setFlash { s.flash with
        regions := lmod s.flash.regions n.val (fun _ => c.new), changes := adel s.flash.changes n.val }).keepTable) ∧
    (∀ c, aget s.flash.changes n.val = some c → (changeDue s n.val c = false ∨ s.systemFree = false) →
      exec (.regionChangeEffect n) s = .next s)

/-! ## Memory and tiers -/

namespace Sys2Proof.Claims

/-- An access that lies in one line of the general hold, the region entries of its master permit and no error mark
touches. -/
def plainAccess (s : State) (a : Access) : Prop :=
  s.serves = true ∧ 0 < a.len ∧ a.addr % 256 + a.len ≤ 256 ∧ a.addr + a.len ≤ generalEnd ∧
    regionPermits s a.master.val (a.tenant.map (·.val)) a.kind a.addr = true ∧ marksIn s.mem 8 a.addr a.len = []

end Sys2Proof.Claims

/-- One line of memory (R13, R14, R136, R137): a permitted read of the hold gives its bytes and changes nothing, a
write changes those bytes alone, unless it falls on a tensor that has been moved and waits for its barrier; an access of
no memory gives poison or is dropped, and is an address error of its master; one that the region entries refuse is
counted in 0x2301:04 and is a protection error. -/
def Sys2Proof.Claims.MemoryAccesses : Prop :=
  ∀ (a : Access) (s : State),
    (plainAccess s a → a.kind ≠ .write →
      exec (.memoryAccess a) s =
        .next (s.emit (.access a ((s.mem.bytes a.addr a.len).map (fun b => ⟨b, false⟩)) .ok))) ∧
    (plainAccess s a → a.kind = .write → mirrorOf s a.addr = none → a.data.length = a.len → (∀ o ∈ a.data, o.bad = false) →
      s.mem.wf = true → ∃ t, exec (.memoryAccess a) s = .next t ∧ t.mem.bytes a.addr a.len = vals a.data ∧
        (∀ x, ¬(a.addr ≤ x ∧ x < a.addr + a.len) → t.mem.byte x = s.mem.byte x) ∧
        t.decks = s.decks ∧ t.serving = s.serving ∧ t.flash = s.flash) ∧
    (s.serves = true → 0 < a.len → a.addr % 256 + a.len ≤ 256 →
      (mapped s a.addr = false →
        (a.kind ≠ .write → exec (.memoryAccess a) s =
          .next ((accessError 9 a.master.val a.addr s).emit (.access a (poison a.len) .unmapped))) ∧
        (a.kind = .write → a.data.length = a.len →
          exec (.memoryAccess a) s = .next (accessError 9 a.master.val a.addr s))) ∧
      (mapped s a.addr = true → regionPermits s a.master.val (a.tenant.map (·.val)) a.kind a.addr = false →
        (a.kind ≠ .write → exec (.memoryAccess a) s =
          .next ((accessError 10 a.master.val a.addr (s.bump 0x2301 4)).emit (.access a (poison a.len) .refused))) ∧
        (a.kind = .write → a.data.length = a.len →
          exec (.memoryAccess a) s = .next (accessError 10 a.master.val a.addr (s.bump 0x2301 4)))))

/-- The patrol scrubber (R134): a single error is corrected in place and counted, a double one counted; both are
errors of no master; a word without an error stays as it is. A host read that times out gives poison and an error of
its master (R150). -/
def Sys2Proof.Claims.ScrubsAndHostTimeouts : Prop :=
  ∀ (a : Nat) (s : State),
    (s.running = true → s.val 0x2300 3 ≠ 0 → a < dualEnd →
      (s.mem.mark (a / 8 * 8) = some .single → exec (.scrubRead a) s =
        .next (((s.setMem (s.mem.setMark (a / 8 * 8) none)).bumpBy 0x2301 1 64 1).error
          (.plain 6 0xFF 2 (a / 8 * 8)))) ∧
      (s.mem.mark (a / 8 * 8) = some .double → exec (.scrubRead a) s =
        .next ((s.bumpBy 0x2301 2 64 1).error (.plain 5 0xFF 2 (a / 8 * 8)))) ∧
      (s.mem.mark (a / 8 * 8) = none → exec (.scrubRead a) s = .next s)) ∧
    (s.serves = true → ∀ m : Fin 25, exec (.hostReadTimeout m a) s =
      .next ((sourceError 8 m.val a s).emit (.access ⟨m, none, .read, a, 0, [], none, .clean⟩ [⟨0, true⟩] .ok)))

/-- Region entries and windows. A base word is held until its limit word comes, and both then take effect as one
change (R138, R139); a window entry takes its record or becomes invalid, and the expander forgets its blocks, unless a
tensor lies over it and the record would change it (R149). -/
def Sys2Proof.Claims.RegionEntriesAndWindows : Prop :=
  ∀ (ch : Channel) (m : Fin 25) (e : Fin 16) (val : Bytes) (s : State),
    (tenantCode (bitsOf (baseMask (leNat val)) 50 44) = true →
      Accepted (.regionEntryBase ch m e val) s (s.setTiers { s.tiers with
        pendingBase := aset s.tiers.pendingBase (m.val * 16 + e.val) (baseMask (leNat val)) })) ∧
    (∀ base, base = baseFor s m.val e.val → bitsOf base 35 0 ≤ bitsOf (leNat val) 35 0 →
      (bitOf base 63 = true → hostReach s (bitsOf base 35 0) (bitsOf (leNat val) 35 0) = true) →
      Accepted (.regionEntryLimit ch m e val) s
        (((s.setTiers { s.tiers with pendingBase := adel s.tiers.pendingBase (m.val * 16 + e.val) }).setVal
          (0x2310 + m.val) (2 * e.val + 1) base).setVal (0x2310 + m.val) (2 * e.val + 2)
            (bitsOf (leNat val) 35 0))) ∧
    (bitsOf (leNat val) 35 0 < bitsOf (baseFor s m.val e.val) 35 0 →
      TurnedDown (.regionEntryLimit ch m e val) abInconsistent s) ∧
    (val.length = 24 → tenantCode (fld val 2 1) = true → fld val 3 1 < 4 → zeroAt val 4 4 = true →
      (bitOf (fld val 3 1) 1 = false → zeroAt val 16 8 = true) → fld val 0 2 < 4096 → fld val 8 8 % 4096 = 0 →
      fld val 16 8 % 64 = 0 →
      ∀ same : Prop, (same ↔ aget s.tiers.windows (fld val 0 2) = if bitOf (fld val 3 1) 0
        then some ⟨fld val 2 1, bitOf (fld val 3 1) 1, fld val 8 8, fld val 16 8⟩ else none) →
      (windowHeld s (fld val 0 2) = true → ¬ same → TurnedDown (.windowUpdate ch val) abNotIdle s) ∧
      ((windowHeld s (fld val 0 2) = false ∨ same) → s.tiers.bufWindow = [] →
        Accepted (.windowUpdate ch val) s (s.setTiers { s.tiers with
          windows := if bitOf (fld val 3 1) 0
            then aset s.tiers.windows (fld val 0 2)
              ⟨fld val 2 1, bitOf (fld val 3 1) 1, fld val 8 8, fld val 16 8⟩
            else adel s.tiers.windows (fld val 0 2) })))

/-- Tensor commands of well-formed records (R151 to R155). CREATE in tier 3 adds a tensor that nothing was known of; with
no pin DESTROY removes it, and with one is refused; PIN and UNPIN change the pins of that tensor alone, UNPIN of none
being out of range; SET_HINT to AUTO changes the hint and releases the pin that NEAR_PIN held. A handle that is not
known is answered so. -/
def Sys2Proof.Claims.TensorCommands : Prop :=
  ∀ (ch : Channel) (val : Bytes) (s : State), val.length = 32 → commandForm ch val = true → commandRange val = true →
    (fld val 0 1 = 1 → fld val 3 1 = 3 → fld val 1 1 = 0 → bitOf (fld val 2 1) 0 = false →
      tensorOf s (commandHandle ch val) = none → s.tiers.tensors.length < 65536 →
      sourceOwned s (fld val 16 8) (fld val 8 8) (ownerOf (commandHandle ch val)) = true →
      Accepted (.tensorCreate ch val) s (addTensor s
        (newTensor (commandHandle ch val) 0 (fld val 8 8) 3 (fld val 16 8) false))) ∧
    (∀ t, tensorOf s (commandHandle ch val) = some t →
      (fld val 0 1 = 2 → t.pins = 0 →
        Accepted (.tensorDestroy ch val) s ((freeTensor s t).setTiers { (freeTensor s t).tiers with
          tensors := (freeTensor s t).tiers.tensors.filter (fun x => !decide (x.handle = t.handle))
          queue := (freeTensor s t).tiers.queue.filter (fun m => !decide (m.handle = t.handle)) })) ∧
      (fld val 0 1 = 2 → 0 < t.pins → TurnedDown (.tensorDestroy ch val) abNotIdle s) ∧
      (fld val 0 1 = 3 → fld val 1 1 = 0 → Accepted (.tensorSetHint ch val) s
        (askHint false (setTensor s t.handle (fun t =>
          { t with hint := 0, pins := t.pins - b2n t.nearPin, nearPin := false })) t.handle)) ∧
      (fld val 0 1 = 4 → t.pins < 65535 → Accepted (.tensorPin ch val) s
        (setTensor s (commandHandle ch val) (fun t => { t with pins := t.pins + 1 }))) ∧
      (fld val 0 1 = 5 → 0 < t.pins → Accepted (.tensorUnpin ch val) s
        (setTensor s (commandHandle ch val) (fun t =>
          { t with pins := t.pins - 1, nearPin := t.nearPin && decide (1 < t.pins) }))) ∧
      (fld val 0 1 = 5 → t.pins = 0 → TurnedDown (.tensorUnpin ch val) abRange s)) ∧
    (tensorOf s (commandHandle ch val) = none →
      (fld val 0 1 = 2 → TurnedDown (.tensorDestroy ch val) abExists s) ∧
      (fld val 0 1 = 3 → TurnedDown (.tensorSetHint ch val) abExists s) ∧
      (fld val 0 1 = 4 → TurnedDown (.tensorPin ch val) abExists s) ∧
      (fld val 0 1 = 5 → TurnedDown (.tensorUnpin ch val) abExists s))

/-- Quotas and the mover. A quota whose tier's sum stays within its pool is taken, and the owner's copies beyond it are
queued for eviction; one that does not is refused (R159). The mover starts the first work in class order that can
start, one at a time, never work on a tensor that is gone, and none while work of class 1 is left (R156, R162); a
finished move has its bytes and waits for the barrier, one that met poison is abandoned (R157, R352). -/
def Sys2Proof.Claims.QuotasAndMoves : Prop :=
  ∀ (ch : Channel) (idx sub : Nat) (val : Bytes) (s : State),
    (isTierQuota idx sub = true →
      (quotaSum (s.setVal idx sub (leNat val)) (quotaOwner idx sub).2 ≤ tierPool s (quotaOwner idx sub).2 →
        Accepted (.tierQuotaWrite ch idx sub val) s
          (shrinkToQuota (s.setVal idx sub (leNat val)) (quotaOwner idx sub).2 (quotaOwner idx sub).1)) ∧
      (tierPool s (quotaOwner idx sub).2 < quotaSum (s.setVal idx sub (leNat val)) (quotaOwner idx sub).2 →
        TurnedDown (.tierQuotaWrite ch idx sub val) abInconsistent s)) ∧
    (s.running = true → s.tiers.current = none → classOneLeft s = true → exec .tierMoveStart s = .next s) ∧
    (s.running = true → s.tiers.current = none → classOneLeft s = false → (∀ m ∈ s.tiers.queue, stillAsked s m = true) →
      (∀ before m after m', byClass s.tiers.queue = before ++ m :: after → (∀ x ∈ before, canStart s x = none) →
        canStart s m = some m' →
        ∃ t, exec .tierMoveStart s = .next t ∧ t = startMove s m m' ∧ t.tiers.current = some m' ∧
          t.tiers.queue = s.tiers.queue.erase m) ∧
      ((∀ m ∈ s.tiers.queue, canStart s m = none) → exec .tierMoveStart s = .next s)) ∧
    (s.running = true → ∀ m, s.tiers.current = some m →
      (∀ tier, m.kind = .drop tier → exec .tierMoveDone s = .next (landMove s m)) ∧
      (∀ t u e src, tensorOf s m.handle = some t →
        ((∃ tier, m.kind = .copyUp tier) ∧ src = t.copy1.getD t.homeAddr ∨
          (m.kind = .moveUp ∨ m.kind = .moveDown) ∧ src = t.homeAddr) →
        moveBytes s t src m.dest = (u, e) →
        (e = .done → exec .tierMoveDone s = .next (landMove u m)) ∧
        (e = .waits → exec .tierMoveDone s = .next s) ∧
        (e = .poisoned → exec .tierMoveDone s = .next
          (abandonMove (u.setTiers { u.tiers with current := none }) m m.kind.tier t.size))))

/-! ## Turns -/

namespace Sys2Proof.Claims

/-- An attempt of turn t runs, every dispatch has ended and none waits. -/
def between (s : State) (t : Turn) : Prop :=
  s.turn = some t ∧ s.running = true ∧ t.inputs = true ∧ t.reported = false ∧ t.failing = none ∧ t.busy = [] ∧
    t.queued = []

/-- A barrier is met and no lifecycle transition waits. -/
def meets (s : State) : Prop := s.custody.transition = none ∧ atBarrier s = true

end Sys2Proof.Claims

/-- R15, R17, R98: at a barrier that is not held what waits takes effect, then, unless that holds it, the next turn is
formed; a held barrier forms it once it is released. A lifecycle transition is all that happens at its barrier, and
waits for bank 0 (R123). A device that runs no turns clears what a host reset left and nothing else (R85). With a turn
running there is no barrier. -/
def Sys2Proof.Claims.TurnBarriers : Prop :=
  ∀ s : State,
    (meets s → s.serving.held = false → (barrierEffects s).serving.held = false →
      exec .turnBarrier s = .next (formNext (barrierEffects s))) ∧
    (meets s → s.serving.held = false → (barrierEffects s).serving.held = true →
      exec .turnBarrier s = .next (barrierEffects s)) ∧
    (∀ u, meets s → s.serving.held = true → copiesBack s = u →
      (stillHeld u = true → exec .turnBarrier s = .next u) ∧
      (stillHeld u = false → exec .turnBarrier s = .next (formNext (u.setServing { u.serving with held := false })))) ∧
    (s.power.refetch = [] → copiesBack s = s) ∧
    (∀ n a b, s.custody.transition = some (n, a, b) → s.serves = true → s.turn = none →
      (s.systemFree = true → exec .turnBarrier s = .next (runTransition n a b s)) ∧
      (s.systemFree = false → exec .turnBarrier s = .next s)) ∧
    (s.custody.transition = none → s.running = false → s.serves = true → s.turn = none →
      exec .turnBarrier s = .next (if s.serving.clearDue then clearServing s else s)) ∧
    (∀ t, s.turn = some t → exec .turnBarrier s = .next s)

/-- Forming a turn (R15, R60, R65, R246): a batch that may form makes the device active, counts one turn and starts its
first attempt with nothing dispatched; with none, a Ready Timeout that has run out, or a sleep command that waits, leads
to READY. A stage whose batch table waits starts that turn instead (R311). -/
def Sys2Proof.Claims.TurnsStart : Prop :=
  ∀ s : State,
    (∀ m cancels, s.ferry.batch = some (m, cancels) →
      formNext s = startStage m cancels (s.setFerry { s.ferry with batch := none })) ∧
    (∀ slot f, s.ferry.batch = none → formBatch s = some (slot, f) → inPipeline s = false →
      (formNext s).power.state = .active ∧ (formNext s).turns = (f.st.turns + 1) % 2 ^ 64 ∧
      (∃ t, (formNext s).turn = some t ∧ t.slot = slot ∧ t.batch = f.batch ∧ t.rows = f.rows ∧ t.attempt = 0 ∧
        t.next = 0 ∧ t.busy = [] ∧ t.drawn = [] ∧ t.failing = none) ∧
      f.batch.length ≤ 256 ∧ f.rows ≤ 256) ∧
    (formBatch s = none → s.power.state = .active → anyRunnable s = false →
      (s.power.readyDue = true ∨ s.power.command = some .dozeNow ∨ s.power.command = some .watchNow) →
      formNext s = s.setPower { s.power with state := .ready, readyDue := false })

/-- Layers and their routing (R213, R280): the next entry of the layer table is dispatched once the one before has
ended, in its order; logical decks that wait are started first; with a routing step due nothing is dispatched until it
has been taken, after which one routing more is kept. -/
def Obligations.LayersAndRouting : Prop :=
  ∀ (s : State) (t : Turn),
    (between s t → t.routeDue = false →
      (∀ e i, nextEntryOf s t = some (e, i) → t.next ≤ i ∧ exec .layerDispatch s = .next (dispatchEntry t (e, i) s) ∧
        (0 < t.next → assignment s e.decks (excludedNow s) ≠ [] → ∃ u v, exec .layerDispatch s = .next u ∧
          u.turn = some v ∧ v.next = i + 1 ∧ v.attempt = t.attempt ∧ v.batch = t.batch)) ∧
      (nextEntryOf s t = none → exec .layerDispatch s = .next s)) ∧
    (s.turn = some t → s.running = true → t.inputs = true → t.reported = false → t.failing = none → t.queued ≠ [] →
      exec .layerDispatch s = .next (startQueued s)) ∧
    (between s t → t.routeDue = true →
      exec .layerDispatch s = .next s ∧
      (∀ e, dueExpert s t = some e → ∃ u v, exec .routingStep s = .next u ∧ u.turn = some v ∧ v.routeDue = false ∧
        v.routings.length = t.routings.length + 1 ∧ v.next = t.next ∧ u.serving = s.serving))

/-- R284 and R288: the assignment of rows to experts keeps count. Every assignment to an expert is a slot it holds or
is dropped; an expert's slots beyond its capacity are those of the overflow pool, the pool is never exceeded, and none
is dropped while the pool has room. -/
def Obligations.AssignmentsAreCounted : Prop :=
  ∀ (e : ExpertEntry) (choices : List Choice),
    (∀ c ∈ choices, ∀ rank < e.topK, (c.experts[rank]?).getD 0 < e.experts) →
    let a := assignRows e choices
    (∀ x, x < e.experts → ∃ g n, a.groups[x]? = some g ∧ a.counts[x]? = some n ∧
      g.length + n.dropped = n.assigned ∧ g.length ≤ e.capacity + n.overflow ∧
      (0 < n.overflow → e.capacity + n.overflow = g.length)) ∧
    (a.counts.map (·.overflow)).sum = a.poolUsed ∧ a.poolUsed ≤ e.pool ∧
    (a.counts.map (·.assigned)).sum = choices.length * e.topK ∧
    (a.poolUsed < e.pool → (a.counts.map (·.dropped)).sum = 0)

/-- Sampling, the commit point and an abandoned attempt. A berth that yields draws its token from logits that are good,
and poison or a NaN among them fails the attempt (R250, R343, R350); the commit point, with everything drawn, ends the
turn on one device (R248); an attempt that failed its checks starts again with the same batch, next attempt, and
nothing dispatched or drawn (R350), while Replay Limit allows it (R353). -/
def Sys2Proof.Claims.TurnsEnd : Prop :=
  ∀ (s : State) (t : Turn), s.turn = some t →
    (∀ tag logits n e b m, t.batch[tag]? = some e → programsDone s t = true → lastStage s t.slot = true →
      e.yields = true → e.cancelled = false → aget t.drawn tag = none → berthOf s e.berth = some b →
      manifestOf s t.slot = some m →
      exec (.sampling tag logits n) s = .next (sampleBerth tag logits n m.vocab b e s) ∧
      (∀ l : List Nat, readLogits s logits (4 * m.vocab) = (s, l.flatMap (fun x => (leBytes 4 x).map (⟨·, false⟩))) →
        l.length = m.vocab → (∀ x ∈ l, x < 2 ^ 32) →
        (l.any (isNan fp32) = false → s.integrity.armed = [] → n = 0 → ∃ u v, exec (.sampling tag logits n) s = .next u ∧
          u.turn = some v ∧ v.drawn = t.drawn ++ [(tag, drawToken b e l)] ∧ v.failing = t.failing) ∧
        (l.any (isNan fp32) = true → t.failing = none → ∃ u v, exec (.sampling tag logits n) s = .next u ∧
          u.turn = some v ∧ v.failing = some .integrity ∧ v.drawn = t.drawn))) ∧
    (programsDone s t = true → t.damaged = [] → (lastStage s t.slot = true → allDrawn t = true) →
      exec .commitPoint s = .next (retryStalled (commitHere t s)) ∧
      (t.cascade = false → (commitHere t s).turn = none)) ∧
    (s.running = true → t.busy = [] → t.failing = some .integrity → t.metNow = [] →
      (t.batch.any (fun e => !e.cancelled)) = true → t.replays < s.val 0x2D01 3 → (workDecks s t.suspects) ≠ [] →
      ∃ u v, exec .attemptAbandon s = .next u ∧ u.turn = some v ∧ v.attempt = t.attempt + 1 ∧
        v.replays = t.replays + 1 ∧ v.batch = t.batch ∧ v.next = 0 ∧ v.busy = [] ∧ v.drawn = [] ∧ v.failing = none ∧
        u.mem = s.mem) ∧
    (s.running = true → t.busy = [] → ∀ bank, t.failing = some (.busy bank) → bankRuns s bank = false →
      exec .attemptAbandon s = .next (restart false s))

/-- Settings of the KV cache and the experts: a partition and a quota are taken when they fit, and else refused
(R265, R278), the partition first for a slot in use, and in pipeline layout the pilot's goes to every stage (R311); the
record ring is emptied at its new size (R290); a bias vector of finite values within the limit waits for the barrier
(R292). -/
def Obligations.KvAndExpertSettings : Prop :=
  ∀ (ch : Channel) (val : Bytes) (s : State),
    (∀ (slot : Fin 8) (sum : Nat),
      sum = ((List.range 8).map (fun i => if i = slot.val then 0 else s.val 0x2900 (i + 1))).sum + leNat val →
      (slotInUse s slot.val = true → TurnedDown (.partitionSets ch slot val) abNotIdle s) ∧
      (slotInUse s slot.val = false →
        (imageState s slot.val ≠ .ready ∨ 2097152 < sum ∨ partitionFits s slot.val (leNat val) = false →
          TurnedDown (.partitionSets ch slot val) abInconsistent s) ∧
        (imageState s slot.val = .ready → sum ≤ 2097152 → partitionFits s slot.val (leNat val) = true →
          Accepted (.partitionSets ch slot val) s
            (copyToStages slot.val 0x2900 (slot.val + 1) val (placePartition s slot.val (leNat val)))))) ∧
    (∀ t : Fin 64, quotaPages (s.setVal 0x2903 (t.val + 1) (leNat val)) ≤ allPages s →
      Accepted (.kvPageQuota ch t val) s (copyToMembers 0x2903 (t.val + 1) val (evictForQuota t.val 0 s.kv.sets.length
        (s.setVal 0x2903 (t.val + 1) (leNat val))))) ∧
    (∀ t : Fin 64, allPages s < quotaPages (s.setVal 0x2903 (t.val + 1) (leNat val)) →
      TurnedDown (.kvPageQuota ch t val) abInconsistent s) ∧
    (leNat val ≤ 65536 → tierCharge (s.setVal 0x2A01 1 (leNat val)) 1 0xFF ≤ tierQuota s 1 0xFF →
      Accepted (.ringSize ch val) s { s.setVal 0x2A01 1 (leNat val) with
        experts := { s.experts with records := [] } }) ∧
    (65536 < leNat val → TurnedDown (.ringSize ch val) abRange s) ∧
    (∀ (layer : Fin 255) x, expertLayer s (s.sel ch 0x2A00 1) layer.val = some x → ch ≠ .side →
      val.length = 4 * x.bias.length →
      (∀ i < val.length / 4, isFinite fp32 (fld val (4 * i) 4) = true ∧
        flt fp32 (limitAhead s (s.sel ch 0x2A00 1, layer.val)) (fabs fp32 (fld val (4 * i) 4)) = false) →
      Accepted (.biasVector ch layer val) s { s with experts := { s.experts with
        changes := s.experts.changes ++ [((s.sel ch 0x2A00 1, layer.val),
          .bias ((List.range (val.length / 4)).map (fun i => BitVec.ofNat 32 (fld val (4 * i) 4))))] } })

/-! ## Images -/

namespace Sys2Proof.Claims

/-- A command of 0x2701:01 whose structure and ranges hold, with no command running, from the host window. -/
def imageCommand (s : State) (ch : Channel) (val : Bytes) (op : Nat) : Prop :=
  val.length = 32 ∧ s.images.job = none ∧ imageCommandForm s val = true ∧ imageCommandRange val = true ∧
    fld val 0 1 = op ∧ (jobOf ch val).source = 0

/-- An image's slot is one of the table. -/
def hasSlot (s : State) (slot : Nat) : Prop := slot < s.images.slots.length

end Sys2Proof.Claims

/-- Image commands, once accepted, answer at once and run on (R216). An INSTALL or a LOAD is answered with the code of
the first check of R214 that its image fails; one that passes them all records the slot INSTALLING and asks for its
erases (R218), or LOADING in its places (R220). VERIFY shows VERIFYING (R226), COMMIT_VERSION advances the image's counter
to its security version (R227) and is refused for a slot that holds no image in use, a BROKEN one too (R226), REMOVE of an
empty slot does nothing and of one in use is refused (R224). A second command while one runs is refused. -/
def Sys2Proof.Claims.ImageCommands : Prop :=
  ∀ (ch : Channel) (val : Bytes) (s : State),
    (∀ r ∈ [(1, Instr.installImage), (2, Instr.loadImage)], imageCommand s ch val r.1 →
      taken s ch 0x2701 1 val.length = true →
      exec (r.2 ch val) s = .next (match readHead s 0 (jobOf ch val).sourceAddress [] with
        | (u, .error code) => answered u ch 0x2701 1 code
        | (u, .ok h) =>
          match firstFail (if r.1 = 1 then installChecks u (jobOf ch val) h else loadChecks u (jobOf ch val) h) with
          | some code => answered u ch 0x2701 1 code
          | none =>
            answered (if r.1 = 1 then beginInstall u (jobOf ch val) h else beginLoad u (jobOf ch val) h) ch 0x2701 1 0)) ∧
    (∀ j h, hasSlot s j.slot →
      (imageOf (beginInstall s j h) j.slot).st = .installing ∧ (beginInstall s j h).images.job.isSome = true ∧
      (placeImage (vacate s j.slot) h ≠ none → (imageOf (beginLoad s j h) j.slot).st = .loading)) ∧
    (imageCommand s ch val 3 → s.images.swap = none →
      ((imageOf s (jobOf ch val).slot).st = .empty → slotInUse s (jobOf ch val).slot = false →
        Accepted (.removeImage ch val) s (beginJob s (jobOf ch val) .removing none)) ∧
      (slotInUse s (jobOf ch val).slot = true → TurnedDown (.removeImage ch val) abNotIdle s)) ∧
    (imageCommand s ch val 4 →
      ((imageOf s (jobOf ch val).slot).st = .ready ∨ (imageOf s (jobOf ch val).slot).st = .suspect ∨
        (imageOf s (jobOf ch val).slot).st = .broken →
        Accepted (.imageVerify ch val) s (beginJob
          (setImage s (jobOf ch val).slot (fun im => { im with st := .verifying })) (jobOf ch val) .verifying none)) ∧
      ((imageOf s (jobOf ch val).slot).st = .empty → TurnedDown (.imageVerify ch val) abNotIdle s)) ∧
    (imageCommand s ch val 5 → versioned (imageOf s (jobOf ch val).slot).st = false →
      TurnedDown (.commitVersion ch val) abNotIdle s) ∧
    versioned .broken = false ∧
    (∀ h, imageCommand s ch val 5 → (imageOf s (jobOf ch val).slot).head = some h → h.man.rollback ≠ 0xFF →
      versioned (imageOf s (jobOf ch val).slot).st = true →
      (∀ i ∈ belowCounter s h.man.rollback h.man.security, slotInUse s i = false) →
      Accepted (.commitVersion ch val) s (beginJob (s.advanceCounter (8 + h.man.rollback)
        (h.man.security - s.counter (8 + h.man.rollback))) (jobOf ch val) .ended none)) ∧
    (val.length = 32 → s.images.job ≠ none →
      (fld val 0 1 = 1 → TurnedDown (.installImage ch val) abBusy s) ∧
      (fld val 0 1 = 3 → TurnedDown (.removeImage ch val) abBusy s) ∧
      (fld val 0 1 = 5 → TurnedDown (.commitVersion ch val) abBusy s))

/-- The end of an image command (R216): when its work and every member's is over, its result stands in 0x2701:02 and no
command runs. A REMOVE leaves its slot empty (R224); an INSTALL that passed leaves its image ready and is counted in
0x2711:01 (R218); a VERIFY leaves READY where everything passes and BROKEN where not (R226). -/
def Sys2Proof.Claims.ImageCommandsEnd : Prop :=
  ∀ (s : State) (j : ImageJob), s.images.job = some j → s.serves = true → workDone s j = true → j.members = [] →
    hasSlot s j.slot →
    (∃ t code, exec .imageCommandDone s = .next t ∧ t.images.job = none ∧ t.val 0x2701 2 = code ∧
      (j.op = 5 → code = j.result) ∧ (j.op = 3 → code = j.failure ∧ (imageOf t j.slot).st = .empty) ∧
      (j.op = 1 → (imageOf s j.slot).st = .installing → code = j.result)) ∧
    (j.op = 5 → exec .imageCommandDone s = .next (endCommand s j.result)) ∧
    (j.op = 1 → (imageOf s j.slot).st = .installing → j.failure = 0 →
      exec .imageCommandDone s = .next (endCommand ((makeReady s j.slot).bump 0x2711 1) j.result)) ∧
    (∀ h u l, j.op = 4 → (imageOf s j.slot).head = some h → keptHead s j.slot = (u, l) →
      exec .imageCommandDone s = .next (match checkHead u l with
        | .error code => endCommand (setImage u j.slot (fun im => { im with st := .broken })) code
        | .ok _ =>
          match homesPass j.slot (((List.range h.tensorTable.length).zip h.tensorTable).filter
            (fun p => holdsTensor s j.slot p.2)) u with
          | (v, ok) => endCommand (setImage v j.slot (fun im => { im with st := if ok then .ready else .broken }))
              (if ok then 0 else abSigned)))

/-- A swap under load. A request is answered with the first check that its image fails; one that passes them makes the slot
SWAPPING (R228), and one of the same image for a stalled swap is kept for RESUME (R231); a staged layer, its weight-only
tensors sealed, waits for the barrier, and one that fails before any replacement ends the swap with the slot READY (R229, R231); a copied layer is
counted and releases the barrier (R229); ABORT is for a swap that has replaced nothing, RESUME for a stalled one with a
new request (R231). -/
def Obligations.Swaps : Prop :=
  ∀ (ch : Channel) (val : Bytes) (s : State),
    (val.length = 32 → s.images.ask = none → swapForm s val = true → swapRange val = true → fld val 1 1 = 0 →
      taken s ch 0x2710 1 32 = true →
      exec (.swapRequest ch val) s = .next (match readHead s 0 (fld val 8 8) [] with
        | (u, .error code) => answered u ch 0x2710 1 code
        | (u, .ok h) =>
          if stalledSlot s = some (fld val 0 1) ∧ (s.images.swap.map (·.head)) = some h then
            answered (setSwap (u.setImages { u.images with retry := some (0, fld val 8 8) })
              (fun j => { j with pieces := [] })) ch 0x2710 1 0
          else match firstFail (swapChecks u (fld val 0 1) 0 (fld val 8 8) (fld val 16 1) h) with
          | some code => answered u ch 0x2710 1 code
          | none => answered (beginSwap u (fld val 0 1) 0 (fld val 8 8) (fld val 16 1) [] h) ch 0x2710 1 0)) ∧
    (∀ slot source a mask pieces h, hasSlot s slot → ∀ t, beginSwap s slot source a mask pieces h = t →
      (imageOf t slot).st = .swapping ∧ (t.images.swap.map (·.slot)) = some slot) ∧
    (∀ j l rest u ok, s.images.swap = some j → j.phase = .staging → j.layers = l :: rest → s.serves = true →
      layerArrived s j l = true →
      stageTensors j (stagedTensors s j l) j.area.1 (sealStaging s j l) = (u, ok) →
      exec .swapLayerStaged s =
        .next (if ok then setSwap u (fun j => { j with phase := .staged }) else stagingFailed u j)) ∧
    (∀ j l rest, s.images.swap = some j → j.phase = .copying → j.layers = l :: rest → rest ≠ [] →
      hasSlot s j.slot → ∃ t x, exec .swapCopyDone s = .next t ∧ t.images.swap = some x ∧ x.layers = rest ∧
        x.replaced = j.replaced + 1 ∧ x.phase = .staging ∧
        (imageOf t j.slot).replaced = (imageOf s j.slot).replaced + 1) ∧
    (leNat val = 0x5357_0050 →
      (s.images.swap = none → TurnedDown (.swapAbort ch val) abNotIdle s) ∧
      (∀ j, s.images.swap = some j →
        (j.replaced = 0 → j.phase ≠ .copying → Accepted (.swapAbort ch val) s (cancelSwap s j)) ∧
        (0 < j.replaced ∨ j.phase = .copying → TurnedDown (.swapAbort ch val) abNotIdle s))) ∧
    (leNat val = 0x5357_0051 → ∀ j a b, s.images.swap = some j → s.images.retry = some (a, b) →
      (j.phase ≠ .stalled → TurnedDown (.swapResume ch val) abNotIdle s) ∧
      (j.phase = .stalled → ∃ t, Accepted (.swapResume ch val) s t ∧ t.images.retry = none ∧
        t.images.swap = some { j with phase := .staging, source := a, sourceAddress := b } ∧
        t.mem = s.mem ∧ t.serving = s.serving)) ∧
    (∀ j, s.images.swap = some j → hasSlot s j.slot → (cancelSwap s j).images.swap = none ∧
      (imageOf (cancelSwap s j) j.slot).st = .ready)

/-! ## Rings -/

namespace Sys2Proof.Claims

/-- Ring r of tenant t offers entry e with an opcode: it may be fetched, it was read, and it passes steps 1 and 2 of
admission. -/
def offers (s : State) (r t op : Nat) (e : Bytes) : Prop :=
  (ringOf s r).held = none ∧ mayFetch s r = true ∧ ringTenant s r = some t ∧ nextEntry s r = some e ∧ eOp e = op ∧
    stepOne (fetched s r) e = none ∧ eTag e ≠ 0 ∧ duplicateOf (fetched s r) t (eTag e) = none

/-- The ring rows of submission entries, by opcode. -/
def entryRows : List (Nat × (Nat → Instr)) :=
  [(1, .generateReq), (2, .cancelReq), (3, .continueReq), (4, .closeReq), (5, .semSignal), (6, .semWait)]

end Sys2Proof.Claims

/-- R236: a doorbell of a ring that is disabled or whose tenant is, or with no level agreed, and one whose values do not
fit its ring, is ignored and counted in 0x2806:05; in every other case the new values replace the old. The access itself
comes over a link in L0 (R67). -/
def Obligations.Doorbells : Prop :=
  ∀ (ring : Nat) (val : BitVec 64) (s u : State), quiet s → s.power.state ≠ .offReady → ring < 65536 →
    linkActive s = u →
    (∀ r ∈ [(BellPart.both, some (bitsOf val.toNat 31 0), some (bitsOf val.toNat 63 32)),
        (.tail, some (bitsOf val.toNat 31 0), none), (.head, none, some (bitsOf val.toNat 63 32))],
      ((ringOf s ring).enabled = false ∨ s.val 0x1002 2 = 0 ∨
          (∀ t, ringTenant s ring = some t → tenantOn s t = false) →
        exec (.doorbell ring r.1 val) s = .next (u.bump 0x2806 5)) ∧
      (∀ t, (ringOf s ring).enabled = true → s.val 0x1002 2 ≠ 0 → ringTenant s ring = some t → tenantOn s t = true →
        planeRuns s = true →
        (((∃ v, r.2.1 = some v ∧ (ringOf s ring).depth < (v + 2 ^ 32 - (ringOf s ring).sqFetched) % 2 ^ 32) ∨
            (∃ v, r.2.2 = some v ∧ (ringOf s ring).depth < ((ringOf s ring).cqPosted + 2 ^ 32 - v) % 2 ^ 32)) →
          exec (.doorbell ring r.1 val) s = .next (u.bump 0x2806 5)) ∧
        ((∀ v, r.2.1 = some v → (v + 2 ^ 32 - (ringOf s ring).sqFetched) % 2 ^ 32 ≤ (ringOf s ring).depth) →
          (∀ v, r.2.2 = some v → ((ringOf s ring).cqPosted + 2 ^ 32 - v) % 2 ^ 32 ≤ (ringOf s ring).depth) →
          exec (.doorbell ring r.1 val) s = .next (setRing u ring { ringOf s ring with
            sqTail := r.2.1.getD (ringOf s ring).sqTail, cqHead := r.2.2.getD (ringOf s ring).cqHead }))))

/-- Ring records (R235): the selected ring of the tenant takes the record; turning it on zeroes its counts; a ring with
a live request may change its vector and coalescing alone; another tenant's ring does not exist. -/
def Sys2Proof.Claims.RingRecords : Prop :=
  ∀ (ch : Channel) (t : Fin 64) (val : Bytes) (s : State),
    val.length = 64 → fld val 24 1 < 2 → zeroAt val 25 7 = true → zeroAt val 40 24 = true → ringRange ch val = true →
    let r := s.sel ch (tenantObj t.val 2) 1
    (ringTenant s r = some t.val →
      (((ringOf s r).sameButSignals ((ringOf s r).with val) = true ∨ ringLive s r = false) →
        (bitOf (fld val 24 1) 0 = true → (ringOf s r).enabled = false → tenantOn s t.val = true →
          Accepted (.ringRecord ch t val) s (setRing s r ((ringOf s r).with val).fresh)) ∧
        ((bitOf (fld val 24 1) 0 = false ∨ (ringOf s r).enabled = true) →
          Accepted (.ringRecord ch t val) s (setRing s r ((ringOf s r).with val)))) ∧
      ((ringOf s r).sameButSignals ((ringOf s r).with val) = false → ringLive s r = true →
        TurnedDown (.ringRecord ch t val) abNotIdle s)) ∧
    (ringTenant s r ≠ some t.val → TurnedDown (.ringRecord ch t val) abExists s)

/-- Steps 1 and 2 of admission, for every submission entry (R234, R238, R241, R243): a reserved byte is BAD_REQUEST
detail 0x01, at level 1 what only level 2 offers is detail 0x02, and a tag that is live or remembered completes
DUPLICATE, is counted and executes nothing. -/
def Obligations.AdmissionChecks : Prop :=
  ∀ (ring t : Nat) (e : Bytes) (s : State), (ringOf s ring).held = none → mayFetch s ring = true →
    ringTenant s ring = some t → nextEntry s ring = some e →
    ∀ r ∈ entryRows, eOp e = r.1 →
      (entryForm e = false → exec (r.2 ring) s = .next
        (completeEntry (fetched s ring) ring t (eTag e) stBad 1 0 0 (!decide (eTag e = 0)))) ∧
      (entryForm e = true → s.val 0x1002 2 = 1 → needsLevel2 e = true → exec (r.2 ring) s = .next
        (completeEntry (fetched s ring) ring t (eTag e) stBad 2 0 0 (!decide (eTag e = 0)))) ∧
      (stepOne (fetched s ring) e = none → eTag e ≠ 0 → ∀ d n p,
        duplicateOf (fetched s ring) t (eTag e) = some (d, n, p) → exec (r.2 ring) s = .next
          (completeEntry ((fetched s ring).bump 0x2806 3) ring t (eTag e) stDuplicate d n p false))

/-- GENERATE and CONTINUE that pass admission (R241, R242, R244): a GENERATE takes the free berth of the lowest number
with the prompt it read, one that meets a quota or the context limit is told so and takes none, and so is one that is to
run here while no deck works; one placed on another node takes its berth there (R308). A CONTINUE makes its parked berth
ready again with its prompt appended. -/
def Sys2Proof.Claims.RequestsTakeBerths : Prop :=
  ∀ (ring t : Nat) (e : Bytes) (toks : List Nat) (s : State),
    (offers s ring t 1 e → fld e 2 1 ≤ 7 → stepThree (fetched s ring) t (fld e 2 1) e = .ok toks →
      entrance (fetched s ring) (fld e 2 1) = .admitted →
      (stepFive (fetched s ring) t (fld e 2 1) e = none → placeNode (fetched s ring) = 0 →
        noDecks (fetched s ring) = true →
        exec (.generateReq ring) s = .next (reply ring t e stFault 6 (fetched s ring))) ∧
      (stepFive (fetched s ring) t (fld e 2 1) e = none → placeNode (fetched s ring) ≠ 0 →
        exec (.generateReq ring) s = .next (takeBerth ring t (fld e 2 1) e toks (fetched s ring))) ∧
      (stepFive (fetched s ring) t (fld e 2 1) e = none → noDecks (fetched s ring) = false →
        placeNode (fetched s ring) = 0 →
        ∃ u b, exec (.generateReq ring) s = .next u ∧
          berthOf u (leastFree (s.serving.berths.map (·.num))) = some b ∧ b.tenant = t ∧ b.tag = eTag e ∧
          b.ring = ring ∧ b.slot = fld e 2 1 ∧ b.tokens = toks ∧ b.st = .ready ∧ b.delivered = 0 ∧
          b.maxNew = fld e 40 4 ∧ u.serving.berths.length = s.serving.berths.length + 1) ∧
      (∀ st d, stepFive (fetched s ring) t (fld e 2 1) e = some (st, d) →
        exec (.generateReq ring) s = .next (reply ring t e st d (fetched s ring)))) ∧
    (∀ b, offers s ring t 3 e → parkedBerth (fetched s ring) t (eTarget e) = some b →
      stepThree (fetched s ring) t b.slot e = .ok toks → entrance (fetched s ring) b.slot = .admitted →
      b.tokens.length + eCount e < contextLimit (fetched s ring) b → b.node = 0 → noDecks (fetched s ring) = false →
      exec (.continueReq ring) s = .next (continueBerth ring e toks b (fetched s ring)) ∧
      (berthOf (fetched s ring) b.num = some b →
        ∃ c, berthOf (continueBerth ring e toks b (fetched s ring)) b.num = some c ∧ c.tokens = b.tokens ++ toks ∧
          c.st = .ready ∧ c.tag = eTag e ∧ c.delivered = 0))

/-- R253 to R257: a CANCEL of a live berth masks its rows, ends its request CANCELLED and completes CANCELLED detail
0x01; of an unknown target, or one that has aged out, CANCEL_LATE detail 0x02; of a target that was cancelled,
CANCELLED detail 0x01; of one that ended otherwise, CANCEL_LATE, detail 0x01 the first time and 0x03 from then on. A
CLOSE of a parked berth completes FINISHED_STOP and leaves it closing, of a live one cancels it with detail 0x02
(R244). -/
def Sys2Proof.Claims.CancelsAndCloses : Prop :=
  ∀ (ring t : Nat) (e : Bytes) (s : State),
    (offers s ring t 2 e →
      (∀ b, liveBerth (fetched s ring) t (eTarget e) = some b → exec (.cancelReq ring) s =
        .next (reply ring t e stCancelled 1 (cancelBerth (fetched s ring) b 1))) ∧
      (liveBerth (fetched s ring) t (eTarget e) = none →
        (findDone (fetched s ring) t (eTarget e) = none → exec (.cancelReq ring) s =
          .next (reply ring t e stLate 2 ((fetched s ring).bump 0x2806 4))) ∧
        (∀ d, findDone (fetched s ring) t (eTarget e) = some d →
          (d.status = stCancelled → exec (.cancelReq ring) s = .next (reply ring t e stCancelled 1 (fetched s ring))) ∧
          (d.status ≠ stCancelled → exec (.cancelReq ring) s =
            .next (reply ring t e stLate (if d.lateMark then 3 else 1)
              (markLate ((fetched s ring).bump 0x2806 4) t (eTarget e))))))) ∧
    (offers s ring t 4 e →
      (∀ b, liveBerth (fetched s ring) t (eTarget e) = some b → exec (.closeReq ring) s =
        .next (reply ring t e stCancelled 2 (cancelBerth (fetched s ring) b 2))) ∧
      (∀ b, liveBerth (fetched s ring) t (eTarget e) = none → parkedBerth (fetched s ring) t (eTarget e) = some b →
        b.node = 0 → exec (.closeReq ring) s = .next (reply ring t e stStop 0
          (setBerth (fetched s ring) b.num (fun b => { b with st := .closing, finished := true }))))) ∧
    (∀ d : DoneEntry, findDone s t (eTarget e) = some d →
      ∃ d2, findDone (markLate s t (eTarget e)) t (eTarget e) = some d2 ∧ d2.lateMark = true ∧ d2.status = d.status ∧
        d2.delivered = d.delivered)

/-- R258 and R259: SEM_SIGNAL of a semaphore the tenant owns adds its amount, saturating at 2^64 − 1; SEM_WAIT completes
at once at its level and else holds its ring until the level is reached; another's semaphore is BAD_REQUEST. -/
def Obligations.RingSemaphores : Prop :=
  ∀ (ring t : Nat) (e : Bytes) (s : State),
    (offers s ring t 5 e → (ownsSem (fetched s ring) t (eSem e) = true → (∀ k : Fin 16, (s.decks.get k).stalled = false) →
        exec (.semSignal ring) s = .next (reply ring t e stStop 0 (setSem (fetched s ring) (eSem e)
          (min (semValue s (eSem e) + fld e 32 8) (2 ^ 64 - 1))))) ∧
      (ownsSem (fetched s ring) t (eSem e) = false →
        exec (.semSignal ring) s = .next (reply ring t e stBad 6 (fetched s ring)))) ∧
    (offers s ring t 6 e → ownsSem (fetched s ring) t (eSem e) = true →
      (fld e 32 8 ≤ semValue s (eSem e) →
        exec (.semWait ring) s = .next (reply ring t e stStop 0 (fetched s ring))) ∧
      (semValue s (eSem e) < fld e 32 8 → ∃ u, exec (.semWait ring) s = .next u ∧
        (ringOf u ring).wait = some ⟨eSem e, fld e 32 8, eTag e⟩ ∧ mayFetch u ring = false ∧
        u.serving.berths = s.serving.berths)) ∧
    (∀ w, (ringOf s ring).wait = some w → s.running = true →
      (w.level ≤ semValue s w.sem → exec (.semWaitSatisfied ring) s =
        .next (completeEntry (setRing s ring { ringOf s ring with wait := none }) ring
          ((ringTenant s ring).getD 0) w.tag stStop 0 0 0 true)) ∧
      (semValue s w.sem < w.level → exec (.semWaitSatisfied ring) s = .next s))

/-- Completions and what is held (R239, R240, R251, R252, R262). A completion's 32 bytes lie at its place in the queue,
with phase 1 in the first pass and inverted in each next, and cq_posted counts it; other bytes of the host stay. With
output held it waits, and wakes the host where it leaves fewer than 512 entries of the hold free, and the flush writes what
waited, in order. A coalescing time that ends sends one message. -/
def Obligations.CompletionsArePosted : Prop :=
  ∀ (s : State) (c : Completion),
    (∀ x, ringOf s c.ring = x → x.enabled = true → s.host.writable (x.cqBase + 32 * (x.cqPosted % x.depth)) 32 = true →
      cellsWf (fun _ => 0) s.host.cells = true →
      let t := writeCompletion s c
      t.host.bytes (x.cqBase + 32 * (x.cqPosted % x.depth)) 32 = c.bytes (decide (x.cqPosted / x.depth % 2 = 0)) ∧
      (∀ a, ¬(x.cqBase + 32 * (x.cqPosted % x.depth) ≤ a ∧ a < x.cqBase + 32 * (x.cqPosted % x.depth) + 32) →
        t.host.byte a = s.host.byte a) ∧
      (ringOf t c.ring).cqPosted = (x.cqPosted + 1) % 2 ^ 32 ∧ t.mem = s.mem ∧ t.decks = s.decks) ∧
    (c.ring < 65536 → holding s = true → ∀ t, t = s.setServing { s.serving with hold := s.serving.hold ++ [c] } →
      (s.serving.hold.length < 1536 → postCompletion s c = t) ∧
      (1536 ≤ s.serving.hold.length →
        postCompletion s c = hostWake t (if c.berth = 0xFFFF then ringMark c.ring else c.berth) .full)) ∧
    (hostUp s = true → s.running = true → s.serving.berths.all (fun b => b.staging.isEmpty) = true →
      exec .heldOutputFlush s =
        .next (s.serving.hold.foldl writeCompletion (s.setServing { s.serving with hold := [] }))) ∧
    (∀ ring x, ringOf s ring = x → x.enabled = true → 0 < x.unsignalled → 0 < x.coalesceTime → x.vector ≠ 0xFFFF →
      exec (.coalesceTime ring) s = .next ((setRing s ring { x with unsignalled := 0 }).emit (.msix x.vector)))

/-- R244, R308: a berth parked for Park Limit goes without a completion, once its records have been taken, at the node it
was placed on too; with no limit set it stays. -/
def Sys2Proof.Claims.ParkLimits : Prop :=
  ∀ (n : Nat) (b : Berth) (s : State), berthOf s n = some b → b.st = .parked → s.running = true →
    (s.val (tenantObj b.tenant 0) 2 ≠ 0 → ∀ u, u = (if b.node = 0 then s else sendFree s b.node n) →
      (b.staging = [] → exec (.parkLimit n) s = .next (freeBerth u b)) ∧
      (b.staging ≠ [] → exec (.parkLimit n) s = .next (setBerth u n (fun x => { x with st := .closing })))) ∧
    (berthOf (freeBerth s b) b.num = none ∧ (freeBerth s b).serving.hold = s.serving.hold ∧
      (freeBerth s b).out = s.out) ∧
    (s.val (tenantObj b.tenant 0) 2 = 0 → exec (.parkLimit n) s = .next s)

/-! ## The ferry -/

namespace Sys2Proof.Claims

/-- A packet of a kind comes to a port and is delivered here, and leaves t before its kind acts. -/
def delivered (s : State) (port : Fin 3) (p : Packet) (kind : Nat) (t : State) : Prop :=
  p.kind = kind ∧ arrive s port.val p = (t, true)

/-- A slow-crossing frame of a type comes to a port and is delivered here. -/
def crossed (s : State) (port : Fin 3) (f : Bytes) (type : Nat) (t : State) : Prop :=
  fld f 1 1 = type ∧ slowArrive s port.val f = (t, true)

/-- The packet is a whole message: it ends one, and no earlier packet of its kind from its source waits. -/
def wholeMessage (t : State) (p : Packet) : Prop :=
  endsMessage p = true ∧ aget t.ferry.messages (p.src, p.kind) = none

/-- The state once a message has been taken: nothing of it waits. -/
def gathered (t : State) (p : Packet) : State :=
  t.setFerry { t.ferry with messages := adel t.ferry.messages (p.src, p.kind) }

/-- The packet rows (Packet kinds). What a packet does is its kind's, whichever row it comes by (log 104). -/
def packetRows : List (Fin 3 → Packet → Instr) :=
  [.idlePacket, .nakPacket, .helloPacket, .joinPacket, .dictPacket, .berthPacket, .batchTable, .commitReport, .turnCommit,
   .semsigPacket, .writePacket, .readPacket, .readData, .downshift, .lossPacket]

/-- The rows of slow-crossing frames (Slow-crossing frame). -/
def slowRows : List (Fin 3 → Bytes → Instr) := [.keepalive, .wakeFrame, .dictReq, .dictRsp]

end Sys2Proof.Claims

/-- A port takes packets in order. One that is not at full rate takes none. A corrupted packet is counted in 0x2B04 and
discarded (R297); the packet with the next link_seq is accepted and moves it on; a repeat among the last 64 is discarded
and acknowledged once more in an IDLE. An accepted packet for the neighbour, or of no flow, is delivered; another for
this node is delivered if its flow_seq is the next of its flow, and that has no gap (R298, R301). A packet that is not
delivered changes what its arrival does. -/
def Obligations.PacketsAreTakenInOrder : Prop :=
  ∀ (port : Fin 3) (p : Packet) (s : State),
    (∀ r ∈ packetRows, ∀ t, arrive s port.val p = (t, false) → exec (r port p) s = .next (settleGaps t)) ∧
    (∀ t, t.ferry.role ≠ .pilot ∨ t.ferry.gaps = [] → settleGaps t = t) ∧
    ((s.port port.val).st ≠ .full → arrive s port.val p = (s, false)) ∧
    ((s.port port.val).st = .full → p.wellFormed = false →
      (arrive s port.val p).2 = false ∧
      (arrive s port.val p).1.val 0x2B04 (port.val + 1) = (s.count 0x2B04 (port.val + 1) + 1) % 2 ^ 64 ∧
      ((arrive s port.val p).1.port port.val).rxSeq = (s.port port.val).rxSeq) ∧
    ((s.port port.val).st = .full → p.wellFormed = true → 2 ≤ p.kind →
      (p.linkSeq = (s.port port.val).rxSeq →
        ((arrive s port.val p).1.port port.val).rxSeq = ((s.port port.val).rxSeq + 1) % 256 ∧
        (p.dst = 0 → (arrive s port.val p).2 = true) ∧
        (p.dst ≠ 0 → p.dst ≠ 15 → p.dst = ownNode s → p.flowless = true → (arrive s port.val p).2 = true) ∧
        (p.dst ≠ 0 → p.dst ≠ 15 → p.dst = ownNode s → p.flowless = false →
          (arrive s port.val p).2 =
            (!s.ferry.gaps.contains (flowKey p) && decide (p.flowSeq = agetD s.ferry.flowRx (flowKey p) 0)))) ∧
      (p.linkSeq ≠ (s.port port.val).rxSeq → ((s.port port.val).rxSeq + 256 - p.linkSeq) % 256 ≤ 64 →
        ∀ t, takeAck s port.val p = t → arrive s port.val p =
          (sendBare (t.setPort port.val { t.port port.val with ackOwed := true }) port.val 0, false)))

/-- Flows (R301). A packet ahead of its flow's next sequence is a gap: it and the rest of the flow are discarded until a
reset, after which the flow begins again with 0. A control packet stays with its source until its destination has
acknowledged it, and goes out again when its flow is reset. The messages that report and reset are the model's
(log 66). -/
def Obligations.FlowsAreCheckedAndReset : Prop :=
  ∀ s : State,
    (∀ p, s.ferry.gaps.contains (flowKey p) = false →
      (p.flowSeq = agetD s.ferry.flowRx (flowKey p) 0 → (flowCheck s p).2 = true ∧
        aget (flowCheck s p).1.ferry.flowRx (flowKey p) = some ((agetD s.ferry.flowRx (flowKey p) 0 + 1) % 2 ^ 16)) ∧
      (p.flowSeq ≠ agetD s.ferry.flowRx (flowKey p) 0 →
        ((agetD s.ferry.flowRx (flowKey p) 0 + 2 ^ 16 - p.flowSeq) % 2 ^ 16 < 2 ^ 15 → flowCheck s p = (s, false)) ∧
        (2 ^ 15 ≤ (agetD s.ferry.flowRx (flowKey p) 0 + 2 ^ 16 - p.flowSeq) % 2 ^ 16 →
          (flowCheck s p).2 = false ∧ (flowCheck s p).1.ferry.gaps = s.ferry.gaps ++ [flowKey p] ∧
          ∀ q, flowKey q = flowKey p → flowCheck (flowCheck s p).1 q = ((flowCheck s p).1, false)))) ∧
    (∀ key, (resetRx key s).ferry.gaps.contains key = false ∧ agetD (resetRx key s).ferry.flowRx key 0 = 0 ∧
      (∀ k, k ≠ key → agetD (resetRx key s).ferry.flowRx k 0 = agetD s.ferry.flowRx k 0)) ∧
    (∀ node kind flags context payload q, aget s.ferry.routes node = some q →
      ∃ p, (sendTo s node kind 0 flags context payload).ferry.sent = s.ferry.sent ++ [(node, p)] ∧ p.payload = payload ∧
        aget (sendTo s node kind 0 flags context payload).ferry.flowTx (node, 0) =
          some ((agetD s.ferry.flowTx (node, 0) 0 + 1) % 2 ^ 16)) ∧
    (∀ port p t, delivered s port p 0 t →
      exec (.idlePacket port p) s = .next (settleGaps (if p.dst = 0 then t else dropSent t p.src p.flowSeq)) ∧
      ∀ x ∈ (dropSent t p.src p.flowSeq).ferry.sent, x.1 = p.src → x.2.flowSeq ≠ p.flowSeq) ∧
    (∀ node q, aget s.ferry.routes node = some q →
      ((resetTx node 0 s).ferry.sent.filter (fun x => decide (x.1 = node))).map (·.2.payload) =
        (s.ferry.sent.filter (fun x => decide (x.1 = node))).map (·.2.payload)) ∧
    (∀ node cls, cls ≠ 0 → aget (resetTx node cls s).ferry.flowTx (node, cls) = none)

/-- Links. An acknowledgement drops what it covers and credits add up; a NAK or a timeout resends everything
unacknowledged, each packet counted in 0x2B05, or takes the link down after eight resends in a row (R298); a link
trains with 4, 2 or 1 lanes or stays down (R295), starting afresh if it was down and going on where it was if it
comes from slow crossing; DOWNSHIFT drops it to slow crossing, and what waits there asks for full rate (R296). In slow
crossing each end sends KEEPALIVEs, a valid frame resets the silence, one that is not valid is discarded, and ten silent
periods take the link down (R302). -/
def Obligations.LinksRetryTrainAndFall : Prop :=
  ∀ (port : Fin 3) (s : State),
    (∀ p t, (s.port port.val).st = .full → (s.port port.val).outbox = [] → s.ferry.broadcasts = [] →
      p.wellFormed = true → p.dst = 0 → delivered s port p 0 t →
      (t.port port.val).unacked = ackedDrop (s.port port.val).unacked p.linkAck ∧
      (t.port port.val).credits = addCredits (s.port port.val).credits p) ∧
    (∀ p t, delivered s port p 1 t → (t.port port.val).resends < 8 →
      exec (.nakPacket port p) s = .next (settleGaps (resend t port.val))) ∧
    (∀ p t, delivered s port p 1 t → 8 ≤ (t.port port.val).resends →
      exec (.nakPacket port p) s = .next (settleGaps (linkDown port.val t))) ∧
    ((s.port port.val).st = .full → (s.port port.val).unacked.isEmpty = false → (s.port port.val).resends < 8 →
      ∃ t, exec (.retryTimeout port) s = .next t ∧
        t.out = s.out ++ (s.port port.val).unacked.map (Out.packet port.val) ∧
        t.val 0x2B05 (port.val + 1) =
          (s.count 0x2B05 (port.val + 1) + (s.port port.val).unacked.length) % 2 ^ 64 ∧
        t.port port.val = { s.port port.val with resends := (s.port port.val).resends + 1 } ∧ t.mem = s.mem) ∧
    ((s.port port.val).st = .full → (s.port port.val).unacked.isEmpty = false → 8 ≤ (s.port port.val).resends →
      exec (.retryTimeout port) s = .next (linkDown port.val s)) ∧
    (s.ferry.role = .unmoored → ((linkDown port.val s).port port.val).st = .down ∧
      (linkDown port.val s).mem = s.mem ∧ (linkDown port.val s).decks = s.decks) ∧
    (lanesLeft [] = some 4 ∧ (∀ failed, 0 ∈ failed → lanesLeft failed = none) ∧
      (∀ failed, 0 ∉ failed → 1 ∈ failed → lanesLeft failed = some 1) ∧
      (∀ failed, failed ≠ [] → 0 ∉ failed → 1 ∉ failed → lanesLeft failed = some 2)) ∧
    (∀ failed k, ferryAwake s = true → bitOf (s.val 0x2B30 1) port.val = true → s.ferry.ports.length = 3 →
      lanesLeft failed = some k → (s.port port.val).st ≠ .full →
      ∃ t, exec (.linkTrained port failed) s = .next t ∧ (t.port port.val).st = .full ∧
        (t.port port.val).lanes = k ∧
        (t.port port.val).rxSeq = (if (s.port port.val).st = .down then 0 else (s.port port.val).rxSeq)) ∧
    (∀ failed, ferryAwake s = true → lanesLeft failed = none → (s.port port.val).st ≠ .full →
      exec (.linkTrained port failed) s =
        .next (if portUp s port.val then linkDown port.val s else s)) ∧
    (∀ p t u, delivered s port p 11 t → t.ferry.ports.length = 3 → takeDownshift port.val t = u →
      exec (.downshift port p) s = .next (settleGaps u) ∧ (u.port port.val).st = .slow ∧
        (u.port port.val).unacked = (t.port port.val).unacked ∧
        (u.port port.val).outbox = (t.port port.val).outbox ∧
        ((t.port port.val).unacked = [] → (t.port port.val).outbox = [] → u.out = t.out) ∧
        ((t.port port.val).unacked ≠ [] ∨ (t.port port.val).outbox ≠ [] → (u.port port.val).wakeSent = true)) ∧
    (∀ f, (s.port port.val).st ≠ .down → slowValid f = true → fld f 1 1 = 1 →
      (fld f 2 1 / 16 = 0 ∨ fld f 2 1 / 16 = ownNode s) →
      exec (.keepalive port f) s = .next (s.setPort port.val { s.port port.val with silence := 0 })) ∧
    (∀ f, (s.port port.val).st = .down ∨ slowValid f = false → ∀ r ∈ slowRows, exec (r port f) s = .next s) ∧
    (∃ t, exec .keepalivePeriod s = .next t ∧
      t.out = s.out ++ (((List.range 3).filter (fun n => decide ((s.port n).st = .slow))).map
        (fun n => Out.slowFrame n (slowFrameOf 1 (ownNode s) []))) ∧
      ∀ n < 3, (s.port n).st = .slow → t.port n = { s.port n with silence := (s.port n).silence + 1 }) ∧
    ((s.port port.val).st = .slow → 10 ≤ (s.port port.val).silence →
      exec (.keepaliveSilence port) s = .next (linkDown port.val s)) ∧
    ((s.port port.val).silence < 10 → exec (.keepaliveSilence port) s = .next s)

/-- Joining. A HELLO of another device is kept, the latest of its device by its port, and a neighbour's node is known
by it. With no PILOT strap heard every device is unmoored with reason 0x02, with several with 0x03, with a device in
harbour mode with 0x07; the pilot of a first cascade whose devices all fit joins them (R303). A JOIN makes a
member, with the routes it carries and no level of its own host (R49), or refuses it (R304); a device with the strap or in
harbour mode takes none (R94). A member that hears of a loss takes the node out of its mask (R316). -/
def Obligations.DevicesJoin : Prop :=
  ∀ (s : State),
    (∀ port p t u h, delivered s port p 2 t → helloOf p port.val = some h → h.uniqueId ≠ t.part.uniqueId →
      takeHello port.val p t = u →
      exec (.helloPacket port p) s = .next (settleGaps u) ∧ h ∈ u.ferry.hellos ∧
        (∀ x ∈ u.ferry.hellos, x.uniqueId = h.uniqueId → x.port = h.port → x = h) ∧
        (h.hops = 0 → t.ferry.ports.length = 3 → (u.port port.val).neighbour = h.node)) ∧
    (∀ port p t h, delivered s port p 2 t → helloOf p port.val = some h → h.uniqueId = t.part.uniqueId →
      exec (.helloPacket port p) s = .next (settleGaps t)) ∧
    (s.ferry.hellos.isEmpty = false → s.serves = true →
      ((othersHeard s).all (fun h => !h.pilot) = true → pilotStrap s = false →
        ∃ t, exec .joinDecision s = .next t ∧ t.ferry.role = .unmoored ∧ t.ferry.reason = 2 ∧ t.ferry.joined = 0) ∧
      (pilotStrap s = true → (othersHeard s).any (·.pilot) = true →
        ∃ t, exec .joinDecision s = .next t ∧ t.ferry.role = .unmoored ∧ t.ferry.reason = 3 ∧ t.ferry.joined = 0) ∧
      (pilotStrap s = true → (othersHeard s).any (·.pilot) = false → s.inHarbour = true →
        ∃ t, exec .joinDecision s = .next t ∧ t.ferry.role = .unmoored ∧ t.ferry.reason = 7 ∧ t.ferry.joined = 0) ∧
      (pilotStrap s = true → (othersHeard s).any (·.pilot) = false → s.inHarbour = false →
        s.ferry.role = .unmoored → s.ferry.joined = 0 → othersHeard s ≠ [] →
        (othersHeard s).all (fun h => decide (memberReason s (othersHeard s) h = 0)) = true →
        ∃ t, exec .joinDecision s = .next t ∧ t.ferry.role = .pilot ∧ t.ferry.reason = 0 ∧ t.ferry.proto = 1 ∧
          t.ferry.pilotNode = s.nodeId ∧
          t.ferry.joined = (othersHeard s).foldl (fun m h => m ||| (1#8 <<< (h.node - 1)))
            (1#8 <<< (s.nodeId - 1)))) ∧
    (∀ port p t u, delivered s port p 3 t → takeJoinPacket p t = u →
      exec (.joinPacket port p) s = .next (settleGaps u) ∧
      (pilotStrap t = true ∨ t.inHarbour = true → u = t) ∧
      (pilotStrap t = false → t.inHarbour = false →
        (fld p.payload 0 1 = 1 → u.ferry.role = .member ∧
          u.ferry.joined = BitVec.ofNat 8 (fld p.payload 2 1) ∧ u.ferry.proto = fld p.payload 4 2 ∧
          u.ferry.pilotNode = fld p.payload 3 1 ∧ (t.ferry.role = .unmoored → u.val 0x1002 2 = 0) ∧
          ∀ i < 8, fld p.payload (8 + i) 1 < 3 → aget u.ferry.routes (i + 1) = some (fld p.payload (8 + i) 1)) ∧
        (fld p.payload 0 1 ≠ 1 → u.ferry.role = .unmoored ∧ u.ferry.reason = fld p.payload 1 1))) ∧
    (∀ port p t, delivered s port p 12 t → p.dst ≠ 0 → t.ferry.role = .member → p.src = t.ferry.pilotNode →
      1 ≤ fld p.payload 0 1 → fld p.payload 0 1 ≤ 8 → fld p.payload 1 1 < 0x80 →
      exec (.lossPacket port p) s = .next (settleGaps (nodeLost (fld p.payload 0 1) (fld p.payload 1 1) t))) ∧
    (∀ n reason, 1 ≤ n → n ≤ 8 → s.turn = none → s.images.job = none → s.images.ask = none → s.images.swap = none →
      (nodeLost n reason s).ferry.joined = s.ferry.joined &&& ~~~ (1#8 <<< (n - 1)) ∧ (nodeLost n reason s).mem = s.mem ∧
      (∀ r ∈ (nodeLost n reason s).ferry.reads, r.node = n → r.whole = true))

/-- What crosses devices. Dictionary frames: the pilot's request is served by the member, and a response answers the
channel that its request came on (R46, R47, R314). Requests: the pilot's BERTH messages place, close, cancel and finish
berths (R294, R308). Turns: a batch table waits for the stage's barrier and starts a turn there (R17, R311), a report is
taken by the pilot alone, and a turn-commit by a member that has reported that turn (R307). Semaphores: a signal of a
joined node applies only from an allowed one, else it is counted in 0x2B10:03 (R312). -/
def Obligations.DevicesExchange : Prop :=
  ∀ (port : Fin 3) (s : State),
    (∀ p t, delivered s port p 4 t →
      exec (.dictPacket port p) s = .next (settleGaps (dictArrive .usual p.src p.payload t))) ∧
    (∀ f t, crossed s port f 3 t →
      exec (.dictReq port f) s = .next (dictArrive .slowCrossing (fld f 2 1 % 16) (slowPayload f) t)) ∧
    (∀ f t, crossed s port f 4 t →
      exec (.dictRsp port f) s = .next (dictArrive .slowCrossing (fld f 2 1 % 16) (slowPayload f) t)) ∧
    (∀ way src f, (f.length ≠ 64 → dictArrive way src f s = s) ∧ (f.length = 64 →
      (frOp f < 128 → s.ferry.role = .member → src = s.ferry.pilotNode →
        dictArrive way src f s = arriveFrame .fwd f way s) ∧
      (frOp f < 128 → s.ferry.role ≠ .member → dictArrive way src f s = s) ∧
      (128 ≤ frOp f → ∀ g, s.ferry.forwards.find? (fun x => x.answeredBy src f) = some g → g.origin ≠ .fwd →
        dictArrive way src f s = respond g.origin g.frame f (dropForward g s)) ∧
      (128 ≤ frOp f → s.ferry.forwards.all (fun x => !x.answeredBy src f) = true → dictArrive way src f s = s))) ∧
    (∀ p t, delivered s port p 5 t → fromPilot t p = true → wholeMessage t p →
      exec (.berthPacket port p) s = .next (settleGaps (takeBerthMessage p.context p.payload (gathered t p)))) ∧
    (∀ p t, delivered s port p 5 t → fromPilot t p = false → exec (.berthPacket port p) s = .next (settleGaps t)) ∧
    (∀ num m b, berthOf s num = some b →
      (fld m 0 1 = 4 → berthOf (takeBerthMessage num m s) num = some { b with st := .closing, finished := true }) ∧
      (fld m 0 1 = 5 → berthOf (takeBerthMessage num m s) num = some { b with finished := true }) ∧
      (fld m 0 1 = 1 → ∃ c, berthOf (takeBerthMessage num m s) num = some c ∧ c.st = .ready ∧
        c.tokens = b.tokens ++ tokensOf m 68 ∧ c.signal = false) ∧
      (fld m 0 1 = 2 →
        (inPipeline s = false →
          berthOf (takeBerthMessage num m s) num = some { b with st := .closing, finished := true }) ∧
        ∀ t, s.turn = some t → (takeBerthMessage num m s).turn = some { t with
          batch := t.batch.map (fun x => if x.berth = num then { x with cancelled := true } else x) })) ∧
    (∀ num m, berthOf s num = none → fld m 0 1 = 1 →
      (∀ status detail, entrance s (fld (slice m 4 64) 2 1) ≠ .refused status detail) →
      ∃ c, berthOf (takeBerthMessage num m s) num = some c ∧ c.st = .ready ∧ c.tokens = tokensOf m 68 ∧
        c.tenant = fld m 1 1 ∧ c.ring = 0x10000 + num) ∧
    (∀ p t, delivered s port p 6 t → p.context % 4 = 0 → fromPilot t p = true → t.running = true →
      wholeMessage t p → exec (.batchTable port p) s = .next (settleGaps (takeTable p.payload (gathered t p)))) ∧
    (∀ m u, s.turn = none → s.custody.transition = none → u = s.setFerry { s.ferry with batch := some (m, []) } →
      (atBarrier s = true → takeTable m s = meetBarrier u) ∧ (atBarrier s = false → takeTable m s = u)) ∧
    (∀ m cancels, (∀ status detail, entrance s (fld m 4 1) ≠ .refused status detail) →
      ∃ t, (startStage m cancels s).turn = some t ∧ t.number = fld m 0 4 ∧ t.slot = fld m 4 1 ∧ t.cascade = true) ∧
    (∀ p t, delivered s port p 6 t → p.context % 4 = 1 → fromMember t p = true → wholeMessage t p →
      exec (.commitReport port p) s = .next (settleGaps (takeReport p.src p.payload (gathered t p)))) ∧
    (∀ p t, delivered s port p 6 t → p.context % 4 = 1 → fromMember t p = false →
      exec (.commitReport port p) s = .next (settleGaps t)) ∧
    (∀ p t, delivered s port p 6 t → p.context % 4 = 2 → fromPilot t p = true → wholeMessage t p →
      exec (.turnCommit port p) s = .next (settleGaps (takeCommit p.payload (gathered t p)))) ∧
    (∀ m, (∀ t, s.turn = some t → t.cascade = false ∨ t.reported = false ∨ t.number ≠ fld m 0 4) →
      takeCommit m s = s) ∧
    (∀ p t, delivered s port p 7 t →
      exec (.semsigPacket port p) s = .next (settleGaps (serveLatched (takeSignal p t)))) ∧
    (∀ p, (joinedNodes s).contains p.src = false → takeSignal p s = s) ∧
    (∀ p, (joinedNodes s).contains p.src = true → fld p.payload 0 2 < 1024 →
      (bitOf (nodesAllowed s (fld p.payload 0 2)) (p.src - 1) = true →
        takeSignal p s = signalNow (wake 16 s) (fld p.payload 0 2) (fld p.payload 2 8)) ∧
      (bitOf (nodesAllowed s (fld p.payload 0 2)) (p.src - 1) = false →
        takeSignal p s = (wake 16 s).bump 0x2B10 3)) ∧
    (asleep s = false → wake 16 s = s) ∧ (s.inbox = [] → serveLatched s = s) ∧
    (∀ n v, (∀ k : Fin 16, (s.decks.get k).stalled = false) → signalNow s n v = signalSem s n v)

/-- Memory of other devices, the layout and the stage maps. A WRITE of activations or KV is written by the ferry inbound
master of its port, one of weights goes to the image command or swap it is for, a READ is answered from memory, poison
where it may not read, and READ_DATA goes to the oldest read of its class that awaits it (R313, R315). The layout and the
stage maps are written only while the cascade is idle, the layout taking effect between turns (R17, R306, R310), and the
pilot's write goes to every member. -/
def Obligations.RemoteMemoryAndLayout : Prop :=
  ∀ (s : State),
    (∀ port p t, delivered s port p 8 t → p.cls ≠ 1 → (t.turn = none ∨ endsMessage p = false) →
      exec (.writePacket port p) s = .next (settleGaps (serveLatched
        (memWrite (query t (21 + port.val) .write) t (fld p.payload 0 8) ((p.payload.drop 8).map (⟨·, false⟩))).1))) ∧
    (∀ port p t, delivered s port p 8 t → p.cls = 1 →
      (p.dst ≠ 15 ∨ bitOf (p.context / 256) (t.nodeId - 1) = true →
        exec (.writePacket port p) s = .next (settleGaps (serveLatched (takeBroadcast (p.context % 8) (fld p.payload 0 8)
          ((p.payload.drop 8).map (⟨·, false⟩)) t)))) ∧
      (p.dst = 15 → bitOf (p.context / 256) (t.nodeId - 1) = false →
        exec (.writePacket port p) s = .next (settleGaps (serveLatched t)))) ∧
    (∀ port p t, delivered s port p 9 t → 1 ≤ fld p.payload 8 4 → fld p.payload 8 4 ≤ 512 → 1 ≤ p.src →
      ∃ octs, octs.length = fld p.payload 8 4 ∧
        octs = ((memRead (query t (21 + port.val) .read) t (fld p.payload 0 8) (fld p.payload 8 4)).2.1
          ++ poison (fld p.payload 8 4)).take (fld p.payload 8 4) ∧
        exec (.readPacket port p) s = .next (settleGaps (sendReadData
          (memRead (query t (21 + port.val) .read) t (fld p.payload 0 8) (fld p.payload 8 4)).1 p.src p.cls octs))) ∧
    (∀ port p t r l, delivered s port p 10 t → t.ferry.reads = r :: l → r.node = p.src → r.whole = false →
      readClass r = p.cls →
      exec (.readData port p) s = .next (settleGaps (retryStalled (retryPrograms (retryReads (t.setFerry { t.ferry with
        reads := { r with
          got := r.got ++ p.payload.map (⟨·, bitOf p.context 0⟩)
          whole := decide (r.len ≤ r.got.length + p.payload.length) } :: l })))))) ∧
    (∀ ch val u, cascadeIdle s = true → leNat val ≤ 1 → toMembers 0x2B01 0 false val (s.setVal 0x2B01 0 (leNat val)) = u →
      (s.turn = none → Accepted (.layoutWrite ch val) s (layoutAtBarrier u)) ∧
      (s.turn ≠ none → Accepted (.layoutWrite ch val) s u)) ∧
    ((layoutAtBarrier s).ferry.layout = s.val 0x2B01 0) ∧
    (∀ ch val, cascadeIdle s = false → TurnedDown (.layoutWrite ch val) abNotIdle s) ∧
    (∀ ch slot val, val.length = 256 → cascadeIdle s = true → mapFits s (mappedLayers s slot.val val) = true →
      Accepted (.stageMap ch slot val) s (toMembers 0x2B02 (slot.val + 1) true val (s.setFerry { s.ferry with
        stageMaps := aset s.ferry.stageMaps slot.val val
        told := s.ferry.told.filter (fun p => !decide (p.1.2 = slot.val))
        orphaned := s.ferry.orphaned.filter (fun i => !decide (i = slot.val)) }))) ∧
    (∀ ch slot val, val.length = 256 → cascadeIdle s = true → mapFits s (mappedLayers s slot.val val) = false →
      TurnedDown (.stageMap ch slot val) abInconsistent s)

/-! ## Video and camera -/

namespace Sys2Proof.Claims

/-- Nothing waits for the context's frame boundary. -/
def atRest (x : Context) : Prop := x.staged = none ∧ x.flushing = false ∧ x.closing = false

/-- The ABORTED completions of a context's queued jobs, in order (R338, R320). -/
def endedJobs (s : State) (c : Nat) : List MediaCompletion :=
  (s.ctx c).jobs.zipIdx.map (fun p => ⟨p.1.tag, 5, 0xFF, 0, 0, (s.ctx c).frames, 0, s.media.posted + p.2⟩)

/-- One camera channel receives the packet's virtual channel, and the device runs. -/
def hears (s : State) (vc k : Nat) : Prop := s.running = true ∧ camsOf s vc = [k]

/-- The rows of short packets (R335). -/
def shortRows : List (ShortPacket → Instr) := [.frameStart, .frameEnd, .lineStart, .lineEnd]

end Sys2Proof.Claims

/-- Stream contexts. OPEN takes a closed context whose record is well formed, in range and within what its pipeline has
left (R321); PAUSE and RESUME change between open and paused; CLOSE and FLUSH end a context's queued jobs with
ABORTED completions, and what a frame in progress holds waits for its boundary (R338, R320). A closed context's
record is written freely, an open one's only in what may change (R337). -/
def Obligations.StreamContexts : Prop :=
  ∀ (ch : Channel) (val : Bytes) (c : Nat) (s : State), selCtx ch s = some c →
    (leNat val = 0x53570060 → (s.ctx c).st = .closed → recFormed (s.ctx c).record = true →
      recRanges (s.ctx c).record = true → recFits s c (s.ctx c).record = true →
      Accepted (.contextOpen ch val) s (s.setCtx c { s.ctx c with st := .opened, waited := 0, skipping := false })) ∧
    (leNat val = 0x53570060 → (s.ctx c).st ≠ .closed → TurnedDown (.contextOpen ch val) abNotIdle s) ∧
    (leNat val = 0x53570061 → (s.ctx c).st = .opened →
      Accepted (.contextPause ch val) s (s.setCtx c { s.ctx c with st := .paused })) ∧
    (leNat val = 0x53570062 → (s.ctx c).st = .paused →
      Accepted (.contextResume ch val) s (s.setCtx c { s.ctx c with st := .opened })) ∧
    (leNat val = 0x53570063 → (s.ctx c).st ≠ .closed →
      ((s.ctx c).running = true →
        Accepted (.contextClose ch val) s (s.setCtx c { s.ctx c with closing := true })) ∧
      ((s.ctx c).running = false → taken s ch 0x2C10 3 val.length = true →
        ∃ t, exec (.contextClose ch val) s = .next t ∧ (t.ctx c).st = .closed ∧ (t.ctx c).jobs = [] ∧
          (t.ctx c).refs = [] ∧ (t.ctx c).completions = (s.ctx c).completions ++
            endedJobs s c ∧ t.mem = s.mem)) ∧
    (leNat val = 0x53570064 → (s.ctx c).st ≠ .closed → taken s ch 0x2C10 3 val.length = true →
      ∃ t, exec (.contextFlush ch val) s = .next t ∧ (t.ctx c).jobs = [] ∧
        (t.ctx c).flushing = (s.ctx c).running ∧ (t.ctx c).completions = (s.ctx c).completions ++
          endedJobs s c ∧ t.mem = s.mem) ∧
    (val.length = 32 → (s.ctx c).st = .closed →
      Accepted (.contextRecord ch val) s (s.setCtx c { s.ctx c with record := val })) ∧
    (val.length = 32 → (s.ctx c).st ≠ .closed → sameFixed val (s.ctx c).record = false →
      TurnedDown (.contextRecord ch val) abNotIdle s) ∧
    (val.length = 32 → (s.ctx c).st ≠ .closed → sameFixed val (s.ctx c).record = true → recFormed val = true →
      recRanges val = true → recFits s c val = true → (s.ctx c).running = true →
      Accepted (.contextRecord ch val) s (s.setCtx c { s.ctx c with staged := some val }))

/-- Jobs and frame buffers. A job of an open context with room joins its queue (R323); a well-formed descriptor of a
free buffer number registers it, one of format 0 removes it (R324); RELEASE ends a buffer's HELD mark (R325). A chunk
read in full completes JOB_CONSUMED (R323). At a boundary a pipeline starts the next frame of the context that R322
chooses. A picture whose profile, level, size or interlacing is not supported (R318) completes UNSUPPORTED in its turn with
nothing written, and so does every later one until a random-access point of a supported sequence (R320). -/
def Obligations.JobsFramesAndBuffers : Prop :=
  ∀ (ch : Channel) (val : Bytes) (s : State),
    (val.length = 32 → fld val 0 1 < 32 → jobFormed (s.ctx (fld val 0 1)).decodes val = true →
      (s.ctx (fld val 0 1)).st ≠ .closed → (s.ctx (fld val 0 1)).jobs.length < 64 →
      (s.ctx (fld val 0 1)).decodes = true → 1 ≤ fld val 16 4 → fld val 16 4 ≤ 16777216 →
      Accepted (.mediaJob ch val) s (s.setCtx (fld val 0 1) { s.ctx (fld val 0 1) with
        jobs := (s.ctx (fld val 0 1)).jobs
          ++ [⟨fld val 1 1, fld val 2 2, fld val 4 1, fld val 8 8, fld val 16 4⟩] })) ∧
    (val.length = 32 → fld val 0 1 < 32 → jobFormed (s.ctx (fld val 0 1)).decodes val = true →
      (s.ctx (fld val 0 1)).st = .closed → TurnedDown (.mediaJob ch val) abNotIdle s) ∧
    (val.length = 32 → zeroAt val 3 1 = true → zeroAt val 28 4 = true → fld val 0 1 < 128 →
      (∀ old, aget s.media.buffers (fld val 0 1) = some old → old.free = true) →
      (fld val 1 1 = 0 → Accepted (.registerBuffer ch val) s (s.setMedia { s.media with
        buffers := adel s.media.buffers (fld val 0 1) })) ∧
      (1 ≤ fld val 1 1 → fld val 1 1 ≤ 2 → bufferRanges (bufferOf val) = true →
        (bufferOf val).planes.all (fun p => planePlaced s p.1 p.2) = true →
        planesApart s (fld val 0 1) (bufferOf val) = true → ownerSuits s (bufferOf val) = true →
        Accepted (.registerBuffer ch val) s (s.setMedia { s.media with
          buffers := aset s.media.buffers (fld val 0 1) (bufferOf val) }))) ∧
    (leNat val < 128 →
      Accepted (.releaseBuffer ch val) s (s.modBuffer (leNat val) (fun f => { f with held := false }))) ∧
    (128 ≤ leNat val → TurnedDown (.releaseBuffer ch val) abRange s) ∧
    (∀ (c : Fin 32) j rest, s.running = true → (s.ctx c.val).st ≠ .closed → (s.ctx c.val).decodes = true →
      (s.ctx c.val).completions.length < 64 → (s.ctx c.val).jobs = j :: rest → bitOf j.flags 0 = false →
      ∃ t, exec (.jobConsumed c) s = .next t ∧ (t.ctx c.val).jobs = rest ∧
        (t.ctx c.val).completions = (s.ctx c.val).completions
          ++ [⟨j.tag, 6, 0xFF, 0, 0, (s.ctx c.val).frames, 0, s.media.posted⟩] ∧ t.mem = s.mem) ∧
    (∀ pipe c, s.running = true →
      s.media.contexts.any (fun p => p.2.running && decide (fld p.2.record 0 1 = pipeKind pipe)) = false →
      nextCtx s (pipeKind pipe) = some c →
      ∃ t, exec (.nextFrameStart pipe) s = .next t ∧ (t.ctx c).running = true ∧ (t.ctx c).waited = 0 ∧
        (t.ctx c).current = freeBuffer s c (fun _ => true) ∧ t.mem = s.mem ∧
        ∀ n, n ≠ c → (t.ctx n).running = (s.ctx n).running ∧ (t.ctx n).jobs = (s.ctx n).jobs) ∧
    (∀ pipe, s.running = true → nextCtx s (pipeKind pipe) = none → exec (.nextFrameStart pipe) s = .next s) ∧
    (∀ (c : Fin 32) b facts, s.running = true → (s.ctx c.val).running = true → (s.ctx c.val).decodes = true →
      (s.ctx c.val).current = some b →
      exec (.frameDone c facts) s = .next (frameOver (decodeDone s c.val b facts false) c.val) ∧
      exec (.frameBudget c facts) s = .next (frameOver (decodeDone s c.val b facts true) c.val)) ∧
    (∀ (c : Fin 32) b facts late,
      ((streamSupported (s.ctx c.val).record facts = false ∨ tooLarge (s.ctx c.val).record facts = true ∨
          ((s.ctx c.val).skipping = true ∧ facts.randomAccess = false)) →
        decodeDone s c.val b facts late = notDecoded s c.val b facts) ∧
      (streamSupported (s.ctx c.val).record facts = true → tooLarge (s.ctx c.val).record facts = false →
        ((s.ctx c.val).skipping = false ∨ facts.randomAccess = true) →
        ((decodeDone s c.val b facts late).ctx c.val).skipping = false)) ∧
    (∀ (c : Fin 32) b facts, (s.ctx c.val).awaiting = [] → facts.outputs = 1 → atRest (s.ctx c.val) →
      ∀ t, t = frameOver (notDecoded s c.val b facts) c.val →
        (t.ctx c.val).completions = (s.ctx c.val).completions
          ++ [⟨(s.ctx c.val).frames % 2 ^ 16, 3, 0xFF, 0, 0, (s.ctx c.val).frames, 0, s.media.posted⟩] ∧
        (t.ctx c.val).running = false ∧ (t.ctx c.val).frames = ((s.ctx c.val).frames + 1) % 2 ^ 32 ∧
        (t.ctx c.val).skipping = true ∧ t.mem = s.mem) ∧
    (∀ r facts, streamSupported r facts = true ↔
      ((fld r 1 1 = 1 ∧ facts.profile = 1) ∨ (fld r 1 1 = 2 ∧ (facts.profile = 2 ∨ facts.profile = 3)) ∨
        (fld r 1 1 ≠ 1 ∧ fld r 1 1 ≠ 2 ∧ facts.profile = 4)) ∧ facts.level ≤ 51 ∧ facts.interlaced = false) ∧
    (∀ (c : Fin 32) j facts, s.running = true → (s.ctx c.val).running = true → (s.ctx c.val).decodes = false →
      (s.ctx c.val).encoding = some j →
      exec (.frameDone c facts) s = .next (frameOver (encodeDone s c.val j facts) c.val))

/-- The camera. A record and a receiver setting in range are kept, and staged for the next Frame Start where the channel
is enabled (R336); a value out of range is refused, also in a record that is not enabled (R374), and the reserved lane
count as malformed (log 54). A packet with an uncorrectable header is discarded and counted in 0x2C40:05 (R333), as is one of
another data type or outside a frame. Frame Start opens a frame with the lowest FREE buffer that suits the record
(R335, R325), lines open and close, a long packet's pixels join the open line, and Frame End delivers the frame, or
completes it DROPPED where it has no buffer. -/
def Obligations.CameraFrames : Prop :=
  ∀ (s : State),
    (∀ ch val, 80 ≤ leNat val % 2 ^ 16 → leNat val % 2 ^ 16 ≤ 2500 → leNat val / 2 ^ 16 % 4 ≤ 2 →
      Accepted (.receiverSetting ch 0x2C32 1 val) s ((s.setVal 0x2C32 1 (leNat val % 2 ^ 18)).setMedia
        { s.media with staged := some (leNat val % 2 ^ 18) })) ∧
    (∀ ch val, leNat val / 2 ^ 16 % 4 = 3 → TurnedDown (.receiverSetting ch 0x2C32 1 val) abMalformed s) ∧
    (∀ ch val, leNat val / 2 ^ 16 % 4 ≤ 2 → (leNat val % 2 ^ 16 < 80 ∨ 2500 < leNat val % 2 ^ 16) →
      TurnedDown (.receiverSetting ch 0x2C32 1 val) abRange s) ∧
    (∀ ch val (k : Fin 2), val.length = 32 → fld val 3 1 < 8 → zeroAt val 30 2 = true →
      camRanges val = true →
      Accepted (.receiverSetting ch 0x2C30 (k.val + 1) val) s ((s.setVal 0x2C30 (k.val + 1) (leNat val)).setCam k.val
        (if camEnabled (s.cam k.val).record then { s.cam k.val with staged := some val }
         else { s.cam k.val with record := val }))) ∧
    (∀ ch val (k : Fin 2), val.length = 32 → fld val 3 1 < 8 → zeroAt val 30 2 = true → camRanges val = false →
      TurnedDown (.receiverSetting ch 0x2C30 (k.val + 1) val) abRange s) ∧
    (∀ h, s.running = true → h.ecc = .bad → ∀ r ∈ shortRows, exec (r h) s = .next (s.bump 0x2C40 5)) ∧
    (∀ p, s.running = true → p.ecc = .bad → exec (.longPacket p) s = .next (s.bump 0x2C40 5)) ∧
    (∀ h k, hears s h.vc.val k → h.ecc ≠ .bad → (s.cam k).inFrame = false →
      exec (.frameEnd h) s = .next (s.bump 0x2C40 5) ∧ exec (.lineStart h) s = .next (s.bump 0x2C40 5) ∧
      exec (.lineEnd h) s = .next (s.bump 0x2C40 5)) ∧
    (∀ h k, hears s h.vc.val k → h.ecc ≠ .bad → (s.cam k).inFrame = false → (s.cam k).staged = none →
      s.media.staged = none → (s.cam k).completions.length < 64 →
      ∃ t, exec (.frameStart h) s = .next t ∧ (t.cam k).inFrame = true ∧ (t.cam k).lines = [] ∧
        (t.cam k).buffer = freeBuffer s (0x20 + k) (fun f =>
          decide (fld (s.cam k).record 8 2 ≤ f.width) && decide (fld (s.cam k).record 10 2 ≤ f.height)) ∧
        t.mem = s.mem) ∧
    (∀ h k, hears s h.vc.val k → h.ecc ≠ .bad → (s.cam k).inFrame = true →
      exec (.lineStart h) s = .next (s.setCam k (s.cam k).openLine) ∧
      exec (.lineEnd h) s = .next (s.setCam k (s.cam k).closeLine) ∧
      exec (.frameEnd h) s = .next (camFrameEnd s k)) ∧
    (∀ p k, hears s p.vc.val k → p.ecc ≠ .bad → p.dataType = fld (s.cam k).record 1 1 → (s.cam k).inFrame = true →
      exec (.longPacket p) s = .next (s.setCam k ((s.cam k).lineData p))) ∧
    (∀ p k, hears s p.vc.val k → p.ecc ≠ .bad →
      (p.dataType ≠ fld (s.cam k).record 1 1 ∨ (s.cam k).inFrame = false) →
      exec (.longPacket p) s = .next (s.bump 0x2C40 5)) ∧
    (∀ k, k < s.media.cameras.length → (s.cam k).buffer = none →
      ∃ x, ((camFrameEnd s k).cam k).completions = (s.cam k).completions ++ [x] ∧ x.status = 4 ∧ x.buffer = 0xFF ∧
        x.frame = (s.cam k).frames ∧ ((camFrameEnd s k).cam k).inFrame = false ∧
        (camFrameEnd s k).val 0x2C40 3 = (s.count 0x2C40 3 + 1) % 2 ^ 32 ∧ (camFrameEnd s k).mem = s.mem)

/-! ## Integrity and the journal -/

/-- Margin commands wait for the barrier (R358), a fault is armed for the next turn of its deck (R361), one report
closes a window of error records, and the event at the front of the queue becomes the journal's newest record
(R105), through the helm queue, so that it waits while bank 0 is busy (R123). -/
def Obligations.MarginsFaultsAndRecords : Prop :=
  ∀ (ch : Channel) (val : Bytes) (s : State),
    (s.sel ch 0x2D11 1 < 16 →
      (leNat val = 0x53570070 → s.lifecycle ≠ .final → Accepted (.clearSteps ch val) s (s.setIntegrity
        { s.integrity with commands := s.integrity.commands ++ [(s.sel ch 0x2D11 1, .clear)] })) ∧
      (leNat val = 0x53570071 → Accepted (.retireDeck ch val) s (s.setIntegrity
        { s.integrity with commands := s.integrity.commands ++ [(s.sel ch 0x2D11 1, .retire)] })) ∧
      (leNat val = 0x53570072 → s.lifecycle ≠ .deployed → s.lifecycle ≠ .final →
        Accepted (.restoreDeck ch val) s (s.setIntegrity
          { s.integrity with commands := s.integrity.commands ++ [(s.sel ch 0x2D11 1, .restore)] })) ∧
      (leNat val = 0x53570072 → (s.lifecycle = .deployed ∨ s.lifecycle = .final) →
        TurnedDown (.restoreDeck ch val) abLifecycle s)) ∧
    ((s.lifecycle = .blank ∨ s.lifecycle = .factory ∨ s.lifecycle = .development) →
      (bitsOf (leNat val) 7 0 = 1 ∨ bitsOf (leNat val) 7 0 = 3 ∨
        (bitsOf (leNat val) 7 0 = 4 ∧ bitsOf (leNat val) 11 8 = 15)) →
      Accepted (.injectFault ch val) s (s.setIntegrity { s.integrity with
        armed := (s.integrity.armed.filter (fun p =>
            !decide (p.1 = bitsOf (leNat val) 11 8 ∧ p.2.1 = bitsOf (leNat val) 7 0)))
          ++ [(bitsOf (leNat val) 11 8, bitsOf (leNat val) 7 0, bitsOf (leNat val) 20 16, bitOf (leNat val) 31)] })) ∧
    ((s.lifecycle = .deployed ∨ s.lifecycle = .service ∨ s.lifecycle = .final) →
      TurnedDown (.injectFault ch val) abLifecycle s) ∧
    (s.integrity.window = true → (s.power.state = .active ∨ s.power.state = .ready ∨ s.power.state = .offReady) →
      exec .errorReportCoalesce s =
        .next (((s.setIntegrity { s.integrity with window := false }).msix (s.val 0x2D01 1)).ibi 0xD7)) ∧
    (s.integrity.window = false → exec .errorReportCoalesce s = .next s) ∧
    (isDown s = false → s.systemFree = false ∨ s.custody.journal.erasing = true →
      exec .journalRecordWritten s = .next (journalErase s)) ∧
    (∀ e rest, isDown s = false → s.systemFree = true → s.custody.journal.erasing = false →
      s.custody.journal.slotFree s.custody.journal.slot = true → s.custody.journal.queue = e :: rest →
      ∃ t, exec .journalRecordWritten s = .next t ∧
        t.custody.journal.records = s.custody.journal.records
          ++ [⟨s.custody.journal.nextSeq, s.custody.journal.slot, s.counter 6 % 2 ^ 16, e⟩] ∧
        t.custody.journal.nextSeq = (s.custody.journal.nextSeq + 1) % 2 ^ 32 ∧
        t.custody.journal.slot = (s.custody.journal.slot + 1) % 4096 ∧ t.mem = s.mem ∧ t.out = s.out) ∧
    (isDown s = true → exec .journalRecordWritten s = .next s)

/-! ## Sleep policy, counters, the block code, reset and the invariant -/

/-- R64: Sleep Policy takes AUTO, in which the timeouts of 0x2002 apply, or STAY_READY, in which the device does not
enter DOZE or WATCH on a timeout; any other value is refused with 0x5A03_0002. -/
def Obligations.SleepPolicy : Prop :=
  ∀ (s : State),
    (∀ ch val, leNat val ≤ 1 →
      Accepted (.registerWrite (.object ch 0x2000 1 val)) s (s.setVal 0x2000 1 (leNat val))) ∧
    (∀ ch val, 1 < leNat val → TurnedDown (.registerWrite (.object ch 0x2000 1 val)) 0x5A030002 s) ∧
    (s.val 0x2000 1 = 0 →
      (s.power.state = .ready → s.val 0x2002 2 ≠ 0 →
        exec .dozeTimeout s = .next (s.setPower { s.power with dozeDue := true })) ∧
      (s.power.state = .doze → s.val 0x2002 2 ≠ 0 → s.val 0x2002 3 ≠ 0 →
        exec .watchTimeout s = .next (s.setPower { s.power with watchDue := true }))) ∧
    (s.val 0x2000 1 = 1 → exec .dozeTimeout s = .next s ∧ exec .watchTimeout s = .next s)

/-- One word program advances a counter by one, also where it fills a sector and the twin takes over, and an advance by
n by n; a counter with a valid sector keeps one (R102, R103). The advance goes through the helm queue: while bank 0 is busy
it waits (R123). -/
def Obligations.CountersAdvance : Prop :=
  ∀ (c : Counter) (v : Nat), c.value? = some v →
    c.step.value? = some (v + 1) ∧ (∀ n, (c.advance n).value? = some (v + n)) ∧
    ∀ s : State, (∀ n k, s.systemFree = true → s.custody.counters[n]? = some c →
        (s.advanceCounter n k).custody.counters[n]? = some (c.advance k)) ∧
      (∀ n k, s.systemFree = false → (s.advanceCounter n k).custody.counters = s.custody.counters ∧
        (s.advanceCounter n k).flash.advances = s.flash.advances ++ [(n, k)])

/-- The block code loses nothing: what the expander makes of a block that the coder stored is the block (R178, R181),
and the coder never needs more than 64 bursts. -/
def Obligations.BlocksDecodeToThemselves : Prop :=
  ∀ b : Bytes, b.length = 4096 →
    decodeBlock (encodeBlock b).1 (encodeBlock b).2 = .ok b ∧ 1 ≤ (encodeBlock b).2 ∧ (encodeBlock b).2 ≤ 64

/-- What reset leaves: the memories are in their canonical form and list nothing, the device is unmoored with every
port down (R295, R303), holds no berth (R272), no image and no context, its error log and its queues are empty, and
no command waits. That State.reset is the part as delivered, with memories that list nothing, no image and an empty
error log, is the model's choice (logs 1, 9 and 13). -/
def Obligations.ResetLeavesAnEmptyBlock : Prop :=
  State.reset.canonical = true ∧ State.reset.mem.cells = [] ∧ State.reset.pending = [] ∧
    State.reset.serving.berths = [] ∧ State.reset.turn = none ∧ State.reset.ferry.role = .unmoored ∧
    State.reset.ferry.joined = 0 ∧ (∀ n : Fin 3, (State.reset.port n.val).st = .down) ∧
    (∀ n : Fin 8, (State.reset.images.slots[n.val]?).map (·.st) = some .empty) ∧
    State.reset.media.contexts = [] ∧ State.reset.integrity.log = [] ∧ State.reset.flash.helm = [] ∧
    State.reset.flash.priv = []

/-- Every step keeps the memories and the decks' accumulators in their canonical form: addresses strictly rising, and no
entry that says what an unlisted address reads as. -/
def Obligations.StepKeepsCanonicalForm : Prop :=
  ∀ s t : State, s.canonical = true → step s = .next t → t.canonical = true

/-! ## The part: rails and balls -/

/-- The rails and the ball map (R362, R365, R366, R373). Every rail is to be within its range, a switched one only while
RAIL_EN is high; a rail of a step may rise once those of earlier steps are within range, and in an order in which they may fall no rail of
a later step follows one of an earlier. 1,024 positions have a ball: a pair's P and N balls lie side by side, a channel's
block lies at the near edge for channels 0 to 3 and turned over at the far edge for 4 to 7, and what no table names is
VSS. -/
def Obligations.RailsAndBalls : Prop :=
  (∀ mv : Rail → Nat,
    (railsHold true mv = true ↔ ∀ r : Rail, r.range.1 ≤ mv r ∧ mv r ≤ r.range.2.2) ∧
    (railsHold false mv = true ↔ ∀ r : Rail, r.switched = false → r.range.1 ≤ mv r ∧ mv r ≤ r.range.2.2) ∧
    (∀ r, mayRise mv r = true ↔ ∀ q : Rail, q.step < r.step → q.within (mv q) = true) ∧
    (mayRelease mv = true ↔ railsHold true mv = true)) ∧
  (∀ l, fallsInOrder l = true → (∀ r : Rail, r ∈ l) ∧ l.Pairwise (fun a b => b.step ≤ a.step)) ∧
  fallsInOrder [.vddCsi, .vddaSerdes, .vddSerdes, .vddLpphy, .vinDeck, .vddio1v8, .vddFlash, .vddCore, .vddqLp,
    .vddioWatch, .vddWatch] = true ∧
  ((((List.range 33).flatMap (fun r => (List.range 33).map (fun c => (r + 1, c + 1)))).filter
    (fun p => !unpopulated p.1 p.2)).length = 1024) ∧
  (∀ row col, ball row col = .none ↔
    (13 ≤ row ∧ row ≤ 20 ∧ 13 ≤ col ∧ col ≤ 20) ∨ (row = 33 ∧ col = 33)) ∧
  (∀ n < 4, ∀ p ∈ [("PCIE_TX", 8, 1), ("PCIE_RX", 8, 4), ("FERRY0_TX", 18, 1), ("FERRY0_RX", 18, 4),
      ("FERRY1_TX", 8, 32), ("FERRY1_RX", 8, 29), ("FERRY2_TX", 18, 32), ("FERRY2_RX", 18, 29)],
    ball (p.2.1 + 2 * n) p.2.2 = .pair p.1 n false ∧ ball (p.2.1 + 2 * n) (p.2.2 + 1) = .pair p.1 n true) ∧
  (∀ c < 8, ∀ k, 1 ≤ k → k ≤ 6 → ∀ j, 1 ≤ j → j ≤ 8 →
    ball (if c < 4 then k else 34 - k) (8 * (c % 4) + j) = lpddrBall c k j) ∧
  (∀ row col, unpopulated row col = false → pairAt row col = none → lpddrAt row col = none → singleAt row col = none →
    powerAt row col = none → ball row col = .vss) ∧
  ball 24 32 = .pair "FERRY2_TX" 3 false ∧ ballName 24 32 = "AE32" ∧
  ball 33 12 = .lpddr 5 "DQ3" ∧ ballName 33 12 = "AP12" ∧ ball 7 8 = .single "RST_N" ∧ ball 7 33 = .single "VDDQ_LP sense"

/-! ## The families' statements put together -/

/-- The operations of slot C: scalar, control and predicate. -/
def Obligations.ScalarSlotOperations : Prop :=
  Claims.ScalarOperations ∧ Claims.ControlOperations ∧ Claims.PredicateOperations

/-- Loads and stores of slot M. -/
def Obligations.LoadsAndStores : Prop :=
  Claims.Loads ∧ Claims.Stores

/-- What the lanes of slot V compute. -/
def Obligations.VectorComputations : Prop :=
  Claims.VectorArithmetic ∧ Claims.VectorFunctions

/-- What slot V moves between lanes and registers, and reduces. -/
def Obligations.VectorMovesAndReductions : Prop :=
  Claims.VectorMoves ∧ Claims.VectorReductions

/-- The operations of slot X on the accumulator banks, and their effects. -/
def Obligations.AccumulatorBanks : Prop :=
  Claims.BankOperations ∧ Claims.BankEffects

/-- The deck events and what decks do with semaphores and fences. -/
def Obligations.DeckEventsAndSemaphores : Prop :=
  Claims.DeckEvents ∧ Claims.DeckSemaphores

/-- The interface level, the stored set, the reset commands and the commit command. -/
def Obligations.InterfaceResetAndStoredSettings : Prop :=
  Claims.InterfaceLevelAndStoredSet ∧ Claims.CustodyCommands

/-- Segmented transfers, their timeouts and the sideband's reads. -/
def Obligations.SegmentsAndTransports : Prop :=
  Claims.SegmentedTransfers ∧ Claims.TransportTimeoutsAndReads

/-- What wakes the device, what wakes it later, and how it wakes the host. -/
def Obligations.WakesAndTheirEvents : Prop :=
  Claims.WakeSourcesAct ∧ Claims.EventsThatWake ∧ Claims.HostWakes

/-- Entries to the sleeping states, exits from them, and the commands for them. -/
def Obligations.SleepEntriesAndCommands : Prop :=
  Claims.EntriesAndExits ∧ Claims.StateCommands

/-- The power timers, the operating point, the thermal levels, the rails and the pins. -/
def Obligations.ClocksHeatAndRails : Prop :=
  Claims.TimeoutsAndPoints ∧ Claims.ThermalSamples ∧ Claims.RailsAndPins

/-- Resets, what they clear, power, the host's resets and tamper events. -/
def Obligations.ResetsAndPower : Prop :=
  Claims.ResetEvents ∧ Claims.ResetsClear ∧ Claims.PowerHostAndTamper

/-- Flash commands become descriptors, and descriptors start. -/
def Obligations.FlashDescriptors : Prop :=
  Claims.FlashSubmissions ∧ Claims.DescriptorsStart

/-- What the banks of the flash report, and the completions. -/
def Obligations.FlashBankEvents : Prop :=
  Claims.PulsesAndErases ∧ Claims.ErasesResumeAndCompletionsPost

/-- Accesses by the masters, scrubs and host reads that time out. -/
def Obligations.MemoryReadsAndWrites : Prop :=
  Claims.MemoryAccesses ∧ Claims.ScrubsAndHostTimeouts

/-- Flash regions, region entries of the masters and tensor windows. -/
def Obligations.RegionsAndWindows : Prop :=
  Claims.RegionChanges ∧ Claims.RegionEntriesAndWindows

/-- Tensors, quotas and the mover. -/
def Obligations.TensorsAndTiers : Prop :=
  Claims.TensorCommands ∧ Claims.QuotasAndMoves

/-- Barriers, the start of a turn and its end. -/
def Obligations.TurnsRun : Prop :=
  Claims.TurnBarriers ∧ Claims.TurnsStart ∧ Claims.TurnsEnd

/-- Image commands and how they end. -/
def Obligations.ImageInstallation : Prop :=
  Claims.ImageCommands ∧ Claims.ImageCommandsEnd

/-- Requests that pass admission, and cancels and closes. -/
def Obligations.RequestsAndCancels : Prop :=
  Claims.RequestsTakeBerths ∧ Claims.CancelsAndCloses

/-- Ring records and the limits of parked berths. -/
def Obligations.RingRecordsAndParkLimits : Prop :=
  Claims.RingRecords ∧ Claims.ParkLimits
end

