-- ==== Sys2Proof/Laws/State.lean ====
section
/-! SUPPORT. One lemma for each field of the state and each of its updates, so that no proof unfolds a record
update; and what the shared operations of Machine/Ops.lean leave alone. -/

namespace Sys2Proof.Machine

/-! ### setVal -/

@[simp] theorem State.setVal_part (s : State) (i n v : Nat) : (s.setVal i n v).part = s.part := rfl
@[simp] theorem State.setVal_board (s : State) (i n v : Nat) : (s.setVal i n v).board = s.board := rfl
@[simp] theorem State.setVal_host (s : State) (i n v : Nat) : (s.setVal i n v).host = s.host := rfl
@[simp] theorem State.setVal_mem (s : State) (i n v : Nat) : (s.setVal i n v).mem = s.mem := rfl
@[simp] theorem State.setVal_obj (s : State) (i n v : Nat) : (s.setVal i n v).obj = aset s.obj (objKey i n) v := rfl
@[simp] theorem State.setVal_chans (s : State) (i n v : Nat) : (s.setVal i n v).chans = s.chans := rfl
@[simp] theorem State.setVal_inbox (s : State) (i n v : Nat) : (s.setVal i n v).inbox = s.inbox := rfl
@[simp] theorem State.setVal_power (s : State) (i n v : Nat) : (s.setVal i n v).power = s.power := rfl
@[simp] theorem State.setVal_custody (s : State) (i n v : Nat) : (s.setVal i n v).custody = s.custody := rfl
@[simp] theorem State.setVal_flash (s : State) (i n v : Nat) : (s.setVal i n v).flash = s.flash := rfl
@[simp] theorem State.setVal_tiers (s : State) (i n v : Nat) : (s.setVal i n v).tiers = s.tiers := rfl
@[simp] theorem State.setVal_decks (s : State) (i n v : Nat) : (s.setVal i n v).decks = s.decks := rfl
@[simp] theorem State.setVal_images (s : State) (i n v : Nat) : (s.setVal i n v).images = s.images := rfl
@[simp] theorem State.setVal_serving (s : State) (i n v : Nat) : (s.setVal i n v).serving = s.serving := rfl
@[simp] theorem State.setVal_turn (s : State) (i n v : Nat) : (s.setVal i n v).turn = s.turn := rfl
@[simp] theorem State.setVal_kv (s : State) (i n v : Nat) : (s.setVal i n v).kv = s.kv := rfl
@[simp] theorem State.setVal_experts (s : State) (i n v : Nat) : (s.setVal i n v).experts = s.experts := rfl
@[simp] theorem State.setVal_ferry (s : State) (i n v : Nat) : (s.setVal i n v).ferry = s.ferry := rfl
@[simp] theorem State.setVal_media (s : State) (i n v : Nat) : (s.setVal i n v).media = s.media := rfl
@[simp] theorem State.setVal_integrity (s : State) (i n v : Nat) : (s.setVal i n v).integrity = s.integrity := rfl
@[simp] theorem State.setVal_out (s : State) (i n v : Nat) : (s.setVal i n v).out = s.out := rfl
@[simp] theorem State.setVal_draws (s : State) (i n v : Nat) : (s.setVal i n v).draws = s.draws := rfl
@[simp] theorem State.setVal_pending (s : State) (i n v : Nat) : (s.setVal i n v).pending = s.pending := rfl

/-! ### setChan -/

@[simp] theorem State.setChan_part (s : State) (ch : Channel) (c : Chan) : (s.setChan ch c).part = s.part := rfl
@[simp] theorem State.setChan_board (s : State) (ch : Channel) (c : Chan) : (s.setChan ch c).board = s.board := rfl
@[simp] theorem State.setChan_host (s : State) (ch : Channel) (c : Chan) : (s.setChan ch c).host = s.host := rfl
@[simp] theorem State.setChan_mem (s : State) (ch : Channel) (c : Chan) : (s.setChan ch c).mem = s.mem := rfl
@[simp] theorem State.setChan_obj (s : State) (ch : Channel) (c : Chan) : (s.setChan ch c).obj = s.obj := rfl
@[simp] theorem State.setChan_chans (s : State) (ch : Channel) (c : Chan) : (s.setChan ch c).chans = aset s.chans ch c := rfl
@[simp] theorem State.setChan_inbox (s : State) (ch : Channel) (c : Chan) : (s.setChan ch c).inbox = s.inbox := rfl
@[simp] theorem State.setChan_power (s : State) (ch : Channel) (c : Chan) : (s.setChan ch c).power = s.power := rfl
@[simp] theorem State.setChan_custody (s : State) (ch : Channel) (c : Chan) : (s.setChan ch c).custody = s.custody := rfl
@[simp] theorem State.setChan_flash (s : State) (ch : Channel) (c : Chan) : (s.setChan ch c).flash = s.flash := rfl
@[simp] theorem State.setChan_tiers (s : State) (ch : Channel) (c : Chan) : (s.setChan ch c).tiers = s.tiers := rfl
@[simp] theorem State.setChan_decks (s : State) (ch : Channel) (c : Chan) : (s.setChan ch c).decks = s.decks := rfl
@[simp] theorem State.setChan_images (s : State) (ch : Channel) (c : Chan) : (s.setChan ch c).images = s.images := rfl
@[simp] theorem State.setChan_serving (s : State) (ch : Channel) (c : Chan) : (s.setChan ch c).serving = s.serving := rfl
@[simp] theorem State.setChan_turn (s : State) (ch : Channel) (c : Chan) : (s.setChan ch c).turn = s.turn := rfl
@[simp] theorem State.setChan_kv (s : State) (ch : Channel) (c : Chan) : (s.setChan ch c).kv = s.kv := rfl
@[simp] theorem State.setChan_experts (s : State) (ch : Channel) (c : Chan) : (s.setChan ch c).experts = s.experts := rfl
@[simp] theorem State.setChan_ferry (s : State) (ch : Channel) (c : Chan) : (s.setChan ch c).ferry = s.ferry := rfl
@[simp] theorem State.setChan_media (s : State) (ch : Channel) (c : Chan) : (s.setChan ch c).media = s.media := rfl
@[simp] theorem State.setChan_integrity (s : State) (ch : Channel) (c : Chan) : (s.setChan ch c).integrity = s.integrity := rfl
@[simp] theorem State.setChan_out (s : State) (ch : Channel) (c : Chan) : (s.setChan ch c).out = s.out := rfl
@[simp] theorem State.setChan_draws (s : State) (ch : Channel) (c : Chan) : (s.setChan ch c).draws = s.draws := rfl
@[simp] theorem State.setChan_pending (s : State) (ch : Channel) (c : Chan) : (s.setChan ch c).pending = s.pending := rfl

/-! ### emit -/

@[simp] theorem State.emit_part (s : State) (o : Out) : (s.emit o).part = s.part := rfl
@[simp] theorem State.emit_board (s : State) (o : Out) : (s.emit o).board = s.board := rfl
@[simp] theorem State.emit_host (s : State) (o : Out) : (s.emit o).host = s.host := rfl
@[simp] theorem State.emit_mem (s : State) (o : Out) : (s.emit o).mem = s.mem := rfl
@[simp] theorem State.emit_obj (s : State) (o : Out) : (s.emit o).obj = s.obj := rfl
@[simp] theorem State.emit_chans (s : State) (o : Out) : (s.emit o).chans = s.chans := rfl
@[simp] theorem State.emit_inbox (s : State) (o : Out) : (s.emit o).inbox = s.inbox := rfl
@[simp] theorem State.emit_power (s : State) (o : Out) : (s.emit o).power = s.power := rfl
@[simp] theorem State.emit_custody (s : State) (o : Out) : (s.emit o).custody = s.custody := rfl
@[simp] theorem State.emit_flash (s : State) (o : Out) : (s.emit o).flash = s.flash := rfl
@[simp] theorem State.emit_tiers (s : State) (o : Out) : (s.emit o).tiers = s.tiers := rfl
@[simp] theorem State.emit_decks (s : State) (o : Out) : (s.emit o).decks = s.decks := rfl
@[simp] theorem State.emit_images (s : State) (o : Out) : (s.emit o).images = s.images := rfl
@[simp] theorem State.emit_serving (s : State) (o : Out) : (s.emit o).serving = s.serving := rfl
@[simp] theorem State.emit_turn (s : State) (o : Out) : (s.emit o).turn = s.turn := rfl
@[simp] theorem State.emit_kv (s : State) (o : Out) : (s.emit o).kv = s.kv := rfl
@[simp] theorem State.emit_experts (s : State) (o : Out) : (s.emit o).experts = s.experts := rfl
@[simp] theorem State.emit_ferry (s : State) (o : Out) : (s.emit o).ferry = s.ferry := rfl
@[simp] theorem State.emit_media (s : State) (o : Out) : (s.emit o).media = s.media := rfl
@[simp] theorem State.emit_integrity (s : State) (o : Out) : (s.emit o).integrity = s.integrity := rfl
@[simp] theorem State.emit_out (s : State) (o : Out) : (s.emit o).out = s.out ++ [o] := rfl
@[simp] theorem State.emit_draws (s : State) (o : Out) : (s.emit o).draws = s.draws := rfl
@[simp] theorem State.emit_pending (s : State) (o : Out) : (s.emit o).pending = s.pending := rfl

/-! ### draw -/

@[simp] theorem State.draw_part (s : State) : (s.draw).part = s.part := rfl
@[simp] theorem State.draw_board (s : State) : (s.draw).board = s.board := rfl
@[simp] theorem State.draw_host (s : State) : (s.draw).host = s.host := rfl
@[simp] theorem State.draw_mem (s : State) : (s.draw).mem = s.mem := rfl
@[simp] theorem State.draw_obj (s : State) : (s.draw).obj = s.obj := rfl
@[simp] theorem State.draw_chans (s : State) : (s.draw).chans = s.chans := rfl
@[simp] theorem State.draw_inbox (s : State) : (s.draw).inbox = s.inbox := rfl
@[simp] theorem State.draw_power (s : State) : (s.draw).power = s.power := rfl
@[simp] theorem State.draw_custody (s : State) : (s.draw).custody = s.custody := rfl
@[simp] theorem State.draw_flash (s : State) : (s.draw).flash = s.flash := rfl
@[simp] theorem State.draw_tiers (s : State) : (s.draw).tiers = s.tiers := rfl
@[simp] theorem State.draw_decks (s : State) : (s.draw).decks = s.decks := rfl
@[simp] theorem State.draw_images (s : State) : (s.draw).images = s.images := rfl
@[simp] theorem State.draw_serving (s : State) : (s.draw).serving = s.serving := rfl
@[simp] theorem State.draw_turn (s : State) : (s.draw).turn = s.turn := rfl
@[simp] theorem State.draw_kv (s : State) : (s.draw).kv = s.kv := rfl
@[simp] theorem State.draw_experts (s : State) : (s.draw).experts = s.experts := rfl
@[simp] theorem State.draw_ferry (s : State) : (s.draw).ferry = s.ferry := rfl
@[simp] theorem State.draw_media (s : State) : (s.draw).media = s.media := rfl
@[simp] theorem State.draw_integrity (s : State) : (s.draw).integrity = s.integrity := rfl
@[simp] theorem State.draw_out (s : State) : (s.draw).out = s.out := rfl
@[simp] theorem State.draw_draws (s : State) : (s.draw).draws = s.draws + 1 := rfl
@[simp] theorem State.draw_pending (s : State) : (s.draw).pending = s.pending := rfl

/-! ### setMem -/

@[simp] theorem State.setMem_part (s : State) (m : Mem) : (s.setMem m).part = s.part := rfl
@[simp] theorem State.setMem_board (s : State) (m : Mem) : (s.setMem m).board = s.board := rfl
@[simp] theorem State.setMem_host (s : State) (m : Mem) : (s.setMem m).host = s.host := rfl
@[simp] theorem State.setMem_mem (s : State) (m : Mem) : (s.setMem m).mem = m := rfl
@[simp] theorem State.setMem_obj (s : State) (m : Mem) : (s.setMem m).obj = s.obj := rfl
@[simp] theorem State.setMem_chans (s : State) (m : Mem) : (s.setMem m).chans = s.chans := rfl
@[simp] theorem State.setMem_inbox (s : State) (m : Mem) : (s.setMem m).inbox = s.inbox := rfl
@[simp] theorem State.setMem_power (s : State) (m : Mem) : (s.setMem m).power = s.power := rfl
@[simp] theorem State.setMem_custody (s : State) (m : Mem) : (s.setMem m).custody = s.custody := rfl
@[simp] theorem State.setMem_flash (s : State) (m : Mem) : (s.setMem m).flash = s.flash := rfl
@[simp] theorem State.setMem_tiers (s : State) (m : Mem) : (s.setMem m).tiers = s.tiers := rfl
@[simp] theorem State.setMem_decks (s : State) (m : Mem) : (s.setMem m).decks = s.decks := rfl
@[simp] theorem State.setMem_images (s : State) (m : Mem) : (s.setMem m).images = s.images := rfl
@[simp] theorem State.setMem_serving (s : State) (m : Mem) : (s.setMem m).serving = s.serving := rfl
@[simp] theorem State.setMem_turn (s : State) (m : Mem) : (s.setMem m).turn = s.turn := rfl
@[simp] theorem State.setMem_kv (s : State) (m : Mem) : (s.setMem m).kv = s.kv := rfl
@[simp] theorem State.setMem_experts (s : State) (m : Mem) : (s.setMem m).experts = s.experts := rfl
@[simp] theorem State.setMem_ferry (s : State) (m : Mem) : (s.setMem m).ferry = s.ferry := rfl
@[simp] theorem State.setMem_media (s : State) (m : Mem) : (s.setMem m).media = s.media := rfl
@[simp] theorem State.setMem_integrity (s : State) (m : Mem) : (s.setMem m).integrity = s.integrity := rfl
@[simp] theorem State.setMem_out (s : State) (m : Mem) : (s.setMem m).out = s.out := rfl
@[simp] theorem State.setMem_draws (s : State) (m : Mem) : (s.setMem m).draws = s.draws := rfl
@[simp] theorem State.setMem_pending (s : State) (m : Mem) : (s.setMem m).pending = s.pending := rfl

/-! ### setTiers -/

@[simp] theorem State.setTiers_part (s : State) (t : Tiers) : (s.setTiers t).part = s.part := rfl
@[simp] theorem State.setTiers_board (s : State) (t : Tiers) : (s.setTiers t).board = s.board := rfl
@[simp] theorem State.setTiers_host (s : State) (t : Tiers) : (s.setTiers t).host = s.host := rfl
@[simp] theorem State.setTiers_mem (s : State) (t : Tiers) : (s.setTiers t).mem = s.mem := rfl
@[simp] theorem State.setTiers_obj (s : State) (t : Tiers) : (s.setTiers t).obj = s.obj := rfl
@[simp] theorem State.setTiers_chans (s : State) (t : Tiers) : (s.setTiers t).chans = s.chans := rfl
@[simp] theorem State.setTiers_inbox (s : State) (t : Tiers) : (s.setTiers t).inbox = s.inbox := rfl
@[simp] theorem State.setTiers_power (s : State) (t : Tiers) : (s.setTiers t).power = s.power := rfl
@[simp] theorem State.setTiers_custody (s : State) (t : Tiers) : (s.setTiers t).custody = s.custody := rfl
@[simp] theorem State.setTiers_flash (s : State) (t : Tiers) : (s.setTiers t).flash = s.flash := rfl
@[simp] theorem State.setTiers_tiers (s : State) (t : Tiers) : (s.setTiers t).tiers = t := rfl
@[simp] theorem State.setTiers_decks (s : State) (t : Tiers) : (s.setTiers t).decks = s.decks := rfl
@[simp] theorem State.setTiers_images (s : State) (t : Tiers) : (s.setTiers t).images = s.images := rfl
@[simp] theorem State.setTiers_serving (s : State) (t : Tiers) : (s.setTiers t).serving = s.serving := rfl
@[simp] theorem State.setTiers_turn (s : State) (t : Tiers) : (s.setTiers t).turn = s.turn := rfl
@[simp] theorem State.setTiers_kv (s : State) (t : Tiers) : (s.setTiers t).kv = s.kv := rfl
@[simp] theorem State.setTiers_experts (s : State) (t : Tiers) : (s.setTiers t).experts = s.experts := rfl
@[simp] theorem State.setTiers_ferry (s : State) (t : Tiers) : (s.setTiers t).ferry = s.ferry := rfl
@[simp] theorem State.setTiers_media (s : State) (t : Tiers) : (s.setTiers t).media = s.media := rfl
@[simp] theorem State.setTiers_integrity (s : State) (t : Tiers) : (s.setTiers t).integrity = s.integrity := rfl
@[simp] theorem State.setTiers_out (s : State) (t : Tiers) : (s.setTiers t).out = s.out := rfl
@[simp] theorem State.setTiers_draws (s : State) (t : Tiers) : (s.setTiers t).draws = s.draws := rfl
@[simp] theorem State.setTiers_pending (s : State) (t : Tiers) : (s.setTiers t).pending = s.pending := rfl

/-! ### setFlash -/

@[simp] theorem State.setFlash_part (s : State) (x : Flash) : (s.setFlash x).part = s.part := rfl
@[simp] theorem State.setFlash_board (s : State) (x : Flash) : (s.setFlash x).board = s.board := rfl
@[simp] theorem State.setFlash_host (s : State) (x : Flash) : (s.setFlash x).host = s.host := rfl
@[simp] theorem State.setFlash_mem (s : State) (x : Flash) : (s.setFlash x).mem = s.mem := rfl
@[simp] theorem State.setFlash_obj (s : State) (x : Flash) : (s.setFlash x).obj = s.obj := rfl
@[simp] theorem State.setFlash_chans (s : State) (x : Flash) : (s.setFlash x).chans = s.chans := rfl
@[simp] theorem State.setFlash_inbox (s : State) (x : Flash) : (s.setFlash x).inbox = s.inbox := rfl
@[simp] theorem State.setFlash_power (s : State) (x : Flash) : (s.setFlash x).power = s.power := rfl
@[simp] theorem State.setFlash_custody (s : State) (x : Flash) : (s.setFlash x).custody = s.custody := rfl
@[simp] theorem State.setFlash_flash (s : State) (x : Flash) : (s.setFlash x).flash = x := rfl
@[simp] theorem State.setFlash_tiers (s : State) (x : Flash) : (s.setFlash x).tiers = s.tiers := rfl
@[simp] theorem State.setFlash_decks (s : State) (x : Flash) : (s.setFlash x).decks = s.decks := rfl
@[simp] theorem State.setFlash_images (s : State) (x : Flash) : (s.setFlash x).images = s.images := rfl
@[simp] theorem State.setFlash_serving (s : State) (x : Flash) : (s.setFlash x).serving = s.serving := rfl
@[simp] theorem State.setFlash_turn (s : State) (x : Flash) : (s.setFlash x).turn = s.turn := rfl
@[simp] theorem State.setFlash_kv (s : State) (x : Flash) : (s.setFlash x).kv = s.kv := rfl
@[simp] theorem State.setFlash_experts (s : State) (x : Flash) : (s.setFlash x).experts = s.experts := rfl
@[simp] theorem State.setFlash_ferry (s : State) (x : Flash) : (s.setFlash x).ferry = s.ferry := rfl
@[simp] theorem State.setFlash_media (s : State) (x : Flash) : (s.setFlash x).media = s.media := rfl
@[simp] theorem State.setFlash_integrity (s : State) (x : Flash) : (s.setFlash x).integrity = s.integrity := rfl
@[simp] theorem State.setFlash_out (s : State) (x : Flash) : (s.setFlash x).out = s.out := rfl
@[simp] theorem State.setFlash_draws (s : State) (x : Flash) : (s.setFlash x).draws = s.draws := rfl
@[simp] theorem State.setFlash_pending (s : State) (x : Flash) : (s.setFlash x).pending = s.pending := rfl

/-! ### setCustody -/

@[simp] theorem State.setCustody_part (s : State) (c : Custody) : (s.setCustody c).part = s.part := rfl
@[simp] theorem State.setCustody_board (s : State) (c : Custody) : (s.setCustody c).board = s.board := rfl
@[simp] theorem State.setCustody_host (s : State) (c : Custody) : (s.setCustody c).host = s.host := rfl
@[simp] theorem State.setCustody_mem (s : State) (c : Custody) : (s.setCustody c).mem = s.mem := rfl
@[simp] theorem State.setCustody_obj (s : State) (c : Custody) : (s.setCustody c).obj = s.obj := rfl
@[simp] theorem State.setCustody_chans (s : State) (c : Custody) : (s.setCustody c).chans = s.chans := rfl
@[simp] theorem State.setCustody_inbox (s : State) (c : Custody) : (s.setCustody c).inbox = s.inbox := rfl
@[simp] theorem State.setCustody_power (s : State) (c : Custody) : (s.setCustody c).power = s.power := rfl
@[simp] theorem State.setCustody_custody (s : State) (c : Custody) : (s.setCustody c).custody = c := rfl
@[simp] theorem State.setCustody_flash (s : State) (c : Custody) : (s.setCustody c).flash = s.flash := rfl
@[simp] theorem State.setCustody_tiers (s : State) (c : Custody) : (s.setCustody c).tiers = s.tiers := rfl
@[simp] theorem State.setCustody_decks (s : State) (c : Custody) : (s.setCustody c).decks = s.decks := rfl
@[simp] theorem State.setCustody_images (s : State) (c : Custody) : (s.setCustody c).images = s.images := rfl
@[simp] theorem State.setCustody_serving (s : State) (c : Custody) : (s.setCustody c).serving = s.serving := rfl
@[simp] theorem State.setCustody_turn (s : State) (c : Custody) : (s.setCustody c).turn = s.turn := rfl
@[simp] theorem State.setCustody_kv (s : State) (c : Custody) : (s.setCustody c).kv = s.kv := rfl
@[simp] theorem State.setCustody_experts (s : State) (c : Custody) : (s.setCustody c).experts = s.experts := rfl
@[simp] theorem State.setCustody_ferry (s : State) (c : Custody) : (s.setCustody c).ferry = s.ferry := rfl
@[simp] theorem State.setCustody_media (s : State) (c : Custody) : (s.setCustody c).media = s.media := rfl
@[simp] theorem State.setCustody_integrity (s : State) (c : Custody) : (s.setCustody c).integrity = s.integrity := rfl
@[simp] theorem State.setCustody_out (s : State) (c : Custody) : (s.setCustody c).out = s.out := rfl
@[simp] theorem State.setCustody_draws (s : State) (c : Custody) : (s.setCustody c).draws = s.draws := rfl
@[simp] theorem State.setCustody_pending (s : State) (c : Custody) : (s.setCustody c).pending = s.pending := rfl

/-! ### setJournal -/

@[simp] theorem State.setJournal_part (s : State) (j : Journal) : (s.setJournal j).part = s.part := rfl
@[simp] theorem State.setJournal_board (s : State) (j : Journal) : (s.setJournal j).board = s.board := rfl
@[simp] theorem State.setJournal_host (s : State) (j : Journal) : (s.setJournal j).host = s.host := rfl
@[simp] theorem State.setJournal_mem (s : State) (j : Journal) : (s.setJournal j).mem = s.mem := rfl
@[simp] theorem State.setJournal_obj (s : State) (j : Journal) : (s.setJournal j).obj = s.obj := rfl
@[simp] theorem State.setJournal_chans (s : State) (j : Journal) : (s.setJournal j).chans = s.chans := rfl
@[simp] theorem State.setJournal_inbox (s : State) (j : Journal) : (s.setJournal j).inbox = s.inbox := rfl
@[simp] theorem State.setJournal_power (s : State) (j : Journal) : (s.setJournal j).power = s.power := rfl
@[simp] theorem State.setJournal_custody (s : State) (j : Journal) : (s.setJournal j).custody = { s.custody with journal := j } := rfl
@[simp] theorem State.setJournal_flash (s : State) (j : Journal) : (s.setJournal j).flash = s.flash := rfl
@[simp] theorem State.setJournal_tiers (s : State) (j : Journal) : (s.setJournal j).tiers = s.tiers := rfl
@[simp] theorem State.setJournal_decks (s : State) (j : Journal) : (s.setJournal j).decks = s.decks := rfl
@[simp] theorem State.setJournal_images (s : State) (j : Journal) : (s.setJournal j).images = s.images := rfl
@[simp] theorem State.setJournal_serving (s : State) (j : Journal) : (s.setJournal j).serving = s.serving := rfl
@[simp] theorem State.setJournal_turn (s : State) (j : Journal) : (s.setJournal j).turn = s.turn := rfl
@[simp] theorem State.setJournal_kv (s : State) (j : Journal) : (s.setJournal j).kv = s.kv := rfl
@[simp] theorem State.setJournal_experts (s : State) (j : Journal) : (s.setJournal j).experts = s.experts := rfl
@[simp] theorem State.setJournal_ferry (s : State) (j : Journal) : (s.setJournal j).ferry = s.ferry := rfl
@[simp] theorem State.setJournal_media (s : State) (j : Journal) : (s.setJournal j).media = s.media := rfl
@[simp] theorem State.setJournal_integrity (s : State) (j : Journal) : (s.setJournal j).integrity = s.integrity := rfl
@[simp] theorem State.setJournal_out (s : State) (j : Journal) : (s.setJournal j).out = s.out := rfl
@[simp] theorem State.setJournal_draws (s : State) (j : Journal) : (s.setJournal j).draws = s.draws := rfl
@[simp] theorem State.setJournal_pending (s : State) (j : Journal) : (s.setJournal j).pending = s.pending := rfl

/-! ### setFerry -/

@[simp] theorem State.setFerry_part (s : State) (x : Ferry) : (s.setFerry x).part = s.part := rfl
@[simp] theorem State.setFerry_board (s : State) (x : Ferry) : (s.setFerry x).board = s.board := rfl
@[simp] theorem State.setFerry_host (s : State) (x : Ferry) : (s.setFerry x).host = s.host := rfl
@[simp] theorem State.setFerry_mem (s : State) (x : Ferry) : (s.setFerry x).mem = s.mem := rfl
@[simp] theorem State.setFerry_obj (s : State) (x : Ferry) : (s.setFerry x).obj = s.obj := rfl
@[simp] theorem State.setFerry_chans (s : State) (x : Ferry) : (s.setFerry x).chans = s.chans := rfl
@[simp] theorem State.setFerry_inbox (s : State) (x : Ferry) : (s.setFerry x).inbox = s.inbox := rfl
@[simp] theorem State.setFerry_power (s : State) (x : Ferry) : (s.setFerry x).power = s.power := rfl
@[simp] theorem State.setFerry_custody (s : State) (x : Ferry) : (s.setFerry x).custody = s.custody := rfl
@[simp] theorem State.setFerry_flash (s : State) (x : Ferry) : (s.setFerry x).flash = s.flash := rfl
@[simp] theorem State.setFerry_tiers (s : State) (x : Ferry) : (s.setFerry x).tiers = s.tiers := rfl
@[simp] theorem State.setFerry_decks (s : State) (x : Ferry) : (s.setFerry x).decks = s.decks := rfl
@[simp] theorem State.setFerry_images (s : State) (x : Ferry) : (s.setFerry x).images = s.images := rfl
@[simp] theorem State.setFerry_serving (s : State) (x : Ferry) : (s.setFerry x).serving = s.serving := rfl
@[simp] theorem State.setFerry_turn (s : State) (x : Ferry) : (s.setFerry x).turn = s.turn := rfl
@[simp] theorem State.setFerry_kv (s : State) (x : Ferry) : (s.setFerry x).kv = s.kv := rfl
@[simp] theorem State.setFerry_experts (s : State) (x : Ferry) : (s.setFerry x).experts = s.experts := rfl
@[simp] theorem State.setFerry_ferry (s : State) (x : Ferry) : (s.setFerry x).ferry = x := rfl
@[simp] theorem State.setFerry_media (s : State) (x : Ferry) : (s.setFerry x).media = s.media := rfl
@[simp] theorem State.setFerry_integrity (s : State) (x : Ferry) : (s.setFerry x).integrity = s.integrity := rfl
@[simp] theorem State.setFerry_out (s : State) (x : Ferry) : (s.setFerry x).out = s.out := rfl
@[simp] theorem State.setFerry_draws (s : State) (x : Ferry) : (s.setFerry x).draws = s.draws := rfl
@[simp] theorem State.setFerry_pending (s : State) (x : Ferry) : (s.setFerry x).pending = s.pending := rfl

/-! ### setImages -/

@[simp] theorem State.setImages_part (s : State) (i : Images) : (s.setImages i).part = s.part := rfl
@[simp] theorem State.setImages_board (s : State) (i : Images) : (s.setImages i).board = s.board := rfl
@[simp] theorem State.setImages_host (s : State) (i : Images) : (s.setImages i).host = s.host := rfl
@[simp] theorem State.setImages_mem (s : State) (i : Images) : (s.setImages i).mem = s.mem := rfl
@[simp] theorem State.setImages_obj (s : State) (i : Images) : (s.setImages i).obj = s.obj := rfl
@[simp] theorem State.setImages_chans (s : State) (i : Images) : (s.setImages i).chans = s.chans := rfl
@[simp] theorem State.setImages_inbox (s : State) (i : Images) : (s.setImages i).inbox = s.inbox := rfl
@[simp] theorem State.setImages_power (s : State) (i : Images) : (s.setImages i).power = s.power := rfl
@[simp] theorem State.setImages_custody (s : State) (i : Images) : (s.setImages i).custody = s.custody := rfl
@[simp] theorem State.setImages_flash (s : State) (i : Images) : (s.setImages i).flash = s.flash := rfl
@[simp] theorem State.setImages_tiers (s : State) (i : Images) : (s.setImages i).tiers = s.tiers := rfl
@[simp] theorem State.setImages_decks (s : State) (i : Images) : (s.setImages i).decks = s.decks := rfl
@[simp] theorem State.setImages_images (s : State) (i : Images) : (s.setImages i).images = i := rfl
@[simp] theorem State.setImages_serving (s : State) (i : Images) : (s.setImages i).serving = s.serving := rfl
@[simp] theorem State.setImages_turn (s : State) (i : Images) : (s.setImages i).turn = s.turn := rfl
@[simp] theorem State.setImages_kv (s : State) (i : Images) : (s.setImages i).kv = s.kv := rfl
@[simp] theorem State.setImages_experts (s : State) (i : Images) : (s.setImages i).experts = s.experts := rfl
@[simp] theorem State.setImages_ferry (s : State) (i : Images) : (s.setImages i).ferry = s.ferry := rfl
@[simp] theorem State.setImages_media (s : State) (i : Images) : (s.setImages i).media = s.media := rfl
@[simp] theorem State.setImages_integrity (s : State) (i : Images) : (s.setImages i).integrity = s.integrity := rfl
@[simp] theorem State.setImages_out (s : State) (i : Images) : (s.setImages i).out = s.out := rfl
@[simp] theorem State.setImages_draws (s : State) (i : Images) : (s.setImages i).draws = s.draws := rfl
@[simp] theorem State.setImages_pending (s : State) (i : Images) : (s.setImages i).pending = s.pending := rfl

/-! ### setKv -/

@[simp] theorem State.setKv_part (s : State) (k : Kv) : (s.setKv k).part = s.part := rfl
@[simp] theorem State.setKv_board (s : State) (k : Kv) : (s.setKv k).board = s.board := rfl
@[simp] theorem State.setKv_host (s : State) (k : Kv) : (s.setKv k).host = s.host := rfl
@[simp] theorem State.setKv_mem (s : State) (k : Kv) : (s.setKv k).mem = s.mem := rfl
@[simp] theorem State.setKv_obj (s : State) (k : Kv) : (s.setKv k).obj = s.obj := rfl
@[simp] theorem State.setKv_chans (s : State) (k : Kv) : (s.setKv k).chans = s.chans := rfl
@[simp] theorem State.setKv_inbox (s : State) (k : Kv) : (s.setKv k).inbox = s.inbox := rfl
@[simp] theorem State.setKv_power (s : State) (k : Kv) : (s.setKv k).power = s.power := rfl
@[simp] theorem State.setKv_custody (s : State) (k : Kv) : (s.setKv k).custody = s.custody := rfl
@[simp] theorem State.setKv_flash (s : State) (k : Kv) : (s.setKv k).flash = s.flash := rfl
@[simp] theorem State.setKv_tiers (s : State) (k : Kv) : (s.setKv k).tiers = s.tiers := rfl
@[simp] theorem State.setKv_decks (s : State) (k : Kv) : (s.setKv k).decks = s.decks := rfl
@[simp] theorem State.setKv_images (s : State) (k : Kv) : (s.setKv k).images = s.images := rfl
@[simp] theorem State.setKv_serving (s : State) (k : Kv) : (s.setKv k).serving = s.serving := rfl
@[simp] theorem State.setKv_turn (s : State) (k : Kv) : (s.setKv k).turn = s.turn := rfl
@[simp] theorem State.setKv_kv (s : State) (k : Kv) : (s.setKv k).kv = k := rfl
@[simp] theorem State.setKv_experts (s : State) (k : Kv) : (s.setKv k).experts = s.experts := rfl
@[simp] theorem State.setKv_ferry (s : State) (k : Kv) : (s.setKv k).ferry = s.ferry := rfl
@[simp] theorem State.setKv_media (s : State) (k : Kv) : (s.setKv k).media = s.media := rfl
@[simp] theorem State.setKv_integrity (s : State) (k : Kv) : (s.setKv k).integrity = s.integrity := rfl
@[simp] theorem State.setKv_out (s : State) (k : Kv) : (s.setKv k).out = s.out := rfl
@[simp] theorem State.setKv_draws (s : State) (k : Kv) : (s.setKv k).draws = s.draws := rfl
@[simp] theorem State.setKv_pending (s : State) (k : Kv) : (s.setKv k).pending = s.pending := rfl

/-! ### setServing -/

@[simp] theorem State.setServing_part (s : State) (x : Serving) : (s.setServing x).part = s.part := rfl
@[simp] theorem State.setServing_board (s : State) (x : Serving) : (s.setServing x).board = s.board := rfl
@[simp] theorem State.setServing_host (s : State) (x : Serving) : (s.setServing x).host = s.host := rfl
@[simp] theorem State.setServing_mem (s : State) (x : Serving) : (s.setServing x).mem = s.mem := rfl
@[simp] theorem State.setServing_obj (s : State) (x : Serving) : (s.setServing x).obj = s.obj := rfl
@[simp] theorem State.setServing_chans (s : State) (x : Serving) : (s.setServing x).chans = s.chans := rfl
@[simp] theorem State.setServing_inbox (s : State) (x : Serving) : (s.setServing x).inbox = s.inbox := rfl
@[simp] theorem State.setServing_power (s : State) (x : Serving) : (s.setServing x).power = s.power := rfl
@[simp] theorem State.setServing_custody (s : State) (x : Serving) : (s.setServing x).custody = s.custody := rfl
@[simp] theorem State.setServing_flash (s : State) (x : Serving) : (s.setServing x).flash = s.flash := rfl
@[simp] theorem State.setServing_tiers (s : State) (x : Serving) : (s.setServing x).tiers = s.tiers := rfl
@[simp] theorem State.setServing_decks (s : State) (x : Serving) : (s.setServing x).decks = s.decks := rfl
@[simp] theorem State.setServing_images (s : State) (x : Serving) : (s.setServing x).images = s.images := rfl
@[simp] theorem State.setServing_serving (s : State) (x : Serving) : (s.setServing x).serving = x := rfl
@[simp] theorem State.setServing_turn (s : State) (x : Serving) : (s.setServing x).turn = s.turn := rfl
@[simp] theorem State.setServing_kv (s : State) (x : Serving) : (s.setServing x).kv = s.kv := rfl
@[simp] theorem State.setServing_experts (s : State) (x : Serving) : (s.setServing x).experts = s.experts := rfl
@[simp] theorem State.setServing_ferry (s : State) (x : Serving) : (s.setServing x).ferry = s.ferry := rfl
@[simp] theorem State.setServing_media (s : State) (x : Serving) : (s.setServing x).media = s.media := rfl
@[simp] theorem State.setServing_integrity (s : State) (x : Serving) : (s.setServing x).integrity = s.integrity := rfl
@[simp] theorem State.setServing_out (s : State) (x : Serving) : (s.setServing x).out = s.out := rfl
@[simp] theorem State.setServing_draws (s : State) (x : Serving) : (s.setServing x).draws = s.draws := rfl
@[simp] theorem State.setServing_pending (s : State) (x : Serving) : (s.setServing x).pending = s.pending := rfl

/-! ### setMedia -/

@[simp] theorem State.setMedia_part (s : State) (m : Media) : (s.setMedia m).part = s.part := rfl
@[simp] theorem State.setMedia_board (s : State) (m : Media) : (s.setMedia m).board = s.board := rfl
@[simp] theorem State.setMedia_host (s : State) (m : Media) : (s.setMedia m).host = s.host := rfl
@[simp] theorem State.setMedia_mem (s : State) (m : Media) : (s.setMedia m).mem = s.mem := rfl
@[simp] theorem State.setMedia_obj (s : State) (m : Media) : (s.setMedia m).obj = s.obj := rfl
@[simp] theorem State.setMedia_chans (s : State) (m : Media) : (s.setMedia m).chans = s.chans := rfl
@[simp] theorem State.setMedia_inbox (s : State) (m : Media) : (s.setMedia m).inbox = s.inbox := rfl
@[simp] theorem State.setMedia_power (s : State) (m : Media) : (s.setMedia m).power = s.power := rfl
@[simp] theorem State.setMedia_custody (s : State) (m : Media) : (s.setMedia m).custody = s.custody := rfl
@[simp] theorem State.setMedia_flash (s : State) (m : Media) : (s.setMedia m).flash = s.flash := rfl
@[simp] theorem State.setMedia_tiers (s : State) (m : Media) : (s.setMedia m).tiers = s.tiers := rfl
@[simp] theorem State.setMedia_decks (s : State) (m : Media) : (s.setMedia m).decks = s.decks := rfl
@[simp] theorem State.setMedia_images (s : State) (m : Media) : (s.setMedia m).images = s.images := rfl
@[simp] theorem State.setMedia_serving (s : State) (m : Media) : (s.setMedia m).serving = s.serving := rfl
@[simp] theorem State.setMedia_turn (s : State) (m : Media) : (s.setMedia m).turn = s.turn := rfl
@[simp] theorem State.setMedia_kv (s : State) (m : Media) : (s.setMedia m).kv = s.kv := rfl
@[simp] theorem State.setMedia_experts (s : State) (m : Media) : (s.setMedia m).experts = s.experts := rfl
@[simp] theorem State.setMedia_ferry (s : State) (m : Media) : (s.setMedia m).ferry = s.ferry := rfl
@[simp] theorem State.setMedia_media (s : State) (m : Media) : (s.setMedia m).media = m := rfl
@[simp] theorem State.setMedia_integrity (s : State) (m : Media) : (s.setMedia m).integrity = s.integrity := rfl
@[simp] theorem State.setMedia_out (s : State) (m : Media) : (s.setMedia m).out = s.out := rfl
@[simp] theorem State.setMedia_draws (s : State) (m : Media) : (s.setMedia m).draws = s.draws := rfl
@[simp] theorem State.setMedia_pending (s : State) (m : Media) : (s.setMedia m).pending = s.pending := rfl

/-! ### setPower -/

@[simp] theorem State.setPower_part (s : State) (p : Power) : (s.setPower p).part = s.part := rfl
@[simp] theorem State.setPower_board (s : State) (p : Power) : (s.setPower p).board = s.board := rfl
@[simp] theorem State.setPower_host (s : State) (p : Power) : (s.setPower p).host = s.host := rfl
@[simp] theorem State.setPower_mem (s : State) (p : Power) : (s.setPower p).mem = s.mem := rfl
@[simp] theorem State.setPower_obj (s : State) (p : Power) : (s.setPower p).obj = s.obj := rfl
@[simp] theorem State.setPower_chans (s : State) (p : Power) : (s.setPower p).chans = s.chans := rfl
@[simp] theorem State.setPower_inbox (s : State) (p : Power) : (s.setPower p).inbox = s.inbox := rfl
@[simp] theorem State.setPower_power (s : State) (p : Power) : (s.setPower p).power = p := rfl
@[simp] theorem State.setPower_custody (s : State) (p : Power) : (s.setPower p).custody = s.custody := rfl
@[simp] theorem State.setPower_flash (s : State) (p : Power) : (s.setPower p).flash = s.flash := rfl
@[simp] theorem State.setPower_tiers (s : State) (p : Power) : (s.setPower p).tiers = s.tiers := rfl
@[simp] theorem State.setPower_decks (s : State) (p : Power) : (s.setPower p).decks = s.decks := rfl
@[simp] theorem State.setPower_images (s : State) (p : Power) : (s.setPower p).images = s.images := rfl
@[simp] theorem State.setPower_serving (s : State) (p : Power) : (s.setPower p).serving = s.serving := rfl
@[simp] theorem State.setPower_turn (s : State) (p : Power) : (s.setPower p).turn = s.turn := rfl
@[simp] theorem State.setPower_kv (s : State) (p : Power) : (s.setPower p).kv = s.kv := rfl
@[simp] theorem State.setPower_experts (s : State) (p : Power) : (s.setPower p).experts = s.experts := rfl
@[simp] theorem State.setPower_ferry (s : State) (p : Power) : (s.setPower p).ferry = s.ferry := rfl
@[simp] theorem State.setPower_media (s : State) (p : Power) : (s.setPower p).media = s.media := rfl
@[simp] theorem State.setPower_integrity (s : State) (p : Power) : (s.setPower p).integrity = s.integrity := rfl
@[simp] theorem State.setPower_out (s : State) (p : Power) : (s.setPower p).out = s.out := rfl
@[simp] theorem State.setPower_draws (s : State) (p : Power) : (s.setPower p).draws = s.draws := rfl
@[simp] theorem State.setPower_pending (s : State) (p : Power) : (s.setPower p).pending = s.pending := rfl

/-! ### setIntegrity -/

@[simp] theorem State.setIntegrity_part (s : State) (i : Integrity) : (s.setIntegrity i).part = s.part := rfl
@[simp] theorem State.setIntegrity_board (s : State) (i : Integrity) : (s.setIntegrity i).board = s.board := rfl
@[simp] theorem State.setIntegrity_host (s : State) (i : Integrity) : (s.setIntegrity i).host = s.host := rfl
@[simp] theorem State.setIntegrity_mem (s : State) (i : Integrity) : (s.setIntegrity i).mem = s.mem := rfl
@[simp] theorem State.setIntegrity_obj (s : State) (i : Integrity) : (s.setIntegrity i).obj = s.obj := rfl
@[simp] theorem State.setIntegrity_chans (s : State) (i : Integrity) : (s.setIntegrity i).chans = s.chans := rfl
@[simp] theorem State.setIntegrity_inbox (s : State) (i : Integrity) : (s.setIntegrity i).inbox = s.inbox := rfl
@[simp] theorem State.setIntegrity_power (s : State) (i : Integrity) : (s.setIntegrity i).power = s.power := rfl
@[simp] theorem State.setIntegrity_custody (s : State) (i : Integrity) : (s.setIntegrity i).custody = s.custody := rfl
@[simp] theorem State.setIntegrity_flash (s : State) (i : Integrity) : (s.setIntegrity i).flash = s.flash := rfl
@[simp] theorem State.setIntegrity_tiers (s : State) (i : Integrity) : (s.setIntegrity i).tiers = s.tiers := rfl
@[simp] theorem State.setIntegrity_decks (s : State) (i : Integrity) : (s.setIntegrity i).decks = s.decks := rfl
@[simp] theorem State.setIntegrity_images (s : State) (i : Integrity) : (s.setIntegrity i).images = s.images := rfl
@[simp] theorem State.setIntegrity_serving (s : State) (i : Integrity) : (s.setIntegrity i).serving = s.serving := rfl
@[simp] theorem State.setIntegrity_turn (s : State) (i : Integrity) : (s.setIntegrity i).turn = s.turn := rfl
@[simp] theorem State.setIntegrity_kv (s : State) (i : Integrity) : (s.setIntegrity i).kv = s.kv := rfl
@[simp] theorem State.setIntegrity_experts (s : State) (i : Integrity) : (s.setIntegrity i).experts = s.experts := rfl
@[simp] theorem State.setIntegrity_ferry (s : State) (i : Integrity) : (s.setIntegrity i).ferry = s.ferry := rfl
@[simp] theorem State.setIntegrity_media (s : State) (i : Integrity) : (s.setIntegrity i).media = s.media := rfl
@[simp] theorem State.setIntegrity_integrity (s : State) (i : Integrity) : (s.setIntegrity i).integrity = i := rfl
@[simp] theorem State.setIntegrity_out (s : State) (i : Integrity) : (s.setIntegrity i).out = s.out := rfl
@[simp] theorem State.setIntegrity_draws (s : State) (i : Integrity) : (s.setIntegrity i).draws = s.draws := rfl
@[simp] theorem State.setIntegrity_pending (s : State) (i : Integrity) : (s.setIntegrity i).pending = s.pending := rfl

/-! ### setDeck -/

@[simp] theorem State.setDeck_part (s : State) (k : Fin 16) (d : Deck) : (s.setDeck k d).part = s.part := rfl
@[simp] theorem State.setDeck_board (s : State) (k : Fin 16) (d : Deck) : (s.setDeck k d).board = s.board := rfl
@[simp] theorem State.setDeck_host (s : State) (k : Fin 16) (d : Deck) : (s.setDeck k d).host = s.host := rfl
@[simp] theorem State.setDeck_mem (s : State) (k : Fin 16) (d : Deck) : (s.setDeck k d).mem = s.mem := rfl
@[simp] theorem State.setDeck_obj (s : State) (k : Fin 16) (d : Deck) : (s.setDeck k d).obj = s.obj := rfl
@[simp] theorem State.setDeck_chans (s : State) (k : Fin 16) (d : Deck) : (s.setDeck k d).chans = s.chans := rfl
@[simp] theorem State.setDeck_inbox (s : State) (k : Fin 16) (d : Deck) : (s.setDeck k d).inbox = s.inbox := rfl
@[simp] theorem State.setDeck_power (s : State) (k : Fin 16) (d : Deck) : (s.setDeck k d).power = s.power := rfl
@[simp] theorem State.setDeck_custody (s : State) (k : Fin 16) (d : Deck) : (s.setDeck k d).custody = s.custody := rfl
@[simp] theorem State.setDeck_flash (s : State) (k : Fin 16) (d : Deck) : (s.setDeck k d).flash = s.flash := rfl
@[simp] theorem State.setDeck_tiers (s : State) (k : Fin 16) (d : Deck) : (s.setDeck k d).tiers = s.tiers := rfl
@[simp] theorem State.setDeck_decks (s : State) (k : Fin 16) (d : Deck) : (s.setDeck k d).decks = s.decks.set k.val d := rfl
@[simp] theorem State.setDeck_images (s : State) (k : Fin 16) (d : Deck) : (s.setDeck k d).images = s.images := rfl
@[simp] theorem State.setDeck_serving (s : State) (k : Fin 16) (d : Deck) : (s.setDeck k d).serving = s.serving := rfl
@[simp] theorem State.setDeck_turn (s : State) (k : Fin 16) (d : Deck) : (s.setDeck k d).turn = s.turn := rfl
@[simp] theorem State.setDeck_kv (s : State) (k : Fin 16) (d : Deck) : (s.setDeck k d).kv = s.kv := rfl
@[simp] theorem State.setDeck_experts (s : State) (k : Fin 16) (d : Deck) : (s.setDeck k d).experts = s.experts := rfl
@[simp] theorem State.setDeck_ferry (s : State) (k : Fin 16) (d : Deck) : (s.setDeck k d).ferry = s.ferry := rfl
@[simp] theorem State.setDeck_media (s : State) (k : Fin 16) (d : Deck) : (s.setDeck k d).media = s.media := rfl
@[simp] theorem State.setDeck_integrity (s : State) (k : Fin 16) (d : Deck) : (s.setDeck k d).integrity = s.integrity := rfl
@[simp] theorem State.setDeck_out (s : State) (k : Fin 16) (d : Deck) : (s.setDeck k d).out = s.out := rfl
@[simp] theorem State.setDeck_draws (s : State) (k : Fin 16) (d : Deck) : (s.setDeck k d).draws = s.draws := rfl
@[simp] theorem State.setDeck_pending (s : State) (k : Fin 16) (d : Deck) : (s.setDeck k d).pending = s.pending := rfl

/-! ### bumpBy -/

@[simp] theorem State.bumpBy_part (s : State) (i n b v : Nat) : (s.bumpBy i n b v).part = s.part := rfl
@[simp] theorem State.bumpBy_board (s : State) (i n b v : Nat) : (s.bumpBy i n b v).board = s.board := rfl
@[simp] theorem State.bumpBy_host (s : State) (i n b v : Nat) : (s.bumpBy i n b v).host = s.host := rfl
@[simp] theorem State.bumpBy_mem (s : State) (i n b v : Nat) : (s.bumpBy i n b v).mem = s.mem := rfl
@[simp] theorem State.bumpBy_chans (s : State) (i n b v : Nat) : (s.bumpBy i n b v).chans = s.chans := rfl
@[simp] theorem State.bumpBy_inbox (s : State) (i n b v : Nat) : (s.bumpBy i n b v).inbox = s.inbox := rfl
@[simp] theorem State.bumpBy_power (s : State) (i n b v : Nat) : (s.bumpBy i n b v).power = s.power := rfl
@[simp] theorem State.bumpBy_custody (s : State) (i n b v : Nat) : (s.bumpBy i n b v).custody = s.custody := rfl
@[simp] theorem State.bumpBy_flash (s : State) (i n b v : Nat) : (s.bumpBy i n b v).flash = s.flash := rfl
@[simp] theorem State.bumpBy_tiers (s : State) (i n b v : Nat) : (s.bumpBy i n b v).tiers = s.tiers := rfl
@[simp] theorem State.bumpBy_decks (s : State) (i n b v : Nat) : (s.bumpBy i n b v).decks = s.decks := rfl
@[simp] theorem State.bumpBy_images (s : State) (i n b v : Nat) : (s.bumpBy i n b v).images = s.images := rfl
@[simp] theorem State.bumpBy_serving (s : State) (i n b v : Nat) : (s.bumpBy i n b v).serving = s.serving := rfl
@[simp] theorem State.bumpBy_turn (s : State) (i n b v : Nat) : (s.bumpBy i n b v).turn = s.turn := rfl
@[simp] theorem State.bumpBy_kv (s : State) (i n b v : Nat) : (s.bumpBy i n b v).kv = s.kv := rfl
@[simp] theorem State.bumpBy_experts (s : State) (i n b v : Nat) : (s.bumpBy i n b v).experts = s.experts := rfl
@[simp] theorem State.bumpBy_ferry (s : State) (i n b v : Nat) : (s.bumpBy i n b v).ferry = s.ferry := rfl
@[simp] theorem State.bumpBy_media (s : State) (i n b v : Nat) : (s.bumpBy i n b v).media = s.media := rfl
@[simp] theorem State.bumpBy_integrity (s : State) (i n b v : Nat) : (s.bumpBy i n b v).integrity = s.integrity := rfl
@[simp] theorem State.bumpBy_out (s : State) (i n b v : Nat) : (s.bumpBy i n b v).out = s.out := rfl
@[simp] theorem State.bumpBy_draws (s : State) (i n b v : Nat) : (s.bumpBy i n b v).draws = s.draws := rfl
@[simp] theorem State.bumpBy_pending (s : State) (i n b v : Nat) : (s.bumpBy i n b v).pending = s.pending := rfl

/-! ### bump -/

@[simp] theorem State.bump_part (s : State) (i n : Nat) : (s.bump i n).part = s.part := by simp [State.bump]
@[simp] theorem State.bump_board (s : State) (i n : Nat) : (s.bump i n).board = s.board := by simp [State.bump]
@[simp] theorem State.bump_host (s : State) (i n : Nat) : (s.bump i n).host = s.host := by simp [State.bump]
@[simp] theorem State.bump_mem (s : State) (i n : Nat) : (s.bump i n).mem = s.mem := by simp [State.bump]
@[simp] theorem State.bump_chans (s : State) (i n : Nat) : (s.bump i n).chans = s.chans := by simp [State.bump]
@[simp] theorem State.bump_inbox (s : State) (i n : Nat) : (s.bump i n).inbox = s.inbox := by simp [State.bump]
@[simp] theorem State.bump_power (s : State) (i n : Nat) : (s.bump i n).power = s.power := by simp [State.bump]
@[simp] theorem State.bump_custody (s : State) (i n : Nat) : (s.bump i n).custody = s.custody := by simp [State.bump]
@[simp] theorem State.bump_flash (s : State) (i n : Nat) : (s.bump i n).flash = s.flash := by simp [State.bump]
@[simp] theorem State.bump_tiers (s : State) (i n : Nat) : (s.bump i n).tiers = s.tiers := by simp [State.bump]
@[simp] theorem State.bump_decks (s : State) (i n : Nat) : (s.bump i n).decks = s.decks := by simp [State.bump]
@[simp] theorem State.bump_images (s : State) (i n : Nat) : (s.bump i n).images = s.images := by simp [State.bump]
@[simp] theorem State.bump_serving (s : State) (i n : Nat) : (s.bump i n).serving = s.serving := by simp [State.bump]
@[simp] theorem State.bump_turn (s : State) (i n : Nat) : (s.bump i n).turn = s.turn := by simp [State.bump]
@[simp] theorem State.bump_kv (s : State) (i n : Nat) : (s.bump i n).kv = s.kv := by simp [State.bump]
@[simp] theorem State.bump_experts (s : State) (i n : Nat) : (s.bump i n).experts = s.experts := by simp [State.bump]
@[simp] theorem State.bump_ferry (s : State) (i n : Nat) : (s.bump i n).ferry = s.ferry := by simp [State.bump]
@[simp] theorem State.bump_media (s : State) (i n : Nat) : (s.bump i n).media = s.media := by simp [State.bump]
@[simp] theorem State.bump_integrity (s : State) (i n : Nat) : (s.bump i n).integrity = s.integrity := by simp [State.bump]
@[simp] theorem State.bump_out (s : State) (i n : Nat) : (s.bump i n).out = s.out := by simp [State.bump]
@[simp] theorem State.bump_draws (s : State) (i n : Nat) : (s.bump i n).draws = s.draws := by simp [State.bump]
@[simp] theorem State.bump_pending (s : State) (i n : Nat) : (s.bump i n).pending = s.pending := by simp [State.bump]

/-! ### bumpSat -/

@[simp] theorem State.bumpSat_part (s : State) (i n : Nat) : (s.bumpSat i n).part = s.part := rfl
@[simp] theorem State.bumpSat_board (s : State) (i n : Nat) : (s.bumpSat i n).board = s.board := rfl
@[simp] theorem State.bumpSat_host (s : State) (i n : Nat) : (s.bumpSat i n).host = s.host := rfl
@[simp] theorem State.bumpSat_mem (s : State) (i n : Nat) : (s.bumpSat i n).mem = s.mem := rfl
@[simp] theorem State.bumpSat_chans (s : State) (i n : Nat) : (s.bumpSat i n).chans = s.chans := rfl
@[simp] theorem State.bumpSat_inbox (s : State) (i n : Nat) : (s.bumpSat i n).inbox = s.inbox := rfl
@[simp] theorem State.bumpSat_power (s : State) (i n : Nat) : (s.bumpSat i n).power = s.power := rfl
@[simp] theorem State.bumpSat_custody (s : State) (i n : Nat) : (s.bumpSat i n).custody = s.custody := rfl
@[simp] theorem State.bumpSat_flash (s : State) (i n : Nat) : (s.bumpSat i n).flash = s.flash := rfl
@[simp] theorem State.bumpSat_tiers (s : State) (i n : Nat) : (s.bumpSat i n).tiers = s.tiers := rfl
@[simp] theorem State.bumpSat_decks (s : State) (i n : Nat) : (s.bumpSat i n).decks = s.decks := rfl
@[simp] theorem State.bumpSat_images (s : State) (i n : Nat) : (s.bumpSat i n).images = s.images := rfl
@[simp] theorem State.bumpSat_serving (s : State) (i n : Nat) : (s.bumpSat i n).serving = s.serving := rfl
@[simp] theorem State.bumpSat_turn (s : State) (i n : Nat) : (s.bumpSat i n).turn = s.turn := rfl
@[simp] theorem State.bumpSat_kv (s : State) (i n : Nat) : (s.bumpSat i n).kv = s.kv := rfl
@[simp] theorem State.bumpSat_experts (s : State) (i n : Nat) : (s.bumpSat i n).experts = s.experts := rfl
@[simp] theorem State.bumpSat_ferry (s : State) (i n : Nat) : (s.bumpSat i n).ferry = s.ferry := rfl
@[simp] theorem State.bumpSat_media (s : State) (i n : Nat) : (s.bumpSat i n).media = s.media := rfl
@[simp] theorem State.bumpSat_integrity (s : State) (i n : Nat) : (s.bumpSat i n).integrity = s.integrity := rfl
@[simp] theorem State.bumpSat_out (s : State) (i n : Nat) : (s.bumpSat i n).out = s.out := rfl
@[simp] theorem State.bumpSat_draws (s : State) (i n : Nat) : (s.bumpSat i n).draws = s.draws := rfl
@[simp] theorem State.bumpSat_pending (s : State) (i n : Nat) : (s.bumpSat i n).pending = s.pending := rfl

/-! ### setSel -/

@[simp] theorem State.setSel_part (s : State) (ch : Channel) (i n v : Nat) : (s.setSel ch i n v).part = s.part := rfl
@[simp] theorem State.setSel_board (s : State) (ch : Channel) (i n v : Nat) : (s.setSel ch i n v).board = s.board := rfl
@[simp] theorem State.setSel_host (s : State) (ch : Channel) (i n v : Nat) : (s.setSel ch i n v).host = s.host := rfl
@[simp] theorem State.setSel_mem (s : State) (ch : Channel) (i n v : Nat) : (s.setSel ch i n v).mem = s.mem := rfl
@[simp] theorem State.setSel_obj (s : State) (ch : Channel) (i n v : Nat) : (s.setSel ch i n v).obj = s.obj := rfl
@[simp] theorem State.setSel_power (s : State) (ch : Channel) (i n v : Nat) : (s.setSel ch i n v).power = s.power := rfl
@[simp] theorem State.setSel_custody (s : State) (ch : Channel) (i n v : Nat) : (s.setSel ch i n v).custody = s.custody := rfl
@[simp] theorem State.setSel_flash (s : State) (ch : Channel) (i n v : Nat) : (s.setSel ch i n v).flash = s.flash := rfl
@[simp] theorem State.setSel_tiers (s : State) (ch : Channel) (i n v : Nat) : (s.setSel ch i n v).tiers = s.tiers := rfl
@[simp] theorem State.setSel_decks (s : State) (ch : Channel) (i n v : Nat) : (s.setSel ch i n v).decks = s.decks := rfl
@[simp] theorem State.setSel_images (s : State) (ch : Channel) (i n v : Nat) : (s.setSel ch i n v).images = s.images := rfl
@[simp] theorem State.setSel_serving (s : State) (ch : Channel) (i n v : Nat) : (s.setSel ch i n v).serving = s.serving := rfl
@[simp] theorem State.setSel_turn (s : State) (ch : Channel) (i n v : Nat) : (s.setSel ch i n v).turn = s.turn := rfl
@[simp] theorem State.setSel_kv (s : State) (ch : Channel) (i n v : Nat) : (s.setSel ch i n v).kv = s.kv := rfl
@[simp] theorem State.setSel_experts (s : State) (ch : Channel) (i n v : Nat) : (s.setSel ch i n v).experts = s.experts := rfl
@[simp] theorem State.setSel_ferry (s : State) (ch : Channel) (i n v : Nat) : (s.setSel ch i n v).ferry = s.ferry := rfl
@[simp] theorem State.setSel_media (s : State) (ch : Channel) (i n v : Nat) : (s.setSel ch i n v).media = s.media := rfl
@[simp] theorem State.setSel_integrity (s : State) (ch : Channel) (i n v : Nat) : (s.setSel ch i n v).integrity = s.integrity := rfl
@[simp] theorem State.setSel_out (s : State) (ch : Channel) (i n v : Nat) : (s.setSel ch i n v).out = s.out := rfl
@[simp] theorem State.setSel_draws (s : State) (ch : Channel) (i n v : Nat) : (s.setSel ch i n v).draws = s.draws := rfl
@[simp] theorem State.setSel_pending (s : State) (ch : Channel) (i n v : Nat) : (s.setSel ch i n v).pending = s.pending := rfl

/-! ### msix -/

@[simp] theorem State.msix_part (s : State) (v : Nat) : (s.msix v).part = s.part := by unfold State.msix; split <;> rfl
@[simp] theorem State.msix_board (s : State) (v : Nat) : (s.msix v).board = s.board := by unfold State.msix; split <;> rfl
@[simp] theorem State.msix_host (s : State) (v : Nat) : (s.msix v).host = s.host := by unfold State.msix; split <;> rfl
@[simp] theorem State.msix_mem (s : State) (v : Nat) : (s.msix v).mem = s.mem := by unfold State.msix; split <;> rfl
@[simp] theorem State.msix_obj (s : State) (v : Nat) : (s.msix v).obj = s.obj := by unfold State.msix; split <;> rfl
@[simp] theorem State.msix_chans (s : State) (v : Nat) : (s.msix v).chans = s.chans := by unfold State.msix; split <;> rfl
@[simp] theorem State.msix_inbox (s : State) (v : Nat) : (s.msix v).inbox = s.inbox := by unfold State.msix; split <;> rfl
@[simp] theorem State.msix_power (s : State) (v : Nat) : (s.msix v).power = s.power := by unfold State.msix; split <;> rfl
@[simp] theorem State.msix_custody (s : State) (v : Nat) : (s.msix v).custody = s.custody := by unfold State.msix; split <;> rfl
@[simp] theorem State.msix_flash (s : State) (v : Nat) : (s.msix v).flash = s.flash := by unfold State.msix; split <;> rfl
@[simp] theorem State.msix_tiers (s : State) (v : Nat) : (s.msix v).tiers = s.tiers := by unfold State.msix; split <;> rfl
@[simp] theorem State.msix_decks (s : State) (v : Nat) : (s.msix v).decks = s.decks := by unfold State.msix; split <;> rfl
@[simp] theorem State.msix_images (s : State) (v : Nat) : (s.msix v).images = s.images := by unfold State.msix; split <;> rfl
@[simp] theorem State.msix_serving (s : State) (v : Nat) : (s.msix v).serving = s.serving := by unfold State.msix; split <;> rfl
@[simp] theorem State.msix_turn (s : State) (v : Nat) : (s.msix v).turn = s.turn := by unfold State.msix; split <;> rfl
@[simp] theorem State.msix_kv (s : State) (v : Nat) : (s.msix v).kv = s.kv := by unfold State.msix; split <;> rfl
@[simp] theorem State.msix_experts (s : State) (v : Nat) : (s.msix v).experts = s.experts := by unfold State.msix; split <;> rfl
@[simp] theorem State.msix_ferry (s : State) (v : Nat) : (s.msix v).ferry = s.ferry := by unfold State.msix; split <;> rfl
@[simp] theorem State.msix_media (s : State) (v : Nat) : (s.msix v).media = s.media := by unfold State.msix; split <;> rfl
@[simp] theorem State.msix_integrity (s : State) (v : Nat) : (s.msix v).integrity = s.integrity := by unfold State.msix; split <;> rfl
@[simp] theorem State.msix_draws (s : State) (v : Nat) : (s.msix v).draws = s.draws := by unfold State.msix; split <;> rfl
@[simp] theorem State.msix_pending (s : State) (v : Nat) : (s.msix v).pending = s.pending := by unfold State.msix; split <;> rfl

/-! ### ibi -/

@[simp] theorem State.ibi_part (s : State) (b : Byte) : (s.ibi b).part = s.part := by unfold State.ibi; split <;> rfl
@[simp] theorem State.ibi_board (s : State) (b : Byte) : (s.ibi b).board = s.board := by unfold State.ibi; split <;> rfl
@[simp] theorem State.ibi_host (s : State) (b : Byte) : (s.ibi b).host = s.host := by unfold State.ibi; split <;> rfl
@[simp] theorem State.ibi_mem (s : State) (b : Byte) : (s.ibi b).mem = s.mem := by unfold State.ibi; split <;> rfl
@[simp] theorem State.ibi_obj (s : State) (b : Byte) : (s.ibi b).obj = s.obj := by unfold State.ibi; split <;> rfl
@[simp] theorem State.ibi_chans (s : State) (b : Byte) : (s.ibi b).chans = s.chans := by unfold State.ibi; split <;> rfl
@[simp] theorem State.ibi_inbox (s : State) (b : Byte) : (s.ibi b).inbox = s.inbox := by unfold State.ibi; split <;> rfl
@[simp] theorem State.ibi_power (s : State) (b : Byte) : (s.ibi b).power = s.power := by unfold State.ibi; split <;> rfl
@[simp] theorem State.ibi_custody (s : State) (b : Byte) : (s.ibi b).custody = s.custody := by unfold State.ibi; split <;> rfl
@[simp] theorem State.ibi_flash (s : State) (b : Byte) : (s.ibi b).flash = s.flash := by unfold State.ibi; split <;> rfl
@[simp] theorem State.ibi_tiers (s : State) (b : Byte) : (s.ibi b).tiers = s.tiers := by unfold State.ibi; split <;> rfl
@[simp] theorem State.ibi_decks (s : State) (b : Byte) : (s.ibi b).decks = s.decks := by unfold State.ibi; split <;> rfl
@[simp] theorem State.ibi_images (s : State) (b : Byte) : (s.ibi b).images = s.images := by unfold State.ibi; split <;> rfl
@[simp] theorem State.ibi_serving (s : State) (b : Byte) : (s.ibi b).serving = s.serving := by unfold State.ibi; split <;> rfl
@[simp] theorem State.ibi_turn (s : State) (b : Byte) : (s.ibi b).turn = s.turn := by unfold State.ibi; split <;> rfl
@[simp] theorem State.ibi_kv (s : State) (b : Byte) : (s.ibi b).kv = s.kv := by unfold State.ibi; split <;> rfl
@[simp] theorem State.ibi_experts (s : State) (b : Byte) : (s.ibi b).experts = s.experts := by unfold State.ibi; split <;> rfl
@[simp] theorem State.ibi_ferry (s : State) (b : Byte) : (s.ibi b).ferry = s.ferry := by unfold State.ibi; split <;> rfl
@[simp] theorem State.ibi_media (s : State) (b : Byte) : (s.ibi b).media = s.media := by unfold State.ibi; split <;> rfl
@[simp] theorem State.ibi_integrity (s : State) (b : Byte) : (s.ibi b).integrity = s.integrity := by unfold State.ibi; split <;> rfl
@[simp] theorem State.ibi_draws (s : State) (b : Byte) : (s.ibi b).draws = s.draws := by unfold State.ibi; split <;> rfl
@[simp] theorem State.ibi_pending (s : State) (b : Byte) : (s.ibi b).pending = s.pending := by unfold State.ibi; split <;> rfl

/-! ### advanceCounter -/

@[simp] theorem State.advanceCounter_part (s : State) (n k : Nat) : (s.advanceCounter n k).part = s.part := rfl
@[simp] theorem State.advanceCounter_board (s : State) (n k : Nat) : (s.advanceCounter n k).board = s.board := rfl
@[simp] theorem State.advanceCounter_host (s : State) (n k : Nat) : (s.advanceCounter n k).host = s.host := rfl
@[simp] theorem State.advanceCounter_mem (s : State) (n k : Nat) : (s.advanceCounter n k).mem = s.mem := rfl
@[simp] theorem State.advanceCounter_obj (s : State) (n k : Nat) : (s.advanceCounter n k).obj = s.obj := rfl
@[simp] theorem State.advanceCounter_chans (s : State) (n k : Nat) : (s.advanceCounter n k).chans = s.chans := rfl
@[simp] theorem State.advanceCounter_inbox (s : State) (n k : Nat) : (s.advanceCounter n k).inbox = s.inbox := rfl
@[simp] theorem State.advanceCounter_power (s : State) (n k : Nat) : (s.advanceCounter n k).power = s.power := rfl
@[simp] theorem State.advanceCounter_regions (s : State) (n k : Nat) :
    (s.advanceCounter n k).flash.regions = s.flash.regions := by
  simp only [State.advanceCounter]; split <;> rfl
@[simp] theorem State.advanceCounter_tiers (s : State) (n k : Nat) : (s.advanceCounter n k).tiers = s.tiers := rfl
@[simp] theorem State.advanceCounter_decks (s : State) (n k : Nat) : (s.advanceCounter n k).decks = s.decks := rfl
@[simp] theorem State.advanceCounter_images (s : State) (n k : Nat) : (s.advanceCounter n k).images = s.images := rfl
@[simp] theorem State.advanceCounter_serving (s : State) (n k : Nat) : (s.advanceCounter n k).serving = s.serving := rfl
@[simp] theorem State.advanceCounter_turn (s : State) (n k : Nat) : (s.advanceCounter n k).turn = s.turn := rfl
@[simp] theorem State.advanceCounter_kv (s : State) (n k : Nat) : (s.advanceCounter n k).kv = s.kv := rfl
@[simp] theorem State.advanceCounter_experts (s : State) (n k : Nat) : (s.advanceCounter n k).experts = s.experts := rfl
@[simp] theorem State.advanceCounter_ferry (s : State) (n k : Nat) : (s.advanceCounter n k).ferry = s.ferry := rfl
@[simp] theorem State.advanceCounter_media (s : State) (n k : Nat) : (s.advanceCounter n k).media = s.media := rfl
@[simp] theorem State.advanceCounter_integrity (s : State) (n k : Nat) : (s.advanceCounter n k).integrity = s.integrity := rfl
@[simp] theorem State.advanceCounter_out (s : State) (n k : Nat) : (s.advanceCounter n k).out = s.out := rfl
@[simp] theorem State.advanceCounter_draws (s : State) (n k : Nat) : (s.advanceCounter n k).draws = s.draws := rfl
@[simp] theorem State.advanceCounter_pending (s : State) (n k : Nat) : (s.advanceCounter n k).pending = s.pending := rfl

/-! ### keepTable -/

@[simp] theorem State.keepTable_part (s : State) : s.keepTable.part = s.part := rfl
@[simp] theorem State.keepTable_board (s : State) : s.keepTable.board = s.board := rfl
@[simp] theorem State.keepTable_host (s : State) : s.keepTable.host = s.host := rfl
@[simp] theorem State.keepTable_mem (s : State) : s.keepTable.mem = s.mem := rfl
@[simp] theorem State.keepTable_obj (s : State) : s.keepTable.obj = s.obj := rfl
@[simp] theorem State.keepTable_chans (s : State) : s.keepTable.chans = s.chans := rfl
@[simp] theorem State.keepTable_inbox (s : State) : s.keepTable.inbox = s.inbox := rfl
@[simp] theorem State.keepTable_power (s : State) : s.keepTable.power = s.power := rfl
@[simp] theorem State.keepTable_custody (s : State) : s.keepTable.custody = s.custody := rfl
@[simp] theorem State.keepTable_tiers (s : State) : s.keepTable.tiers = s.tiers := rfl
@[simp] theorem State.keepTable_decks (s : State) : s.keepTable.decks = s.decks := rfl
@[simp] theorem State.keepTable_images (s : State) : s.keepTable.images = s.images := rfl
@[simp] theorem State.keepTable_serving (s : State) : s.keepTable.serving = s.serving := rfl
@[simp] theorem State.keepTable_turn (s : State) : s.keepTable.turn = s.turn := rfl
@[simp] theorem State.keepTable_kv (s : State) : s.keepTable.kv = s.kv := rfl
@[simp] theorem State.keepTable_experts (s : State) : s.keepTable.experts = s.experts := rfl
@[simp] theorem State.keepTable_ferry (s : State) : s.keepTable.ferry = s.ferry := rfl
@[simp] theorem State.keepTable_media (s : State) : s.keepTable.media = s.media := rfl
@[simp] theorem State.keepTable_integrity (s : State) : s.keepTable.integrity = s.integrity := rfl
@[simp] theorem State.keepTable_out (s : State) : s.keepTable.out = s.out := rfl
@[simp] theorem State.keepTable_draws (s : State) : s.keepTable.draws = s.draws := rfl
@[simp] theorem State.keepTable_pending (s : State) : s.keepTable.pending = s.pending := rfl
@[simp] theorem State.keepTable_regions (s : State) : s.keepTable.flash.regions = s.flash.regions := by
  simp only [State.keepTable]; split <;> rfl

/-! ### pushEvent -/

@[simp] theorem State.pushEvent_part (s : State) (c fl k : Nat) (d : Bytes) : (s.pushEvent c fl k d).part = s.part := by unfold State.pushEvent; split <;> rfl
@[simp] theorem State.pushEvent_board (s : State) (c fl k : Nat) (d : Bytes) : (s.pushEvent c fl k d).board = s.board := by unfold State.pushEvent; split <;> rfl
@[simp] theorem State.pushEvent_host (s : State) (c fl k : Nat) (d : Bytes) : (s.pushEvent c fl k d).host = s.host := by unfold State.pushEvent; split <;> rfl
@[simp] theorem State.pushEvent_mem (s : State) (c fl k : Nat) (d : Bytes) : (s.pushEvent c fl k d).mem = s.mem := by unfold State.pushEvent; split <;> rfl
@[simp] theorem State.pushEvent_obj (s : State) (c fl k : Nat) (d : Bytes) : (s.pushEvent c fl k d).obj = s.obj := by unfold State.pushEvent; split <;> rfl
@[simp] theorem State.pushEvent_chans (s : State) (c fl k : Nat) (d : Bytes) : (s.pushEvent c fl k d).chans = s.chans := by unfold State.pushEvent; split <;> rfl
@[simp] theorem State.pushEvent_inbox (s : State) (c fl k : Nat) (d : Bytes) : (s.pushEvent c fl k d).inbox = s.inbox := by unfold State.pushEvent; split <;> rfl
@[simp] theorem State.pushEvent_power (s : State) (c fl k : Nat) (d : Bytes) : (s.pushEvent c fl k d).power = s.power := by unfold State.pushEvent; split <;> rfl
@[simp] theorem State.pushEvent_flash (s : State) (c fl k : Nat) (d : Bytes) : (s.pushEvent c fl k d).flash = s.flash := by unfold State.pushEvent; split <;> rfl
@[simp] theorem State.pushEvent_tiers (s : State) (c fl k : Nat) (d : Bytes) : (s.pushEvent c fl k d).tiers = s.tiers := by unfold State.pushEvent; split <;> rfl
@[simp] theorem State.pushEvent_decks (s : State) (c fl k : Nat) (d : Bytes) : (s.pushEvent c fl k d).decks = s.decks := by unfold State.pushEvent; split <;> rfl
@[simp] theorem State.pushEvent_images (s : State) (c fl k : Nat) (d : Bytes) : (s.pushEvent c fl k d).images = s.images := by unfold State.pushEvent; split <;> rfl
@[simp] theorem State.pushEvent_serving (s : State) (c fl k : Nat) (d : Bytes) : (s.pushEvent c fl k d).serving = s.serving := by unfold State.pushEvent; split <;> rfl
@[simp] theorem State.pushEvent_turn (s : State) (c fl k : Nat) (d : Bytes) : (s.pushEvent c fl k d).turn = s.turn := by unfold State.pushEvent; split <;> rfl
@[simp] theorem State.pushEvent_kv (s : State) (c fl k : Nat) (d : Bytes) : (s.pushEvent c fl k d).kv = s.kv := by unfold State.pushEvent; split <;> rfl
@[simp] theorem State.pushEvent_experts (s : State) (c fl k : Nat) (d : Bytes) : (s.pushEvent c fl k d).experts = s.experts := by unfold State.pushEvent; split <;> rfl
@[simp] theorem State.pushEvent_ferry (s : State) (c fl k : Nat) (d : Bytes) : (s.pushEvent c fl k d).ferry = s.ferry := by unfold State.pushEvent; split <;> rfl
@[simp] theorem State.pushEvent_media (s : State) (c fl k : Nat) (d : Bytes) : (s.pushEvent c fl k d).media = s.media := by unfold State.pushEvent; split <;> rfl
@[simp] theorem State.pushEvent_integrity (s : State) (c fl k : Nat) (d : Bytes) : (s.pushEvent c fl k d).integrity = s.integrity := by unfold State.pushEvent; split <;> rfl
@[simp] theorem State.pushEvent_out (s : State) (c fl k : Nat) (d : Bytes) : (s.pushEvent c fl k d).out = s.out := by unfold State.pushEvent; split <;> rfl
@[simp] theorem State.pushEvent_pending (s : State) (c fl k : Nat) (d : Bytes) : (s.pushEvent c fl k d).pending = s.pending := by unfold State.pushEvent; split <;> rfl

/-! ### event -/

@[simp] theorem State.event_part (s : State) (c fl k : Nat) (l : List Nat) : (s.event c fl k l).part = s.part := by simp [State.event]
@[simp] theorem State.event_board (s : State) (c fl k : Nat) (l : List Nat) : (s.event c fl k l).board = s.board := by simp [State.event]
@[simp] theorem State.event_host (s : State) (c fl k : Nat) (l : List Nat) : (s.event c fl k l).host = s.host := by simp [State.event]
@[simp] theorem State.event_mem (s : State) (c fl k : Nat) (l : List Nat) : (s.event c fl k l).mem = s.mem := by simp [State.event]
@[simp] theorem State.event_obj (s : State) (c fl k : Nat) (l : List Nat) : (s.event c fl k l).obj = s.obj := by simp [State.event]
@[simp] theorem State.event_chans (s : State) (c fl k : Nat) (l : List Nat) : (s.event c fl k l).chans = s.chans := by simp [State.event]
@[simp] theorem State.event_inbox (s : State) (c fl k : Nat) (l : List Nat) : (s.event c fl k l).inbox = s.inbox := by simp [State.event]
@[simp] theorem State.event_power (s : State) (c fl k : Nat) (l : List Nat) : (s.event c fl k l).power = s.power := by simp [State.event]
@[simp] theorem State.event_flash (s : State) (c fl k : Nat) (l : List Nat) : (s.event c fl k l).flash = s.flash := by simp [State.event]
@[simp] theorem State.event_tiers (s : State) (c fl k : Nat) (l : List Nat) : (s.event c fl k l).tiers = s.tiers := by simp [State.event]
@[simp] theorem State.event_decks (s : State) (c fl k : Nat) (l : List Nat) : (s.event c fl k l).decks = s.decks := by simp [State.event]
@[simp] theorem State.event_images (s : State) (c fl k : Nat) (l : List Nat) : (s.event c fl k l).images = s.images := by simp [State.event]
@[simp] theorem State.event_serving (s : State) (c fl k : Nat) (l : List Nat) : (s.event c fl k l).serving = s.serving := by simp [State.event]
@[simp] theorem State.event_turn (s : State) (c fl k : Nat) (l : List Nat) : (s.event c fl k l).turn = s.turn := by simp [State.event]
@[simp] theorem State.event_kv (s : State) (c fl k : Nat) (l : List Nat) : (s.event c fl k l).kv = s.kv := by simp [State.event]
@[simp] theorem State.event_experts (s : State) (c fl k : Nat) (l : List Nat) : (s.event c fl k l).experts = s.experts := by simp [State.event]
@[simp] theorem State.event_ferry (s : State) (c fl k : Nat) (l : List Nat) : (s.event c fl k l).ferry = s.ferry := by simp [State.event]
@[simp] theorem State.event_media (s : State) (c fl k : Nat) (l : List Nat) : (s.event c fl k l).media = s.media := by simp [State.event]
@[simp] theorem State.event_integrity (s : State) (c fl k : Nat) (l : List Nat) : (s.event c fl k l).integrity = s.integrity := by simp [State.event]
@[simp] theorem State.event_out (s : State) (c fl k : Nat) (l : List Nat) : (s.event c fl k l).out = s.out := by simp [State.event]
@[simp] theorem State.event_pending (s : State) (c fl k : Nat) (l : List Nat) : (s.event c fl k l).pending = s.pending := by simp [State.event]

/-! ### markJournalled -/

@[simp] theorem State.markJournalled_part (s : State) (c : Nat) : (s.markJournalled c).part = s.part := rfl
@[simp] theorem State.markJournalled_board (s : State) (c : Nat) : (s.markJournalled c).board = s.board := rfl
@[simp] theorem State.markJournalled_host (s : State) (c : Nat) : (s.markJournalled c).host = s.host := rfl
@[simp] theorem State.markJournalled_mem (s : State) (c : Nat) : (s.markJournalled c).mem = s.mem := rfl
@[simp] theorem State.markJournalled_obj (s : State) (c : Nat) : (s.markJournalled c).obj = s.obj := rfl
@[simp] theorem State.markJournalled_chans (s : State) (c : Nat) : (s.markJournalled c).chans = s.chans := rfl
@[simp] theorem State.markJournalled_inbox (s : State) (c : Nat) : (s.markJournalled c).inbox = s.inbox := rfl
@[simp] theorem State.markJournalled_power (s : State) (c : Nat) : (s.markJournalled c).power = s.power := rfl
@[simp] theorem State.markJournalled_custody (s : State) (c : Nat) : (s.markJournalled c).custody = s.custody := rfl
@[simp] theorem State.markJournalled_flash (s : State) (c : Nat) : (s.markJournalled c).flash = s.flash := rfl
@[simp] theorem State.markJournalled_tiers (s : State) (c : Nat) : (s.markJournalled c).tiers = s.tiers := rfl
@[simp] theorem State.markJournalled_decks (s : State) (c : Nat) : (s.markJournalled c).decks = s.decks := rfl
@[simp] theorem State.markJournalled_images (s : State) (c : Nat) : (s.markJournalled c).images = s.images := rfl
@[simp] theorem State.markJournalled_serving (s : State) (c : Nat) : (s.markJournalled c).serving = s.serving := rfl
@[simp] theorem State.markJournalled_kv (s : State) (c : Nat) : (s.markJournalled c).kv = s.kv := rfl
@[simp] theorem State.markJournalled_experts (s : State) (c : Nat) : (s.markJournalled c).experts = s.experts := rfl
@[simp] theorem State.markJournalled_ferry (s : State) (c : Nat) : (s.markJournalled c).ferry = s.ferry := rfl
@[simp] theorem State.markJournalled_media (s : State) (c : Nat) : (s.markJournalled c).media = s.media := rfl
@[simp] theorem State.markJournalled_integrity (s : State) (c : Nat) : (s.markJournalled c).integrity = s.integrity := rfl
@[simp] theorem State.markJournalled_out (s : State) (c : Nat) : (s.markJournalled c).out = s.out := rfl
@[simp] theorem State.markJournalled_draws (s : State) (c : Nat) : (s.markJournalled c).draws = s.draws := rfl
@[simp] theorem State.markJournalled_pending (s : State) (c : Nat) : (s.markJournalled c).pending = s.pending := rfl

/-! ### logError -/

@[simp] theorem State.logError_part (s : State) (e : ErrorFacts) : (s.logError e).part = s.part := by simp [State.logError]
@[simp] theorem State.logError_board (s : State) (e : ErrorFacts) : (s.logError e).board = s.board := by simp [State.logError]
@[simp] theorem State.logError_host (s : State) (e : ErrorFacts) : (s.logError e).host = s.host := by simp [State.logError]
@[simp] theorem State.logError_mem (s : State) (e : ErrorFacts) : (s.logError e).mem = s.mem := by simp [State.logError]
@[simp] theorem State.logError_obj (s : State) (e : ErrorFacts) : (s.logError e).obj = s.obj := by simp [State.logError]
@[simp] theorem State.logError_chans (s : State) (e : ErrorFacts) : (s.logError e).chans = s.chans := by simp [State.logError]
@[simp] theorem State.logError_inbox (s : State) (e : ErrorFacts) : (s.logError e).inbox = s.inbox := by simp [State.logError]
@[simp] theorem State.logError_power (s : State) (e : ErrorFacts) : (s.logError e).power = s.power := by simp [State.logError]
@[simp] theorem State.logError_custody (s : State) (e : ErrorFacts) : (s.logError e).custody = s.custody := by simp [State.logError]
@[simp] theorem State.logError_flash (s : State) (e : ErrorFacts) : (s.logError e).flash = s.flash := by simp [State.logError]
@[simp] theorem State.logError_tiers (s : State) (e : ErrorFacts) : (s.logError e).tiers = s.tiers := by simp [State.logError]
@[simp] theorem State.logError_decks (s : State) (e : ErrorFacts) : (s.logError e).decks = s.decks := by simp [State.logError]
@[simp] theorem State.logError_images (s : State) (e : ErrorFacts) : (s.logError e).images = s.images := by simp [State.logError]
@[simp] theorem State.logError_serving (s : State) (e : ErrorFacts) : (s.logError e).serving = s.serving := by simp [State.logError]
@[simp] theorem State.logError_turn (s : State) (e : ErrorFacts) : (s.logError e).turn = s.turn := by simp [State.logError]
@[simp] theorem State.logError_kv (s : State) (e : ErrorFacts) : (s.logError e).kv = s.kv := by simp [State.logError]
@[simp] theorem State.logError_experts (s : State) (e : ErrorFacts) : (s.logError e).experts = s.experts := by simp [State.logError]
@[simp] theorem State.logError_ferry (s : State) (e : ErrorFacts) : (s.logError e).ferry = s.ferry := by simp [State.logError]
@[simp] theorem State.logError_media (s : State) (e : ErrorFacts) : (s.logError e).media = s.media := by simp [State.logError]
@[simp] theorem State.logError_out (s : State) (e : ErrorFacts) : (s.logError e).out = s.out := by simp [State.logError]
@[simp] theorem State.logError_draws (s : State) (e : ErrorFacts) : (s.logError e).draws = s.draws := by simp [State.logError]
@[simp] theorem State.logError_pending (s : State) (e : ErrorFacts) : (s.logError e).pending = s.pending := by simp [State.logError]

/-! ### record -/

@[simp] theorem State.record_part (s : State) (e : ErrorFacts) : (s.record e).part = s.part := by
  simp only [State.record]; split <;> simp
@[simp] theorem State.record_board (s : State) (e : ErrorFacts) : (s.record e).board = s.board := by
  simp only [State.record]; split <;> simp
@[simp] theorem State.record_host (s : State) (e : ErrorFacts) : (s.record e).host = s.host := by
  simp only [State.record]; split <;> simp
@[simp] theorem State.record_mem (s : State) (e : ErrorFacts) : (s.record e).mem = s.mem := by
  simp only [State.record]; split <;> simp
@[simp] theorem State.record_chans (s : State) (e : ErrorFacts) : (s.record e).chans = s.chans := by
  simp only [State.record]; split <;> simp
@[simp] theorem State.record_inbox (s : State) (e : ErrorFacts) : (s.record e).inbox = s.inbox := by
  simp only [State.record]; split <;> simp
@[simp] theorem State.record_power (s : State) (e : ErrorFacts) : (s.record e).power = s.power := by
  simp only [State.record]; split <;> simp
@[simp] theorem State.record_flash (s : State) (e : ErrorFacts) : (s.record e).flash = s.flash := by
  simp only [State.record]; split <;> simp
@[simp] theorem State.record_tiers (s : State) (e : ErrorFacts) : (s.record e).tiers = s.tiers := by
  simp only [State.record]; split <;> simp
@[simp] theorem State.record_decks (s : State) (e : ErrorFacts) : (s.record e).decks = s.decks := by
  simp only [State.record]; split <;> simp
@[simp] theorem State.record_images (s : State) (e : ErrorFacts) : (s.record e).images = s.images := by
  simp only [State.record]; split <;> simp
@[simp] theorem State.record_serving (s : State) (e : ErrorFacts) : (s.record e).serving = s.serving := by
  simp only [State.record]; split <;> simp
@[simp] theorem State.record_kv (s : State) (e : ErrorFacts) : (s.record e).kv = s.kv := by
  simp only [State.record]; split <;> simp
@[simp] theorem State.record_experts (s : State) (e : ErrorFacts) : (s.record e).experts = s.experts := by
  simp only [State.record]; split <;> simp
@[simp] theorem State.record_ferry (s : State) (e : ErrorFacts) : (s.record e).ferry = s.ferry := by
  simp only [State.record]; split <;> simp
@[simp] theorem State.record_media (s : State) (e : ErrorFacts) : (s.record e).media = s.media := by
  simp only [State.record]; split <;> simp
@[simp] theorem State.record_out (s : State) (e : ErrorFacts) : (s.record e).out = s.out := by
  simp only [State.record]; split <;> simp
@[simp] theorem State.record_pending (s : State) (e : ErrorFacts) : (s.record e).pending = s.pending := by
  simp only [State.record]; split <;> simp

/-! ### error -/

@[simp] theorem State.error_part (s : State) (e : ErrorFacts) : (s.error e).part = s.part := by
  simp only [State.error]; split <;> simp
@[simp] theorem State.error_board (s : State) (e : ErrorFacts) : (s.error e).board = s.board := by
  simp only [State.error]; split <;> simp
@[simp] theorem State.error_host (s : State) (e : ErrorFacts) : (s.error e).host = s.host := by
  simp only [State.error]; split <;> simp
@[simp] theorem State.error_mem (s : State) (e : ErrorFacts) : (s.error e).mem = s.mem := by
  simp only [State.error]; split <;> simp
@[simp] theorem State.error_chans (s : State) (e : ErrorFacts) : (s.error e).chans = s.chans := by
  simp only [State.error]; split <;> simp
@[simp] theorem State.error_inbox (s : State) (e : ErrorFacts) : (s.error e).inbox = s.inbox := by
  simp only [State.error]; split <;> simp
@[simp] theorem State.error_power (s : State) (e : ErrorFacts) : (s.error e).power = s.power := by
  simp only [State.error]; split <;> simp
@[simp] theorem State.error_flash (s : State) (e : ErrorFacts) : (s.error e).flash = s.flash := by
  simp only [State.error]; split <;> simp
@[simp] theorem State.error_tiers (s : State) (e : ErrorFacts) : (s.error e).tiers = s.tiers := by
  simp only [State.error]; split <;> simp
@[simp] theorem State.error_decks (s : State) (e : ErrorFacts) : (s.error e).decks = s.decks := by
  simp only [State.error]; split <;> simp
@[simp] theorem State.error_images (s : State) (e : ErrorFacts) : (s.error e).images = s.images := by
  simp only [State.error]; split <;> simp
@[simp] theorem State.error_serving (s : State) (e : ErrorFacts) : (s.error e).serving = s.serving := by
  simp only [State.error]; split <;> simp
@[simp] theorem State.error_kv (s : State) (e : ErrorFacts) : (s.error e).kv = s.kv := by
  simp only [State.error]; split <;> simp
@[simp] theorem State.error_experts (s : State) (e : ErrorFacts) : (s.error e).experts = s.experts := by
  simp only [State.error]; split <;> simp
@[simp] theorem State.error_ferry (s : State) (e : ErrorFacts) : (s.error e).ferry = s.ferry := by
  simp only [State.error]; split <;> simp
@[simp] theorem State.error_media (s : State) (e : ErrorFacts) : (s.error e).media = s.media := by
  simp only [State.error]; split <;> simp
@[simp] theorem State.error_out (s : State) (e : ErrorFacts) : (s.error e).out = s.out := by
  simp only [State.error]; split <;> simp
@[simp] theorem State.error_pending (s : State) (e : ErrorFacts) : (s.error e).pending = s.pending := by
  simp only [State.error]; split <;> simp

/-! ### countServed -/

@[simp] theorem State.countServed_part (s : State) (v : Nat) : (s.countServed v).part = s.part := by
  simp only [State.countServed]
  split <;> simp
@[simp] theorem State.countServed_board (s : State) (v : Nat) : (s.countServed v).board = s.board := by
  simp only [State.countServed]
  split <;> simp
@[simp] theorem State.countServed_host (s : State) (v : Nat) : (s.countServed v).host = s.host := by
  simp only [State.countServed]
  split <;> simp
@[simp] theorem State.countServed_mem (s : State) (v : Nat) : (s.countServed v).mem = s.mem := by
  simp only [State.countServed]
  split <;> simp
@[simp] theorem State.countServed_chans (s : State) (v : Nat) : (s.countServed v).chans = s.chans := by
  simp only [State.countServed]
  split <;> simp
@[simp] theorem State.countServed_inbox (s : State) (v : Nat) : (s.countServed v).inbox = s.inbox := by
  simp only [State.countServed]
  split <;> simp
@[simp] theorem State.countServed_power (s : State) (v : Nat) : (s.countServed v).power = s.power := by
  simp only [State.countServed]
  split <;> simp
@[simp] theorem State.countServed_custody (s : State) (v : Nat) : (s.countServed v).custody = s.custody := by
  simp only [State.countServed]
  split <;> simp
@[simp] theorem State.countServed_flash (s : State) (v : Nat) : (s.countServed v).flash = s.flash := by
  simp only [State.countServed]
  split <;> simp
@[simp] theorem State.countServed_tiers (s : State) (v : Nat) : (s.countServed v).tiers = s.tiers := by
  simp only [State.countServed]
  split <;> simp
@[simp] theorem State.countServed_decks (s : State) (v : Nat) : (s.countServed v).decks = s.decks := by
  simp only [State.countServed]
  split <;> simp
@[simp] theorem State.countServed_images (s : State) (v : Nat) : (s.countServed v).images = s.images := by
  simp only [State.countServed]
  split <;> simp
@[simp] theorem State.countServed_serving (s : State) (v : Nat) : (s.countServed v).serving = s.serving := by
  simp only [State.countServed]
  split <;> simp
@[simp] theorem State.countServed_turn (s : State) (v : Nat) : (s.countServed v).turn = s.turn := by
  simp only [State.countServed]
  split <;> simp
@[simp] theorem State.countServed_kv (s : State) (v : Nat) : (s.countServed v).kv = s.kv := by
  simp only [State.countServed]
  split <;> simp
@[simp] theorem State.countServed_experts (s : State) (v : Nat) : (s.countServed v).experts = s.experts := by
  simp only [State.countServed]
  split <;> simp
@[simp] theorem State.countServed_ferry (s : State) (v : Nat) : (s.countServed v).ferry = s.ferry := by
  simp only [State.countServed]
  split <;> simp
@[simp] theorem State.countServed_media (s : State) (v : Nat) : (s.countServed v).media = s.media := by
  simp only [State.countServed]
  split <;> simp
@[simp] theorem State.countServed_integrity (s : State) (v : Nat) : (s.countServed v).integrity = s.integrity := by
  simp only [State.countServed]
  split <;> simp
@[simp] theorem State.countServed_out (s : State) (v : Nat) : (s.countServed v).out = s.out := by
  simp only [State.countServed]
  split <;> simp
@[simp] theorem State.countServed_draws (s : State) (v : Nat) : (s.countServed v).draws = s.draws := by
  simp only [State.countServed]
  split <;> simp
@[simp] theorem State.countServed_pending (s : State) (v : Nat) : (s.countServed v).pending = s.pending := by
  simp only [State.countServed]
  split <;> simp

end Sys2Proof.Machine
end

