-- ==== Sys2Proof/Laws/Memory.lean ====
section
/-! SUPPORT. The memory laws: every operation keeps the canonical form, a read after a write gives what was
written, and a write leaves every other address alone. -/

namespace Sys2Proof.Machine

/-! ## Sorted maps -/

/-- A key that lies below every key of a list. -/
def below {β : Type} (k : Nat) (l : List (Nat × β)) : Prop := ∀ p ∈ l, k < p.1

theorem rising_cons {β : Type} (k : Nat) (v : β) (l : List (Nat × β)) :
    rising ((k, v) :: l) = true ↔ below k l ∧ rising l = true := by
  induction l generalizing k v with
  | nil => simp [rising, below]
  | cons q r ih =>
    obtain ⟨b, w⟩ := q
    rw [rising, Bool.and_eq_true, decide_eq_true_iff, ih b w]
    constructor
    · rintro ⟨hab, hb, hr⟩
      refine ⟨?_, hb, hr⟩
      intro p hp
      rcases List.mem_cons.mp hp with rfl | hp
      · exact hab
      · exact Nat.lt_trans hab (hb p hp)
    · rintro ⟨ha, hb, hr⟩
      exact ⟨ha (b, w) (by simp), hb, hr⟩

theorem mem_sput {β : Type} (l : List (Nat × β)) (k : Nat) (o : Option β) (p : Nat × β)
    (h : p ∈ sput l k o) : p ∈ l ∨ (p.1 = k ∧ o = some p.2) := by
  induction l with
  | nil => cases o <;> simp [sput] at h; subst h; simp
  | cons q r ih =>
    obtain ⟨b, w⟩ := q
    simp only [sput] at h
    split at h
    · cases o with
      | none => exact .inl h
      | some v => rcases List.mem_cons.mp h with rfl | h <;> simp_all
    · split at h
      · cases o with
        | none => exact .inl (List.mem_cons_of_mem _ h)
        | some v => rcases List.mem_cons.mp h with rfl | h <;> simp_all
      · rcases List.mem_cons.mp h with rfl | h
        · simp
        · rcases ih h with h | h
          · exact .inl (List.mem_cons_of_mem _ h)
          · exact .inr h

theorem rising_sput {β : Type} (l : List (Nat × β)) (k : Nat) (o : Option β) (h : rising l = true) :
    rising (sput l k o) = true := by
  induction l with
  | nil => cases o <;> rfl
  | cons q r ih =>
    obtain ⟨b, w⟩ := q
    have hq := (rising_cons b w r).mp h
    simp only [sput]
    split
    · cases o with
      | none => exact h
      | some v =>
        refine (rising_cons k v _).mpr ⟨?_, h⟩
        intro p hp
        rcases List.mem_cons.mp hp with rfl | hp
        · assumption
        · exact Nat.lt_trans ‹k < b› (hq.1 p hp)
    · split
      · cases o with
        | none => exact hq.2
        | some v => exact (rising_cons k v r).mpr ⟨by rw [‹k = b›]; exact hq.1, hq.2⟩
      · refine (rising_cons b w _).mpr ⟨?_, ih hq.2⟩
        intro p hp
        rcases mem_sput r k o p hp with hp | ⟨hp, -⟩
        · exact hq.1 p hp
        · omega

theorem sget_below {β : Type} (l : List (Nat × β)) (k : Nat) (h : below k l) : sget l k = none := by
  induction l with
  | nil => rfl
  | cons q r ih =>
    have h1 := h q (by simp)
    rw [sget, if_neg (by omega)]
    exact ih (fun p hp => h p (List.mem_cons_of_mem _ hp))

/-- A read of a sorted map after a write. -/
theorem sget_sput {β : Type} (l : List (Nat × β)) (k j : Nat) (o : Option β) (h : rising l = true) :
    sget (sput l k o) j = if j = k then o else sget l j := by
  induction l with
  | nil => cases o <;> simp [sput, sget]
  | cons q r ih =>
    obtain ⟨b, w⟩ := q
    have hq := (rising_cons b w r).mp h
    simp only [sput]
    by_cases hkb : k < b
    · rw [if_pos hkb]
      cases o with
      | none =>
        by_cases hj : j = k
        · rw [if_pos hj]
          refine sget_below _ _ ?_
          intro p hp
          rcases List.mem_cons.mp hp with rfl | hp
          · exact hj ▸ hkb
          · exact hj ▸ Nat.lt_trans hkb (hq.1 p hp)
        · rw [if_neg hj]
      | some v => rfl
    · rw [if_neg hkb]
      by_cases he : k = b
      · subst he
        rw [if_pos rfl]
        cases o with
        | none =>
          by_cases hj : j = k
          · rw [if_pos hj, hj]
            exact sget_below _ _ hq.1
          · rw [if_neg hj, sget, if_neg hj]
        | some v =>
          simp only [sget]
          split <;> rfl
      · rw [if_neg he]
        simp only [sget]
        by_cases hj : j = b
        · rw [if_pos hj, if_pos hj, if_neg (by omega)]
        · rw [if_neg hj, if_neg hj]
          exact ih hq.2

theorem rising_filter {β : Type} (l : List (Nat × β)) (f : Nat × β → Bool) (h : rising l = true) :
    rising (l.filter f) = true := by
  induction l with
  | nil => rfl
  | cons q r ih =>
    obtain ⟨b, w⟩ := q
    have hq := (rising_cons b w r).mp h
    rw [List.filter_cons]
    split
    · exact (rising_cons b w _).mpr ⟨fun p hp => hq.1 p (List.mem_filter.mp hp).1, ih hq.2⟩
    · exact ih hq.2

/-! ## Byte memories -/

theorem cellPut_wf (blank : Nat → Byte) (l : List Host.Cell) (a : Nat) (b : Byte) (h : cellsWf blank l = true) :
    cellsWf blank (cellPut blank l a b) = true := by
  simp only [cellsWf, cellPut, Bool.and_eq_true, List.all_eq_true] at *
  refine ⟨rising_sput _ _ _ h.1, ?_⟩
  intro p hp
  rcases mem_sput _ _ _ _ hp with hp | ⟨hk, hv⟩
  · exact h.2 p hp
  · split at hv
    · cases hv
    · cases hv
      subst hk
      simpa using ‹¬_›

theorem cellPuts_wf (blank : Nat → Byte) (l : List Host.Cell) (a : Nat) (bs : Bytes)
    (h : cellsWf blank l = true) : cellsWf blank (cellPuts blank l a bs) = true := by
  induction bs generalizing l a with
  | nil => exact h
  | cons b bs ih => exact ih _ _ (cellPut_wf blank l a b h)

/-- A read after a write of one byte: the byte there, and what was there elsewhere. -/
theorem cellGet_cellPut (blank : Nat → Byte) (l : List Host.Cell) (a j : Nat) (b : Byte)
    (h : cellsWf blank l = true) :
    cellGet blank (cellPut blank l a b) j = if j = a then b else cellGet blank l j := by
  have hr : rising l = true := by
    simp only [cellsWf, Bool.and_eq_true] at h
    exact h.1
  simp only [cellGet, cellPut]
  rw [sget_sput l a j _ hr]
  split
  · subst_vars
    split
    · simp [*]
    · rfl
  · rfl

/-- A read after a write of a string. -/
theorem cellGet_cellPuts (blank : Nat → Byte) (l : List Host.Cell) (a j : Nat) (bs : Bytes)
    (h : cellsWf blank l = true) :
    cellGet blank (cellPuts blank l a bs) j =
      if a ≤ j ∧ j < a + bs.length then bs.getD (j - a) 0 else cellGet blank l j := by
  induction bs generalizing l a with
  | nil =>
    rw [cellPuts, if_neg]
    simp only [List.length_nil]
    omega
  | cons b bs ih =>
    rw [cellPuts, ih _ _ (cellPut_wf blank l a b h), cellGet_cellPut blank l a j b h]
    simp only [List.length_cons]
    by_cases h1 : j = a
    · subst h1
      rw [if_neg (by omega), if_pos rfl, if_pos (by omega)]
      simp
    · by_cases h2 : a + 1 ≤ j ∧ j < a + 1 + bs.length
      · rw [if_pos h2, if_pos (by omega)]
        obtain ⟨n, hn⟩ : ∃ n, j - a = n + 1 := ⟨j - a - 1, by omega⟩
        rw [hn, show j - (a + 1) = n by omega]
        simp
      · rw [if_neg h2, if_neg h1, if_neg (by omega)]

/-! ## The device's memory -/

theorem Mem.wf_cells {m : Mem} (h : m.wf = true) : cellsWf blankByte m.cells = true := by
  simp only [Mem.wf, Bool.and_eq_true] at h
  exact h.1

theorem Mem.wf_marks {m : Mem} (h : m.wf = true) : rising m.marks = true := by
  simp only [Mem.wf, Bool.and_eq_true] at h
  exact h.2

theorem Mem.setByte_wf (m : Mem) (a : Nat) (b : Byte) (h : m.wf = true) : (m.setByte a b).wf = true := by
  simp only [Mem.wf, Mem.setByte, Bool.and_eq_true]
  exact ⟨cellPut_wf _ _ _ _ (Mem.wf_cells h), Mem.wf_marks h⟩

theorem Mem.setBytes_wf (m : Mem) (a : Nat) (bs : Bytes) (h : m.wf = true) : (m.setBytes a bs).wf = true := by
  simp only [Mem.wf, Mem.setBytes, Bool.and_eq_true]
  exact ⟨cellPuts_wf _ _ _ _ (Mem.wf_cells h), Mem.wf_marks h⟩

theorem Mem.setMark_wf (m : Mem) (a : Nat) (o : Option Mark) (h : m.wf = true) : (m.setMark a o).wf = true := by
  simp only [Mem.wf, Mem.setMark, Bool.and_eq_true]
  exact ⟨Mem.wf_cells h, rising_sput _ _ _ (Mem.wf_marks h)⟩

theorem Mem.clear_wf (m : Mem) (x y : Nat) (h : m.wf = true) : (m.clear x y).wf = true := by
  have hc := Mem.wf_cells h
  simp only [cellsWf, Bool.and_eq_true, List.all_eq_true] at hc
  simp only [Mem.wf, Mem.clear, cellsWf, Bool.and_eq_true, List.all_eq_true]
  exact ⟨⟨rising_filter _ _ hc.1, fun p hp => hc.2 p (List.mem_filter.mp hp).1⟩,
    rising_filter _ _ (Mem.wf_marks h)⟩

/-- A byte of memory after a string is written. -/
theorem Mem.byte_setBytes (m : Mem) (a j : Nat) (bs : Bytes) (h : m.wf = true) :
    (m.setBytes a bs).byte j = if a ≤ j ∧ j < a + bs.length then bs.getD (j - a) 0 else m.byte j :=
  cellGet_cellPuts _ _ _ _ _ (Mem.wf_cells h)

/-- A byte of memory after one is written. -/
theorem Mem.byte_setByte (m : Mem) (a j : Nat) (b : Byte) (h : m.wf = true) :
    (m.setByte a b).byte j = if j = a then b else m.byte j :=
  cellGet_cellPut _ _ _ _ _ (Mem.wf_cells h)

/-- The mark of a word after one is set. -/
theorem Mem.mark_setMark (m : Mem) (a j : Nat) (o : Option Mark) (h : m.wf = true) :
    (m.setMark a o).mark j = if j = a then o else m.mark j :=
  sget_sput _ _ _ _ (Mem.wf_marks h)

@[simp] theorem Mem.byte_setMark (m : Mem) (a j : Nat) (o : Option Mark) : (m.setMark a o).byte j = m.byte j := rfl

@[simp] theorem Mem.mark_setBytes (m : Mem) (a j : Nat) (bs : Bytes) : (m.setBytes a bs).mark j = m.mark j := rfl

/-- The memory of the state after reset is canonical. -/
theorem reset_mem_wf : State.reset.mem.wf = true := rfl

end Sys2Proof.Machine
end

