-- ==== Sys2Proof/Laws/Decks.lean ====
section
/-! SUPPORT. What the shared operations of the decks can do: a slot row joins its bundle or issues it, and a
bundle of one word comes to what its operation comes to. -/

namespace Sys2Proof.Machine

@[simp] theorem decks_set_get (v : Vector Deck 16) (k : Fin 16) (d : Deck) : (v.set k.val d).get k = d := by
  simp [Vector.get_eq_getElem]

@[simp] theorem decks_get_setDeck_self (s : State) (k : Fin 16) (d : Deck) :
    (s.setDeck k d).decks.get k = d := by
  simp [State.setDeck, Vector.get_eq_getElem]

@[simp] theorem setDeck_setDeck (s : State) (k : Fin 16) (d e : Deck) :
    (s.setDeck k d).setDeck k e = s.setDeck k e := by
  simp [State.setDeck]

@[simp] theorem setDeck_get (s : State) (k : Fin 16) : s.setDeck k (s.decks.get k) = s := by
  simp [State.setDeck, Vector.get_eq_getElem]

theorem modDeck_modDeck (s : State) (k : Fin 16) (f g : Deck → Deck) :
    modDeck (modDeck s k f) k g = modDeck s k (fun d => g (f d)) := by
  simp [modDeck]

/-- A bundle of one word, once it is looked at, comes to what its operation comes to. -/
theorem slotRow_issues (k : Fin 16) (slot : Slot) (w : BitVec 64) (s : State) (ha : alone s k slot w = true) :
    slotRow k slot w true s = .next (issue k (holdingWord s k slot w)) := by
  simp only [alone, Bool.and_eq_true, List.isEmpty_iff] at ha
  obtain ⟨⟨⟨⟨hi, hb⟩, -⟩, -⟩, -⟩ := ha
  simp [slotRow, hi, hb, holdingWord]

theorem parityCheck_none (k : Fin 16) (b : List SlotWord) (s : State)
    (h : (match (s.decks.get k).injected with | some (3, _, _) => false | _ => true) = true) :
    parityCheck k b s = s := by
  unfold parityCheck
  revert h
  cases (s.decks.get k).injected with
  | none => intro _; rfl
  | some p =>
    obtain ⟨a, b, c⟩ := p
    intro h
    split
    · simp_all
    · rfl

theorem fOp_zero : fOp 0#64 = 0 := by decide

theorem fPred_zero : fPred 0#64 = 0 := by decide

theorem iForm_zero : iForm 0#64 0 = true := by decide

/-- NOP of the zero word does nothing. -/
theorem opNop_zero (k : Fin 16) (d : Deck) (s : State) : opNop k d 0#64 s = (s, .nothing) := by
  simp [opNop, pureSlot, ctlOn, predOn, Deck.pPoison, Deck.pGet, fPred_zero, iForm_zero]

theorem opOf_zero (slot : Slot) : opOf slot (fOp 0#64) = some opNop := by
  cases slot <;> rfl

theorem slotWord_self (slot : Slot) (w : BitVec 64) : slotWord [⟨slot, w⟩] slot = w := by
  simp [slotWord]

theorem slotWord_other (a b : Slot) (w : BitVec 64) (h : a ≠ b) : slotWord [⟨a, w⟩] b = 0 := by
  simp [slotWord, h]

/-- The slots of a bundle of one word whose operation has effects. -/
theorem evalSlots_ok (k : Fin 16) (d : Deck) (slot : Slot) (w : BitVec 64) (s t : State) (op : SlotOp)
    (ws : List RegName) (act : State → State) (hop : opOf slot (fOp w) = some op)
    (hr : op k d w s = (t, .ok ws act)) :
    ∃ ws' acts, evalSlots k d [⟨slot, w⟩] [.c, .m, .v, .x] s = (t, .ok ws' acts)
      ∧ ∀ u, (actOrder acts).foldl (fun s f => f s) u = act u := by
  cases slot <;>
    simp [evalSlots, slotWord, hop, hr, opOf_zero, opNop_zero, SlotResult.nothing, actOrder]

/-- A bundle of one word whose operation has effects is issued. -/
theorem issue_ok (k : Fin 16) (slot : Slot) (w : BitVec 64) (s t : State) (op : SlotOp) (ws : List RegName)
    (act : State → State) (ha : alone s k slot w = true) (hop : opOf slot (fOp w) = some op)
    (hr : op k { s.decks.get k with bundle := [⟨slot, w⟩] } w (holdingWord s k slot w) = (t, .ok ws act)) :
    issue k (holdingWord s k slot w) = act (issued t k) := by
  simp only [alone, Bool.and_eq_true, Bool.not_eq_true', List.isEmpty_iff] at ha
  obtain ⟨⟨⟨⟨-, -⟩, hf⟩, hw⟩, hj⟩ := ha
  obtain ⟨ws', acts, he, hact⟩ := evalSlots_ok k _ slot w _ t op ws act hop hr
  unfold issue
  simp only [holdingWord, decks_get_setDeck_self, hf, hw]
  rw [parityCheck_none _ _ _ (by rw [decks_get_setDeck_self]; exact hj)]
  simp only [holdingWord] at he
  simp [he, hact, issued]

/-- An alone word whose operation has effects. -/
theorem slotRow_ok (k : Fin 16) (slot : Slot) (code : Nat) (w : BitVec 64) (s t : State) (op : SlotOp)
    (ws : List RegName) (act : State → State) (hc : fOp w = code) (ha : alone s k slot w = true)
    (hop : opOf slot code = some op)
    (hr : op k { s.decks.get k with bundle := [⟨slot, w⟩] } w (holdingWord s k slot w) = (t, .ok ws act)) :
    slotRow k slot w true s = .next (act (issued t k)) := by
  subst hc
  rw [slotRow_issues k slot w s ha, issue_ok k slot w s t op ws act ha hop hr]

/-- The word of a bundle stands in it only until it is issued. -/
@[simp] theorem issued_holdingWord (s : State) (k : Fin 16) (slot : Slot) (w : BitVec 64) :
    issued (holdingWord s k slot w) k = issued s k := by
  simp [issued, holdingWord, modDeck]

end Sys2Proof.Machine
end

