-- ==== Sys2Proof/Tests/Slice0.lean ====
section
/-! SUPPORT. The model's own tests: what the smoke tests and the witnesses of the statements need, on small states. -/

namespace Sys2Proof.Tests

set_option Elab.async false

open Machine Claims

/-- The state after reset with the device in a power state. -/
def on (st : PowerState) : State := { State.reset with power := { State.reset.power with state := st } }

/-- Deck 0 runs a program. -/
def deck0 (f : Deck → Deck) : State := modDeck (on .active) 0 (fun d => f { d with status := .running })

/-- A slot word from its operation code and its fields d, a and b. -/
def word (code d a b : Nat) : BitVec 64 := BitVec.ofNat 64 (code + d * 2 ^ 11 + a * 2 ^ 16 + b * 2 ^ 21)

/-- A slot word alone in its bundle on deck 0, its predicate on. -/
def fits (s : State) (slot : Slot) (w : BitVec 64) : Bool := alone s 0 slot w && enabled s 0 w

/-- A small model: two layers, two KV heads of 8 dimensions, one block a page. -/
def man0 : Manifest where
  modelId := 1
  version := 1
  security := 0
  feature := 0
  rollback := 0
  keySlot := 0
  headLength := 4096
  layers := 2
  layerEntries := 1
  hidden := 64
  qHeads := 2
  kvHeads := 2
  blocksPerPage := 1
  headDim := 8
  ffn := 64
  vocab := 64
  maxContext := 64
  baseVersion := 0
  kvCompatible := true
  changed := []
  layerOffset := 0
  tensorOffset := 0
  tensorCount := 0
  moeOffset := 0
  programOffset := 0
  programLength := 0

/-- Its head: one layer entry on one deck. -/
def head0 : Head where
  man := man0
  bankBlocks := []
  layerTable := [⟨1, 1, 0, 0, []⟩]
  tensorTable := []
  experts := []
  program := List.replicate 64 0
  raw := []

/-- A state with the model ready in slot 0. -/
def withImage (s : State) : State :=
  s.setImages { s.images with slots := s.images.slots.set 0 { Image.reset with st := .ready, tier := 1, head := some head0 } }

/-- A berth of tenant 0 on ring 0, ready with three prompt tokens. -/
def berth0 : Berth where
  num := 0
  tenant := 0
  ring := 0
  tag := 7
  slot := 0
  cls := 0
  keep := false
  autoReplay := false
  progress := false
  secret := false
  signal := false
  semaphore := 0
  st := .ready
  position := 0
  tokens := [1, 2, 3]
  promptEnd := 3
  output := 0
  maxNew := 4
  delivered := 0
  temperature := 0
  seed := 0
  topK := 0
  topP := 0
  admitted := 0
  lastTurn := 0
  publishVersion := 1
  shareKey := 0
  table := []
  taken := []
  full := 0
  staging := []
  unreported := 0
  stagedAt := 0
  failing := 0
  finished := false
  node := 0

/-- The state with a list of berths. -/
def withBerths (l : List Berth) (s : State) : State := s.setServing { s.serving with berths := l }

/-- A batch entry of berth 0 with three rows. -/
def entry0 : BatchEntry := ⟨0, 0, 3, 0, true, true, false, false⟩


/-! ## Decks -/

theorem test_words_witness : issues (deck0 id) 0 = true ∧ issues (on .active) 0 = false := by decide

/-- Deck 0 with two scalars, two vectors and a predicate set. -/
def deckA : State := deck0 (fun d => ((((d.sSet 2 77 false).sSet 3 0xFFFFFFFFFFFFFFF5 true).vSet 2 (BitVec.ofNat 512 (2 ^ 300 + 0x3C00_4080_C0A0)) 4).vSet
  3 (BitVec.ofNat 512 (3 * 2 ^ 299 + 0x4500_1234)) 8).pSet 1 5 false)

theorem test_scalar_witness : scalarRows.all (fun r =>
    let w := word r.2.1 1 2 3
    fits deckA .c w && wordSpells r.2.1 w && rForm w 0) = true := by decide

theorem test_immediate_witness : immediateRows.all (fun r =>
    let w := word r.2.1 1 2 0
    fits deckA .c w && wordSpells r.2.1 w && iForm w 0) = true := by decide

/-- Words for slot C control: BR with s2 tested, JMP, CALL, JR by s4 = 64, DONE. -/
def deckJ : State := deck0 (fun d => d.sSet 4 64 false)

theorem test_control_witness :
    ([Slot.c, .m, .v, .x].all (fun slot => fits deckA slot 0 && wordSpells 0 0 && iForm 0 0)
      && [Slot.c, .m, .v, .x].all (fun slot =>
        alone deckA 0 slot (word 0xF0 0 0 0) && !(slotCodes slot).contains (bitsOf (word 0xF0 0 0 0).toNat 7 0))
      && (let w := word 0x18 0 2 0; fits deckA .c w && wordSpells 0x18 w && iForm w 1
        && !(deckA.decks.get 0).sPoison (fA w))
      && (let w := word 0x19 0 0 0; fits deckA .c w && wordSpells 0x19 w && iForm w 0)
      && (let w := word 0x1A 1 0 0; fits deckA .c w && wordSpells 0x1A w && iForm w 0)
      && (let w := word 0x1B 0 4 0; fits deckJ .c w && wordSpells 0x1B w && rForm w 0
        && !(deckJ.decks.get 0).sPoison (fA w) && fetchable ((deckJ.decks.get 0).sGet (fA w)).toNat)
      && (let w := word 0x3F 0 0 0; fits deckA .c w && wordSpells 0x3F w && iForm w 0)
      && (let w := word 0x101 1 2 3; alone deckJ 0 .c w && wordSpells 1 w && !predOn (deckJ.decks.get 0) w
        && !(deckJ.decks.get 0).pPoison (fPred w))) = true := by decide

theorem test_predicate_witness :
    ([0x20, 0x21, 0x22, 0x23, 0x24, 0x25].all (fun c =>
        let w := word c 1 2 3
        fits deckA .c w && wordSpells c w && rForm w 0 && decide (1 ≤ fD w ∧ fD w < 8 ∧ fA w < 8 ∧ fB w < 8))
      && [0, 1, 2, 3, 4].all (fun n =>
        let w := word 0x28 1 0 0 + BitVec.ofNat 64 (n * 2 ^ 26)
        fits deckA .c w && wordSpells 0x28 w && iForm w 0 && decide ((fImm w).toNat = n))) = true := by decide

/-- Deck 0 with a data address in s2 and a rowmap and a descriptor stored there. -/
def deckM : State :=
  let s := deck0 (fun d => (d.sSet 2 (BitVec.ofNat 64 (deckBase + 0x2_0000)) false).sSet 4 64 false)
  let desc := fields [(8, 0), (8, 0), (4, 64), (4, 32), (4, 64), (2, 8), (1, 1), (1, 1), (4, 0), (4, 32), (2, 1)]
  { s with mem := s.mem.setBytes (deckBase + 0x2_0000) desc }

/-- Deck 0 with a rowmap in the data area, and one with a store that waits. -/
def deckR : State :=
  let s := deck0 (fun d => d.sSet 4 (BitVec.ofNat 64 (deckBase + 0x2_0000)) false)
  { s with mem := s.mem.setBytes (deckBase + 0x2_0000) ((List.replicate 8 [0xFF, 0x0F, 0, 0]).flatten) }

def deckF : State := modDeck deckM 0 (fun d => { d with store := [⟨none, [], false, [], false⟩] })

/-- A read of n bytes by a word of deck 0 gives octets that pass a test. -/
def reads (s : State) (w : BitVec 64) (n : Nat) (p : List Octet → Bool) : Bool :=
  match (deckRead 0 ((holdingWord s 0 .m w).decks.get 0) (holdingWord s 0 .m w) (immAddress s 0 w) n).2 with
  | .got l => p l
  | _ => false

/-- The address of a memory word of deck 0 is plain and aligned. -/
def aligned (s : State) (w : BitVec 64) (n : Nat) : Bool :=
  fits s .m w && !(s.decks.get 0).sPoison (fA w) && decide (immAddress s 0 w % n = 0)

theorem test_loads_witness :
    ((let w := word 0x01 1 2 0; aligned deckM w (accessSize w) && wordSpells 0x01 w && iForm w 7
        && reads deckM w (accessSize w) (fun _ => true))
      && (let w := word 0x03 1 2 0; aligned deckM w 64 && wordSpells 0x03 w && iForm w 0 && reads deckM w 64 (fun _ => true))
      && (let w := word 0x0A 1 4 0; aligned deckR w 32 && wordSpells 0x0A w && iForm w 0
        && reads deckR w 32 (fun l => ((List.range 8).map (fun r => fld (vals l) (4 * r) 4)).all rowEntryOk))
      && (let w := word 0x08 1 2 0; aligned deckM w 64 && wordSpells 0x08 w && iForm w 0 && decide (fD w < 4)
        && reads deckM w 64 (fun l => descriptorOk (vals l) 0))) = true := by decide

theorem test_stores_witness :
    ((let w := word 0x02 1 2 3; aligned deckM w (accessSize w) && wordSpells 0x02 w && iForm w 3
        && storeRoom (deckM.decks.get 0) (some (immAddress deckM 0 w / 64)))
      && (let w := word 0x04 1 2 3; aligned deckM w 64 && wordSpells 0x04 w && iForm w 0
        && storeRoom (deckM.decks.get 0) (some (immAddress deckM 0 w / 64)))
      && (let w := word 0x09 1 0 0; fits deckM .m w && wordSpells 0x09 w && rForm w 0 && decide (fD w < 4))
      && (let w := word 0x0C 0 0 0; fits deckM .m w && wordSpells 0x0C w && iForm w 0 && (deckM.decks.get 0).store.isEmpty)
      && (let w := word 0x0C 0 0 0; fits deckF .m w && wordSpells 0x0C w && iForm w 0
        && !(deckF.decks.get 0).store.isEmpty)) = true := by decide

theorem test_stores_permitted_witness :
    storable deckM 0 (word 0x02 1 2 3) (immAddress deckM 0 (word 0x02 1 2 3)) 1
      (some (immAddress deckM 0 (word 0x02 1 2 3) / 64)) := ⟨rfl, by decide⟩

/-- Every row of VLDR and VSTR lies at an aligned address. -/
def rowsAligned (s : State) (w : BitVec 64) : Bool :=
  (List.range 8).all (fun r => decide (rowAddr (s.decks.get 0) w r % 8 = 0))

theorem test_row_transfers_witness :
    ((let w := word 0x05 1 2 0; fits deckM .m w && wordSpells 0x05 w && rForm w 0 && rowsAligned deckM w
        && (rowsGathered 0 ((holdingWord deckM 0 .m w).decks.get 0) w (List.range 8) (holdingWord deckM 0 .m w)).isSome)
      && (let w := word 0x06 0 2 3; fits deckM .m w && wordSpells 0x06 w && rForm w 0 && rowsAligned deckM w
        && storeRoom (deckM.decks.get 0) none)
      && (let w := word 0x0B 0 5 3; let s := withImage deckM; fits s .m w && wordSpells 0x0B w && rForm w 0
        && decide (manifestOf s ((s.turn.map (·.slot)).getD 0) = some man0)
        && coordOk s 0 man0 (kvCoord ((s.decks.get 0).sGet (fA w)).toNat)
        && storeRoom (s.decks.get 0) none)) = true := by decide

theorem test_vstr_permitted_witness :
    ∀ r < 8, writePermitted 0 (holdingWord deckM 0 .m (word 0x06 0 2 3))
      (rowAddr (deckM.decks.get 0) (word 0x06 0 2 3) r) 8 = (holdingWord deckM 0 .m (word 0x06 0 2 3), none) := by
  intro r h
  match r, h with
  | 0, _ => rfl | 1, _ => rfl | 2, _ => rfl | 3, _ => rfl | 4, _ => rfl | 5, _ => rfl | 6, _ => rfl | 7, _ => rfl

/-- Deck 0 with semaphore 3 open to decks and at 2; s2 names it, s3 is 1 and s4 is 5. -/
def deckS : State :=
  setSem ((deck0 (fun d => ((d.sSet 2 3 false).sSet 3 1 false).sSet 4 5 false)).setVal (0x10000 + 3) 4 1) 3 2

theorem test_semaphores_witness :
    ([(0x0D, 3), (0x0E, 3), (0x0E, 4)].all (fun p =>
      let w := word p.1 0 2 p.2
      let d := deckS.decks.get 0
      fits deckS .m w && rForm w 0 && !d.sPoison (fA w) && !d.sPoison (fB w)
        && decide ((d.sGet (fA w)).toNat < 1024) && semDeck deckS (d.sGet (fA w)).toNat && wordSpells p.1 w)
      && decide (((deckS.decks.get 0).sGet 3).toNat ≤ semValue deckS 3)
      && decide (semValue deckS 3 < ((deckS.decks.get 0).sGet 4).toNat)) = true := by decide

/-- A vector word with an element type. -/
def vword (code d a b et : Nat) : BitVec 64 := word code d a b + BitVec.ofNat 64 (et * 2 ^ 31)

theorem test_vector_arithmetic_witness :
    (vectorRows.all (fun r =>
        let w := vword r.2.1 1 2 3 0
        fits deckA .v w && wordSpells r.2.1 w && vForm w r.2.2.1 0)
      && [2, 3, 4].all (fun t =>
        let w := vword 0x09 1 2 3 t
        fits deckA .v w && wordSpells 0x09 w && vForm w floatTypes 0 && (etFloat (fEt w)).isSome)) = true := by decide

theorem test_vector_functions_witness :
    (functionRows.all (fun r =>
        let w := vword r.2.1 1 2 3 4
        fits deckA .v w && wordSpells r.2.1 w && vForm w [4] 0)
      && [0x0A, 0x0B].all (fun c => [0, 1, 2, 3, 4].all (fun t =>
        let w := vword c 1 2 0 t
        fits deckA .v w && wordSpells c w && vForm w anyType 0 && ((etFloat (fEt w)).isSome == decide (2 ≤ t))))) = true := by
  decide

theorem test_vector_moves_witness :
    ((let w := word 0x0F 1 2 3 + BitVec.ofNat 64 (2 ^ 26);
        fits deckA .v w && wordSpells 0x0F w && vForm w [0] 0 && decide (fC w < 8))
      && (let w := vword 0x10 1 2 0 1; fits deckA .v w && wordSpells 0x10 w && vForm w anyType 0)
      && (let w := vword 0x12 1 2 3 0; fits deckA .v w && wordSpells 0x12 w && vForm w [0] 0)
      && (let w := word 0x11 1 2 0; fits deckA .v w && wordSpells 0x11 w && iForm w 0
        && predOn (deckA.decks.get 0) w && decide ((fImm w).toNat = 0))) = true := by decide

theorem test_vector_reductions_witness :
    ((let w := vword 0x0C 1 2 0 4 + BitVec.ofNat 64 (2 * 2 ^ 58);
        fits deckA .v w && wordSpells 0x0C w && vForm w anyType 7 && decide (bitsOf (fFl w) 2 0 < 5))
      && [0x0D, 0x0E].all (fun c => let w := vword c 1 2 3 2; fits deckA .v w && wordSpells c w && vForm w anyType 0
        && decide (1 ≤ fD w ∧ fD w < 8))
      && [0, 1].all (fun m => let w := vword 0x16 1 2 0 4 + BitVec.ofNat 64 (m * 2 ^ 58);
        fits deckA .v w && wordSpells 0x16 w && vForm w anyType 1
          && !(((List.range (64 / etBytes (fEt w))).filter (fun n =>
            ((deckA.decks.get 0).pGet (fPred w)).getLsbD (etBytes (fEt w) * n))).map
              (elem ((deckA.decks.get 0).vGet (fA w)) (etBytes (fEt w)))).isEmpty)) = true := by decide

/-- A step of an INT8 stream: 32 lanes of weights 1 to 8. -/
def lane0 : LaneStep := ⟨[1, 2, 3, 4, 5, 6, 7, 8], [1, 2, 3, 4, 5, 6, 7, 8], 0x3F80_0000, 0x3F80_0000, false, false, false, false⟩

def stream0 : Stream where
  base := 0
  lengths := 0
  nRows := 64
  kLen := 32
  n0 := 0
  laneStride := 8
  format := 2
  reps := 1
  kFirst := 0
  kCount := 32
  mask := 1
  raw := []
  started := true
  pos := 0
  buffer := [⟨0, 0, false, List.replicate 32 lane0, none⟩]
  faulty := false
  waiting := false

/-- Deck 0 with a stream, live rows and activations. -/
def deckX : State := modDeck { deckA with turn := some (newTurn 0 1 [entry0] 3 false true) } 0 (fun d => { d.setStream 0 (some stream0) with
  rowmap := Vector.ofFn (fun i => if i.val < 2 then 0x0000_0000 else 0x0000_0FFF) })

/-- The same with an empty buffer, ready to fetch, and data addresses in s4, s5 and s6. -/
def deckY : State := modDeck deckX 0 (fun d => (((d.setStream 0 (some { stream0 with buffer := [], base := lpddrBase })).sSet 4
  (BitVec.ofNat 64 (deckBase + 0x2_0000)) false).sSet 5 (BitVec.ofNat 64 (deckBase + 0x3_0000)) false).sSet 6
    (BitVec.ofNat 64 (8 * 2 ^ 32 + 64)) false)

theorem test_mma_witness :
    (let w := word 0x01 1 2 0
     let d := deckX.decks.get 0
     wordSpells 0x01 w && mmaForm w && fits deckX .x w && d.injected.isNone && rising d.acc
       && (match d.stream (fB w) with
           | some x => !x.faulty && modeFits (bitsOf (fFl w) 1 0) x.format && decide (fC w < 4)
               && (match x.buffer with
                   | st :: _ => (st.closing == bitOf (fFl w) 2) && decide (st.lanes.length = 32)
                   | [] => false)
           | none => false)) = true := by decide

/-- The same stream with a step whose read met an unmapped address. -/
def deckU : State := modDeck deckX 0 (fun d => d.setStream 0 (some { stream0 with
  buffer := [⟨0, 0, false, List.replicate 32 lane0, some (3, 5)⟩] }))

theorem test_mma_fault_witness :
    (let w := word 0x01 1 2 0
     wordSpells 0x01 w && mmaForm w && fits deckU .x w
       && (match (deckU.decks.get 0).stream (fB w) with
           | some x => decide (x.buffer.map (·.fault) = [some (3, 5)])
           | none => false)) = true := by decide

/-- The stream waits for a bank of the flash that an erase keeps busy. -/
def deckW : State :=
  let s := modDeck deckY 0 (fun d => d.setStream 0 (some { stream0 with buffer := [], base := flashBase + 0x4000_0000 }))
  s.setFlash { s.flash with banks := [(8, ⟨.priv, 0, true, false, 0x4_0FF0, 0x4_0FF0 * 4096, false, true, 0, 2500⟩)] }

theorem test_banks_witness :
    ((let w := word 0x02 1 0 0; wordSpells 0x02 w && rForm w 0 && decide (fD w < 8) && fits deckY .x w)
      && (let w := word 0x03 1 4 0; let d := deckY.decks.get 0
        wordSpells 0x03 w && rForm w 7 && decide (fD w < 8) && fits deckY .x w && !d.sPoison (fA w) && !d.sPoison (fB w)
          && decide ((d.sGet (fA w)).toNat % 64 = 0 ∧ (d.sGet (fB w)).toNat % 64 = 0) && d.store.isEmpty)
      && (let w := vword 0x18 1 4 5 4 + BitVec.ofNat 64 (6 * 2 ^ 26); let d := deckY.decks.get 0
        wordSpells 0x18 w && vForm w floatTypes 1 && fits deckY .v w && (etFloat (fEt w)).isSome
          && !d.sPoison (fA w) && !d.sPoison (fB w) && !d.sPoison (fC w) && decide (fC w = 6)
          && decide (bitsOf (d.sGet 6).toNat 63 48 = 0 ∧ bitsOf (d.sGet 6).toNat 47 32 = 8)
          && srcInside 0 (d.sGet 4).toNat 64 32 && dstInside 0 (d.sGet 5).toNat 8 && !qrowOverlap (d.sGet 4).toNat (d.sGet 5).toNat 64 32 8
          && d.store.isEmpty)) = true := by decide

theorem test_accst_permitted_witness : ∀ r < 2,
    writePermitted 0 (holdingWord deckY 0 .x (word 0x03 1 4 0)) (accstAddr (deckY.decks.get 0) (word 0x03 1 4 0) r) 1024
      = (holdingWord deckY 0 .x (word 0x03 1 4 0), none) := by
  intro r h
  match r, h with
  | 0, _ => rfl | 1, _ => rfl

theorem test_bank_effects_witness :
    (inBank 1 2048 && !inBank 1 0 && rising (deckX.decks.get 0).acc && bitOf (fFl (word 3 1 4 0 + BitVec.ofNat 64 (4 * 2 ^ 58))) 2)
      = true := by decide

theorem test_deck_events_witness :
    (deckF.running && !(deckF.decks.get 0).store.isEmpty && !(deckX.decks.get 0).stalled
      && (match (deckY.decks.get 0).stream 0 with
          | some x => x.started && decide (x.pos < x.total) && decide (x.buffer.length < 64) && (sharers deckY 0 x.mask).isEmpty
              && (match (fetchStep 0 x deckY).2.2 with | .ok => true | _ => false)
          | none => false)
      && (match (deckW.decks.get 0).stream 0 with
          | some x => x.started && decide (x.pos < x.total) && (sharers deckW 0 x.mask).isEmpty
              && (match (fetchStep 0 x deckW).2.2 with | .stalled _ => true | _ => false)
          | none => false)
      && (let d := (deck0 (fun d => { d with ending := true })).decks.get 0
        decide (d.status = .running) && d.ending && d.store.isEmpty && d.injected.isNone)
      && !(deckX.decks.get 0).ending && taken deckX .priv 0x4000 8 4 && decide (leNat [0x40, 0, 0x57, 0x53] = 0x5357_0040)
      && decide ((deckX.decks.get 0).store.length ≤ 8)) = true := by decide +kernel

/-- Deck 0 with a descriptor of zeros in the data area. -/
def deckD : State := deck0 (fun d => d.sSet 2 (BitVec.ofNat 64 (deckBase + 0x2_0000)) false)

theorem test_stream_fault_witness :
    (let w := word 0x08 1 2 0
     wordSpells 0x08 w && iForm w 0 && decide (fD w < 4) && aligned deckD w 64
       && reads deckD w 64 (fun l => decide (fld (vals l) 30 1 = 0))) = true := by decide

/-! ## Writes of objects -/

/-- The device runs, the interface level is chosen. -/
def act : State := (on .active).setVal 0x1002 2 2

/-- A command word of 4 bytes. -/
def cmd (v : Nat) : Bytes := leBytes 4 v

/-- A write that is one is taken in a state. -/
def takes (i : Instr) (s : State) : Bool :=
  match writes i with
  | some (ch, idx, sub, val) => taken s ch idx sub val.length
  | none => false

theorem test_refused_writes_witness :
    (!(on .watch).serves && act.serves
      && (match writeChecks act .priv 0x1002 1 1 with | .error _ => true | .ok _ => false)
      && (let s := act.setCustody { act.custody with harbour := 1 }
        (match writeChecks s .priv 0x2C10 3 4 with | .error _ => false | .ok _ => true) && harbourRefuses s 0x2C10)) = true := by
  decide

theorem test_host_range_witness :
    ((withBerths [berth0] act).anyLive && takes (.hostRange .priv (cmd 0x20001)) (withBerths [berth0] act)
      && !act.inHarbour && decide (act.tiers.fitted ≠ 0)) = true := by decide

theorem test_interface_level_witness :
    (takes (.hostRange .priv (cmd 0x20001)) act && !act.anyLive && decide (bitsOf 0x20001 15 0 ≤ bitsOf 0x20001 31 16)
      && decide (2 < bitsOf 0x50003 15 0) && takes (.hostRange .priv (cmd 0x50003)) act
      && takes (.storeParameters .priv (cmd 0x5357_0001)) act && act.custody.storing.isNone
      && takes (.restoreDefaults .priv (cmd 0x5357_0002)) act && !isDown act) = true := by decide

/-- A copy is being stored. -/
def storing : State := act.setCustody { act.custody with storing := some (.priv, ⟨1, []⟩) }

/-- A service authorisation of the part. -/
def authBlock : Bytes := fields [(8, 0), (1, 4)] ++ List.replicate 71 0

theorem test_custody_witness :
    (storing.custody.storing.isSome && takes (.warmReset .priv (cmd 0x5357_0010)) act && act.custody.resetPending.isNone
      && takes (.coldReset .priv (cmd 0x5357_0011)) act && takes (.harbourReset .priv (cmd 0x5357_0012)) act
      && takes (.commitCommand .priv (cmd 0x5357_0020)) act && decide (act.counter 0 ≤ act.custody.helmSecurity)
      && decide (act.counter 1 ≤ act.custody.watchSecurity)
      && (act.custody.counters[0]?.map (fun c => c.value?.isSome) == some true)
      && takes (.serviceAuthorisation .priv authBlock) act && decide (authBlock.length = 80) && zeroAt authBlock 9 7
      && decide (fld authBlock 0 8 = act.part.uniqueId ∧ fld authBlock 8 1 = 4) && act.systemFree) = true := by decide

/-- The part at a lifecycle: counters 2 to 5. -/
def life (c2 c3 c4 c5 : Nat) : State :=
  act.setCustody { act.custody with
    counters := [Counter.at 0, Counter.at 0, Counter.at c2, Counter.at c3, Counter.at c4, Counter.at c5]
    serviceAuth := true }

theorem test_lifecycle_witness :
    (decide ((life 0 0 0 0).lifecycle = .blank) && takes (.lifecycleToFactory .priv (cmd 0x5357_1001)) (life 0 0 0 0)
      && decide ((life 1 0 0 0).lifecycle = .factory) && takes (.lifecycleToDevelopment .priv (cmd 0x5357_1002)) (life 1 0 0 0)
      && takes (.lifecycleToDeployed .priv (cmd 0x5357_1003)) (life 1 0 0 0)
      && decide ((life 2 0 0 0).lifecycle = .deployed) && takes (.lifecycleToService .priv (cmd 0x5357_1004)) (life 2 0 0 0)
      && decide ((life 2 0 1 0).lifecycle = .service) && takes (.lifecycleLeaveService .priv (cmd 0x5357_1005)) (life 2 0 1 0)
      && takes (.lifecycleToEnd .priv (cmd 0x5357_100E)) (life 1 1 0 0)
      && decide ((life 1 1 0 0).lifecycle = .development) && (life 1 1 0 0).custody.transition.isNone) = true := by decide

/-! ## Frames -/

/-- A request frame of an op for an object, with its type code and value. -/
def frame (op idx sub ty total off : Nat) (payload : Bytes) : Bytes :=
  overlay (requestFrame op 0 idx sub 1 total off payload) 5 [BitVec.ofNat 8 ty]

/-- The first example of chapter 2: an expedited read of 0x1000:01. -/
def readFrame : Bytes := frame 1 0x1000 1 0 0 0 []

/-- A write of 0x2002:01, a segmented read and the first and last frames of a segmented write of 0x2111:01. -/
def writeFrame : Bytes := frame 2 0x2002 1 0 4 0 (leBytes 4 500)
def readFirst : Bytes := frame 3 0x2003 1 0 0 0 []
def writeFirst : Bytes := frame 4 0x2111 1 0 80 0 (authBlock.take 48)
def writeLast : Bytes := frame 4 0x2111 1 0 80 48 (authBlock.drop 48)
def abortOne : Bytes := frame 5 0x2111 1 0 0 0 []

/-- The privileged mailbox with the first segment of a write of 0x2111:01 taken. -/
def writing : State := act.setChan .priv { Chan.reset with xfer := some ⟨1, true, 0x2111, 1, 80, 48, authBlock.take 48, false, 0⟩ }

/-- The same with a read of 80 bytes open at 48. -/
def reading : State := act.setChan .priv { Chan.reset with xfer := some ⟨1, false, 0x2111, 1, 80, 48, authBlock, false, 0⟩ }

def readNext : Bytes := frame 3 0x2111 1 0 0 48 []

theorem comes_of (s : State) (f : Bytes) (h : s.chans = [] ∨ ∃ x, s.chans = [(.priv, { Chan.reset with xfer := some x })])
    (hs : s.serves = true) (hi : s.inbox = []) (hf : f.length = 64) : comes s .priv f := by
  rcases h with h | ⟨x, h⟩ <;>
    exact ⟨⟨hs, by simp [State.chan, agetD, aget, h, Chan.reset], by simp [State.chan, agetD, aget, h, Chan.reset], hi, hf⟩,
      fun p hp => by simp [State.chan, agetD, aget, h, Chan.reset] at hp⟩

theorem test_passes_witness :
    passes act .priv readFrame ∧ passes act .priv writeFrame ∧ passes act .priv writeFirst ∧ passes writing .priv writeLast ∧
      passes writing .priv abortOne ∧ passes reading .priv readNext := by
  refine ⟨⟨comes_of _ _ (.inl rfl) (by decide) rfl (by decide), by decide, by decide, by decide, by decide⟩,
    ⟨comes_of _ _ (.inl rfl) (by decide) rfl (by decide), by decide, by decide, by decide, by decide⟩,
    ⟨comes_of _ _ (.inl rfl) (by decide) rfl (by decide), by decide, by decide, by decide, by decide⟩,
    ⟨comes_of _ _ (.inr ⟨_, rfl⟩) (by decide) rfl (by decide), by decide, by decide, by decide, by decide⟩,
    ⟨comes_of _ _ (.inr ⟨_, rfl⟩) (by decide) rfl (by decide), by decide, by decide, by decide, by decide⟩,
    ⟨comes_of _ _ (.inr ⟨_, rfl⟩) (by decide) rfl (by decide), by decide, by decide, by decide, by decide⟩⟩

/-- The object of a frame is found, and a test of its row holds. -/
def found (s : State) (f : Bytes) (p : ObjDef → Bool) : Bool :=
  match rowFor s .priv (frIdx f) (frSub f) with
  | some d => readsOwn s .priv (frIdx f) (frSub f) && typeOk d f
      && decide ((if frOp f = 2 ∨ frOp f = 4 then d.writers (frIdx f) (frSub f) else d.classes) &&& chanClass .priv ≠ 0)
      && !harbourRefuses s (frIdx f) && p d
  | none => false

/-- An owner accepts. -/
def accepts (a : Applied) : Bool := match a with | .done 0 _ => true | _ => false

theorem test_expedited_witness :
    (found act readFrame (fun d => readable d && !isDomain d
        && decide ((readObject .priv d 0x1000 1 (Claims.served .priv readFrame act)).length ≤ 48))
      && found act writeFrame (fun d => writable d 0x2002 1 && !isDomain d && expeditedFits d (frTotal writeFrame)
        && accepts (applyFor .priv d 0x2002 1 ((frPayload writeFrame).take 4) (Claims.served .priv writeFrame act)))
      && decide (frOp abortOne = 5 ∧ (writing.chan .priv).xfer.map (·.id) = some (frId abortOne))) = true := by decide

theorem test_segmented_witness :
    (found act readFirst readable && decide (frOp readFirst = 3 ∧ frOff readFirst = 0) && (act.chan .priv).xfer.isNone
      && decide (frOp readNext = 3) && (match (reading.chan .priv).xfer with
          | some x => !x.live && belongs x readNext && decide (frOff readNext = x.next) && (objectAt x.idx x.sub).isSome
          | none => false)
      && found act writeFirst (fun d => writable d 0x2111 1 && segmentedFits act .priv d 1 (frTotal writeFirst))
      && decide (frOp writeFirst = 4 ∧ frOff writeFirst = 0 ∧ 48 < frTotal writeFirst)
      && (match (writing.chan .priv).xfer with
          | some x => x.write && belongs x writeLast && decide (frOff writeLast = x.next)
              && decide (x.total ≤ x.next + min 48 (x.total - x.next)) && (objectAt x.idx x.sub).isSome
              && !harbourRefuses writing x.idx
          | none => false)) = true := by decide

/-- The sideband holds a response; a frame sent on to node 2 waits. -/
def answeredSide : State :=
  (act.setChan .side { Chan.reset with ready := true }).setFerry { act.ferry with forwards := [⟨.priv, 2, readFrame⟩] }

theorem test_transports_witness :
    ((writing.chan .priv).xfer.isSome && !answeredSide.ferry.forwards.isEmpty && !isDown answeredSide && sideReady answeredSide
      && decide ((answeredSide.setVal 0x1101 4 1).val 0x1101 4 = 1) && !sideReady act) = true := by decide

theorem test_frames_witness :
    (decide (frOp readFrame = 1 ∧ frOp writeFrame = 2 ∧ frOp readFirst = 3 ∧ frOp writeFirst = 4 ∧ frOp abortOne = 5)
      && accepts (applyObject .priv 0x2002 1 (leBytes 4 500) act)) = true := by decide

/-- The privileged mailbox with a frame served last. -/
def repeated : State := act.setChan .priv { Chan.reset with last := some (readFrame, []) }

theorem test_repeat_witness : free repeated .priv readFrame ∧ (repeated.chan .priv).last = some (readFrame, []) ∧
    deaf act = false ∧ sideReady act = false := by unfold free; decide

/-! ## Sleep and power -/

/-- Asleep in DOZE and in WATCH, with berth 0 holding unreported output and a WATCH deadline. -/
def held0 : Berth := { berth0 with unreported := 1 }

def dozing : State := withBerths [held0] ((on .doze).setVal 0x2011 2 1000)

def watching : State := { withBerths [held0] (on .watch) with power := { State.reset.power with state := .watch, deadline := some 0 } }

theorem test_quiet_witness : quiet act := ⟨by decide, rfl⟩

theorem test_wake_sources_witness :
    (sleeps dozing .doze ∧ unmasked dozing 1 ∧ unmasked dozing 2 ∧ unmasked dozing 8 ∧ unmasked dozing 16) ∧
      (sleeps watching .watch ∧ unmasked watching 1 ∧ ¬ unmasked (watching.setVal 0x2010 1 0xFF) 4) ∧
      (sleeps (dozing.setPower { dozing.power with link := .l12 }) .doze) ∧
      (berthOf dozing 0 = some held0 ∧ dozing.val 0x2011 2 ≠ 0 ∧ watching.power.deadline = some 0) := by
  refine ⟨⟨⟨rfl, rfl, rfl⟩, ?_⟩, ⟨⟨rfl, rfl, rfl⟩, ?_⟩, ⟨rfl, rfl, rfl⟩, ?_⟩ <;> (try unfold unmasked) <;> decide +kernel

/-- A slow-crossing WAKE for the neighbour. -/
def wakeBytes : Bytes := slowFrameOf 2 0 [2]

/-- The same with port 0 in slow crossing. -/
def dozingSlow : State := dozing.setPort 0 { Port.reset with st := .slow }

theorem test_wake_frame_witness :
    ((dozingSlow.port 0).st == .slow && slowValid wakeBytes && decide (fld wakeBytes 1 1 = 2 ∧ fld wakeBytes 2 1 / 16 = 0)) = true := by
  decide +kernel

/-- Waiting for the end of an entry or an exit. -/
def entering (st : PowerState) (e : Entry) : State :=
  { State.reset with power := { State.reset.power with state := st, entering := some e } }
def exiting (st : PowerState) : State :=
  { State.reset with power := { State.reset.power with state := st, exiting := some st } }

/-- READY with DOZE due, and DOZE with WATCH due. -/
def dozeDue : State := { (on .ready) with power := { (on .ready).power with dozeDue := true } }
def watchDue : State :=
  { (on .doze) with power := { (on .doze).power with watchDue := true, aspmL1 := true, aspmL12 := true, link := .l12 } }

/-- The host has enabled L1.2. -/
def watchOn (s : State) : State := s.setPower { s.power with aspmL1 := true, aspmL12 := true }

theorem test_entries_witness :
    (dozeAllowed dozeDue && decide ((entering .ready .doze).power.entering = some .doze)
      && decide ((exiting .doze).power.exiting = some .doze) && decide ((exiting .watch).power.exiting = some .watch)
      && (exiting .watch).board.swPgood && decide ((exiting .watch).power.rail = .idle)
      && watchReady watchDue && (moveDownAll (nearHomes watchDue) watchDue).isSome
      && decide ((entering .doze .watch).power.entering = some .watch)) = true := by decide +kernel

/-- The same with a tensor in the hold and no room below it. -/
def crowded : State := watchDue.setTiers { watchDue.tiers with tensors := [{ newTensor 7 0 4096 0 0 true with home := 0 }] }

theorem test_crowded_witness : watchReady crowded = true ∧ moveDownAll (nearHomes (landAll crowded)) (landAll crowded) = none := by
  decide +kernel

/-- OFF_PREPARE with everything done. -/
def offDone : State :=
  (entering .ready .offReady).setCustody { (entering .ready .offReady).custody with planned := true }

theorem test_state_commands_witness :
    (!act.inHarbour && takes (.dozeNow .priv [3]) act && takes (.watchNow .priv [4]) (watchOn act) && watchAllowed (watchOn act)
      && takes (.watchNow .priv [4]) act && !watchAllowed act
      && takes (.offPrepare .priv [5]) act && idleForOff act && takes (.offPrepare .priv [5]) (withBerths [berth0] act)
      && !idleForOff (withBerths [berth0] act) && decide (offDone.power.entering = some .offReady) && offDone.turn.isNone
      && !offDone.inHarbour && takes (.dozeNow .priv [3]) offDone && takes (.watchNow .priv [4]) (watchOn offDone)
      && decide (offDone.power.state ≠ .offReady ∧ act.power.state ≠ .offReady ∧ act.power.entering ≠ some .offReady)
      && watchAllowed (watchOn offDone) && decide ((watchOn offDone).power.entering = some .offReady)
      && (let s := on .offReady;
        decide (s.power.state = .offReady) && takes (.dozeNow .priv [3]) s && takes (.watchNow .priv [4]) (watchOn s)
          && watchAllowed (watchOn s) && takes (.offPrepare .priv [5]) s && idleForOff s && !s.inHarbour)
      && moverIdle offDone && storesDrained offDone && offDone.custody.planned && offDone.custody.journal.queue.isEmpty) = true := by
  decide +kernel

theorem test_timeouts_witness :
    (!anyRunnable act && decide ((on .ready).val 0x2000 1 = 0 ∧ (on .ready).val 0x2002 2 ≠ 0)
      && decide (((on .ready).setVal 0x2000 1 1).val 0x2000 1 = 1)
      && decide ((on .doze).val 0x2002 2 ≠ 0 ∧ (on .doze).val 0x2002 3 ≠ 0)
      && decide ((act.setPower { act.power with raising := some 1 }).power.raising = some 1)
      && decide (115000 ≤ hottest [120000]) && !act.power.tripped
      && decide ((on .doze).power.state = .doze ∧ (on .watch).power.state = .watch)) = true := by decide +kernel

theorem test_rails_witness :
    (decide (({ State.reset.power with rail := .waiting } : Power).rail = .waiting)
      && decide (({ State.reset.power with rail := .retrying, latched := 1 } : Power).latched ≠ 0)
      && !isDown act && act.board.perstN && decide (({ State.reset.power with l1Asked := true } : Power).l1Asked = true)
      && (let p := { State.reset.power with l1Asked := true };
        decide (p.dState ≠ .d3cold) && decide ({ p with dState := .d3cold }.dState = .d3cold) && linkTrained { p with link := .l1 })
      && decide ((on .ready).power.entering = none) && (on .ready).running) = true := by decide +kernel

/-- READY with berth 0 to be reported; Host Sleep Hint set on an idle link. -/
def wakesDue : State := (on .ready).setPower { (on .ready).power with wakes := [(0, .timer)] }
def hinted : State := ((on .ready).setVal 0x2805 1 1).setPower { (on .ready).power with aspmL1 := true, link := .l0, l1Asked := false }

theorem test_host_wakes_witness :
    (!wakesDue.power.wakes.isEmpty && hinted.running && decide (hinted.val 0x2805 1 = 1) && hinted.power.aspmL1
      && decide (hinted.power.link = .l0) && !hinted.power.l1Asked) = true := by decide +kernel

theorem test_resets_witness :
    (decide ((on .off).power.state = .off) && resetsItself act
      && (act.setCustody { act.custody with resetPending := some .warm }).custody.resetPending.isSome
      && decide (({ (on .held) with board := { State.reset.board with rstN := false } } : State).board.rstN = false)
      && decide ((on .offReady).power.state = .offReady) && act.board.tamperN && !act.custody.tamperHarbour
      && (act.custody.counters[7]?.map (fun c => c.value?.isSome) == some true)
      && resetsItself (act.setCustody { act.custody with tamperHarbour := true })) = true := by decide +kernel

/-! ## Weight flash -/

/-- A descriptor of an opcode over n bytes from an offset of the array. -/
def descBlock (op n off : Nat) (buf : Nat := 0) : Bytes :=
  fields [(1, op), (1, 0), (2, 0x77), (4, n), (8, off), (8, buf), (8, 0)]

/-- The same as the queue holds it. -/
def held (op n off : Nat) : FlashDesc := parseDesc (descBlock op n off) 0

/-- A privileged queue. -/
def withPriv (l : List FlashDesc) (s : State) : State := s.setFlash { s.flash with priv := l }

/-- Offset of a DATA sector of the array. -/
def dataAt : Nat := 0x4000_0000

theorem test_flash_submissions_witness :
    (takes (.flashRead .priv [1]) act && takes (.flashRead .priv (descBlock 1 64 0)) act
      && descForm (descBlock 1 64 0) && descRange (descBlock 1 64 0)
      && [(1, 64), (2, 64), (3, 4096), (4, 64), (5, 64), (6, 64)].all (fun p =>
        decide ((descBlock p.1 p.2 dataAt).length = 32 ∧ fld (descBlock p.1 p.2 dataAt) 0 1 = p.1)
          && descForm (descBlock p.1 p.2 dataAt) && descRange (descBlock p.1 p.2 dataAt)
          && !descRange (descBlock p.1 1 dataAt) && !descForm (descBlock p.1 p.2 (2 ^ 33)))
      && decide (16 ≤ (withPriv (List.replicate 16 (held 1 64 0)) act).flash.priv.length)
      && takes (.flashRead .priv (descBlock 1 64 0)) (withPriv (List.replicate 16 (held 1 64 0)) act)
      && takes (.flashFlush .priv (cmd 0x5357_0030)) act && act.flash.changes.isEmpty) = true := by decide +kernel

/-- One waiting descriptor of a serving device, and one with a byte of its range written. -/
def oneDesc (op n off : Nat) : State := withPriv [held op n off] act
def programmed : State := { oneDesc 4 64 dataAt with mem := (oneDesc 4 64 dataAt).mem.setBytes (flashBase + dataAt + 32) [0] }

theorem test_descriptors_start_witness :
    ((oneDesc 3 4096 dataAt).serves && decide ((oneDesc 3 4096 dataAt).flash.priv = [held 3 4096 dataAt])
      && decide ((held 3 4096 dataAt).st = .waiting ∧ (held 3 4096 dataAt).opcode = 3)
      && decide (startStatus (oneDesc 3 4096 dataAt) .priv (held 3 4096 dataAt) = 0)
      && decide (startStatus (oneDesc 3 4096 (2 ^ 33)) .priv (held 3 4096 (2 ^ 33)) = 3)
      && decide (startStatus (oneDesc 2 16 0x60_0000) .priv (held 2 16 0x60_0000) = 2)
      && [6, 4].all (fun op => decide (startStatus (oneDesc op 64 dataAt) .priv (held op 64 dataAt) = 0)
        && decide (marksIn (oneDesc op 64 dataAt).mem 16 (flashBase + dataAt) 64 = []))
      && decide (firstWritten (oneDesc 4 64 dataAt).mem (flashBase + dataAt) 64 = none)
      && decide (firstWritten programmed.mem (flashBase + dataAt) 64 = some 32)) = true := by decide +kernel

/-- The last pulse of a program of 16 bytes, and the last sector of an erase. -/
def pulsing : FlashDesc := { held 2 16 dataAt with st := .running, source := List.replicate 16 1 }
def erasing : FlashDesc := { held 3 4096 dataAt with st := .running }
def onBank (d : FlashDesc) : State :=
  (withPriv [d] act).setFlash { (withPriv [d] act).flash with banks := [(d.bank, d.op .priv act)] }

/-- No stream of a deck that has just been reset waits. -/
theorem onlyRuns_of (s : State) (d : FlashDesc)
    (h : (s.flash.helm = [] ∧ s.flash.priv = [d] ∧ d.st = .running ∧ s.flash.waiting = [] ∧ s.flash.changes = [] ∧
      s.flash.advances = [] ∧ s.flash.tableDue = false) ∧
      ∀ k : Fin 16, (s.decks.get k).stalled = false ∧ (s.decks.get k).streams.toList.all (·.isNone) = true) : onlyRuns s d := by
  obtain ⟨⟨a, b, c, e, f, g, i⟩, h⟩ := h
  refine ⟨a, b, c, e, f, g, i, fun k => ⟨(h k).1, fun n x hx => ?_⟩⟩
  have hx : (s.decks.get k).streams.toList[n]? = some (some x) := by simpa [Deck.stream, Option.join_eq_some_iff] using hx
  simpa using List.all_eq_true.1 (h k).2 _ (List.mem_of_getElem? hx)

theorem test_pulses_witness :
    (onlyRuns (onBank pulsing) pulsing ∧ onlyRuns (onBank erasing) erasing) ∧
      (pulsing.op .priv act).queue = .priv ∧ (pulsing.op .priv act).seq = pulsing.seq ∧ (pulsing.op .priv act).erase = false ∧
      pulsing.opcode = 2 ∧ pulsing.done + pulsing.pulse = pulsing.length ∧ pulsing.source.length = pulsing.length ∧
      (erasing.op .priv act).erase = true ∧ (erasing.op .priv act).suspended = false ∧ (erasing.op .priv act).sector < 2 ^ 21 ∧
      erasing.done + 4096 = erasing.length ∧ (onBank pulsing).mem.wf = true ∧ pulsing.bank < 64 :=
  ⟨⟨onlyRuns_of _ _ (by decide +kernel), onlyRuns_of _ _ (by decide +kernel)⟩, by decide +kernel⟩

/-- Its completion. -/
def ended : FlashDesc := { held 1 64 0 with st := .finished ((held 1 64 0).completion 0 64 0) }

theorem test_completions_witness :
    ((withPriv [ended] act).images.job.isNone && decide (ended.owner = .host) && !bitOf ended.flags 0
      && act.flash.backlog.isEmpty && decide (act.flash.unread.length < 16)
      && decide (16 ≤ (act.setFlash { act.flash with
        unread := List.replicate 16 ((held 1 64 0).completion 0 64 0) }).flash.unread.length)) = true := by decide +kernel

/-- A WEIGHT_ONLY region of sectors 0x40000 to 0x40001. -/
def regionVal : Bytes := leBytes 8 (0x40000 + 0x40001 * 2 ^ 32 + 2 ^ 63)
def changing (clearing : Bool) : State :=
  act.setFlash { act.flash with changes := [(3, ⟨regionOf (leNat regionVal), [], clearing, [], []⟩)] }

theorem test_regions_witness :
    ((List.range 16).all (fun m => decide (m = 3) || (!((act.flash.regions[m]?).getD ⟨0, 0, .unused⟩).meets (regionOf (leNat regionVal))
        && !((newTable act)[m]?.getD ⟨0, 0, .unused⟩).meets (regionOf (leNat regionVal))))
      && (regionOf (leNat regionVal)).used && decide ((regionOf (leNat regionVal)).first ≤ (regionOf (leNat regionVal)).last)
      && (changedRuns ((act.flash.regions[3]?).getD ⟨0, 0, .unused⟩) (regionOf (leNat regionVal))).all
        (fun r => !tensorsInUse act r.1 r.2)
      && takes (.regionWrite .priv 3 regionVal) act && takes (.regionWrite .priv 3 regionVal) (changing false)
      && (match aget (changing true).flash.changes 3 with
          | some c => changeDue (changing true) 3 c && (changing true).systemFree
          | none => false)
      && (match aget (changing false).flash.changes 3 with
          | some c => !changeDue (changing false) 3 c
          | none => false)) = true := by decide +kernel

/-! ## Memory and tiers -/

/-- A read and a write of 16 bytes by the management engine, in the general hold and in no memory. -/
def readAt (a : Nat) : Access := ⟨1, none, .read, a, 16, [], none, .clean⟩
def writeAt (a : Nat) : Access := ⟨1, none, .write, a, 16, List.replicate 16 ⟨5, false⟩, none, .clean⟩

/-- The same by a master that no entry permits. -/
def strayRead : Access := { readAt 0x1000 with master := 19 }
def strayWrite : Access := { writeAt 0x1000 with master := 19 }

theorem test_memory_accesses_witness :
    plainAccess act (readAt 0x1000) ∧ (readAt 0x1000).kind ≠ .write ∧ plainAccess act (writeAt 0x1000) ∧
      (writeAt 0x1000).kind = .write ∧ (writeAt 0x1000).data.length = (writeAt 0x1000).len ∧
      mirrorOf act 0x1000 = none ∧ (∀ o ∈ (writeAt 0x1000).data, o.bad = false) ∧ act.mem.wf = true ∧ mapped act 0x230_0000 = false ∧
      mapped act strayRead.addr = true ∧
      regionPermits act strayRead.master.val (strayRead.tenant.map (·.val)) strayRead.kind strayRead.addr = false ∧
      regionPermits act strayWrite.master.val (strayWrite.tenant.map (·.val)) strayWrite.kind strayWrite.addr = false := by
  unfold plainAccess; decide +kernel

/-- A word of the hold in error. -/
def marked (m : Mark) : State := { act with mem := act.mem.setMark 0x1000 (some m) }

theorem test_scrubs_witness :
    (act.running && decide (act.val 0x2300 3 ≠ 0) && decide ((marked .single).mem.mark (0x1003 / 8 * 8) = some .single)
      && decide ((marked .double).mem.mark (0x1003 / 8 * 8) = some .double)
      && decide (act.mem.mark (0x1003 / 8 * 8) = none)) = true := by decide

/-- A base word of page 0x4000000, the first of the host window, readable; a window entry 5 of tenant 1. -/
def baseVal : Bytes := leBytes 8 (0x400_0000 + 2 ^ 40 + 1 * 2 ^ 44 + 2 ^ 63)
def based : State := act.setTiers { act.tiers with pendingBase := aset act.tiers.pendingBase (20 * 16 + 9) (baseMask (leNat baseVal)) }
def windowBlock : Bytes := fields [(2, 5), (1, 1), (1, 1), (4, 0), (8, 0x10_0000), (8, 0)]

/-- A tensor of 4 KiB of tenant 1 in the host window, with pins. -/
def tensorAt (pins : Nat) : Tensor := { newTensor (1 * 2 ^ 24 + 7) 0 4096 3 windowBase false with pins := pins }
def withTensor (pins : Nat) (s : State) : State := s.setTiers { s.tiers with tensors := [tensorAt pins] }
def windowed (s : State) : State := s.setTiers { s.tiers with windows := [(0, ⟨1, false, 0, 0⟩)] }

theorem test_windows_witness :
    (takes (.regionEntryBase .priv 20 9 baseVal) act && tenantCode (bitsOf (baseMask (leNat baseVal)) 50 44)
      && takes (.regionEntryLimit .priv 20 9 (leBytes 8 0x400_0001)) based
      && decide (bitsOf (baseFor based 20 9) 35 0 ≤ bitsOf 0x400_0001 35 0) && bitOf (baseFor based 20 9) 63
      && hostReach based (bitsOf (baseFor based 20 9) 35 0) (bitsOf 0x400_0001 35 0)
      && decide (bitsOf 0x3FF_FFFF 35 0 < bitsOf (baseFor based 20 9) 35 0)
      && takes (.windowUpdate .priv windowBlock) act && decide (windowBlock.length = 24) && tenantCode (fld windowBlock 2 1)
      && decide (fld windowBlock 3 1 < 4) && zeroAt windowBlock 4 4 && zeroAt windowBlock 16 8
      && decide (fld windowBlock 0 2 < 4096 ∧ fld windowBlock 8 8 % 4096 = 0 ∧ fld windowBlock 16 8 % 64 = 0)
      && !windowHeld act 5 && act.tiers.bufWindow.isEmpty && decide (aget act.tiers.windows 5 ≠ some ⟨1, false, 0x10_0000, 0⟩)
      && windowHeld (act.setTiers { act.tiers with
        tensors := [{ tensorAt 0 with homeAddr := windowBase + 5 * 0x400_0000 }] }) 5) = true := by decide

/-- A tensor command: opcode, hint, tier, handle, size and address. -/
def tensorBlock (op hint tier size addr : Nat) : Bytes :=
  fields [(1, op), (1, hint), (1, 0), (1, tier), (4, 1 * 2 ^ 24 + 7), (8, size), (8, addr), (8, 0)]

/-- The commands of the tests are well formed and their writes are taken. -/
def okTensor (c : Channel → Bytes → Instr) (v : Bytes) (s : State) : Bool :=
  takes (c .priv v) s && decide (v.length = 32) && commandForm .priv v && commandRange v

theorem test_tensors_witness :
    (okTensor .tensorCreate (tensorBlock 1 0 3 4096 windowBase) (windowed act)
      && decide (commandHandle .priv (tensorBlock 1 0 3 4096 windowBase) = 1 * 2 ^ 24 + 7)
      && decide (tensorOf act (1 * 2 ^ 24 + 7) = none) && sourceOwned (windowed act) windowBase 4096 (ownerOf (1 * 2 ^ 24 + 7))
      && [0, 1].all (fun p => decide (tensorOf (withTensor p act) (1 * 2 ^ 24 + 7) = some (tensorAt p)))
      && [act, withTensor 0 act, withTensor 1 act].all (fun s =>
        okTensor .tensorDestroy (tensorBlock 2 0 0 0 0) s && okTensor .tensorSetHint (tensorBlock 3 0 0 0 0) s
          && okTensor .tensorPin (tensorBlock 4 0 0 0 0) s && okTensor .tensorUnpin (tensorBlock 5 0 0 0 0) s)) = true := by
  decide

/-- Work for that tensor in the mover. -/
def moveOf (k : MoveKind) : Move := ⟨1 * 2 ^ 24 + 7, k, 1, 0⟩
def asked : State :=
  let s := withTensor 0 ((act.setVal 0x2431 2 64).setTiers { act.tiers with fitted := 2 })
  s.setTiers { s.tiers with queue := [moveOf (.copyUp 1)] }
def moving (k : MoveKind) : State := asked.setTiers { asked.tiers with queue := [], current := some { moveOf k with dest := lpddrBase } }

/-- The same with its home in flash. -/
def flashMove : State := (moving (.copyUp 1)).setTiers { (moving (.copyUp 1)).tiers with
  tensors := [{ tensorAt 0 with home := 2, homeAddr := flashBase + dataAt }] }

/-- The same while its bank erases, and with its home in a hold word in error. -/
def busyMove : State := flashMove.setFlash { flashMove.flash with
  banks := [(8, ⟨.priv, 0, true, false, 0x4_0FF0, 0x4_0FF0 * 4096, false, true, 0, 2500⟩)] }
def heldMove : State := { (moving .moveDown) with
  mem := act.mem.setMark 0x1000 (some .double)
  tiers := { (moving .moveDown).tiers with tensors := [{ tensorAt 0 with home := 0, homeAddr := 0x1000, rw := true }] } }

theorem test_moves_witness :
    (isTierQuota 0x2430 1 && takes (.tierQuotaWrite .priv 0x2430 1 (leBytes 4 64)) act
      && decide (quotaSum (act.setVal 0x2430 1 64) 0 ≤ tierPool act 0)
      && decide (tierPool act 0 < quotaSum (act.setVal 0x2430 1 0xFFFF_FFFF) 0)
      && asked.running && asked.tiers.current.isNone && asked.tiers.queue.all (stillAsked asked)
      && decide (byClass asked.tiers.queue = [] ++ moveOf (.copyUp 1) :: []) && (canStart asked (moveOf (.copyUp 1))).isSome
      && (let s := asked.setTiers { asked.tiers with tensors := [{ tensorAt 0 with st := .movingUp }] }
        s.tiers.queue.all (fun m => decide (canStart s m = none)) && s.tiers.queue.all (stillAsked s))
      && [MoveKind.drop 1, .moveUp, .moveDown, .copyUp 1].all (fun k => (moving k).running && (moving k).tiers.current.isSome)
      && !classOneLeft asked && classOneLeft (asked.setPower { asked.power with refetch := [5] })
      && [(flashMove, CopyEnd.done), (heldMove, .poisoned), (busyMove, .waits)].all (fun p =>
        match p.1.tiers.tensors with
        | t :: _ => decide ((moveBytes p.1 t t.homeAddr lpddrBase).2 = p.2)
        | [] => false)) = true := by decide +kernel

/-! ## Turns -/

/-- A device in ACTIVE with the small model and a turn of berth 0 that has run its entries; changes to it. -/
def ready0 : State := withBerths [berth0] (withImage act)
def inTurn (f : Turn → Turn) : State := { ready0 with turn := some (f { newTurn 0 1 [entry0] 3 false true with next := 1 }) }

/-- A held barrier, and a transition that waits. -/
def heldBarrier (raising : Option Nat) : State :=
  { (act.setServing { act.serving with held := true }) with power := { act.power with raising := raising } }
/-- Bank 0 of the flash works. -/
def bankZero (s : State) : State :=
  s.setFlash { s.flash with banks := [(0, ⟨.priv, 0, true, false, 0x100, 0x100 * 4096, false, true, 0, 2500⟩)] }
def transiting : State := act.setCustody { act.custody with transition := some (2, .blank, .factory) }

theorem test_barriers_witness :
    (act.custody.transition.isNone && atBarrier act && !act.serving.held && !(barrierEffects act).serving.held
      && atBarrier (heldBarrier none) && (heldBarrier none).serving.held && !stillHeld (heldBarrier none)
      && atBarrier (heldBarrier (some 1)) && stillHeld (heldBarrier (some 1))
      && transiting.custody.transition.isSome && transiting.serves && transiting.turn.isNone && transiting.systemFree
      && !(bankZero transiting).systemFree && (bankZero transiting).serves
      && (let s := (act.setServing { act.serving with clearDue := true }).setCustody { act.custody with harbour := 1 };
        s.custody.transition.isNone && !s.running && s.serves && s.turn.isNone && s.serving.clearDue)
      && (inTurn id).turn.isSome) = true := by decide +kernel


theorem test_forming_witness :
    ((formBatch ready0).isSome && !inPipeline ready0 && (formBatch act).isNone && decide (act.power.state = .active)
      && (act.setPower { act.power with readyDue := true }).power.readyDue && !anyRunnable act
      && ready0.ferry.batch.isNone && (act.setFerry { act.ferry with batch := some ([], []) }).ferry.batch.isSome
      && decide ((act.setPower { act.power with command := some .watchNow }).power.command = some .watchNow)) = true := by decide +kernel

/-- The model with an expert layer of two experts routed after entry 0, and a second entry. -/
def expert0 : ExpertEntry := ⟨1, 0, 1, 0, 2, 1, 1, 0, 1, 0, 0, 0x1000, 1, 0, 0⟩
def moe (s : State) : State := setImage s 0 (fun im => { im with head := some { head0 with
  layerTable := [⟨1, 1, 0, 0, []⟩, ⟨2, 1, 1, 0, []⟩], experts := [expert0] } })
def moeTurn (f : Turn → Turn) : State := moe (inTurn f)

theorem test_dispatch_witness :
    (let s := moeTurn id;
      s.running && (nextEntryOf s ((s.turn).getD (newTurn 0 0 [] 0 false true))).isSome
        && decide (assignment s 1 (excludedNow s) ≠ []) && (nextEntryOf (inTurn id) (((inTurn id).turn).getD (newTurn 0 0 [] 0 false true))).isNone
        && (dueExpert s ((s.turn).getD (newTurn 0 0 [] 0 false true))).isSome
        && decide ((moeTurn (fun t => { t with routeDue := true })).turn.map (·.routeDue) = some true)
        && decide ((moeTurn (fun t => { t with queued := [(0, 1)] })).turn.map (·.queued) = some [(0, 1)])) = true := by
  decide +kernel

/-- Choices that overflow: three rows for expert 1. -/
def threeRows : List Choice := (List.range 3).map (fun r => ⟨⟨r, 0, r⟩, [1], [gateOne], false⟩)

theorem test_assignment_witness :
    (∀ c ∈ threeRows, ∀ rank < expert0.topK, (c.experts[rank]?).getD 0 < expert0.experts) ∧
      ((assignRows expert0 threeRows).counts.map (fun n => (n.assigned, n.overflow, n.dropped)) = [(0, 0, 0), (3, 1, 1)]) ∧
      (assignRows expert0 (threeRows.take 1)).poolUsed < expert0.pool := by decide

/-- The same turn with a vocabulary of four tokens, and with logits that hold a NaN. -/
def drawing : State := setImage (inTurn id) 0 (fun im => { im with head := some { head0 with man := { man0 with vocab := 4 } } })
def nanLogits : State := { drawing with mem := drawing.mem.setBytes 0x1000 [0, 0, 0xC0, 0x7F] }

theorem test_sampling_witness :
    (match drawing.turn with
      | some t => programsDone drawing t && lastStage drawing t.slot && entry0.yields && !entry0.cancelled
          && decide (t.batch[0]? = some entry0) && (aget t.drawn 0).isNone && (manifestOf drawing t.slot).isSome
          && t.damaged.isEmpty && !t.cascade
      | none => false) = true ∧ (berthOf drawing 0).isSome = true ∧ drawing.integrity.armed = [] ∧
      (List.replicate 4 0).any (isNan fp32) = false ∧ (0x7FC0_0000 :: List.replicate 3 0).any (isNan fp32) = true := by
  decide +kernel

theorem test_logits_witness :
    readLogits drawing 0x1000 16 = (drawing, (List.replicate 4 0).flatMap (fun x => (leBytes 4 x).map (⟨·, false⟩))) ∧
      readLogits nanLogits 0x1000 16 =
        (nanLogits, (0x7FC0_0000 :: List.replicate 3 0).flatMap (fun x => (leBytes 4 x).map (⟨·, false⟩))) :=
  ⟨rfl, rfl⟩

theorem test_commit_witness :
    (match (inTurn (fun t => { t with drawn := [(0, 5)] })).turn with
      | some t => programsDone (inTurn (fun t => { t with drawn := [(0, 5)] })) t && allDrawn t && t.damaged.isEmpty
      | none => false) = true ∧
      (let s := inTurn (fun t => { t with failing := some .integrity });
        s.running = true ∧ s.turn.map (fun t => (t.busy, t.metNow, t.failing)) = some ([], [], some .integrity) ∧
          [entry0].any (fun e => !e.cancelled) = true ∧ 0 < s.val 0x2D01 3 ∧ workDecks s [] ≠ []) ∧
      (let s := inTurn (fun t => { t with failing := some (.busy 5) });
        bankRuns s 5 = false ∧ s.turn.map (fun t => t.failing) = some (some (.busy 5))) := by decide +kernel

/-- A slot that holds a partition; a model with a bias vector of two experts. -/
def memory2 : State := (withImage act).setTiers { act.tiers with fitted := 2 }
def biased : State := { act with experts := { act.experts with
  layers := [((0, 1), ⟨2, 1, 0, 0x3F80_0000, [0, 0], [0, 0], 0, []⟩)] } }

theorem test_settings_witness :
    (decide (imageState memory2 0 = .ready) && takes (.partitionSets .priv 0 (cmd 4)) memory2
      && partitionFits memory2 0 4 && !slotInUse memory2 0 && !partitionFits (withImage act) 0 0x20_0000
      && decide (((List.range 8).map (fun i => if i = 0 then 0 else memory2.val 0x2900 (i + 1))).sum + 4 ≤ 2097152)
      && takes (.partitionSets .priv 0 (cmd 4)) (withBerths [berth0] memory2) && slotInUse (withBerths [berth0] memory2) 0
      && takes (.partitionSets .priv 0 (cmd 0x20_0000)) (withImage act) && !slotInUse (withImage act) 0
      && decide (imageState act 0 ≠ .ready) && !slotInUse act 0 && takes (.partitionSets .priv 0 (cmd 4)) act
      && takes (.kvPageQuota .priv 3 (cmd 0)) act && decide (quotaPages (act.setVal 0x2903 4 0) ≤ allPages act)
      && decide (allPages act < quotaPages (act.setVal 0x2903 4 1))
      && takes (.ringSize .priv (cmd 0)) act && decide (tierCharge (act.setVal 0x2A01 1 0) 1 0xFF ≤ tierQuota act 1 0xFF)
      && (expertLayer biased (biased.sel .priv 0x2A00 1) 1).isSome) = true := by decide +kernel

/-! ## Images -/

/-- An image command for slot 0. -/
def imageBlock (op region bank addr : Nat) : Bytes :=
  fields [(1, op), (1, 0), (1, 0), (1, region), (4, bank), (8, addr), (1, 0)] ++ List.replicate 15 0

/-- Slot 0 with the small model in a state, on anti-rollback counter 0 at security version 2. -/
def slot0 (st : ImageState) (s : State) : State :=
  setImage s 0 (fun _ => { Image.reset with st := st, tier := 1, head := some { head0 with man := { man0 with security := 2 } } })

/-- A command of an op for slot 0 in progress. -/
def jobOp (op : Nat) (s : State) : State :=
  s.setImages { s.images with job := some { jobOf .priv (imageBlock op 0 0 0) with phase := .ended } }

theorem test_image_commands_witness :
    (∀ r ∈ [(1, imageBlock 1 3 2048 windowBase), (2, imageBlock 2 0 0 windowBase), (3, imageBlock 3 0 0 0), (4, imageBlock 4 0 0 0),
        (5, imageBlock 5 0 0 0)], imageCommand act .priv r.2 r.1 ∧ taken act .priv 0x2701 1 r.2.length = true) ∧
      hasSlot act 0 ∧ act.images.swap = none ∧ (imageOf act 0).st = .empty ∧ slotInUse act 0 = false ∧
      placeImage (vacate act 0) head0 ≠ none ∧ slotInUse ready0 0 = true ∧ imageCommand ready0 .priv (imageBlock 3 0 0 0) 3 ∧
      (∀ st ∈ [ImageState.ready, .suspect, .broken], (imageOf (slot0 st act) 0).st = st ∧
        imageCommand (slot0 st act) .priv (imageBlock 4 0 0 0) 4) ∧
      (imageOf (slot0 .ready act) 0).head.isSome = true ∧ man0.rollback ≠ 0xFF ∧
      belowCounter (slot0 .ready act) 0 2 = [] ∧ versioned .ready = true ∧ (imageOf (slot0 .broken act) 0).st = .broken ∧
      imageCommand (slot0 .broken act) .priv (imageBlock 5 0 0 0) 5 ∧ (jobOp 3 act).images.job ≠ none := by
  unfold imageCommand hasSlot; decide +kernel

theorem test_image_ends_witness :
    (∀ op ∈ [5, 3, 1, 4], (jobOp op (slot0 .installing act)).images.job =
        some { jobOf .priv (imageBlock op 0 0 0) with phase := .ended } ∧
      workDone (jobOp op (slot0 .installing act)) { jobOf .priv (imageBlock op 0 0 0) with phase := .ended } = true ∧
      (jobOf .priv (imageBlock op 0 0 0)).members = [] ∧ (jobOf .priv (imageBlock op 0 0 0)).op = op ∧
      (jobOf .priv (imageBlock op 0 0 0)).failure = 0) ∧
      (jobOp 1 (slot0 .installing act)).serves = true ∧ hasSlot (jobOp 1 (slot0 .installing act)) 0 ∧
      (imageOf (jobOp 1 (slot0 .installing act)) 0).st = .installing ∧
      (imageOf (jobOp 4 (slot0 .verifying act)) 0).head.isSome = true := by
  unfold hasSlot; decide +kernel

/-- A swap of slot 0 with two layers to replace. -/
def swapJob (ph : SwapPhase) (n : Nat) : SwapJob := ⟨0, 0, windowBase, 0, head0, [0, 1], n, ph, (0, 0), none, []⟩
def swapping (ph : SwapPhase) (n : Nat) : State :=
  let s := slot0 .swapping act
  s.setImages { s.images with swap := some (swapJob ph n), retry := some (0, windowBase) }
def swapBlock : Bytes := fields [(1, 0), (1, 0), (2, 0), (4, 0), (8, windowBase)] ++ List.replicate 16 0

theorem test_swaps_witness :
    (decide (swapBlock.length = 32) && act.images.ask.isNone && swapForm act swapBlock && swapRange swapBlock
      && taken act .priv 0x2710 1 32 && (swapping .staging 0).serves && layerArrived (swapping .staging 0) (swapJob .staging 0) 0
      && takes (.swapAbort .priv (cmd 0x5357_0050)) act && act.images.swap.isNone
      && [(SwapPhase.staging, 0), (.staging, 1), (.copying, 0), (.stalled, 1)].all (fun p =>
        decide ((swapping p.1 p.2).images.swap = some (swapJob p.1 p.2))
          && takes (.swapAbort .priv (cmd 0x5357_0050)) (swapping p.1 p.2)
          && takes (.swapResume .priv (cmd 0x5357_0051)) (swapping p.1 p.2)
          && decide ((swapping p.1 p.2).images.retry = some (0, windowBase) ∧ 0 < (swapping p.1 p.2).images.slots.length))) = true := by
  decide +kernel

theorem test_staging_witness :
    stageTensors (swapJob .staging 0) ((layerTensors head0 0).filter (fun p => holdsTensor (swapping .staging 0) 0 p.2)) 0
      (swapping .staging 0) = (swapping .staging 0, true) := rfl

/-! ## Rings -/

/-- Ring 0 of tenant 0 with 16 entries, its submission queue at 0x10000 and its completion queue at 0x20000. -/
def ring0 : Ring := { Ring.off with sqBase := 0x1_0000, cqBase := 0x2_0000, depthLog2 := 4, vector := 3, enabled := true, sqTail := 1 }

/-- A deployed device that owns a tenant, a ring and a model, with an entry in the ring. -/
def served (e : Bytes) (r : Ring) : State :=
  let s := ((((slot0 .ready (life 2 0 0 0)).setVal 0x2801 1 0).setVal 0x2800 1 1).setVal 0x2802 1 4).setVal 0x3000 3 64
  { setRing s 0 r with host := { s.host with cells := cellPuts (fun _ => 0) [] 0x1_0000 e } }

/-- An entry: opcode, image slot, tokens, tag, target, value, most new tokens and semaphore. -/
def entryBytes (op slot n tag target val maxNew sem : Nat) : Bytes :=
  fields [(1, op), (1, 0), (1, slot), (1, 0), (4, n), (8, tag), (8, target), (8, 0), (8, val), (4, maxNew), (4, 0), (8, 0),
    (2, 0), (2, 0), (2, sem), (2, 0)]

def genEntry : Bytes := entryBytes 1 0 2 9 0 0x3000 4 0
def contEntry : Bytes := entryBytes 3 0 2 9 7 0x3000 4 0
def cancelEntry : Bytes := entryBytes 2 0 0 9 7 0 0 0
def closeEntry : Bytes := entryBytes 4 0 0 9 7 0 0 0
def signalEntry : Bytes := entryBytes 5 0 0 9 0 3 0 6
def waitEntry : Bytes := entryBytes 6 0 0 9 0 3 0 6

/-- The ring's owner offers an entry (the conditions of `offers` as a test). -/
def offersB (s : State) (op : Nat) (e : Bytes) : Bool :=
  (ringOf s 0).held.isNone && mayFetch s 0 && decide (ringTenant s 0 = some 0) && decide (nextEntry s 0 = some e)
    && decide (eOp e = op) && (stepOne (fetched s 0) e).isNone && decide (eTag e ≠ 0)
    && (duplicateOf (fetched s 0) 0 (eTag e)).isNone

theorem test_doorbells_witness :
    quiet (served genEntry ring0) ∧ (served genEntry ring0).power.state ≠ .offReady ∧
      (ringOf (served genEntry ring0) 0).enabled = true ∧ (ringOf (served genEntry Ring.off) 0).enabled = false ∧
      ringTenant (served genEntry ring0) 0 = some 0 ∧ tenantOn (served genEntry ring0) 0 = true ∧
      (served genEntry ring0).val 0x1002 2 ≠ 0 ∧ planeRuns (served genEntry ring0) = true ∧
      ring0.depth < (17 + 2 ^ 32 - ring0.sqFetched) % 2 ^ 32 ∧ ring0.depth < (ring0.cqPosted + 2 ^ 32 - 1) % 2 ^ 32 ∧
      (16 + 2 ^ 32 - ring0.sqFetched) % 2 ^ 32 ≤ ring0.depth ∧ (ring0.cqPosted + 2 ^ 32 - 0) % 2 ^ 32 ≤ ring0.depth :=
  ⟨⟨by decide +kernel, rfl⟩, by decide +kernel⟩

/-- A ring record that turns a ring on, and one that changes its vector alone. -/
def recordBytes : Bytes := { ring0 with sqTail := 0 }.bytes
def offRing : State := served genEntry { ring0 with enabled := false }

theorem test_ring_records_witness :
    (decide (recordBytes.length = 64 ∧ fld recordBytes 24 1 < 2) && zeroAt recordBytes 25 7 && zeroAt recordBytes 40 24
      && ringRange .priv recordBytes && decide (ringTenant offRing (offRing.sel .priv (tenantObj 0 2) 1) = some 0)
      && takes (.ringRecord .priv 0 recordBytes) offRing && !ringLive offRing 0 && tenantOn offRing 0
      && bitOf (fld recordBytes 24 1) 0 && takes (.ringRecord .priv 0 recordBytes) (served genEntry ring0)
      && ring0.sameButSignals (ring0.with recordBytes)
      && (let s := withBerths [berth0] offRing;
        ringLive s 0 && !(ringOf s 0).sameButSignals ((ringOf s 0).with recordBytes) && takes (.ringRecord .priv 0 recordBytes) s)
      && decide (ringTenant offRing (offRing.sel .priv (tenantObj 1 2) 1) ≠ some 1)
      && takes (.ringRecord .priv 1 recordBytes) offRing) = true := by decide +kernel

theorem test_admission_witness :
    ([(1, genEntry), (2, cancelEntry), (3, contEntry), (4, closeEntry), (5, signalEntry), (6, waitEntry)].all (fun p =>
        offersB (served p.2 ring0) p.1 p.2)
      && (let e := overlay genEntry 3 [1]; mayFetch (served e ring0) 0 && decide (nextEntry (served e ring0) 0 = some e)
        && !entryForm e)
      && (let s := (served closeEntry ring0).setVal 0x1002 2 1;
        mayFetch s 0 && decide (s.val 0x1002 2 = 1) && entryForm closeEntry && needsLevel2 closeEntry)
      && (let s := withBerths [{ berth0 with tag := 9 }] (served genEntry ring0);
        mayFetch s 0 && (stepOne (fetched s 0) genEntry).isNone && (duplicateOf (fetched s 0) 0 9).isSome)) = true := by
  decide +kernel

/-- The tenant's berth 0, parked after its three tokens. -/
def parked0 : Berth := { berth0 with st := .parked, finished := true, position := 3 }
def parkedState (e : Bytes) : State := withBerths [parked0] (served e ring0)

/-- Steps 3 and 4 pass on slot 0 with a prompt of two tokens. -/
def passes34 (s : State) (e : Bytes) : Bool :=
  (match stepThree (fetched s 0) 0 0 e with | .ok l => decide (l.length = 2) | .error _ => false)
    && (match entrance (fetched s 0) 0 with | .admitted => true | _ => false)

theorem test_requests_witness :
    (let s := served genEntry ring0;
      decide (fld genEntry 2 1 ≤ 7) && passes34 s genEntry && (stepFive (fetched s 0) 0 0 genEntry).isNone
        && !noDecks (fetched s 0) && decide (placeNode (fetched s 0) = 0)
        && (let p := (s.setPort 0 { Port.reset with st := .full }).setFerry { s.ferry with role := .pilot, joined := 0b11, pilotNode := 1 };
          let q := withBerths [{ berth0 with tag := 1 }] p;
          offersB q 1 genEntry && decide (placeNode (fetched q 0) = 2) && (stepFive (fetched q 0) 0 0 genEntry).isNone && passes34 q genEntry)
        && (let d := { s with decks := Vector.replicate 16 { Deck.reset 0 with status := .retired } };
          offersB d 1 genEntry && noDecks (fetched d 0) && decide (placeNode (fetched d 0) = 0)
            && (stepFive (fetched d 0) 0 0 genEntry).isNone && passes34 d genEntry)
        && decide (stepFive (fetched (s.setVal 0x2802 1 0) 0) 0 0 genEntry = some (stQuota, 1))
        && passes34 (s.setVal 0x2802 1 0) genEntry && offersB (s.setVal 0x2802 1 0) 1 genEntry) = true ∧
      (let s := parkedState contEntry;
      offersB s 3 contEntry && decide (parkedBerth (fetched s 0) 0 (eTarget contEntry) = some parked0)
        && passes34 s contEntry && decide (3 + eCount contEntry < contextLimit (fetched s 0) parked0)
        && decide (parked0.node = 0) && !noDecks (fetched s 0)
        && decide (berthOf (fetched s 0) parked0.num = some parked0)) = true := by
  decide +kernel

/-- A window with an entry of tag 7 that ended with a status. -/
def ended7 (st : Nat) (e : Bytes) : State :=
  let s := served e ring0
  s.setServing { s.serving with recent := [(0, [⟨7, st, 2, 5, false⟩])] }

theorem test_cancels_witness :
    ([(2, cancelEntry), (4, closeEntry)].all (fun p =>
        offersB (withBerths [berth0] (served p.2 ring0)) p.1 p.2
          && decide (liveBerth (fetched (withBerths [berth0] (served p.2 ring0)) 0) 0 7 = some berth0))
      && (liveBerth (fetched (served cancelEntry ring0) 0) 0 7).isNone && (findDone (fetched (served cancelEntry ring0) 0) 0 7).isNone
      && [stCancelled, stStop].all (fun st => offersB (ended7 st cancelEntry) 2 cancelEntry
        && (liveBerth (fetched (ended7 st cancelEntry) 0) 0 7).isNone
        && decide (findDone (fetched (ended7 st cancelEntry) 0) 0 7 = some ⟨7, st, 2, 5, false⟩))
      && offersB (parkedState closeEntry) 4 closeEntry && (liveBerth (fetched (parkedState closeEntry) 0) 0 7).isNone
      && decide (parkedBerth (fetched (parkedState closeEntry) 0) 0 7 = some parked0)) = true := by decide +kernel

/-- Semaphore 6 is the tenant's and stands at a value. -/
def semState (e : Bytes) (v : Nat) : State := setSem ((served e ring0).setVal 0x1_0006 2 0) 6 v
def waitingRing : State := setRing (semState waitEntry 2) 0 { ring0 with wait := some ⟨6, 3, 9⟩ }

theorem test_ring_semaphores_witness :
    (offersB (semState signalEntry 2) 5 signalEntry && ownsSem (fetched (semState signalEntry 2) 0) 0 (eSem signalEntry)
      && (List.finRange 16).all (fun k => !((semState signalEntry 2).decks.get k).stalled)
      && offersB (served signalEntry ring0) 5 signalEntry && !ownsSem (fetched (served signalEntry ring0) 0) 0 (eSem signalEntry)
      && offersB (semState waitEntry 3) 6 waitEntry && ownsSem (fetched (semState waitEntry 3) 0) 0 (eSem waitEntry)
      && decide (fld waitEntry 32 8 ≤ semValue (semState waitEntry 3) (eSem waitEntry))
      && decide (semValue (semState waitEntry 2) (eSem waitEntry) < fld waitEntry 32 8)
      && (ringOf waitingRing 0).wait.isSome && waitingRing.running && decide (semValue waitingRing 6 < 3)
      && decide (3 ≤ semValue (setSem waitingRing 6 3) 6)) = true := by decide +kernel

/-- A completion of ring 0. -/
def doneC : Completion := ⟨0, 7, stStop, true, false, 0, 4, 6, 0, 1⟩
def asleepHost : State := let s := served genEntry ring0; s.setPower { s.power with link := .l12 }

theorem test_completions_posted_witness :
    (let s := served genEntry ring0;
      (ringOf s 0).enabled && s.host.writable (ring0.cqBase + 32 * (ring0.cqPosted % ring0.depth)) 32
        && cellsWf (fun _ => 0) s.host.cells && holding asleepHost && hostUp s && s.running
        && s.serving.berths.all (fun b => b.staging.isEmpty) && decide (asleepHost.serving.hold.length < 1536)
        && (let h := asleepHost.setServing { asleepHost.serving with hold := List.replicate 1536 doneC };
          holding h && decide (1536 ≤ h.serving.hold.length))
        && (let r := { ring0 with unsignalled := 2, coalesceTime := 5 };
          decide (ringOf (setRing s 0 r) 0 = r) && decide (0 < r.unsignalled ∧ 0 < r.coalesceTime ∧ r.vector ≠ 0xFFFF))) = true := by
  decide +kernel

theorem test_park_limit_witness :
    (let s := parkedState genEntry;
      decide (berthOf s 0 = some parked0) && decide (parked0.st = .parked)
        && (let far := { parked0 with node := 2, staging := [(5, 1, false, false)] };
          decide (berthOf (withBerths [far] s) 0 = some far) && decide (far.node ≠ 0) && !far.staging.isEmpty) && s.running && parked0.staging.isEmpty
        && decide ((s.setVal 0x3000 2 5).val (tenantObj 0 0) 2 ≠ 0) && decide (s.val (tenantObj 0 0) 2 = 0)) = true := by
  decide +kernel

/-! ## The ferry -/

/-- An active device with port 0 in a state, in a role. -/
def moored (st : PortState) (role : Role) : State :=
  (act.setPort 0 { Port.reset with st := st, lanes := 4 }).setFerry { (act.setPort 0 { Port.reset with st := st, lanes := 4 }).ferry with
    role := role, joined := if role = .unmoored then 0 else 0b11, pilotNode := 2, routes := [(2, 0)] }

/-- A sealed packet of node 2 for the neighbour. -/
def pkt (kind cls context : Nat) (payload : Bytes) (dst : Nat := 0) (flags : Nat := 1) : Packet :=
  (mkPacket kind cls 2 dst flags 0 context payload).seal 0 255 [0, 0, 0, 0]

/-- What is left when it has come to port 0. -/
def after (s : State) (p : Packet) : State := (arrive s 0 p).1

theorem delivered_of (s : State) (p : Packet) (k : Nat) (h : p.kind = k) (ha : (arrive s 0 p).2 = true) :
    delivered s 0 p k (after s p) := ⟨h, Prod.ext rfl ha⟩

theorem crossed_of (s : State) (f : Bytes) (k : Nat) (h : fld f 1 1 = k) (ha : (slowArrive s 0 f).2 = true) :
    crossed s 0 f k (slowArrive s 0 f).1 := ⟨h, Prod.ext rfl ha⟩

/-- A packet of a kind is delivered on a full-rate port. -/
def lands (s : State) (p : Packet) (k : Nat) : Bool := decide (p.kind = k) && (arrive s 0 p).2

def idleP : Packet := pkt 0 0 0 []
def semP : Packet := pkt 7 0 0 (leBytes 2 6 ++ leBytes 8 3)
def helloBytes (uid node flags life : Nat) : Bytes :=
  fields [(8, uid), (1, node), (1, flags), (1, 0xB1), (1, life), (2, 1), (2, 1), (2, 0)] ++ List.replicate 46 0
def helloP : Packet := pkt 2 0 0 (helloBytes 77 2 0 2)

theorem test_packets_witness :
    ((moored .slow .unmoored).port 0).st ≠ .full ∧ ((moored .full .unmoored).port 0).st = .full ∧
      ({ semP with crc := 0 } : Packet).wellFormed = false ∧ semP.wellFormed = true ∧ 2 ≤ semP.kind ∧
      semP.linkSeq = ((moored .full .unmoored).port 0).rxSeq ∧ semP.dst = 0 ∧
      (pkt 6 0 0 [] 1).wellFormed = true ∧ (pkt 6 0 0 [] 1).dst = ownNode (moored .full .member) ∧
      (let s := (moored .full .member).setPort 0 { (moored .full .member).port 0 with rxSeq := 1 };
        semP.linkSeq ≠ (s.port 0).rxSeq ∧ ((s.port 0).rxSeq + 256 - semP.linkSeq) % 256 ≤ 64 ∧
        (arrive s 0 semP).2 = false) ∧
      (pkt 12 0 0 [2, 1] 1).wellFormed = true ∧ (pkt 12 0 0 [2, 1] 1).flowless = true ∧ (pkt 6 0 0 [] 1).flowless = false ∧
      (pkt 12 0 0 [2, 1] 1).dst = ownNode (moored .full .member) ∧
      ((moored .full .pilot).ferry.gaps = [] ∧ (moored .full .member).ferry.role ≠ .pilot) ∧
      lands (moored .full .unmoored) idleP 0 = true := by decide +kernel

/-- A packet of a flow with a sequence. -/
def flowP (seq : Nat) : Packet := mkPacket 6 0 2 1 1 seq 0 []

theorem test_flows_witness :
    (let s := moored .full .member;
      !s.ferry.gaps.contains (flowKey (flowP 0)) && decide (aget s.ferry.routes 2 = some 0)
        && decide ((flowP 0).flowSeq = agetD s.ferry.flowRx (flowKey (flowP 0)) 0)
        && [1, 0xFFFF].all (fun q => decide ((flowP q).flowSeq ≠ agetD s.ferry.flowRx (flowKey (flowP q)) 0))
        && decide ((0 + 2 ^ 16 - (flowP 0xFFFF).flowSeq) % 2 ^ 16 < 2 ^ 15 ∧ 2 ^ 15 ≤ (0 + 2 ^ 16 - (flowP 1).flowSeq) % 2 ^ 16)
        && lands s idleP 0 && lands s (pkt 0 0 0 [] 1) 0 && decide (idleP.dst = 0 ∧ (pkt 0 0 0 [] 1).dst ≠ 0)
        && (dropSent (sendTo s 2 7 0 0 0 [1]) 2 0xFFFF).ferry.sent.any (fun x => decide (x.1 = 2))) = true := by decide +kernel

/-- Port 0 with an unacknowledged packet and resends behind it, or silent periods. -/
def resending (n : Nat) : State := (moored .full .unmoored).setPort 0 { (moored .full .unmoored).port 0 with unacked := [semP], resends := n }
def silent (n : Nat) : State := (moored .slow .unmoored).setPort 0 { (moored .slow .unmoored).port 0 with silence := n }
def keep : Bytes := slowFrameOf 1 2 []
def trainable (st : PortState) : State := (moored st .unmoored).setVal 0x2B30 1 7

theorem test_links_witness :
    (lands (resending 0) idleP 0 && (((resending 0).port 0).outbox.isEmpty) && idleP.wellFormed && decide (idleP.dst = 0)
      && lands (resending 0) (pkt 1 0 0 []) 1 && decide (((after (resending 0) (pkt 1 0 0 [])).port 0).resends < 8)
      && lands (resending 8) (pkt 1 0 0 []) 1 && decide (8 ≤ ((after (resending 8) (pkt 1 0 0 [])).port 0).resends)
      && decide (((resending 7).port 0).st = .full ∧ ((resending 7).port 0).resends < 8 ∧ 8 ≤ ((resending 8).port 0).resends)
      && !((resending 7).port 0).unacked.isEmpty && decide ((resending 0).ferry.role = .unmoored)
      && [PortState.down, .slow].all (fun st => ferryAwake (trainable st) && bitOf ((trainable st).val 0x2B30 1) 0
        && decide ((trainable st).ferry.ports.length = 3 ∧ ((trainable st).port 0).st ≠ .full))
      && decide (lanesLeft [1] = some 1 ∧ lanesLeft [0] = none ∧ lanesLeft [2] = some 2)
      && lands (moored .full .unmoored) (pkt 11 0 0 []) 11
      && decide ((after (moored .full .unmoored) (pkt 11 0 0 [])).ferry.ports.length = 3)
      && lands (resending 0) (pkt 11 0 0 []) 11 && !((after (resending 0) (pkt 11 0 0 [])).port 0).unacked.isEmpty
      && decide (((moored .down .unmoored).port 0).st = .down) && !slowValid (keep.take 3)
      && decide (((silent 0).port 0).st = .slow) && slowValid keep && decide (fld keep 1 1 = 1 ∧ fld keep 2 1 / 16 = 0)
      && decide (10 ≤ ((silent 10).port 0).silence ∧ ((silent 9).port 0).silence < 10)) = true := by decide +kernel

/-- The HELLOs heard, and the straps. -/
def heard (l : List Hello) (straps : Nat) (s : State) : State :=
  (s.setFerry { s.ferry with hellos := l }).setCustody { s.custody with straps := straps }
def hello (pilot : Bool) : Hello :=
  { uniqueId := 77, node := 2, pilot := pilot, harbour := false, joined := false, stepping := 0xB1, lifecycle := 2
    protoMin := 1, protoMax := 1, feature := 0, port := 0, hops := 0 }
def apart : State := (moored .full .unmoored).setCustody (life 1 1 0 0).custody

/-- What is left when a packet for the neighbour has been taken by port 0. -/
def landed (s : State) (p : Packet) : State :=
  let s1 := takeAck s 0 p
  returnAck (passOn (s1.setPort 0 { s1.port 0 with rxSeq := ((s1.port 0).rxSeq + 1) % 256, nakked := false, ackOwed := true }) 0 p) 0

theorem arrive_landed (s : State) (p : Packet) (hs : (s.port 0).st = .full) (hw : p.wellFormed = true) (hb : p.bare = false)
    (hd : p.dst = 0) (hq : p.linkSeq = ((takeAck s 0 p).port 0).rxSeq) : arrive s 0 p = (landed s p, true) := by
  simp [arrive, receive, landed, forHere, hs, hw, hb, hd, hq]

/-- Its own HELLO, come back. -/
def echoP : Packet := pkt 2 0 0 (helloBytes act.part.uniqueId 2 0 2)

theorem hello_wellFormed : helloP.wellFormed = true ∧ echoP.wellFormed = true := by
  have a : helloP.crc = crc32 (helloP.header ++ helloP.payload) := rfl
  have b : helloP.payloadReserved = true := by decide +kernel
  have c : echoP.crc = crc32 (echoP.header ++ echoP.payload) := rfl
  have d : echoP.payloadReserved = true := by decide +kernel
  simp only [Packet.wellFormed, a, b, c, d, decide_true, Bool.and_true]; decide +kernel

theorem test_hello_witness :
    delivered (moored .full .unmoored) 0 helloP 2 (landed (moored .full .unmoored) helloP) ∧
      delivered (moored .full .unmoored) 0 echoP 2 (landed (moored .full .unmoored) echoP) :=
  ⟨⟨by decide +kernel, arrive_landed _ _ (by decide) hello_wellFormed.1 (by decide +kernel) (by decide +kernel) (by decide +kernel)⟩,
    ⟨by decide +kernel, arrive_landed _ _ (by decide) hello_wellFormed.2 (by decide +kernel) (by decide +kernel) (by decide +kernel)⟩⟩

theorem test_hello_fields_witness :
    (match helloOf helloP 0, helloOf echoP 0 with
      | some h, some e => decide (h.uniqueId ≠ (landed (moored .full .unmoored) helloP).part.uniqueId ∧ h.hops = 0
          ∧ e.uniqueId = (landed (moored .full .unmoored) echoP).part.uniqueId)
      | _, _ => false) = true ∧ (landed (moored .full .unmoored) helloP).ferry.ports.length = 3 := by decide +kernel

theorem test_joining_witness :
    (let a := heard [hello false] 0 apart;
      !a.ferry.hellos.isEmpty && a.serves && (othersHeard a).all (fun h => !h.pilot) && !pilotStrap a) = true ∧
      (let b := heard [hello true] 1 apart;
      pilotStrap b && (othersHeard b).any (·.pilot)) = true ∧
      (let c := heard [hello false] 1 apart;
      pilotStrap c && !(othersHeard c).any (·.pilot) && !c.inHarbour && decide (c.ferry.role = .unmoored ∧ c.ferry.joined = 0)
        && !(othersHeard c).isEmpty && (othersHeard c).all (fun h => decide (memberReason c (othersHeard c) h = 0))
        && (let d := c.setCustody { c.custody with harbour := 1 }; d.inHarbour && d.serves && pilotStrap d)) = true := by
  decide +kernel

/-- The same devices with the strap, and in harbour mode. -/
def strapped : State := heard [] 1 (moored .full .unmoored)
def harboured : State := (moored .full .unmoored).setCustody { (moored .full .unmoored).custody with harbour := 1 }

def joinP (ok : Nat) : Packet := pkt 3 0 0 (fields [(1, ok), (1, 6), (1, 3), (1, 2), (2, 1), (2, 0), (8, 0xFFFF_FFFF_FFFF_00FF), (1, 0)])
def lossP : Packet := pkt 12 0 0 [2, 1] 1

theorem test_join_packets_witness :
    ([0, 1].all (fun ok => decide ((joinP ok).kind = 3 ∧ (joinP ok).dst = 0 ∧ fld (joinP ok).payload 0 1 = ok)
        && lands (moored .full .unmoored) (joinP ok) 3) && !pilotStrap (after (moored .full .unmoored) (joinP 1))
      && !(after (moored .full .unmoored) (joinP 1)).inHarbour
      && decide ((after (moored .full .unmoored) (joinP 1)).ferry.role = .unmoored)
      && lands strapped (joinP 1) 3 && pilotStrap (after strapped (joinP 1))
      && lands harboured (joinP 1) 3 && (after harboured (joinP 1)).inHarbour
      && decide (fld (joinP 1).payload (8 + 1) 1 < 3)
      && lands (moored .full .member) lossP 12 && decide (lossP.src = (after (moored .full .member) lossP).ferry.pilotNode)
      && decide (1 ≤ fld lossP.payload 0 1 ∧ fld lossP.payload 0 1 ≤ 8) && decide (lossP.dst ≠ 0 ∧ fld lossP.payload 1 1 < 0x80)
      && (let s := moored .full .member; s.turn.isNone && s.images.job.isNone && s.images.ask.isNone && s.images.swap.isNone)) = true := by
  decide +kernel

/-- A member with the pilot's frames, and a pilot that awaits an answer of node 2. -/
def member : State := withBerths [berth0] ((slot0 .ready (moored .full .member)))
def pilot : State := (moored .full .pilot).setFerry { (moored .full .pilot).ferry with forwards := [⟨.priv, 2, readFrame⟩] }
def respFrame : Bytes := overlay readFrame 0 [0x81]
def placeBytes : Bytes := [1] ++ leBytes 1 0 ++ leBytes 1 0 ++ [0] ++ genEntry ++ leBytes 4 5
def tableBytes0 : Bytes := leBytes 4 9 ++ leBytes 4 0
def reportBytes : Bytes := leBytes 4 9 ++ leBytes 2 0 ++ leBytes 2 0
def commitBytes : Bytes := leBytes 4 9 ++ leBytes 32 0

theorem test_dict_witness :
    (lands member (pkt 4 0 0 [1]) 4
      && (let s := moored .slow .member;
        [3, 4].all (fun k => decide (fld (slowFrameOf k 2 [1]) 1 1 = k) && (slowArrive s 0 (slowFrameOf k 2 [1])).2))
      && decide (readFrame.length = 64 ∧ frOp readFrame < 128 ∧ member.ferry.role = .member ∧ 2 = member.ferry.pilotNode)
      && decide (pilot.ferry.role ≠ .member ∧ respFrame.length = 64 ∧ 128 ≤ frOp respFrame)
      && decide (pilot.ferry.forwards.find? (fun x => x.answeredBy 2 respFrame) = some ⟨.priv, 2, readFrame⟩)
      && pilot.ferry.forwards.all (fun x => !x.answeredBy 3 respFrame)) = true := by decide +kernel

theorem test_berth_messages_witness :
    (let p := pkt 5 0 0 [4];
      lands member p 5 && fromPilot (after member p) p && endsMessage p
        && decide (aget (after member p).ferry.messages (p.src, p.kind) = none)
        && lands pilot p 5 && !fromPilot (after pilot p) p) = true ∧ berthOf member 0 = some berth0 ∧
      (inPipeline member = false ∧ ({ member with turn := some (newTurn 0 1 [entry0] 3 false true) } : State).turn.isSome = true) ∧
      [1, 2, 4, 5].all (fun op => decide (fld (overlay placeBytes 0 [BitVec.ofNat 8 op]) 0 1 = op)) = true ∧
      berthOf member 3 = none ∧
      (match entrance member (fld (slice placeBytes 4 64) 2 1) with | .admitted => true | _ => false) = true := by
  decide +kernel

theorem test_turn_messages_witness :
    ([(0, tableBytes0), (2, commitBytes)].all (fun q => let p := pkt 6 0 q.1 q.2;
        lands member p 6 && decide (p.context % 4 = q.1) && fromPilot (after member p) p && (after member p).running
          && endsMessage p && decide (aget (after member p).ferry.messages (p.src, p.kind) = none))
      && (match entrance member (fld tableBytes0 4 1) with | .admitted => true | _ => false) && member.turn.isNone
      && member.custody.transition.isNone && atBarrier member
      && !atBarrier (member.setPower { member.power with entering := some .doze })
      && (let p := pkt 6 0 1 reportBytes;
        lands pilot p 6 && decide (p.context % 4 = 1) && fromMember (after pilot p) p && endsMessage p
          && decide (aget (after pilot p).ferry.messages (p.src, p.kind) = none)
          && lands member p 6 && !fromMember (after member p) p)) = true := by decide +kernel

def allowed : State := member.setVal 0x1_0006 0x20 2

theorem test_semsig_witness :
    (lands allowed semP 7 && decide (fld semP.payload 0 2 < 1024 ∧ 1 ≤ semP.src)
      && bitOf (nodesAllowed (after allowed semP) 6) (semP.src - 1)
      && lands member semP 7 && !bitOf (nodesAllowed (after member semP) 6) (semP.src - 1)
      && (joinedNodes allowed).contains semP.src && (joinedNodes member).contains semP.src
      && !(joinedNodes (moored .full .unmoored)).contains semP.src && !asleep member && member.inbox.isEmpty
      && (List.finRange 16).all (fun k => !(member.decks.get k).stalled)) = true := by decide +kernel

/-- A read of 16 bytes of node 2 that awaits its data. -/
def readWaits : State := member.setFerry { member.ferry with reads := [⟨2, 0x1000, 16, [], false⟩] }
def activations : Packet := pkt 8 2 0 (leBytes 8 0x1000 ++ List.replicate 8 7) 0 0
def weights : Packet := pkt 8 1 0 (leBytes 8 0 ++ List.replicate 8 7)
def readP : Packet := pkt 9 2 0 (leBytes 8 0x1000 ++ leBytes 4 16)
def dataP (c : Nat) : Packet := pkt 10 c 0 (List.replicate 16 7)

theorem test_remote_witness :
    (lands member activations 8 && decide (activations.cls ≠ 1) && !endsMessage activations
      && (after member activations).turn.isNone
      && lands member weights 8 && decide (weights.cls = 1 ∧ weights.dst ≠ 15)
      && lands member readP 9 && decide (1 ≤ fld readP.payload 8 4 ∧ fld readP.payload 8 4 ≤ 512 ∧ 1 ≤ readP.src)
      && (let b := pkt 8 1 0x200 (leBytes 8 0 ++ List.replicate 8 7) 15; let o := pkt 8 1 0x100 (leBytes 8 0 ++ List.replicate 8 7) 15;
        lands member b 8 && decide (b.dst = 15) && !bitOf (b.context / 256) ((after member b).nodeId - 1)
          && lands member o 8 && bitOf (o.context / 256) ((after member o).nodeId - 1))) = true := by decide +kernel

theorem test_read_data_witness : ∃ c, readClass ⟨2, 0x1000, 16, [], false⟩ = c ∧ lands readWaits (dataP c) 10 = true ∧
    (dataP c).cls = c ∧ (dataP c).src = 2 ∧ (after readWaits (dataP c)).ferry.reads = ⟨2, 0x1000, 16, [], false⟩ :: [] := by
  cases h : Config.farPartition 2 0x1000
  · exact ⟨2, by simp [readClass, farClass, h], by decide +kernel⟩
  · exact ⟨3, by simp [readClass, farClass, h], by decide +kernel⟩

/-- A stage map with both layers on node 1, and one that names a node not joined. -/
def mapBlock (n : Nat) : Bytes := [1, BitVec.ofNat 8 n] ++ List.replicate 254 0

theorem test_layout_witness :
    (let s := moored .full .member;
      cascadeIdle s && s.turn.isNone && takes (.layoutWrite .priv [1]) s
        && cascadeIdle { s with turn := some (newTurn 0 1 [] 3 false true) }
        && !cascadeIdle member && takes (.layoutWrite .priv [1]) member
        && decide ((mapBlock 1).length = 256) && mapFits s (mappedLayers s 0 (mapBlock 1)) && takes (.stageMap .priv 0 (mapBlock 1)) s
        && !mapFits s (mappedLayers s 0 (mapBlock 7)) && takes (.stageMap .priv 0 (mapBlock 7)) s) = true := by decide +kernel

/-- The last frame of a segmented write of that stage map, and the transfer it belongs to. -/
def mapLast : Bytes := frame 4 0x2B02 1 0 256 240 ((mapBlock 1).drop 240)
def mapping : State := (moored .full .member).setChan .priv { Chan.reset with
  xfer := some ⟨1, true, 0x2B02, 1, 256, 240, (mapBlock 1).take 240, false, 0⟩ }

theorem test_last_segment_witness :
    passes mapping .priv mapLast ∧
      (match (mapping.chan .priv).xfer, objectAt 0x2B02 1 with
        | some x, some d => x.write && belongs x mapLast && decide (frOff mapLast = x.next) && !harbourRefuses mapping x.idx
            && decide (x.total ≤ x.next + min 48 (x.total - x.next))
            && accepts (applyFor .priv d x.idx x.sub (x.data ++ (frPayload mapLast).take (min 48 (x.total - x.next)))
              (setTransfer .priv none (arrived .priv mapLast .usual mapping)))
        | _, _ => false) = true :=
  ⟨⟨comes_of _ _ (.inr ⟨_, rfl⟩) (by decide +kernel) rfl (by decide +kernel), by decide +kernel, by decide +kernel,
    by decide +kernel, by decide +kernel⟩, by decide +kernel⟩

/-! ## Video and camera -/

/-- A decode record of 64 by 64 LIVE at 30 frames, and an encode record. -/
def decodeRec : Bytes := fields [(1, 1), (1, 1), (1, 1), (1, 0), (2, 64), (2, 64), (2, 30)] ++ List.replicate 22 0
def encodeRec : Bytes := fields [(1, 2), (1, 1), (1, 1), (1, 0), (2, 64), (2, 64), (2, 30)] ++ List.replicate 22 0

/-- Context 0 with a record, in a state, with changes. -/
def withCtx (r : Bytes) (st : CtxState) (f : Context → Context) : State :=
  act.setCtx 0 (f { Context.blank with record := r, st := st })

def chunk : Job := ⟨0, 5, 0, 0x1000, 100⟩
def withJob (x : Context) : Context := { x with jobs := [chunk] }

theorem test_contexts_witness :
    (decide (selCtx .priv act = some 0)
      && (let s := withCtx decodeRec .closed id;
        recFormed (s.ctx 0).record && recRanges (s.ctx 0).record && recFits s 0 (s.ctx 0).record
          && takes (.contextOpen .priv (cmd 0x53570060)) s && takes (.contextRecord .priv encodeRec) s
          && decide (selCtx .priv s = some 0))
      && (let s := withCtx decodeRec .opened withJob;
        decide ((s.ctx 0).st = .opened) && takes (.contextOpen .priv (cmd 0x53570060)) s
          && takes (.contextPause .priv (cmd 0x53570061)) s && takes (.contextClose .priv (cmd 0x53570063)) s
          && taken s .priv 0x2C10 3 4 && !(s.ctx 0).running && takes (.contextFlush .priv (cmd 0x53570064)) s
          && !sameFixed encodeRec (s.ctx 0).record && takes (.contextRecord .priv encodeRec) s)
      && takes (.contextResume .priv (cmd 0x53570062)) (withCtx decodeRec .paused id)
      && (let s := withCtx decodeRec .opened (fun x => { x with running := true });
        (s.ctx 0).running && takes (.contextClose .priv (cmd 0x53570063)) s && sameFixed decodeRec (s.ctx 0).record
          && recFormed decodeRec && recRanges decodeRec && recFits s 0 decodeRec && takes (.contextRecord .priv decodeRec) s)) = true := by
  decide +kernel

/-- A job for context 0, and a descriptor of buffer 3 for it in the working area. -/
def jobBlock : Bytes := fields [(1, 0), (1, 0), (2, 5), (1, 0), (3, 0), (8, 0x1000), (4, 100), (4, 0), (8, 0)]
def bufBlock (format : Nat) : Bytes := fields [(1, 3), (1, format), (1, 0), (1, 0), (2, 64), (2, 64), (8, 0x1000), (8, 0x9000), (4, 256), (4, 0)]
def withBuf (s : State) : State := s.setMedia { s.media with buffers := [(3, bufferOf (bufBlock 1))] }

/-- A picture that the decoder cannot decode, and one it can. -/
def facts0 (ok : Bool) : PictureFacts :=
  ⟨if ok then 1 else 4, 41, false, false, 16, 16, false, [], [], [], false, false, false, false, [], [], false, 0, 1⟩

theorem test_jobs_witness :
    (let s := withCtx decodeRec .opened withJob;
      decide (jobBlock.length = 32 ∧ fld jobBlock 0 1 < 32) && jobFormed (s.ctx 0).decodes jobBlock
        && decide ((s.ctx 0).jobs.length < 64) && (s.ctx 0).decodes && decide (1 ≤ fld jobBlock 16 4 ∧ fld jobBlock 16 4 ≤ 16777216)
        && takes (.mediaJob .priv jobBlock) s && s.running && decide ((s.ctx 0).completions.length < 64)
        && decide ((s.ctx 0).jobs = chunk :: []) && !bitOf chunk.flags 0
        && takes (.mediaJob .priv jobBlock) (withCtx decodeRec .closed id)
        && jobFormed ((withCtx decodeRec .closed id).ctx 0).decodes jobBlock) = true := by decide +kernel

theorem test_buffers_witness :
    ([0, 1].all (fun f => decide ((bufBlock f).length = 32 ∧ fld (bufBlock f) 0 1 < 128) && zeroAt (bufBlock f) 3 1
        && zeroAt (bufBlock f) 28 4 && takes (.registerBuffer .priv (bufBlock f)) act)
      && (aget act.media.buffers 3).isNone && bufferRanges (bufferOf (bufBlock 1))
      && (bufferOf (bufBlock 1)).planes.all (fun p => planePlaced act p.1 p.2) && planesApart act 3 (bufferOf (bufBlock 1))
      && ownerSuits act (bufferOf (bufBlock 1)) && takes (.releaseBuffer .priv [3]) act && takes (.releaseBuffer .priv [128]) act) = true := by
  decide +kernel

theorem test_video_frames_witness :
    (let s := withBuf (withCtx decodeRec .opened withJob);
      !s.media.contexts.any (fun p => p.2.running && decide (fld p.2.record 0 1 = pipeKind .decode))
        && decide (nextCtx s (pipeKind .decode) = some 0) && decide (nextCtx s (pipeKind .encode) = none)) = true ∧
      (let s := withBuf (withCtx decodeRec .opened (fun x => { x with running := true, current := some 3 }));
      (s.ctx 0).running && (s.ctx 0).decodes && decide ((s.ctx 0).current = some 3) && !streamSupported decodeRec (facts0 false) && streamSupported decodeRec (facts0 true)) = true ∧
      (let x := withCtx decodeRec .opened (fun x => { x with skipping := true });
        (x.ctx 0).skipping && !(facts0 true).randomAccess && (x.ctx 0).awaiting.isEmpty && decide ((facts0 true).outputs = 1)
          && !((withCtx decodeRec .opened id).ctx 0).skipping && !tooLarge decodeRec (facts0 true)) = true ∧
      atRest ((withCtx decodeRec .opened id).ctx 0) ∧ tooLarge decodeRec { facts0 true with width := 128 } = true ∧
      (let s := withCtx encodeRec .opened (fun x => { x with running := true, encoding := some chunk });
      (s.ctx 0).running && !(s.ctx 0).decodes && decide ((s.ctx 0).encoding = some chunk)) = true := by
  unfold atRest; decide +kernel

/-- A camera record of 16 by 16 RAW8 on virtual channel 1, and a device whose channel 0 has it. -/
def camRec : Bytes := fields [(1, 1), (1, 0x2A), (1, 0), (1, 1), (2, 16), (2, 16), (2, 16), (2, 16)] ++ List.replicate 20 0
def withCam (inFrame : Bool) : State := act.setCam 0 { act.cam 0 with record := camRec, inFrame := inFrame }
def short (ecc : HeaderEcc) : ShortPacket := ⟨1, ecc, 0, false⟩
def long (ty : Nat) (ecc : HeaderEcc) : LongPacket := ⟨1, ty, ecc, List.replicate 16 9, true⟩

theorem test_camera_witness :
    (takes (.receiverSetting .priv 0x2C32 1 (cmd 2500)) act && takes (.receiverSetting .priv 0x2C30 1 camRec) act
      && takes (.receiverSetting .priv 0x2C30 1 camRec) (withCam false)
      && takes (.receiverSetting .priv 0x2C32 1 (cmd (2500 + 3 * 2 ^ 16))) act && takes (.receiverSetting .priv 0x2C32 1 (cmd 79)) act
      && (let w := overlay camRec 4 [0, 0]; takes (.receiverSetting .priv 0x2C30 1 w) act && decide (w.length = 32 ∧ fld w 3 1 < 8)
        && zeroAt w 30 2 && !camRanges w)
      && decide (camRec.length = 32 ∧ fld camRec 3 1 < 8) && zeroAt camRec 30 2 && camRanges camRec && camEnabled camRec) = true ∧
      (∀ b : Bool, hears (withCam b) 1 0 ∧ ((withCam b).cam 0).inFrame = b) ∧
      (short .good).ecc ≠ .bad ∧ (short .bad).ecc = .bad ∧ (long 0x2A .good).ecc ≠ .bad ∧ (long 0x2A .bad).ecc = .bad ∧
      (long 0x2A .good).dataType = fld ((withCam true).cam 0).record 1 1 ∧
      (long 0x2B .good).dataType ≠ fld ((withCam true).cam 0).record 1 1 ∧ ((withCam false).cam 0).staged = none ∧
      (withCam false).media.staged = none ∧ ((withCam false).cam 0).completions.length < 64 ∧
      0 < (withCam true).media.cameras.length ∧ ((withCam true).cam 0).buffer = none := by
  unfold hears; decide +kernel

/-! ## Integrity and the journal -/

/-- An event at the front of the journal's queue. -/
def journalled : State := act.setJournal { act.custody.journal with queue := [⟨1, 0, 2, 3, [], false⟩] }

theorem test_margins_witness :
    (decide (act.sel .priv 0x2D11 1 < 16 ∧ act.lifecycle ≠ .final ∧ (life 0 0 0 0).lifecycle = .blank)
      && takes (.clearSteps .priv (cmd 0x53570070)) act && takes (.retireDeck .priv (cmd 0x53570071)) act
      && takes (.restoreDeck .priv (cmd 0x53570072)) (life 0 0 0 0) && decide (act.lifecycle = .deployed ∧ (life 0 0 0 0).sel .priv 0x2D11 1 < 16)
      && takes (.restoreDeck .priv (cmd 0x53570072)) act
      && takes (.injectFault .priv (cmd 0x1)) (life 0 0 0 0) && takes (.injectFault .priv (cmd 0xF04)) (life 0 0 0 0)
      && decide (bitsOf 0xF04 7 0 = 4 ∧ bitsOf 0xF04 11 8 = 15) && takes (.injectFault .priv (cmd 0x1)) act
      && (act.setIntegrity { act.integrity with window := true }).integrity.window && !act.integrity.window
      && decide (act.power.state = .active)
      && !isDown journalled && !journalled.custody.journal.erasing && journalled.systemFree
      && !isDown (bankZero journalled) && !(bankZero journalled).systemFree
      && [PowerState.ready, .offReady].all (fun st => decide ((on st).power.state = st))
      && journalled.custody.journal.slotFree journalled.custody.journal.slot && !journalled.custody.journal.queue.isEmpty
      && isDown (on .off)) = true := by decide +kernel

/-! ## Sleep policy, counters and the invariant -/

theorem test_sleep_policy_witness :
    (takes (.registerWrite (.object .priv 0x2000 1 [1])) act && takes (.registerWrite (.object .priv 0x2000 1 [2])) act
      && decide ((on .ready).val 0x2000 1 = 0 ∧ (on .ready).power.state = .ready ∧ (on .ready).val 0x2002 2 ≠ 0)
      && decide ((on .doze).power.state = .doze ∧ (on .doze).val 0x2002 3 ≠ 0)
      && decide (((on .ready).setVal 0x2000 1 1).val 0x2000 1 = 1)) = true := by decide +kernel

theorem test_counters_witness : (Counter.at 1023).value? = some 1023 ∧
    (let s := act.setCustody { act.custody with counters := [Counter.at 1023] };
      s.systemFree = true ∧ s.custody.counters[0]? = some (Counter.at 1023) ∧ (bankZero s).systemFree = false) := by decide +kernel

theorem test_balls_witness : unpopulated 9 12 = false ∧ pairAt 9 12 = none ∧ lpddrAt 9 12 = none ∧ singleAt 9 12 = none ∧
    powerAt 9 12 = none := by decide

theorem test_block_witness : (List.replicate 4096 (0 : Byte)).length = 4096 := List.length_replicate

theorem test_step_witness : State.reset.canonical = true ∧ step State.reset = .next (tick State.reset) := ⟨by decide, rfl⟩

/-! ## Ill-formed commands

One for each check of WellFormed.lean. -/

def frameOf (op : Byte) : Bytes := op :: List.replicate 63 0

theorem test_wf_frame : (Instr.expeditedRead .priv (frameOf 2)).wf = false := by decide
theorem test_wf_frame_length : (Instr.abortFrame .priv [5]).wf = false := by decide
theorem test_wf_word : (Instr.add 0 0x02#64 true).wf = false := by decide
theorem test_wf_nop : (Instr.nop 0 .x 0x03#64 true).wf = false ∧ (Instr.nop 0 .x 0x04#64 true).wf = true := by decide
theorem test_wf_packet : (Instr.joinPacket 0 ⟨2#8 :: List.replicate 63 0, [], 0⟩).wf = false := by decide
theorem test_wf_turn : (Instr.batchTable 0 ⟨6#8 :: List.replicate 63 1, [], 0⟩).wf = false := by decide
theorem test_wf_slow : (Instr.keepalive 0 [0xA6, 2]).wf = false := by decide
theorem test_wf_quota : (Instr.tierQuotaWrite .priv 0x2430 65 []).wf = false ∧
    (Instr.tierQuotaWrite .priv 0x2432 1 []).wf = false := by decide
theorem test_wf_receiver : (Instr.receiverSetting .priv 0x2C30 3 []).wf = false := by decide
theorem test_wf_access : (Instr.memoryAccess ⟨0, none, .write, 0, 2, [], none, .clean⟩).wf = false := by decide
theorem test_wf_lanes : (Instr.linkTrained 0 [1, 1]).wf = false := by decide
theorem test_wf_long : (Instr.longPacket ⟨0, 64, .good, [], true⟩).wf = false := by decide

/-! ## Worked examples of the spec -/

/-- 07_numbers_and_block_code.md, Rounding cases: int8. -/
theorem test_ties_int8 :
    [0x40200000, 0xC0200000, 0xC2FD0000, 0x42FF0000, 0xC2FF0000].map (fun v => (toInt8 v).1) = [3, -3, -127, 127, -127] := by
  decide +kernel

/-- The same table: bf16 and fp16. -/
theorem test_ties_floats :
    [0x3F808000, 0xBF808000, 0x3F818000].map (fcvt fp32 bf16) = [0x3F81, 0xBF81, 0x3F82] ∧
      [0x3F801000, 0xBF801000, 0x477FF000].map (fcvt fp32 fp16) = [0x3C01, 0xBC01, 0x7C00] := by decide +kernel

/-- 07_numbers_and_block_code.md, Worked example: decoding one group scale. -/
theorem test_group_scale : groupScale 0x2A00 170 = some 0x3D000000 := by decide +kernel

/-- 07_numbers_and_block_code.md, Worked example: one row, two rounding rules. -/
theorem test_quant_row :
    (quantRow [0x3F000000, 0xBF000000, 0x3FC00000, 0xC0200000, 0x42FE0000, 0xC2FD0000, 0x40500000, 0]).map (·.codes)
      = some [1, -1, 2, -3, 127, -127, 3, 0] := by decide +kernel

/-- 07_numbers_and_block_code.md, Worked example: decoding a three-burst block, up to its payload: a length table value
of 4 fails check 0x06. -/
def storedHeader : Bytes := [0xB1, 1, 0, 3, 3, 0, 0, 0, 0x1E] ++ List.replicate 15 0 ++ [0x10, 0x20, 0xF0]

theorem test_block_header :
    headerDamage storedHeader 3 = none ∧ headerDamage storedHeader 4 = some 6 ∧
      (stripModes (leNat (slice storedHeader 8 16))).take 4 = [2, 3, 1, 0] := by decide +kernel

/-- 04_start_up_and_custody.md, Worked example: a switch cut off twice: counter 6 from 1,274 to 1,276. -/
theorem test_counter_switch :
    ((Counter.at 1274).step).value? = some 1275 ∧ ((Counter.at 1274).step.step).value? = some 1276 := by decide +kernel

/-- 02_object_dictionary.md, Worked example: an expedited read over the privileged mailbox. -/
def readProduct : Bytes := [1, 0, 0, 0x10, 2, 0x12, 0x31] ++ List.replicate 57 0

theorem test_expedited_read :
    ((match exec (.expeditedRead .priv readProduct) act with | .next t => (t.chan .priv).response | _ => []).take 20)
      = [0x81, 0, 0, 0x10, 2, 0x12, 0x31, 0, 4, 0, 0, 0, 0, 0, 0, 0, 0x10, 0x72, 0, 0] := by decide +kernel

/-- 07_numbers_and_block_code.md, Worked example: decoding a three-burst block: its strips, read from the payload. -/
def storedPayload : Nat := 2 + 8 * ((List.range 32).foldr (fun _ a => 0xD + 16 * a) 0)
  + 2 ^ 131 * ((List.range 64).foldr (fun _ a => 2 + 16 * a) 0)

/-- What a strip decodes to and how many bits are left; a damage code as a strip of that one byte. -/
def stripOf (dict : Bytes) (mode v n : Nat) : Bytes × Nat :=
  match decodeStrip dict mode (v, n) with
  | .ok (bs, rest) => (bs.take 4, rest.2)
  | .error e => (leBytes 1 e, 0)

theorem test_block_payload :
    leBytes 1 storedPayload = [0xEA] ∧
      stripOf [0x10, 0x20, 0xF0] 2 storedPayload 899 = ([1, 0xFF, 1, 0xFF], 768) ∧
      stripOf [0x10, 0x20, 0xF0] 3 (storedPayload / 2 ^ 131) 768 = ([0xF0, 0xF0, 0xF0, 0xF0], 512) ∧
      stripOf [0x10, 0x20] 3 (storedPayload / 2 ^ 131) 768 = ([8], 0) := by decide +kernel

end Sys2Proof.Tests
end

section
/-! SUPPORT and PROOFS. What a write that is taken comes to when its owner has answered it, what a list of checks
answers when one of them fails, and the write of 0x1002:01 while a berth is live (02_object_dictionary.md). -/

namespace Sys2Proof.Machine

/-! ### Writes that are taken -/

/-- A write that is taken reaches its owner: what it comes to is what the owner makes of the state. -/
theorem objectWrite_of_taken {s : State} {ch : Channel} {idx sub : Nat} {val : Bytes} (apply : State → Applied)
    (h : taken s ch idx sub val.length = true) :
    objectWrite ch idx sub val apply s = .next (answerWrite ch idx sub (apply s)) := by
  simp only [taken, Bool.and_eq_true, Bool.not_eq_true'] at h
  obtain ⟨⟨hserves, hchecks⟩, hharbour⟩ := h
  cases hw : writeChecks s ch idx sub val.length with
  | error code => simp [hw] at hchecks
  | ok d => simp [objectWrite, serveWrite, hserves, hw, hharbour]

/-- A write that is taken and that its owner ends with a status is answered with that status. -/
theorem objectWrite_of_done {s t : State} {ch : Channel} {idx sub : Nat} {val : Bytes} {apply : State → Applied}
    {status : Nat} (h : taken s ch idx sub val.length = true) (hdone : apply s = .done status t) :
    objectWrite ch idx sub val apply s = .next (answered t ch idx sub status) := by
  rw [objectWrite_of_taken apply h, hdone]
  rfl

/-! ### Checks in order -/

@[simp] theorem firstFail_cons_true (code : Nat) (r : List (Bool × Nat)) :
    firstFail ((true, code) :: r) = firstFail r := rfl

@[simp] theorem firstFail_cons_false (code : Nat) (r : List (Bool × Nat)) :
    firstFail ((false, code) :: r) = some code := rfl

/-- Where one check of a list fails, the list answers with the code of one that fails. -/
theorem exists_firstFail_of_mem {checks : List (Bool × Nat)} {c : Nat} (h : (false, c) ∈ checks) :
    ∃ code, firstFail checks = some code ∧ (false, code) ∈ checks := by
  induction checks with
  | nil => cases h
  | cons check r ih =>
    obtain ⟨ok, code⟩ := check
    cases ok with
    | false => exact ⟨code, firstFail_cons_false code r, List.mem_cons_self⟩
    | true =>
      obtain ⟨code', hfirst, hmem⟩ := ih (by simpa using h)
      exact ⟨code', hfirst, List.mem_cons_of_mem _ hmem⟩

theorem guarded_of_firstFail {checks : List (Bool × Nat)} {code : Nat} (act : State → Applied) (s : State)
    (h : firstFail checks = some code) : guarded checks act s = .done code s := by
  simp [guarded, refuse, h]

/-! ### The interface level (R48 to R50) -/

/-- The checks of a write of 0x1002:01 in their order: harbour mode (R94), the LPDDR (R143), live berths (R50), the
order of the range's ends, a member (R304). -/
def hostRangeChecks (val : Bytes) (s : State) : List (Bool × Nat) :=
  [(!s.inHarbour, abHarbour), (!decide (s.tiers.fitted = 0), abInternal), (!s.anyLive, abNotIdle),
   (decide (bitsOf (leNat val) 15 0 ≤ bitsOf (leNat val) 31 16), abRange),
   (decide (s.ferry.role ≠ .member), abInconsistent)]

theorem applyHostRange_of_firstFail {val : Bytes} {s : State} {code : Nat}
    (h : firstFail (hostRangeChecks val s) = some code) : applyHostRange val s = .done code s := by
  unfold applyHostRange
  exact guarded_of_firstFail _ s h

/-- No check of 0x1002:01 answers with the status of success. -/
theorem ne_zero_of_mem_hostRangeChecks {val : Bytes} {s : State} {ok : Bool} {code : Nat}
    (h : (ok, code) ∈ hostRangeChecks val s) : code ≠ 0 := by
  rintro rfl
  simp [hostRangeChecks, abHarbour, abInternal, abNotIdle, abRange, abInconsistent] at h

/-- With a berth live the owner of 0x1002:01 refuses every value: the check of R50 fails, so that check or another
that fails answers. -/
theorem applyHostRange_refuses_of_anyLive (val : Bytes) {s : State} (hlive : s.anyLive = true) :
    ∃ code, code ≠ 0 ∧ applyHostRange val s = .done code s := by
  have hfails : (false, abNotIdle) ∈ hostRangeChecks val s := by simp [hostRangeChecks, hlive]
  obtain ⟨code, hfirst, hmem⟩ := exists_firstFail_of_mem hfails
  exact ⟨code, ne_zero_of_mem_hostRangeChecks hmem, applyHostRange_of_firstFail hfirst⟩

/-- Outside harbour mode and with the LPDDR trained, the check of R50 is the first that fails. -/
theorem applyHostRange_notIdle (val : Bytes) {s : State} (hlive : s.anyLive = true) (hharbour : s.inHarbour = false)
    (hfitted : s.tiers.fitted ≠ 0) : applyHostRange val s = .done abNotIdle s :=
  applyHostRange_of_firstFail (by simp [hostRangeChecks, hlive, hharbour, hfitted])

/-- A frame that writes 0x1002:01 reaches the owner that HOST_RANGE reaches. -/
theorem applyObject_hostRange (ch : Channel) (val : Bytes) :
    applyObject ch 0x1002 1 val = applyHostRange val := by
  have hrow : objectAt 0x1002 1 = some ⟨0x1002, 1, 1, 1, 1, .u32, .wo, 1, 0, false, .any⟩ := by decide
  funext s
  simp only [applyObject, hrow]
  rfl

/-- Settles O10: a write that is taken reaches the owner, whose check of live berths fails. -/
theorem hostRangeWaitsForBerths : Obligations.HostRangeWaitsForBerths := by
  refine ⟨fun ch val s hlive htaken => ⟨?_, fun hharbour hfitted => ?_⟩, applyObject_hostRange⟩
  · obtain ⟨code, hcode, hdone⟩ := applyHostRange_refuses_of_anyLive val hlive
    exact ⟨code, hcode, objectWrite_of_done htaken hdone⟩
  · exact objectWrite_of_done htaken (applyHostRange_notIdle val hlive hharbour hfitted)

end Sys2Proof.Machine
end

section
/-! SUPPORT and PROOFS. What a write of an object by REGISTER_WRITE comes to when its owner has answered it, what a
write of an object that is only kept does, and Sleep Policy with the timeouts it decides (03_watch_and_power.md). -/

namespace Sys2Proof.Machine

/-! ### Writes of an object by REGISTER_WRITE -/

theorem exec_registerWrite_object (ch : Channel) (idx sub : Nat) (val : Bytes) (s : State) :
    exec (.registerWrite (.object ch idx sub val)) s = objectWrite ch idx sub val (applyObject ch idx sub val) s := rfl

/-- A write whose owner ends it with a status is, once taken, answered with that status. -/
theorem exec_registerWrite_of_done {s t : State} {ch : Channel} {idx sub : Nat} {val : Bytes} {status : Nat}
    (hdone : applyObject ch idx sub val s = .done status t) {c : Channel} {i n : Nat} {v : Bytes}
    (hwrites : Claims.writes (.registerWrite (.object ch idx sub val)) = some (c, i, n, v))
    (htaken : taken s c i n v.length = true) :
    exec (.registerWrite (.object ch idx sub val)) s = .next (answered t c i n status) := by
  obtain ⟨rfl, rfl, rfl, rfl⟩ : ch = c ∧ idx = i ∧ sub = n ∧ val = v := by simpa [Claims.writes] using hwrites
  rw [exec_registerWrite_object]
  exact objectWrite_of_done htaken hdone

theorem accepted_registerWrite {s t : State} {ch : Channel} {idx sub : Nat} {val : Bytes}
    (hdone : applyObject ch idx sub val s = .done 0 t) :
    Claims.Accepted (.registerWrite (.object ch idx sub val)) s t :=
  fun _ _ _ _ hwrites htaken => exec_registerWrite_of_done hdone hwrites htaken

theorem turnedDown_registerWrite {s : State} {ch : Channel} {idx sub : Nat} {val : Bytes} {code : Nat}
    (hdone : applyObject ch idx sub val s = .done code s) :
    Claims.TurnedDown (.registerWrite (.object ch idx sub val)) code s :=
  fun _ _ _ _ hwrites htaken => exec_registerWrite_of_done hdone hwrites htaken

/-! ### Objects that are only kept (R24, R374) -/

theorem guarded_of_passes {checks : List (Bool × Nat)} (act : State → Applied) (s : State)
    (h : firstFail checks = none) : guarded checks act s = act s := by
  simp [guarded, h]

theorem applyKept_of_valueOk (ch : Channel) {d : ObjDef} (idx sub : Nat) {val : Bytes} (s : State)
    (h : valueOk d val = true) :
    applyKept ch d idx sub val s = .done 0 (keep ch idx sub (keptValue d val) s) := by
  unfold applyKept
  exact guarded_of_passes _ s (by simp [h, firstFail])

theorem applyKept_of_not_valueOk (ch : Channel) {d : ObjDef} (idx sub : Nat) {val : Bytes} (s : State)
    (h : valueOk d val = false) : applyKept ch d idx sub val s = .done abRange s := by
  unfold applyKept
  exact guarded_of_firstFail _ s (by simp [h])

/-- An object that is not held for each channel apart is kept as one value. -/
theorem keep_of_not_perChannel (ch : Channel) {idx sub : Nat} (v : Nat) (s : State)
    (h : perChannel idx sub = false) : keep ch idx sub v s = s.setVal idx sub v := by
  simp [keep, h]

/-! ### Sleep Policy (R64) -/

/-- The row of 0x2000:01 in the object table. -/
def sleepPolicyRow : ObjDef := ⟨0x2000, 1, 1, 1, 1, .u8, .rw, 13, 0, true, .within 0 1 1⟩

theorem objectAt_sleepPolicy : objectAt 0x2000 1 = some sleepPolicyRow := by decide

/-- Sleep Policy has no owner of its own: a write of it is kept. -/
theorem applyObject_sleepPolicy (ch : Channel) (val : Bytes) (s : State) :
    applyObject ch 0x2000 1 val s = applyKept ch sleepPolicyRow 0x2000 1 val s := by
  simp only [applyObject, objectAt_sleepPolicy]
  rfl

/-- AUTO and STAY_READY are the values in range. -/
theorem valueOk_sleepPolicy (val : Bytes) : valueOk sleepPolicyRow val = decide (leNat val ≤ 1) := by
  simp [valueOk, sleepPolicyRow, ObjRange.holds, Nat.mod_one]

theorem keptValue_sleepPolicy (val : Bytes) : keptValue sleepPolicyRow val = leNat val := rfl

theorem applyObject_sleepPolicy_of_le_one (ch : Channel) {val : Bytes} (s : State) (h : leNat val ≤ 1) :
    applyObject ch 0x2000 1 val s = .done 0 (s.setVal 0x2000 1 (leNat val)) := by
  have hok : valueOk sleepPolicyRow val = true := by simpa [valueOk_sleepPolicy] using h
  rw [applyObject_sleepPolicy, applyKept_of_valueOk ch _ _ s hok, keptValue_sleepPolicy,
    keep_of_not_perChannel ch _ s (by decide)]

theorem applyObject_sleepPolicy_of_one_lt (ch : Channel) {val : Bytes} (s : State) (h : 1 < leNat val) :
    applyObject ch 0x2000 1 val s = .done abRange s := by
  have hbad : valueOk sleepPolicyRow val = false := by simpa [valueOk_sleepPolicy] using h
  rw [applyObject_sleepPolicy, applyKept_of_not_valueOk ch _ _ s hbad]

/-! ### The timeouts that DOZE and WATCH entry follow (R60, R64) -/

/-- The timeouts apply under AUTO with a Doze Timeout. -/
theorem timeoutsApply_iff (s : State) : timeoutsApply s = true ↔ s.val 0x2000 1 = 0 ∧ s.val 0x2002 2 ≠ 0 := by
  simp [timeoutsApply]

theorem timeoutsApply_of_policy_ne_zero {s : State} (h : s.val 0x2000 1 ≠ 0) : timeoutsApply s = false := by
  simp [timeoutsApply, h]

theorem exec_dozeTimeout (s : State) : exec .dozeTimeout s = execDozeTimeout s := rfl

theorem exec_watchTimeout (s : State) : exec .watchTimeout s = execWatchTimeout s := rfl

theorem exec_dozeTimeout_of_timeoutsApply {s : State} (hready : s.power.state = .ready)
    (happly : timeoutsApply s = true) :
    exec .dozeTimeout s = .next (s.setPower { s.power with dozeDue := true }) := by
  simp [exec_dozeTimeout, execDozeTimeout, hready, happly]

theorem exec_watchTimeout_of_timeoutsApply {s : State} (hdoze : s.power.state = .doze)
    (happly : timeoutsApply s = true) (hwatch : s.val 0x2002 3 ≠ 0) :
    exec .watchTimeout s = .next (s.setPower { s.power with watchDue := true }) := by
  simp [exec_watchTimeout, execWatchTimeout, hdoze, happly, hwatch]

/-- Where the timeouts do not apply, one that runs out changes nothing, in READY and in every other state. -/
theorem exec_dozeTimeout_of_not_timeoutsApply {s : State} (h : timeoutsApply s = false) :
    exec .dozeTimeout s = .next s := by
  rw [exec_dozeTimeout, execDozeTimeout]
  split
  · simp [h]
  · rfl

theorem exec_watchTimeout_of_not_timeoutsApply {s : State} (h : timeoutsApply s = false) :
    exec .watchTimeout s = .next s := by
  rw [exec_watchTimeout, execWatchTimeout]
  split
  · simp [h]
  · rfl

/-- Settles O32: a write of Sleep Policy is kept if it is in range; AUTO lets the timeouts apply, STAY_READY does
not. -/
theorem sleepPolicy : Obligations.SleepPolicy := by
  intro s
  refine ⟨fun ch val hle => ?_, fun ch val hlt => ?_,
    fun hauto => ⟨fun hready hdoze => ?_, fun hdozing hdoze hwatch => ?_⟩, fun hstay => ?_⟩
  · exact accepted_registerWrite (applyObject_sleepPolicy_of_le_one ch s hle)
  · exact turnedDown_registerWrite (applyObject_sleepPolicy_of_one_lt ch s hlt)
  · exact exec_dozeTimeout_of_timeoutsApply hready ((timeoutsApply_iff s).2 ⟨hauto, hdoze⟩)
  · exact exec_watchTimeout_of_timeoutsApply hdozing ((timeoutsApply_iff s).2 ⟨hauto, hdoze⟩) hwatch
  · have hoff : timeoutsApply s = false := timeoutsApply_of_policy_ne_zero (by simp [hstay])
    exact ⟨exec_dozeTimeout_of_not_timeoutsApply hoff, exec_watchTimeout_of_not_timeoutsApply hoff⟩

end Sys2Proof.Machine
end

section
/-! SUPPORT and PROOFS. A bundle of one word whose operation raises, the steps that the memory operations of slot M
share, and the checks of a stream descriptor (08_decks.md, R193). -/

namespace Sys2Proof.Machine

open Sys2Proof.Claims

/-! ### A bundle of one word that raises -/

/-- The slots of a bundle of one word whose operation raises. -/
theorem evalSlots_raise {k : Fin 16} {d : Deck} {slot : Slot} {w : BitVec 64} {s t : State} {op : SlotOp}
    {cause address : Nat} (hop : opOf slot (fOp w) = some op) (hr : op k d w s = (t, .raise cause address)) :
    evalSlots k d [⟨slot, w⟩] [.c, .m, .v, .x] s = (t, .raise (slotNumber slot) cause address) := by
  cases slot <;> simp [evalSlots, slotWord, hop, hr, opOf_zero, opNop_zero, SlotResult.nothing]

/-- A bundle of one word whose operation raises takes the exception in the state that the operation leaves. -/
theorem issue_raise {k : Fin 16} {slot : Slot} {w : BitVec 64} {s t : State} {op : SlotOp} {cause address : Nat}
    (ha : alone s k slot w = true) (hop : opOf slot (fOp w) = some op)
    (hr : op k { s.decks.get k with bundle := [⟨slot, w⟩] } w (holdingWord s k slot w) = (t, .raise cause address)) :
    issue k (holdingWord s k slot w) = raiseDeck k (slotNumber slot) cause address t := by
  simp only [alone, Bool.and_eq_true, Bool.not_eq_true'] at ha
  obtain ⟨⟨⟨-, hfetch⟩, hwait⟩, hinjected⟩ := ha
  have heval := evalSlots_raise hop hr
  simp only [holdingWord] at heval
  simp only [issue, holdingWord, decks_get_setDeck_self, hfetch, hwait]
  rw [parityCheck_none _ _ _ (by rw [decks_get_setDeck_self]; exact hinjected)]
  simp [heval]

/-- An alone word whose operation raises. -/
theorem slotRow_raise {k : Fin 16} {slot : Slot} {code : Nat} {w : BitVec 64} {s t : State} {op : SlotOp}
    {cause address : Nat} (hc : fOp w = code) (ha : alone s k slot w = true) (hop : opOf slot code = some op)
    (hr : op k { s.decks.get k with bundle := [⟨slot, w⟩] } w (holdingWord s k slot w) = (t, .raise cause address)) :
    slotRow k slot w true s = .next (raiseDeck k (slotNumber slot) cause address t) := by
  subst hc
  rw [slotRow_issues k slot w s ha, issue_raise ha hop hr]

/-! ### The steps of a memory operation -/

theorem wordSpells_iff (code : Nat) (w : BitVec 64) : wordSpells code w = true ↔ fOp w = code := by
  simp [wordSpells, fOp]

theorem enabled_iff (s : State) (k : Fin 16) (w : BitVec 64) :
    enabled s k w = true ↔ predOn (s.decks.get k) w = true ∧ (s.decks.get k).pPoison (fPred w) = false := by
  simp [enabled]

/-- An operation of legal form whose predicate is set and carries no poison goes on. -/
theorem memOn_of_predOn {d : Deck} {w : BitVec 64} (s : State) (go : State × SlotResult)
    (hon : predOn d w = true) (hclean : d.pPoison (fPred w) = false) : memOn d w true s go = go := by
  simp [memOn, ctlOn, hon, hclean]

theorem atAddress_of_aligned {a align : Nat} (s : State) (go : State × SlotResult) (h : a % align = 0) :
    atAddress false a align s go = go := by
  simp [atAddress, h]

theorem loadThen_of_got {k : Fin 16} {d : Deck} {s t : State} {a n : Nat} {l : List Octet}
    (mk : List Octet → SlotResult) (h : deckRead k d s a n = (t, .got l)) :
    loadThen k d a n mk s = (t, mk l) := by
  simp [loadThen, h]

/-! ### Stream descriptors (R193) -/

/-- What R193 asks of a descriptor that logical deck l loads, condition by condition in the fields of its table. -/
structure DescriptorSound (b : Bytes) (l : Nat) : Prop where
  base_lt : fld b 0 8 < 2 ^ 48
  lengths_lt : fld b 8 8 < 2 ^ 48
  lengths_zero : ¬(flashBase ≤ fld b 0 8 ∧ fld b 0 8 < flashEnd) → fld b 8 8 = 0
  reserved_zero : zeroAt b 42 22 = true
  format_ne_zero : fld b 30 1 ≠ 0
  format_le : fld b 30 1 ≤ 3
  k_whole : fld b 30 1 ≠ 3 → fld b 20 4 % groupSize (fld b 30 1) = 0
  kFirst_whole : fld b 32 4 % groupSize (fld b 30 1) = 0
  kCount_whole : fld b 36 4 % groupSize (fld b 30 1) = 0
  le_kCount : 8 ≤ fld b 36 4
  kEnd_le : fld b 32 4 + fld b 36 4 ≤ fld b 20 4
  reps_ne_zero : fld b 31 1 ≠ 0
  reps_le : fld b 31 1 ≤ 8
  le_laneStride : 8 ≤ fld b 28 2
  base_aligned : fld b 0 8 % 4096 = 0
  names_deck : (fld b 40 2).testBit l = true

/-- The check of a descriptor accepts those that meet every condition. -/
theorem descriptorOk_iff (b : Bytes) (l : Nat) : descriptorOk b l = true ↔ DescriptorSound b l := by
  simp only [descriptorOk, Bool.and_eq_true, Bool.or_eq_true, decide_eq_true_eq]
  constructor
  · rintro ⟨⟨⟨⟨⟨⟨⟨⟨⟨⟨⟨⟨⟨⟨⟨hbase, hlengths⟩, htier⟩, hreserved⟩, hformat⟩, hformatLe⟩, hk⟩, hfirst⟩, hcount⟩, hcountLe⟩,
      hend⟩, hreps⟩, hrepsLe⟩, hstride⟩, haligned⟩, hmask⟩
    exact ⟨hbase, hlengths, htier.resolve_left, hreserved, Nat.one_le_iff_ne_zero.1 hformat, hformatLe,
      hk.resolve_left, hfirst, hcount, hcountLe, hend, Nat.one_le_iff_ne_zero.1 hreps, hrepsLe, hstride, haligned,
      hmask⟩
  · rintro ⟨hbase, hlengths, htier, hreserved, hformat, hformatLe, hk, hfirst, hcount, hcountLe, hend, hreps, hrepsLe,
      hstride, haligned, hmask⟩
    exact ⟨⟨⟨⟨⟨⟨⟨⟨⟨⟨⟨⟨⟨⟨⟨hbase, hlengths⟩, Decidable.or_iff_not_imp_left.2 htier⟩, hreserved⟩,
      Nat.one_le_iff_ne_zero.2 hformat⟩, hformatLe⟩, Decidable.or_iff_not_imp_left.2 hk⟩, hfirst⟩, hcount⟩,
      hcountLe⟩, hend⟩, Nat.one_le_iff_ne_zero.2 hreps⟩, hrepsLe⟩, hstride⟩, haligned⟩, hmask⟩

theorem descriptorOk_eq_false {b : Bytes} {l : Nat} (h : ¬DescriptorSound b l) : descriptorOk b l = false :=
  Bool.eq_false_iff.2 fun hok => h ((descriptorOk_iff b l).1 hok)

/-- WSLD that has read a descriptor the check refuses raises STREAM_FAULT at the descriptor's address. -/
theorem opWsld_of_refused {k : Fin 16} {d : Deck} {w : BitVec 64} {s t : State} {l : List Octet}
    (hform : iForm w 0 = true) (hd : fD w < 4) (hon : predOn d w = true) (hclean : d.pPoison (fPred w) = false)
    (hsource : d.sPoison (fA w) = false) (haligned : iAddr d w % 64 = 0)
    (hread : deckRead k d s (iAddr d w) 64 = (t, .got l)) (hrefused : descriptorOk (vals l) d.logical = false) :
    opWsld k d w s = (t, .raise excStream (iAddr d w)) := by
  simp only [opWsld, hform, hd, decide_true, Bool.and_self, hsource]
  rw [memOn_of_predOn _ _ hon hclean, atAddress_of_aligned _ _ haligned, loadThen_of_got _ hread]
  simp [hrefused]

/-- WSLD, alone in a bundle, of a descriptor that does not meet R193. -/
theorem exec_wsld_of_not_sound {k : Fin 16} {w : BitVec 64} {s t : State} {l : List Octet}
    (hcode : wordSpells 0x08 w = true) (hform : iForm w 0 = true) (hd : fD w < 4) (halone : alone s k .m w = true)
    (henabled : enabled s k w = true) (hsource : (s.decks.get k).sPoison (fA w) = false)
    (haligned : immAddress s k w % 64 = 0) (hloaded : loaded s k w 64 t l)
    (hbroken : ¬DescriptorSound (vals l) (s.decks.get k).logical) :
    exec (.wsld k w true) s = .next (raiseDeck k 1 0x08 (immAddress s k w) t) := by
  obtain ⟨hon, hclean⟩ := (enabled_iff s k w).1 henabled
  have hread : deckRead k { s.decks.get k with bundle := [⟨.m, w⟩] } (holdingWord s k .m w) (immAddress s k w) 64
      = (t, .got l) := by
    simpa only [loaded, holdingWord, decks_get_setDeck_self] using hloaded
  exact slotRow_raise ((wordSpells_iff _ w).1 hcode) halone rfl
    (opWsld_of_refused hform hd hon hclean hsource haligned hread (descriptorOk_eq_false hbroken))

/-- Settles O8: each condition broken contradicts the field of `DescriptorSound` that states it. -/
theorem streamDescriptorsAreChecked : Obligations.StreamDescriptorsAreChecked := by
  intro k w s t l g hcode hform hd halone henabled hsource haligned hloaded hg hbroken
  refine exec_wsld_of_not_sound hcode hform hd halone henabled hsource haligned hloaded fun hsound => ?_
  obtain rfl : g = groupSize (fld (vals l) 30 1) := hg
  rcases hbroken with hbase | hlengths | hreserved | hformat | hformat | ⟨htier, hlengths⟩ | ⟨hformat, hk⟩ | hfirst |
    hcount | hcount | hend | hreps | hreps | hstride | hbase | hmask
  · exact absurd hsound.base_lt (Nat.not_lt.2 hbase)
  · exact absurd hsound.lengths_lt (Nat.not_lt.2 hlengths)
  · exact absurd hsound.reserved_zero (Bool.eq_false_iff.1 hreserved)
  · exact hsound.format_ne_zero hformat
  · exact absurd hsound.format_le (Nat.not_le.2 hformat)
  · exact hlengths (hsound.lengths_zero htier)
  · exact hk (hsound.k_whole hformat)
  · exact hfirst hsound.kFirst_whole
  · exact hcount hsound.kCount_whole
  · exact absurd hsound.le_kCount (Nat.not_le.2 hcount)
  · exact absurd hsound.kEnd_le (Nat.not_le.2 hend)
  · exact hsound.reps_ne_zero hreps
  · exact absurd hsound.reps_le (Nat.not_le.2 hreps)
  · exact absurd hsound.le_laneStride (Nat.not_le.2 hstride)
  · exact hbase hsound.base_aligned
  · exact absurd hsound.names_deck (Bool.eq_false_iff.1 hmask)

end Sys2Proof.Machine
end

section
/-! SUPPORT and PROOFS. What an access over PCIe leaves of a device whose server runs, when a ring takes a doorbell and
when its values fit, and the doorbells of R236 (10_rings_and_turns.md). -/

namespace Sys2Proof.Machine

open Sys2Proof.Claims

/-! ### A device whose server runs -/

theorem asleep_of_serves {s : State} (h : s.serves = true) : asleep s = false := by
  simp only [State.serves, Bool.and_eq_true] at h
  obtain ⟨⟨⟨hstate, hentering⟩, -⟩, -⟩ := h
  simp only [asleep, Bool.or_eq_false_iff]
  constructor
  · cases hs : s.power.state <;> simp [hs] at hstate ⊢
  · cases he : s.power.entering with
    | none => rfl
    | some e => cases e <;> simp [he] at hentering ⊢

theorem isDown_of_serves {s : State} (h : s.serves = true) : isDown s = false := by
  simp only [State.serves, Bool.and_eq_true] at h
  obtain ⟨⟨⟨hstate, -⟩, -⟩, -⟩ := h
  cases hs : s.power.state <;> simp [isDown, hs] at hstate ⊢

/-- A wake source does nothing to a device that is awake (R70). -/
theorem wake_of_awake (bits : BitVec 32) {s : State} (h : asleep s = false) : wake bits s = s := by
  simp [wake, h]

theorem serveLatched_of_inbox_nil {s : State} (h : s.inbox = []) : serveLatched s = s := by
  simp [serveLatched, h, serveSome]

/-! ### A link that has returned to L0 (R67) -/

/-- The return to L0 changes the state of the link alone. -/
theorem exists_linkActive_eq (s : State) : ∃ l, linkActive s = s.setPower { s.power with link := l } := by
  unfold linkActive
  split
  · exact ⟨.l0, rfl⟩
  · exact ⟨s.power.link, rfl⟩

@[simp] theorem asleep_linkActive (s : State) : asleep (linkActive s) = asleep s := by
  obtain ⟨l, hl⟩ := exists_linkActive_eq s
  rw [hl]; rfl

@[simp] theorem linkActive_inbox (s : State) : (linkActive s).inbox = s.inbox := by
  obtain ⟨l, hl⟩ := exists_linkActive_eq s
  rw [hl]; rfl

@[simp] theorem ringOf_linkActive (s : State) (ring : Nat) : ringOf (linkActive s) ring = ringOf s ring := by
  obtain ⟨l, hl⟩ := exists_linkActive_eq s
  rw [hl]; rfl

@[simp] theorem takesBells_linkActive (s : State) (ring : Nat) :
    takesBells (linkActive s) ring = takesBells s ring := by
  obtain ⟨l, hl⟩ := exists_linkActive_eq s
  rw [hl]; rfl

/-- An access that reaches a quiet device does no more than return its link to L0. -/
theorem serveLatched_wake_linkActive_of_quiet (bits : BitVec 32) {s : State} (h : quiet s) :
    serveLatched (wake bits (linkActive s)) = linkActive s := by
  obtain ⟨hserves, hinbox⟩ := h
  rw [wake_of_awake bits (by simpa using asleep_of_serves hserves), serveLatched_of_inbox_nil (by simpa using hinbox)]

/-! ### Doorbells (R236) -/

/-- A ring takes doorbells exactly when it and its tenant are enabled, a level is agreed and the plane runs. -/
theorem takesBells_iff (s : State) (ring : Nat) :
    takesBells s ring = true ↔ (ringOf s ring).enabled = true ∧ s.val 0x1002 2 ≠ 0 ∧ planeRuns s = true ∧
      ∃ t, ringTenant s ring = some t ∧ tenantOn s t = true := by
  cases ht : ringTenant s ring <;> simp [takesBells, ht, and_assoc]

/-- The values that are written fit a ring exactly when the tail is within depth of the entries fetched and the head
within depth of the completions posted. -/
theorem bellFits_iff (r : Ring) (tail head : Option Nat) :
    bellFits r tail head = true ↔
      (∀ v, tail = some v → (v + 2 ^ 32 - r.sqFetched) % 2 ^ 32 ≤ r.depth) ∧
        (∀ v, head = some v → (r.cqPosted + 2 ^ 32 - v) % 2 ^ 32 ≤ r.depth) := by
  cases tail <;> cases head <;> simp [bellFits]

/-- A ring that takes doorbells takes over values that fit. -/
theorem ringBell_of_fits {s : State} {ring : Nat} {tail head : Option Nat} (htakes : takesBells s ring = true)
    (hfits : bellFits (ringOf s ring) tail head = true) :
    ringBell s ring tail head = setRing s ring { ringOf s ring with
      sqTail := tail.getD (ringOf s ring).sqTail, cqHead := head.getD (ringOf s ring).cqHead } := by
  simp [ringBell, htakes, hfits]

/-- Any other doorbell is counted and does nothing else. -/
theorem ringBell_of_not {s : State} {ring : Nat} {tail head : Option Nat}
    (h : ¬(takesBells s ring = true ∧ bellFits (ringOf s ring) tail head = true)) :
    ringBell s ring tail head = s.bump 0x2806 5 := by
  simp only [ringBell, Bool.and_eq_true, if_neg h]

/-- The sq_tail that a doorbell write carries. -/
def bellTail (val : BitVec 64) : BellPart → Option Nat
  | .both => some (bitsOf val.toNat 31 0)
  | .tail => some (bitsOf val.toNat 31 0)
  | .head => none

/-- The cq_head that a doorbell write carries. -/
def bellHead (val : BitVec 64) : BellPart → Option Nat
  | .both => some (bitsOf val.toNat 63 32)
  | .tail => none
  | .head => some (bitsOf val.toNat 63 32)

theorem exec_doorbell (ring : Nat) (part : BellPart) (val : BitVec 64) (s : State) :
    exec (.doorbell ring part val) s = execDoorbell ring part val s := rfl

/-- DOORBELL on a quiet device: the ring takes it with the link in L0. -/
theorem exec_doorbell_of_quiet {ring : Nat} {s : State} (part : BellPart) (val : BitVec 64) (hquiet : quiet s)
    (hready : s.power.state ≠ .offReady) (hring : ring < 65536) :
    exec (.doorbell ring part val) s
      = .next (ringBell (linkActive s) ring (bellTail val part) (bellHead val part)) := by
  have hdown : isDown s = false := isDown_of_serves hquiet.1
  simp only [exec_doorbell, execDoorbell, hdown, hready, Nat.not_le.2 hring, serveLatched_wake_linkActive_of_quiet 1 hquiet]
  cases part <;> rfl

/-- Settles O19: the device rings the bell with its link in L0, which leaves the ring, its conditions and its bounds as
they were; those decide between the two outcomes of `ringBell`. -/
theorem doorbells : Obligations.Doorbells := by
  rintro ring val s u hquiet hready hring rfl r hr
  obtain ⟨part, rfl⟩ : ∃ part, r = (part, bellTail val part, bellHead val part) := by
    simp only [List.mem_cons, List.not_mem_nil, or_false] at hr
    rcases hr with rfl | rfl | rfl
    exacts [⟨.both, rfl⟩, ⟨.tail, rfl⟩, ⟨.head, rfl⟩]
  rw [exec_doorbell_of_quiet part val hquiet hready hring]
  refine ⟨fun hclosed => ?_, fun t henabled hlevel htenant hon hruns => ⟨fun hbeyond => ?_, fun htail hhead => ?_⟩⟩
  · rw [ringBell_of_not]
    rintro ⟨htakes, -⟩
    obtain ⟨henabled, hlevel, -, t, htenant, hon⟩ := (takesBells_iff s ring).1 (by simpa using htakes)
    rcases hclosed with hoff | hzero | hoff
    · simp [henabled] at hoff
    · exact hlevel hzero
    · simp [hoff t htenant] at hon
  · rw [ringBell_of_not]
    rintro ⟨-, hfits⟩
    rw [ringOf_linkActive] at hfits
    obtain ⟨htail, hhead⟩ := (bellFits_iff _ _ _).1 hfits
    rcases hbeyond with ⟨v, hv, hlt⟩ | ⟨v, hv, hlt⟩
    · exact absurd (htail v hv) (Nat.not_le.2 hlt)
    · exact absurd (hhead v hv) (Nat.not_le.2 hlt)
  · have htakes : takesBells s ring = true :=
      (takesBells_iff s ring).2 ⟨henabled, hlevel, hruns, t, htenant, hon⟩
    have hfits : bellFits (ringOf s ring) (bellTail val part) (bellHead val part) = true :=
      (bellFits_iff _ _ _).2 ⟨htail, hhead⟩
    rw [ringBell_of_fits (by simpa using htakes) (by simpa using hfits), ringOf_linkActive]

end Sys2Proof.Machine
end

section
/-! SUPPORT and PROOFS. Numbers and their little-endian bytes, a string as its pieces, a bit stream as the fields that
were packed into it, and the block code's round trip (07_numbers_and_block_code.md, R177 to R181). -/

namespace Sys2Proof.Machine

/-! ### Little-endian numbers (R5) -/

@[simp] theorem length_leBytes (n v : Nat) : (leBytes n v).length = n := by
  induction n generalizing v with
  | zero => rfl
  | succ n ih => simp [leBytes, ih]

theorem leNat_leBytes (n v : Nat) : leNat (leBytes n v) = v % 256 ^ n := by
  induction n generalizing v with
  | zero => simp [leBytes, leNat, Nat.mod_one]
  | succ n ih =>
    rw [leBytes, leNat, ih, pow_succ', Nat.mod_mul]
    simp

theorem leNat_leBytes_of_lt {n v : Nat} (h : v < 256 ^ n) : leNat (leBytes n v) = v := by
  rw [leNat_leBytes, Nat.mod_eq_of_lt h]

theorem leBytes_leNat (b : Bytes) : leBytes b.length (leNat b) = b := by
  induction b with
  | nil => rfl
  | cons x b ih =>
    have hx : x.toNat < 256 := x.isLt
    have hdiv : (x.toNat + 256 * leNat b) / 256 = leNat b := by omega
    have hmod : BitVec.ofNat 8 (x.toNat + 256 * leNat b) = x := by
      apply BitVec.eq_of_toNat_eq
      simp only [BitVec.toNat_ofNat]
      omega
    simp [leNat, leBytes, hdiv, hmod, ih]

theorem leNat_lt (b : Bytes) : leNat b < 256 ^ b.length := by
  induction b with
  | nil => simp [leNat]
  | cons x b ih =>
    have hx : x.toNat < 256 := x.isLt
    rw [leNat, List.length_cons, pow_succ']
    omega

/-- A string's number fits the bits of its bytes. -/
theorem leNat_mod_of_bits {b : Bytes} {w : Nat} (h : w = 8 * b.length) : leNat b % 2 ^ w = leNat b := by
  subst h
  rw [pow_mul]
  exact Nat.mod_eq_of_lt (leNat_lt b)

/-! ### Pieces of a string -/

theorem slice_append_of_length {a b c : Bytes} {off len : Nat} (ha : a.length = off) (hb : b.length = len) :
    slice (a ++ b ++ c) off len = b := by
  subst ha hb
  simp [slice]

theorem slice_self {b : Bytes} {n : Nat} (h : b.length = n) : slice b 0 n = b := by
  subst h
  simp [slice]

theorem slice_append_left {a b : Bytes} {off len : Nat} (h : off + len ≤ a.length) :
    slice (a ++ b) off len = slice a off len := by
  simp only [slice]
  rw [List.drop_append_of_le_length (by omega), List.take_append_of_le_length (by simp; omega)]

theorem fld_append_left {a b : Bytes} {off len : Nat} (h : off + len ≤ a.length) :
    fld (a ++ b) off len = fld a off len := by
  rw [fld, slice_append_left h, fld]

/-- The first n pieces of k bytes each are the first k n bytes. -/
theorem flatMap_slice (b : Bytes) (k n : Nat) :
    (List.range n).flatMap (fun i => slice b (k * i) k) = b.take (k * n) := by
  induction n with
  | zero => simp
  | succ n ih =>
    rw [List.range_succ, List.flatMap_append, ih, Nat.mul_succ, List.take_add]
    simp [slice]

theorem flatten_stripsOf {b : Bytes} (h : b.length = 4096) : (stripsOf b).flatten = b := by
  rw [stripsOf, ← List.flatMap_def, flatMap_slice]
  exact List.take_of_length_le (by omega)

theorem length_of_mem_stripsOf {b s : Bytes} (h : b.length = 4096) (hs : s ∈ stripsOf b) : s.length = 64 := by
  obtain ⟨i, hi, rfl⟩ := List.mem_map.1 hs
  have : i < 64 := List.mem_range.1 hi
  simp only [slice, List.length_take, List.length_drop]
  omega

/-! ### Fields of a bit stream -/

/-- The bits that fields take together. -/
def fieldBits (l : List (Nat × Nat)) : Nat := (l.map (·.1)).sum

@[simp] theorem fieldBits_nil : fieldBits [] = 0 := rfl

@[simp] theorem fieldBits_cons (p : Nat × Nat) (l : List (Nat × Nat)) : fieldBits (p :: l) = p.1 + fieldBits l := rfl

@[simp] theorem fieldBits_append (l r : List (Nat × Nat)) : fieldBits (l ++ r) = fieldBits l + fieldBits r := by
  simp [fieldBits]

/-- Fields of one width. -/
theorem fieldBits_map_const {α : Type} (w : Nat) (g : α → Nat) (l : List α) :
    fieldBits (l.map (fun x => (w, g x))) = w * l.length := by
  induction l with
  | nil => rfl
  | cons x l ih =>
    rw [List.map_cons, fieldBits_cons, ih, List.length_cons, Nat.mul_succ, Nat.add_comm]

theorem packFields_lt (l : List (Nat × Nat)) : packFields l < 2 ^ fieldBits l := by
  induction l with
  | nil => simp [packFields]
  | cons p l ih =>
    obtain ⟨w, v⟩ := p
    have hv : v % 2 ^ w < 2 ^ w := Nat.mod_lt _ (by positivity)
    have hmul : 2 ^ w * (packFields l + 1) ≤ 2 ^ w * 2 ^ fieldBits l := Nat.mul_le_mul_left _ ih
    calc packFields ((w, v) :: l) < 2 ^ w * packFields l + 2 ^ w := by rw [packFields]; omega
      _ ≤ 2 ^ fieldBits ((w, v) :: l) := by rwa [fieldBits_cons, pow_add]

theorem packFields_cons_mod (w v : Nat) (r : List (Nat × Nat)) : packFields ((w, v) :: r) % 2 ^ w = v % 2 ^ w := by
  simp [packFields]

theorem packFields_cons_div (w v : Nat) (r : List (Nat × Nat)) : packFields ((w, v) :: r) / 2 ^ w = packFields r := by
  have hpos : 0 < 2 ^ w := by positivity
  rw [packFields, Nat.add_mul_div_left _ _ hpos, Nat.div_eq_of_lt (Nat.mod_lt _ hpos), Nat.zero_add]

/-- What was packed first is taken first. -/
theorem takeBits_packFields {w v n : Nat} (r : List (Nat × Nat)) (h : w ≤ n) :
    takeBits w (packFields ((w, v) :: r), n) = some (v % 2 ^ w, (packFields r, n - w)) := by
  simp only [takeBits, h, if_true, packFields_cons_mod, packFields_cons_div]

/-- Fields of one width that stand for bytes are taken as those bytes. -/
theorem takeFields_packFields {f : Nat → Except Nat Byte} {g : Byte → Nat} {w : Nat} (s : Bytes)
    (r : List (Nat × Nat)) {n : Nat} (hf : ∀ b ∈ s, f (g b % 2 ^ w) = .ok b) (hn : w * s.length ≤ n) :
    takeFields f w s.length (packFields (s.map (fun b => (w, g b)) ++ r), n)
      = .ok (s, (packFields r, n - w * s.length)) := by
  induction s generalizing n with
  | nil => simp [takeFields]
  | cons b s ih =>
    rw [List.length_cons, Nat.mul_succ] at hn
    rw [List.map_cons, List.cons_append, List.length_cons, takeFields, takeBits_packFields _ (by omega)]
    simp only [hf b (by simp)]
    rw [ih (fun b hb => hf b (List.mem_cons_of_mem _ hb)) (by omega), Nat.mul_succ, Nat.sub_sub, Nat.add_comm w]

/-! ### Widths and dictionaries -/

/-- A byte of w-bit two's complement is what its w low bits spell (Strip modes, narrow). -/
theorem signByte_mod_of_byteFits {w : Nat} {b : Byte} (hpos : 1 ≤ w) (hle : w ≤ 7) (h : byteFits w b = true) :
    signByte w (b.toNat % 2 ^ w) = b := by
  have hb : b.toNat < 256 := b.isLt
  simp only [byteFits, Bool.or_eq_true, decide_eq_true_eq] at h
  apply BitVec.eq_of_toNat_eq
  unfold signByte
  interval_cases w <;> split <;> simp only [BitVec.toNat_ofNat] <;> omega

theorem stripWidth_eq_zero_iff (s : Bytes) : stripWidth s = 0 ↔ ∀ b ∈ s, b = 0 := by
  have hfind : ∀ w, ((List.range 8).map (· + 1)).find? (fun w => s.all (byteFits w)) = some w → w ≠ 0 := by
    intro w hw
    have := List.mem_of_find?_eq_some hw
    simp at this
    omega
  unfold stripWidth
  split
  next hzero => simpa using hzero
  next hnot =>
    refine iff_of_false ?_ (by simpa using hnot)
    cases hw : ((List.range 8).map (· + 1)).find? (fun w => s.all (byteFits w)) with
    | none => simp
    | some w => simpa using hfind w hw

/-- A strip of a width below 8 is of that width. -/
theorem byteFits_of_stripWidth {s : Bytes} (hpos : stripWidth s ≠ 0) (hle : stripWidth s ≤ 7) :
    ∀ b ∈ s, byteFits (stripWidth s) b = true := by
  have hnot : ¬ (s.all (· == 0)) = true := by
    intro hzero
    exact hpos ((stripWidth_eq_zero_iff s).2 (by simpa using hzero))
  rw [stripWidth, if_neg hnot] at hle ⊢
  cases hw : ((List.range 8).map (· + 1)).find? (fun w => s.all (byteFits w)) with
  | none => simp [hw] at hle
  | some w => simpa using List.find?_some hw

theorem length_dictOf_le (strips : List Bytes) : (dictOf strips).length ≤ 16 := by
  unfold dictOf
  refine List.foldlRecOn (motive := fun d : Bytes => d.length ≤ 16) strips _ (Nat.zero_le 16) fun d hd s _ => ?_
  split
  · split <;> assumption
  · exact hd

/-- The entry of a byte of the dictionary is that byte, and its index has four bits. -/
theorem dictByte_dictIndex {d : Bytes} {b : Byte} (hd : d.length ≤ 16) (hb : b ∈ d) :
    dictByte d (dictIndex d b % 2 ^ 4) = .ok b := by
  obtain ⟨i, hi⟩ : ∃ i, d.findIdx? (· == b) = some i := by
    rw [← Option.isSome_iff_exists, List.findIdx?_isSome, List.any_eq_true]
    exact ⟨b, hb, by simp⟩
  obtain ⟨hlt, heq, -⟩ := List.findIdx?_eq_some_iff_getElem.1 hi
  have hindex : dictIndex d b % 2 ^ 4 = i := by
    rw [dictIndex, hi, Option.getD_some, Nat.mod_eq_of_lt (by omega)]
  rw [hindex, dictByte, List.getElem?_eq_getElem hlt]
  simpa using heq

/-! ### Strips -/

/-- What a strip's mode says of it. -/
inductive ModeFits (d s : Bytes) : Nat → Prop where
  | zero (h : ∀ b ∈ s, b = 0) : ModeFits d s 0
  | raw : ModeFits d s 1
  | narrow (hpos : stripWidth s ≠ 0) (hle : stripWidth s ≤ 7) : ModeFits d s 2
  | dict (h : ∀ b ∈ s, b ∈ d) : ModeFits d s 3

/-- The coder's choice of a mode is one that the strip can be stored in. -/
theorem modeFits_stripMode (d s : Bytes) : ModeFits d s (stripMode d s) := by
  simp only [stripMode]
  split
  next hzero => exact .zero ((stripWidth_eq_zero_iff s).1 hzero)
  next hpos =>
    split
    next hnarrow => exact .narrow hpos hnarrow.1
    next =>
      split
      next hdict => exact .dict (by simpa using hdict)
      next => exact .raw

theorem fieldBits_stripFields {d s : Bytes} {m : Nat} (h : ModeFits d s m) (hs : s.length = 64) :
    fieldBits (stripFields d s m) = stripBits s m := by
  cases h with
  | zero => rfl
  | raw => rfl
  | narrow => simp [stripFields, stripBits, fieldBits_map_const, hs, Nat.mul_comm]
  | dict => simp [stripFields, stripBits, fieldBits_map_const, hs]

/-- A strip's fields decode to the strip, and the rest of the stream is left (Strip modes). -/
theorem decodeStrip_stripFields {d s : Bytes} {m : Nat} (h : ModeFits d s m) (hd : d.length ≤ 16) (hs : s.length = 64)
    (r : List (Nat × Nat)) {n : Nat} (hn : stripBits s m ≤ n) :
    decodeStrip d m (packFields (stripFields d s m ++ r), n) = .ok (s, (packFields r, n - stripBits s m)) := by
  cases h with
  | zero hzero =>
    have hrep : List.replicate 64 0 = s := (List.eq_replicate_iff.2 ⟨hs, hzero⟩).symm
    rw [decodeStrip, hrep]
    rfl
  | raw =>
    have hback : leBytes 64 (leNat s) = s := hs ▸ leBytes_leNat s
    simp only [stripBits] at hn
    simp only [decodeStrip, stripFields, stripBits, List.cons_append, List.nil_append]
    rw [takeBits_packFields r hn, leNat_mod_of_bits (by rw [hs])]
    simp [hback]
  | narrow hpos hle =>
    have hfits := byteFits_of_stripWidth hpos hle
    have hwidth : stripWidth s % 2 ^ 3 = stripWidth s := Nat.mod_eq_of_lt (by omega)
    have hfields := takeFields_packFields (f := fun v => .ok (signByte (stripWidth s) v)) (g := fun b => b.toNat)
      (w := stripWidth s) s r (n := n - 3)
      (fun b hb => congrArg _ (signByte_mod_of_byteFits (by omega) hle (hfits b hb)))
      (by simp only [stripBits] at hn; rw [hs]; omega)
    rw [hs] at hfields
    simp only [stripBits] at hn
    simp only [decodeStrip, stripFields, stripBits, List.cons_append]
    rw [takeBits_packFields _ (by omega), hwidth]
    simp only [hpos, if_false, hfields, Nat.sub_sub, Nat.mul_comm]
  | dict hdict =>
    have hfields := takeFields_packFields (f := dictByte d) (g := dictIndex d) (w := 4) s r
      (fun b hb => dictByte_dictIndex hd (hdict b hb)) (n := n) (by simp only [stripBits] at hn; omega)
    rw [hs] at hfields
    simpa [decodeStrip, stripFields, stripBits] using hfields

/-- The payload bits of strips in the modes of a dictionary. -/
def payloadBits (d : Bytes) (strips : List Bytes) : Nat := (strips.map (fun s => stripBits s (stripMode d s))).sum

/-- The payload fields of strips in the modes of a dictionary. -/
def payloadFields (d : Bytes) (strips : List Bytes) : List (Nat × Nat) :=
  strips.flatMap (fun s => stripFields d s (stripMode d s))

theorem payloadBits_cons (d s : Bytes) (strips : List Bytes) :
    payloadBits d (s :: strips) = stripBits s (stripMode d s) + payloadBits d strips := rfl

theorem payloadFields_cons (d s : Bytes) (strips : List Bytes) :
    payloadFields d (s :: strips) = stripFields d s (stripMode d s) ++ payloadFields d strips := rfl

theorem fieldBits_payloadFields {d : Bytes} {strips : List Bytes} (h : ∀ s ∈ strips, s.length = 64) :
    fieldBits (payloadFields d strips) = payloadBits d strips := by
  induction strips with
  | nil => rfl
  | cons s strips ih =>
    rw [payloadFields_cons, payloadBits_cons, fieldBits_append,
      fieldBits_stripFields (modeFits_stripMode d s) (h s (by simp)),
      ih (fun t ht => h t (List.mem_cons_of_mem _ ht))]

/-- The payload decodes to the strips, with nothing left but the unused bits. -/
theorem decodeStrips_payloadFields {d : Bytes} (hd : d.length ≤ 16) {strips : List Bytes}
    (hs : ∀ s ∈ strips, s.length = 64) {n : Nat} (hn : payloadBits d strips ≤ n) :
    decodeStrips d (strips.map (stripMode d)) (packFields (payloadFields d strips), n)
      = .ok (strips.flatten, (0, n - payloadBits d strips)) := by
  induction strips generalizing n with
  | nil => rfl
  | cons s strips ih =>
    rw [payloadBits_cons] at hn ⊢
    rw [List.map_cons, payloadFields_cons, decodeStrips,
      decodeStrip_stripFields (modeFits_stripMode d s) hd (hs s (by simp)) _ (by omega)]
    simp only
    rw [ih (fun t ht => hs t (List.mem_cons_of_mem _ ht)) (by omega), Nat.sub_sub]
    rfl

/-! ### The mode map -/

theorem packFields_div_pow (l : List Nat) (i : Nat) :
    packFields (l.map (fun m => (2, m))) / 4 ^ i = packFields ((l.drop i).map (fun m => (2, m))) := by
  induction l generalizing i with
  | nil => simp [packFields]
  | cons m l ih =>
    cases i with
    | zero => simp
    | succ i =>
      rw [pow_succ', ← Nat.div_div_eq_div_mul, List.map_cons, show (4 : Nat) = 2 ^ 2 from rfl, packFields_cons_div]
      exact ih i

/-- The mode map spells the modes of its strips. -/
theorem stripModes_packFields {l : List Nat} (hlen : l.length = 64) (hlt : ∀ m ∈ l, m < 4) :
    stripModes (packFields (l.map (fun m => (2, m)))) = l := by
  apply List.ext_getElem
  · simp [stripModes, hlen]
  · intro i _ hi
    have hm : l[i] % 4 = l[i] := Nat.mod_eq_of_lt (hlt _ (List.getElem_mem hi))
    simp only [stripModes, List.getElem_map, List.getElem_range, packFields_div_pow, List.drop_eq_getElem_cons hi,
      List.map_cons]
    rw [show (4 : Nat) = 2 ^ 2 from rfl, packFields_cons_mod]
    exact hm

theorem stripMode_lt (d s : Bytes) : stripMode d s < 4 := by
  have hfits := modeFits_stripMode d s
  generalize stripMode d s = m at hfits ⊢
  cases hfits <;> decide

/-! ### The stored block (R177, R181) -/

/-- The header of a stored block of a number of bursts with a dictionary of a size. -/
def blockHead (bursts size : Nat) : Bytes :=
  [0xB1, 0x01, 0x00, BitVec.ofNat 8 bursts, BitVec.ofNat 8 size, 0, 0, 0]

/-- A coded block: its header, mode map, dictionary and payload. -/
def codedBlock (d : Bytes) (strips : List Bytes) (bursts : Nat) : Bytes :=
  blockHead bursts d.length ++ (leBytes 16 (packFields ((strips.map (stripMode d)).map (fun m => (2, m)))) ++
    (d ++ leBytes (64 * bursts - (24 + d.length)) (packFields (payloadFields d strips))))

/-- The bursts that a coded block needs. -/
def codedBursts (d : Bytes) (strips : List Bytes) : Nat := (8 * (24 + d.length) + payloadBits d strips + 511) / 512

/-- The coder stores a block coded where that needs fewer than 64 bursts, and else as it is. -/
theorem encodeBlock_eq (b : Bytes) :
    encodeBlock b = if 64 ≤ codedBursts (dictOf (stripsOf b)) (stripsOf b) then (b, 64)
      else (codedBlock (dictOf (stripsOf b)) (stripsOf b) (codedBursts (dictOf (stripsOf b)) (stripsOf b)),
        codedBursts (dictOf (stripsOf b)) (stripsOf b)) := by
  have hzip : ∀ d (l : List Bytes), l.zip (l.map (stripMode d)) = l.map (fun s => (s, stripMode d s)) := by
    intro d l
    rw [← List.map_prod_left_eq_zip]
  simp only [encodeBlock, codedBursts, payloadBits, codedBlock, payloadFields, blockHead, hzip, List.map_map,
    List.flatMap_map, List.append_assoc, List.sum_eq_foldr]
  rfl

section Coded

variable {d : Bytes} {strips : List Bytes} {bursts : Nat}

theorem length_codedBlock (hroom : 24 + d.length ≤ 64 * bursts) : (codedBlock d strips bursts).length = 64 * bursts := by
  simp only [codedBlock, blockHead, List.length_append, List.length_cons, List.length_nil, length_leBytes]
  omega

theorem fld_codedBlock_of_le {off len : Nat} (h : off + len ≤ 8) :
    fld (codedBlock d strips bursts) off len = fld (blockHead bursts d.length) off len := by
  rw [codedBlock, fld_append_left (by simpa [blockHead] using h)]

theorem headerDamage_codedBlock (hd : d.length ≤ 16) (hpos : 1 ≤ bursts) (hlt : bursts < 64) :
    headerDamage (codedBlock d strips bursts) bursts = none := by
  have hsize : d.length % 256 = d.length := by omega
  have hbursts : bursts % 256 = bursts := by omega
  have hzero : bursts ≠ 0 := by omega
  simp (disch := omega) only [headerDamage, fld_codedBlock_of_le]
  simp [fld, slice, leNat, blockHead, hsize, hbursts, hzero]
  rw [if_neg (Nat.not_lt.2 hd), if_neg (by omega)]

theorem fld_size_codedBlock (hd : d.length ≤ 16) : fld (codedBlock d strips bursts) 4 1 = d.length := by
  have hsize : d.length % 256 = d.length := by omega
  rw [fld_codedBlock_of_le (by omega)]
  simp [fld, slice, leNat, blockHead, hsize]

theorem fld_map_codedBlock (hlen : strips.length = 64) :
    fld (codedBlock d strips bursts) 8 16 = packFields ((strips.map (stripMode d)).map (fun m => (2, m))) := by
  have hbits : fieldBits ((strips.map (stripMode d)).map (fun m => (2, m))) = 128 := by
    rw [fieldBits_map_const, List.length_map, hlen]
  have hlt := packFields_lt ((strips.map (stripMode d)).map (fun m => (2, m)))
  rw [hbits] at hlt
  rw [fld, codedBlock, ← List.append_assoc, slice_append_of_length (by rfl) (length_leBytes _ _), leNat_leBytes_of_lt hlt]

theorem slice_dict_codedBlock : slice (codedBlock d strips bursts) 24 d.length = d := by
  have hhead : (blockHead bursts d.length ++
      leBytes 16 (packFields ((strips.map (stripMode d)).map (fun m => (2, m))))).length = 24 := by
    rw [List.length_append, length_leBytes]
    rfl
  rw [codedBlock, ← List.append_assoc, ← List.append_assoc]
  exact slice_append_of_length hhead rfl

theorem slice_payload_codedBlock :
    slice (codedBlock d strips bursts) (24 + d.length) (64 * bursts - (24 + d.length))
      = leBytes (64 * bursts - (24 + d.length)) (packFields (payloadFields d strips)) := by
  have hhead : (blockHead bursts d.length ++
      leBytes 16 (packFields ((strips.map (stripMode d)).map (fun m => (2, m)))) ++ d).length = 24 + d.length := by
    rw [List.length_append, List.length_append, length_leBytes]
    rfl
  rw [codedBlock, ← List.append_assoc, ← List.append_assoc,
    ← List.append_nil (blockHead bursts d.length ++ _ ++ d ++ _)]
  exact slice_append_of_length hhead (length_leBytes _ _)

/-- The expander makes the strips' bytes of a coded block whose bursts hold its fields. -/
theorem decodeCoded_codedBlock (hd : d.length ≤ 16) (hs : ∀ s ∈ strips, s.length = 64) (hlen : strips.length = 64)
    (hpos : 1 ≤ bursts) (hlt : bursts < 64) (hfit : 8 * (24 + d.length) + payloadBits d strips ≤ 512 * bursts) :
    decodeCoded (codedBlock d strips bursts) bursts = .ok strips.flatten := by
  have hmodes : stripModes (packFields ((strips.map (stripMode d)).map (fun m => (2, m)))) = strips.map (stripMode d) :=
    stripModes_packFields (by rwa [List.length_map]) fun m hm => by
      obtain ⟨s, -, rfl⟩ := List.mem_map.1 hm
      exact stripMode_lt d s
  have hpayload : leNat (leBytes (64 * bursts - (24 + d.length)) (packFields (payloadFields d strips)))
      = packFields (payloadFields d strips) := by
    apply leNat_leBytes_of_lt
    calc packFields (payloadFields d strips) < 2 ^ payloadBits d strips := by
          rw [← fieldBits_payloadFields hs]
          exact packFields_lt _
      _ ≤ 2 ^ (8 * (64 * bursts - (24 + d.length))) := Nat.pow_le_pow_right (by omega) (by omega)
      _ = 256 ^ (64 * bursts - (24 + d.length)) := pow_mul 2 8 _
  have hflat : strips.flatten.length = 4096 := by
    rw [List.length_flatten, List.map_congr_left hs]
    simp [hlen]
  simp only [decodeCoded, headerDamage_codedBlock hd hpos hlt, fld_size_codedBlock hd, fld_map_codedBlock hlen,
    slice_dict_codedBlock, slice_payload_codedBlock, hmodes, hpayload, length_leBytes]
  rw [decodeStrips_payloadFields hd hs (by omega)]
  simp [hflat]

end Coded

/-- Settles O34: a raw block is its slot; a coded one decodes field by field, since what is packed into a stream first
is taken first. -/
theorem blocksDecodeToThemselves : Obligations.BlocksDecodeToThemselves := by
  intro b hb
  have hd := length_dictOf_le (stripsOf b)
  have hs : ∀ s ∈ stripsOf b, s.length = 64 := fun s => length_of_mem_stripsOf hb
  rw [encodeBlock_eq]
  generalize hbursts : codedBursts (dictOf (stripsOf b)) (stripsOf b) = bursts
  rw [codedBursts] at hbursts
  split
  · exact ⟨by simp [decodeBlock, slice_self hb], by simp, Nat.le_refl 64⟩
  · have hlen : (codedBlock (dictOf (stripsOf b)) (stripsOf b) bursts).length = 64 * bursts :=
      length_codedBlock (by omega)
    refine ⟨?_, by omega, by omega⟩
    have hcode : ¬(bursts = 0 ∨ 64 < bursts) ∧ bursts ≠ 64 := by omega
    simp only [decodeBlock, hcode, if_false, slice_self hlen]
    rw [decodeCoded_codedBlock hd hs (by simp [stripsOf]) (by omega) (by omega) (by omega), flatten_stripsOf hb]

end Sys2Proof.Machine
end

section
/-! SUPPORT and PROOFS. What a slot row does with its word, what an alone word of slot C comes to, and the operations of
slot C (08_decks.md, Slot encoding and C-slot operations). -/

namespace Sys2Proof.Machine

open Sys2Proof.Claims

/-! ### Words of a bundle -/

/-- Every row of a slot word hands its word to its slot. -/
theorem exec_of_mem_deckRows {r : DeckRow × Slot × Nat} (hr : r ∈ deckRows) (k : Fin 16) (w : BitVec 64) (last : Bool)
    (s : State) : exec (r.1 k w last) s = slotRow k r.2.1 w last s := by
  revert r
  simp only [deckRows, List.forall_mem_append, List.forall_mem_cons, List.not_mem_nil, false_imp_iff, implies_true,
    and_true]
  and_intros <;> rfl

/-- A word that does not close its bundle fills its slot. -/
theorem slotRow_joins {s : State} {k : Fin 16} (slot : Slot) (w : BitVec 64) (h : issues s k = true) :
    slotRow k slot w false s = .next (s.setDeck k { s.decks.get k with
      bundle := (s.decks.get k).bundle.filter (fun x => !decide (x.slot = slot)) ++ [⟨slot, w⟩] }) := by
  simp [slotRow, h]

theorem slotRow_of_not_issues {s : State} {k : Fin 16} (slot : Slot) (w : BitVec 64) (last : Bool)
    (h : issues s k = false) : slotRow k slot w last s = .next s := by
  simp [slotRow, h]

/-- Settles O4: every row hands its word to its slot, where it joins or is not taken. -/
theorem wordsJoinTheBundle : Obligations.WordsJoinTheBundle := by
  intro r hr k w s
  simp only [exec_of_mem_deckRows hr]
  exact ⟨slotRow_joins r.2.1 w, fun h last => slotRow_of_not_issues r.2.1 w last h⟩

/-! ### A deck whose bundle has been issued -/

theorem decks_get_issued (s : State) (k : Fin 16) :
    (issued s k).decks.get k = { s.decks.get k with pc := (s.decks.get k).pc + 32, bundle := [], stalled := false } := by
  simp [issued, modDeck]

theorem modDeck_eq (s : State) (k : Fin 16) (f : Deck → Deck) : modDeck s k f = s.setDeck k (f (s.decks.get k)) := rfl

/-- Changes that agree on the deck that was issued are one change. -/
theorem modDeck_issued_congr {s : State} {k : Fin 16} {f g : Deck → Deck}
    (h : f { s.decks.get k with pc := (s.decks.get k).pc + 32, bundle := [], stalled := false }
      = g { s.decks.get k with pc := (s.decks.get k).pc + 32, bundle := [], stalled := false }) :
    modDeck (issued s k) k f = modDeck (issued s k) k g := by
  rw [modDeck_eq, modDeck_eq, decks_get_issued, h]

/-- A deck whose bundle is one word. -/
def Deck.holding (d : Deck) (slot : Slot) (w : BitVec 64) : Deck := { d with bundle := [⟨slot, w⟩] }

section Holding

variable (d : Deck) (slot : Slot) (w : BitVec 64) (n : Nat)

@[simp] theorem Deck.sGet_holding : (d.holding slot w).sGet n = d.sGet n := rfl
@[simp] theorem Deck.sPoison_holding : (d.holding slot w).sPoison n = d.sPoison n := rfl
@[simp] theorem Deck.vGet_holding : (d.holding slot w).vGet n = d.vGet n := rfl
@[simp] theorem Deck.vPoison_holding : (d.holding slot w).vPoison n = d.vPoison n := rfl
@[simp] theorem Deck.pGet_holding : (d.holding slot w).pGet n = d.pGet n := rfl
@[simp] theorem Deck.pPoison_holding : (d.holding slot w).pPoison n = d.pPoison n := rfl
@[simp] theorem predOn_holding (x : BitVec 64) : predOn (d.holding slot w) x = predOn d x := rfl
@[simp] theorem branchTarget_holding (x : BitVec 64) : branchTarget (d.holding slot w) x = branchTarget d x := rfl
@[simp] theorem Deck.stream_holding : (d.holding slot w).stream n = d.stream n := rfl
@[simp] theorem Deck.store_holding : (d.holding slot w).store = d.store := rfl
@[simp] theorem Deck.logical_holding : (d.holding slot w).logical = d.logical := rfl
@[simp] theorem Deck.layer_holding : (d.holding slot w).layer = d.layer := rfl
@[simp] theorem Deck.dispatched_holding : (d.holding slot w).dispatched = d.dispatched := rfl
@[simp] theorem Deck.pc_holding : (d.holding slot w).pc = d.pc := rfl

end Holding

section Alone

variable {row : DeckRow} {slot : Slot} {code : Nat} {op : SlotOp} {k : Fin 16} {w : BitVec 64} {s t : State}

/-- An alone word whose operation has effects, by the row that brings it. -/
theorem exec_row_ok {ws : List RegName} {act : State → State}
    (hrow : exec (row k w true) s = slotRow k slot w true s) (hop : opOf slot code = some op)
    (hcode : wordSpells code w = true) (halone : alone s k slot w = true)
    (hr : op k ((s.decks.get k).holding slot w) w (holdingWord s k slot w) = (t, .ok ws act)) :
    exec (row k w true) s = .next (act (issued t k)) := by
  rw [hrow]
  exact slotRow_ok k slot code w s t op ws act ((wordSpells_iff code w).1 hcode) halone hop hr

/-- An alone word whose operation has effects and leaves the state as it found it. -/
theorem exec_row_pure {ws : List RegName} {act : State → State}
    (hrow : exec (row k w true) s = slotRow k slot w true s) (hop : opOf slot code = some op)
    (hcode : wordSpells code w = true) (halone : alone s k slot w = true)
    (hr : op k ((s.decks.get k).holding slot w) w (holdingWord s k slot w) = (holdingWord s k slot w, .ok ws act)) :
    exec (row k w true) s = .next (act (issued s k)) := by
  rw [exec_row_ok hrow hop hcode halone hr, issued_holdingWord]

end Alone

/-! ### The predicate of a slot (R191) -/

section Predicate

variable {d : Deck} {w : BitVec 64}

theorem dataOn_of_enabled (mk : Bool → SlotResult) (hon : predOn d w = true) (hclean : d.pPoison (fPred w) = false) :
    dataOn d w true mk = mk false := by
  simp [dataOn, hon, hclean]

theorem dataOn_of_off (legal : Bool) (mk : Bool → SlotResult) (hoff : predOn d w = false)
    (hclean : d.pPoison (fPred w) = false) : dataOn d w legal mk = .nothing := by
  simp [dataOn, hoff, hclean]

theorem ctlOn_of_enabled (r : SlotResult) (hon : predOn d w = true) (hclean : d.pPoison (fPred w) = false) :
    ctlOn d w true r = r := by
  simp [ctlOn, hon, hclean]

theorem ctlOn_of_off (legal : Bool) (r : SlotResult) (hoff : predOn d w = false)
    (hclean : d.pPoison (fPred w) = false) : ctlOn d w legal r = .nothing := by
  simp [ctlOn, hoff, hclean]

end Predicate

/-! ### Slot C -/

section SlotC

variable {row : DeckRow} {code : Nat} {k : Fin 16} {w : BitVec 64} {s : State}

/-- A C-slot row whose operation writes a scalar with values that the issue of the bundle leaves. -/
theorem exec_writeS {op : SlotOp} {n : Nat} {v : Deck → BitVec 64} {bad : Deck → Bool}
    (hrow : exec (row k w true) s = slotRow k .c w true s) (hop : opOf .c code = some op)
    (hcode : wordSpells code w = true) (halone : alone s k .c w = true)
    (hr : op k ((s.decks.get k).holding .c w) w (holdingWord s k .c w)
      = (holdingWord s k .c w, writeS k n (v (s.decks.get k)) (bad (s.decks.get k))))
    (hv : v ((issued s k).decks.get k) = v (s.decks.get k))
    (hbad : bad ((issued s k).decks.get k) = bad (s.decks.get k)) :
    exec (row k w true) s = .next (modDeck (issued s k) k (fun d => d.sSet n (v d) (bad d))) := by
  rw [exec_row_pure hrow hop hcode halone hr, modDeck_eq, modDeck_eq, hv, hbad]

/-- A row of an operation on two scalars. -/
theorem exec_scalarR {f : BitVec 64 → BitVec 64 → BitVec 64}
    (hrow : exec (row k w true) s = slotRow k .c w true s) (hop : opOf .c code = some (scalarR f))
    (hcode : wordSpells code w = true) (hform : rForm w 0 = true) (halone : alone s k .c w = true)
    (henabled : enabled s k w = true) :
    exec (row k w true) s = .next (modDeck (issued s k) k (fun d =>
      d.sSet (fD w) (f (d.sGet (fA w)) (d.sGet (fB w))) (d.sPoison (fA w) || d.sPoison (fB w)))) := by
  obtain ⟨hon, hclean⟩ := (enabled_iff s k w).1 henabled
  refine exec_writeS (v := fun d => f (d.sGet (fA w)) (d.sGet (fB w))) (bad := fun d => d.sPoison (fA w) || d.sPoison (fB w))
    hrow hop hcode halone ?_ ?_ ?_
  · rw [scalarR, hform, dataOn_of_enabled _ (by simpa using hon) (by simpa using hclean)]
    simp [pureSlot]
  · simp only [decks_get_issued]; rfl
  · simp only [decks_get_issued]; rfl

/-- A row of an operation on a scalar and the immediate. -/
theorem exec_scalarI {f : BitVec 64 → BitVec 64 → BitVec 64}
    (hrow : exec (row k w true) s = slotRow k .c w true s) (hop : opOf .c code = some (scalarI f))
    (hcode : wordSpells code w = true) (hform : iForm w 0 = true) (halone : alone s k .c w = true)
    (henabled : enabled s k w = true) :
    exec (row k w true) s = .next (modDeck (issued s k) k (fun d =>
      d.sSet (fD w) (f (d.sGet (fA w)) (fImm w)) (d.sPoison (fA w)))) := by
  obtain ⟨hon, hclean⟩ := (enabled_iff s k w).1 henabled
  refine exec_writeS (v := fun d => f (d.sGet (fA w)) (fImm w)) (bad := fun d => d.sPoison (fA w))
    hrow hop hcode halone ?_ ?_ ?_
  · rw [scalarI, hform, dataOn_of_enabled _ (by simpa using hon) (by simpa using hclean)]
    simp [pureSlot]
  · simp only [decks_get_issued]; rfl
  · simp only [decks_get_issued]; rfl

end SlotC

/-- Every row of an operation on two scalars is a C-slot row, and its code names that operation. -/
theorem row_of_mem_scalarRows {r : DeckRow × Nat × (BitVec 64 → BitVec 64 → BitVec 64)} (hr : r ∈ scalarRows) :
    (∀ k w s, exec (r.1 k w true) s = slotRow k .c w true s) ∧ opOf .c r.2.1 = some (scalarR r.2.2) := by
  revert r
  simp only [scalarRows, List.forall_mem_cons, List.not_mem_nil, false_imp_iff, implies_true, and_true]
  and_intros <;> intros <;> rfl

/-- Every row of an operation on a scalar and the immediate is a C-slot row, and its code names that operation. -/
theorem row_of_mem_immediateRows {r : DeckRow × Nat × (BitVec 64 → BitVec 64 → BitVec 64)} (hr : r ∈ immediateRows) :
    (∀ k w s, exec (r.1 k w true) s = slotRow k .c w true s) ∧ opOf .c r.2.1 = some (scalarI r.2.2) := by
  revert r
  simp only [immediateRows, List.forall_mem_cons, List.not_mem_nil, false_imp_iff, implies_true, and_true]
  and_intros <;> intros <;> rfl

/-- The scalar operations, row by row of their tables. -/
theorem scalarOperations : ScalarOperations := by
  constructor
  · intro r hr k w s
    obtain ⟨hrow, hop⟩ := row_of_mem_scalarRows hr
    exact exec_scalarR (hrow k w s) hop
  · intro r hr k w s
    obtain ⟨hrow, hop⟩ := row_of_mem_immediateRows hr
    exact exec_scalarI (hrow k w s) hop

/-! ### Control operations -/

/-- The codes of a slot are those of its table. -/
theorem slotCodes_eq (slot : Slot) : slotCodes slot = (slotTable slot).map (·.1) := by
  cases slot <;> rfl

theorem opOf_eq_none {slot : Slot} {code : Nat} (h : (slotCodes slot).contains code = false) : opOf slot code = none := by
  rw [opOf, Option.map_eq_none_iff, List.find?_eq_none]
  intro p hp
  simp only [decide_eq_true_eq]
  rintro rfl
  have hmem : p.1 ∈ slotCodes slot := by
    rw [slotCodes_eq]
    exact List.mem_map_of_mem hp
  simp [hmem] at h

/-- A word whose code names no operation of its slot raises ILLEGAL (R190). -/
theorem evalSlots_illegal {slot : Slot} {w : BitVec 64} (k : Fin 16) (d : Deck) (s : State)
    (h : opOf slot (fOp w) = none) :
    evalSlots k d [⟨slot, w⟩] [.c, .m, .v, .x] s = (s, .raise (slotNumber slot) excIllegal 0) := by
  cases slot <;> simp [evalSlots, slotWord, h, opOf_zero, opNop_zero, SlotResult.nothing]

theorem slotRow_illegal {k : Fin 16} {slot : Slot} {w : BitVec 64} {s : State} (ha : alone s k slot w = true)
    (h : opOf slot (fOp w) = none) :
    slotRow k slot w true s = .next (raiseDeck k (slotNumber slot) excIllegal 0 (holdingWord s k slot w)) := by
  rw [slotRow_issues k slot w s ha]
  simp only [alone, Bool.and_eq_true, Bool.not_eq_true'] at ha
  obtain ⟨⟨⟨-, hfetch⟩, hwait⟩, hinjected⟩ := ha
  have heval := evalSlots_illegal k ((s.decks.get k).holding slot w) (holdingWord s k slot w) h
  simp only [holdingWord, Deck.holding] at heval
  simp only [issue, holdingWord, decks_get_setDeck_self, hfetch, hwait]
  rw [parityCheck_none _ _ _ (by rw [decks_get_setDeck_self]; exact hinjected)]
  simp [heval]

/-- An alone word whose operation does nothing only issues its bundle. -/
theorem exec_row_nothing {row : DeckRow} {slot : Slot} {code : Nat} {op : SlotOp} {k : Fin 16} {w : BitVec 64} {s : State}
    (hrow : exec (row k w true) s = slotRow k slot w true s) (hop : opOf slot code = some op)
    (hcode : wordSpells code w = true) (halone : alone s k slot w = true)
    (hr : op k ((s.decks.get k).holding slot w) w (holdingWord s k slot w) = (holdingWord s k slot w, .nothing)) :
    exec (row k w true) s = .next (issued s k) :=
  exec_row_pure hrow hop hcode halone hr

/-- An operation that does nothing while its predicate is off (R191). -/
def SkipsOff (op : SlotOp) : Prop :=
  ∀ (k : Fin 16) (d : Deck) (w : BitVec 64) (s : State), predOn d w = false → d.pPoison (fPred w) = false →
    op k d w s = (s, .nothing)

theorem skipsOff_of_dataOn {op : SlotOp} (h : ∀ k d w s, ∃ legal mk, op k d w s = (s, dataOn d w legal mk)) :
    SkipsOff op := by
  intro k d w s hoff hclean
  obtain ⟨legal, mk, hop⟩ := h k d w s
  rw [hop, dataOn_of_off _ _ hoff hclean]

theorem skipsOff_of_ctlOn {op : SlotOp} (h : ∀ k d w s, ∃ legal r, op k d w s = (s, ctlOn d w legal r)) :
    SkipsOff op := by
  intro k d w s hoff hclean
  obtain ⟨legal, r, hop⟩ := h k d w s
  rw [hop, ctlOn_of_off _ _ hoff hclean]

/-- Every operation of slot C, a data operation or one of control, does nothing while its predicate is off. -/
theorem skipsOff_of_mem_cTable {p : Nat × SlotOp} (hp : p ∈ cTable) : SkipsOff p.2 := by
  revert p
  simp only [cTable, List.forall_mem_cons, List.not_mem_nil, false_imp_iff, implies_true, and_true]
  and_intros
  all_goals first
    | exact skipsOff_of_dataOn fun _ _ _ _ => ⟨_, _, rfl⟩
    | exact skipsOff_of_ctlOn fun _ _ _ _ => ⟨_, _, rfl⟩

theorem skipsOff_of_opOf {code : Nat} {op : SlotOp} (h : opOf .c code = some op) : SkipsOff op := by
  obtain ⟨p, hp, rfl⟩ := Option.map_eq_some_iff.1 h
  exact skipsOff_of_mem_cTable (List.mem_of_find?_eq_some hp)

/-- The code of every row names an operation of its slot. -/
theorem opOf_isSome_of_mem_deckRows {r : DeckRow × Slot × Nat} (hr : r ∈ deckRows) : (opOf r.2.1 r.2.2).isSome := by
  revert r
  simp only [deckRows, List.forall_mem_append, List.forall_mem_cons, List.not_mem_nil, false_imp_iff, implies_true,
    and_true]
  and_intros <;> rfl

/-- A C-slot row whose predicate is off (R191). -/
theorem exec_of_predOff {r : DeckRow × Slot × Nat} (hr : r ∈ deckRows) (hslot : r.2.1 = .c) {k : Fin 16} {w : BitVec 64}
    {s : State} (hcode : wordSpells r.2.2 w = true) (halone : alone s k .c w = true)
    (hoff : predOn (s.decks.get k) w = false) (hclean : (s.decks.get k).pPoison (fPred w) = false) :
    exec (r.1 k w true) s = .next (issued s k) := by
  obtain ⟨op, hop⟩ := Option.isSome_iff_exists.1 (opOf_isSome_of_mem_deckRows hr)
  rw [hslot] at hop
  have hrow := hslot ▸ exec_of_mem_deckRows hr k w true s
  exact exec_row_nothing hrow hop hcode halone (skipsOff_of_opOf hop _ _ _ _ (by simpa using hoff) (by simpa using hclean))

section Enabled

variable {k : Fin 16} {w : BitVec 64} {s : State}

theorem exec_nop {slot : Slot} (halone : alone s k slot w = true) (hcode : wordSpells 0 w = true)
    (hform : iForm w 0 = true) (henabled : enabled s k w = true) : exec (.nop k slot w true) s = .next (issued s k) := by
  obtain ⟨hon, hclean⟩ := (enabled_iff s k w).1 henabled
  refine exec_row_nothing (row := fun k w last => .nop k slot w last) (op := opNop) rfl (by cases slot <;> rfl) hcode
    halone ?_
  rw [opNop, hform, ctlOn_of_enabled _ (by simpa using hon) (by simpa using hclean)]
  rfl

/-- A C-slot row of an enabled control operation of legal form does what its operation does. -/
theorem exec_ctl {row : DeckRow} {code : Nat} {op : SlotOp} {ws : List RegName} {act : State → State}
    (hrow : exec (row k w true) s = slotRow k .c w true s) (hop : opOf .c code = some op)
    (hcode : wordSpells code w = true) (halone : alone s k .c w = true) (henabled : enabled s k w = true)
    (hr : op k ((s.decks.get k).holding .c w) w (holdingWord s k .c w)
      = (holdingWord s k .c w, ctlOn ((s.decks.get k).holding .c w) w true (.ok ws act))) :
    exec (row k w true) s = .next (act (issued s k)) := by
  obtain ⟨hon, hclean⟩ := (enabled_iff s k w).1 henabled
  refine exec_row_pure (ws := ws) hrow hop hcode halone ?_
  rw [hr, ctlOn_of_enabled _ (by simpa using hon) (by simpa using hclean)]

/-- A C-slot row of an enabled data operation of legal form does what its operation does. -/
theorem exec_data {row : DeckRow} {code : Nat} {op : SlotOp} {legal : Bool} {mk : Bool → SlotResult}
    {ws : List RegName} {act : State → State}
    (hrow : exec (row k w true) s = slotRow k .c w true s) (hop : opOf .c code = some op)
    (hcode : wordSpells code w = true) (halone : alone s k .c w = true) (henabled : enabled s k w = true)
    (hr : op k ((s.decks.get k).holding .c w) w (holdingWord s k .c w)
      = (holdingWord s k .c w, dataOn ((s.decks.get k).holding .c w) w legal mk)) (hlegal : legal = true)
    (hmk : mk false = .ok ws act) :
    exec (row k w true) s = .next (act (issued s k)) := by
  obtain ⟨hon, hclean⟩ := (enabled_iff s k w).1 henabled
  refine exec_row_pure (ws := ws) hrow hop hcode halone ?_
  rw [hr, hlegal, dataOn_of_enabled _ (by simpa using hon) (by simpa using hclean), hmk]

theorem exec_br (halone : alone s k .c w = true) (hcode : wordSpells 0x18 w = true) (hform : iForm w 1 = true)
    (henabled : enabled s k w = true) (hclean : (s.decks.get k).sPoison (fA w) = false) :
    exec (.br k w true) s = .next (
      if xor (!decide ((s.decks.get k).sGet (fA w) = 0)) (bitOf (fFl w) 0) then
        modDeck (issued s k) k (fun d => { d with pc := branchTarget (s.decks.get k) w })
      else issued s k) := by
  have hgo : ∀ (taken : Bool) (pc : Nat), (if taken then goTo k pc else .nothing)
      = .ok [] (fun t => if taken then modDeck t k (fun d => { d with pc := pc }) else t) := by
    rintro (_ | _) _ <;> rfl
  refine exec_ctl (row := .br) (op := opBr) (ws := [])
    (act := fun t => if xor (!decide ((s.decks.get k).sGet (fA w) = 0)) (bitOf (fFl w) 0) then
      modDeck t k (fun d => { d with pc := branchTarget (s.decks.get k) w }) else t)
    rfl rfl hcode halone henabled ?_
  rw [← hgo]
  simp only [opBr, pureSlot, hform, Deck.sPoison_holding, hclean, Bool.false_eq_true, if_false]
  rfl

theorem exec_jr (halone : alone s k .c w = true) (hcode : wordSpells 0x1B w = true) (hform : rForm w 0 = true)
    (henabled : enabled s k w = true) (hclean : (s.decks.get k).sPoison (fA w) = false)
    (hfetch : fetchable ((s.decks.get k).sGet (fA w)).toNat = true) :
    exec (.jr k w true) s
      = .next (modDeck (issued s k) k (fun d => { d with pc := ((s.decks.get k).sGet (fA w)).toNat })) := by
  refine exec_ctl (row := .jr) (op := opJr) (ws := [])
    (act := fun t => modDeck t k (fun d => { d with pc := ((s.decks.get k).sGet (fA w)).toNat }))
    rfl rfl hcode halone henabled ?_
  simp [opJr, pureSlot, hform, hclean, hfetch, goTo]

end Enabled

/-- The control operations, NOP and the words that name no operation. -/
theorem controlOperations : ControlOperations := by
  refine ⟨fun k slot w s halone => ⟨exec_nop halone, fun hcode => ?_⟩, fun k w s halone =>
    ⟨exec_br halone, fun hcode hform henabled => ?_, fun hcode hform henabled => ?_, exec_jr halone,
      fun hcode hform henabled => ?_, fun r hr hslot hcode hoff hclean => exec_of_predOff hr hslot hcode halone hoff hclean⟩⟩
  · exact slotRow_illegal halone (opOf_eq_none hcode)
  · refine exec_ctl (row := .jmp) (op := opJmp) (ws := [])
      (act := fun t => modDeck t k (fun d => { d with pc := branchTarget (s.decks.get k) w }))
      rfl rfl hcode halone henabled ?_
    simp [opJmp, pureSlot, hform, goTo]
  · refine exec_ctl (row := .call) (op := opCall) (ws := [.s (fD w)])
      (act := fun t => modDeck t k (fun d =>
        { d.sSet (fD w) (BitVec.ofNat 64 ((s.decks.get k).pc + 32)) false with pc := branchTarget (s.decks.get k) w }))
      rfl rfl hcode halone henabled ?_
    simp [opCall, pureSlot, hform]
  · refine exec_ctl (row := .doneOp) (op := opDone) (ws := [])
      (act := fun t => modDeck t k (fun d => { d with streams := Vector.replicate 4 none, ending := true }))
      rfl rfl hcode halone henabled ?_
    simp [opDone, pureSlot, hform, stopStreams]

/-! ### Predicate operations and GETS -/

theorem writeP_eq {k : Fin 16} {n : Nat} (v : BitVec 64) (bad : Bool) (hpos : 1 ≤ n) (hlt : n < 8) :
    writeP k n v bad = .ok [.p n] (fun s => modDeck s k (fun d => d.pSet n v bad)) := by
  rw [writeP, if_neg (by omega)]

/-- The values that GETS names (R187). -/
theorem getsValue_holdingWord {s : State} {k : Fin 16} {w : BitVec 64} {n : Nat} : n < 5 →
    getsValue (holdingWord s k .c w) ((s.decks.get k).holding .c w) n = some (match n with
      | 0 => (s.decks.get k).logical
      | 1 => s.turns % 2 ^ 32
      | 2 => (s.turn.map (·.rows)).getD 0
      | 3 => (s.decks.get k).layer
      | _ => (s.decks.get k).dispatched) := by
  intro hn
  interval_cases n <;> rfl

section Predicates

variable {row : DeckRow} {code : Nat} {op : SlotOp} {n : Nat} {v : BitVec 64} {bad : Bool} {k : Fin 16} {w : BitVec 64}
  {s : State}

/-- A row of an enabled data operation that writes a predicate. -/
theorem exec_writeP {legal : Bool} {mk : Bool → SlotResult} (hrow : exec (row k w true) s = slotRow k .c w true s)
    (hop : opOf .c code = some op) (hcode : wordSpells code w = true) (halone : alone s k .c w = true)
    (henabled : enabled s k w = true) (hpos : 1 ≤ n) (hlt : n < 8)
    (hr : op k ((s.decks.get k).holding .c w) w (holdingWord s k .c w)
      = (holdingWord s k .c w, dataOn ((s.decks.get k).holding .c w) w legal mk)) (hlegal : legal = true)
    (hmk : mk false = writeP k n v bad) :
    exec (row k w true) s = .next (modDeck (issued s k) k (fun d => d.pSet n v bad)) :=
  exec_data (act := fun t => modDeck t k (fun d => d.pSet n v bad)) hrow hop hcode halone henabled hr hlegal
    (hmk.trans (writeP_eq v bad hpos hlt))

/-- A row of an enabled data operation that writes a scalar. -/
theorem exec_writeS_data {legal : Bool} {mk : Bool → SlotResult} (hrow : exec (row k w true) s = slotRow k .c w true s)
    (hop : opOf .c code = some op) (hcode : wordSpells code w = true) (halone : alone s k .c w = true)
    (henabled : enabled s k w = true)
    (hr : op k ((s.decks.get k).holding .c w) w (holdingWord s k .c w)
      = (holdingWord s k .c w, dataOn ((s.decks.get k).holding .c w) w legal mk)) (hlegal : legal = true)
    (hmk : mk false = writeS k n v bad) :
    exec (row k w true) s = .next (modDeck (issued s k) k (fun d => d.sSet n v bad)) :=
  exec_data (act := fun t => modDeck t k (fun d => d.sSet n v bad)) hrow hop hcode halone henabled hr hlegal hmk

end Predicates

/-- The predicate operations and GETS, each by what its operation writes. -/
theorem predicateOperations : PredicateOperations := by
  rintro k w s halone henabled d rfl
  refine ⟨fun hcode hform hd hd' => ?_, fun hcode hform hd hd' ha hb => ?_, fun hcode hform hd hd' ha hb => ?_,
    fun hcode hform hd hd' ha => ?_, fun hcode hform ha => ?_, fun hcode hform hd hd' => ?_,
    fun hcode hform n hn himm => ?_⟩
  · exact exec_writeP (row := .pset) rfl rfl hcode halone henabled hd hd' rfl hform rfl
  · exact exec_writeP (row := .pand) rfl rfl hcode halone henabled hd hd' rfl (by simp [hform, ha, hb]) rfl
  · exact exec_writeP (row := .por) rfl rfl hcode halone henabled hd hd' rfl (by simp [hform, ha, hb]) rfl
  · exact exec_writeP (row := .pnot) rfl rfl hcode halone henabled hd hd' rfl (by simp [hform, ha])
      (by simp)
  · exact exec_writeS_data (row := .pget) rfl rfl hcode halone henabled rfl (by simp [hform, ha]) rfl
  · exact exec_writeP (row := .pput) rfl rfl hcode halone henabled hd hd' rfl hform rfl
  · refine exec_writeS_data (row := .gets) rfl rfl hcode halone henabled rfl ?_ ?_
    · simp [himm, getsValue_holdingWord hn, hform]
    · simp only [himm, getsValue_holdingWord hn, Option.getD_some] <;> rfl

/-- Settles O37: the rows of slot C hand their word to its operation, which the form and the predicate let act. -/
theorem scalarSlotOperations : Obligations.ScalarSlotOperations :=
  ⟨scalarOperations, controlOperations, predicateOperations⟩

end Sys2Proof.Machine
end

section
/-! SUPPORT and PROOFS. The elements of a vector register that is packed from elements, what a row of slot V writes, and
the operations of slot V (08_decks.md, V-slot operations; R165 to R168, R191, R192). -/

namespace Sys2Proof.Machine

open Sys2Proof.Claims

/-! ### Packed elements -/

/-- The number that elements spell in a base: those of a width, or the marks of theirs. -/
theorem sum_zipIdx_eq_ofDigits {α : Type} (b : Nat) (g : α → Nat) (l : List α) :
    (l.zipIdx.map (fun p => g p.1 * b ^ p.2)).sum = Nat.ofDigits b (l.map g) := by
  rw [Nat.ofDigits_eq_sum_mapIdx, List.mapIdx_eq_zipIdx_map, List.zipIdx_map, List.map_map]
  rfl

/-- A digit of the number that digits spell. -/
theorem ofDigits_div_pow_mod {b i : Nat} {l : List Nat} (hb : 0 < b) (hl : ∀ x ∈ l, x < b) (hi : i < l.length) :
    Nat.ofDigits b l / b ^ i % b = l[i] := by
  rw [Nat.ofDigits_div_pow_eq_ofDigits_drop i hb l hl, List.drop_eq_getElem_cons hi, Nat.ofDigits_cons,
    Nat.add_mul_mod_self_left]
  exact Nat.mod_eq_of_lt (hl _ (List.getElem_mem hi))

/-- A field of a word of n bits is that of the number it was made of. -/
theorem ofNat_div_mod {n a b : Nat} (v : Nat) (h : a + b ≤ n) :
    (BitVec.ofNat n v).toNat / 2 ^ a % 2 ^ b = v / 2 ^ a % 2 ^ b := by
  apply Nat.eq_of_testBit_eq
  intro i
  simp only [BitVec.toNat_ofNat, Nat.testBit_mod_two_pow, Nat.testBit_div_two_pow]
  by_cases hi : i < b
  · simp [show i + a < n by omega]
  · simp [hi]

/-- The elements of a width that a register holds end within its 64 bytes. -/
theorem width_mul_add_le {w i : Nat} (h : i < 64 / w) : w * i + w ≤ 64 := by
  calc w * i + w = w * (i + 1) := by ring
    _ ≤ w * (64 / w) := Nat.mul_le_mul_left _ h
    _ ≤ 64 := Nat.mul_div_le 64 w

theorem elem_packElems {w i : Nat} {l : List Nat} (hi : i < l.length) (hw : i < 64 / w) :
    elem (packElems w l) w i = l[i] % 2 ^ (8 * w) := by
  have hbits : 8 * w * i + 8 * w ≤ 512 := by
    have := width_mul_add_le hw
    rw [Nat.mul_assoc]
    omega
  have hpow : ∀ j, 2 ^ (8 * w * j) = (2 ^ (8 * w)) ^ j := fun j => pow_mul 2 (8 * w) j
  rw [elem, packElems, ofNat_div_mod _ hbits]
  simp only [hpow]
  rw [sum_zipIdx_eq_ofDigits (2 ^ (8 * w)) (fun x => x % 2 ^ (8 * w)), ofDigits_div_pow_mod (by positivity)]
  · exact List.getElem_map _
  · intro x hx
    obtain ⟨y, -, rfl⟩ := List.mem_map.1 hx
    exact Nat.mod_lt _ (by positivity)
  · simpa using hi

/-- The marks of an element's bytes in a packed mark word. -/
theorem packMarks_div_mod {w i : Nat} {l : List Bool} (hi : i < l.length) (hw : i < 64 / w) :
    (packMarks w l).toNat / 2 ^ (w * i) % 2 ^ w = b2n l[i] * (2 ^ w - 1) := by
  have hpow : ∀ j, 2 ^ (w * j) = (2 ^ w) ^ j := fun j => pow_mul 2 w j
  rw [packMarks, ofNat_div_mod _ (width_mul_add_le hw)]
  simp only [hpow]
  rw [sum_zipIdx_eq_ofDigits (2 ^ w) (fun x => b2n x * (2 ^ w - 1)), ofDigits_div_pow_mod (by positivity)]
  · exact List.getElem_map _
  · intro x hx
    obtain ⟨y, -, rfl⟩ := List.mem_map.1 hx
    have : 0 < 2 ^ w := by positivity
    cases y <;> simp [b2n]
  · simpa using hi

theorem elemBad_packMarks {w i : Nat} {l : List Bool} (hpos : 0 < w) (hi : i < l.length) (hw : i < 64 / w) :
    elemBad (packMarks w l) w i = l[i] := by
  have hne : 2 ^ w - 1 ≠ 0 := by
    have := Nat.one_lt_two_pow hpos.ne'
    omega
  rw [elemBad, packMarks_div_mod hi hw]
  cases l[i] <;> simp [b2n, hne]

/-- Every byte of an element has the element's mark. -/
theorem getLsbD_packMarks {w i j : Nat} {l : List Bool} (hi : i < l.length) (hw : i < 64 / w) (hj : j < w) :
    (packMarks w l).getLsbD (w * i + j) = l[i] := by
  have h := congrArg (Nat.testBit · j) (packMarks_div_mod hi hw)
  simp only [Nat.testBit_mod_two_pow, Nat.testBit_div_two_pow, hj, decide_true, Bool.true_and] at h
  rw [BitVec.getLsbD, Nat.add_comm, h]
  cases l[i]
  · simp [b2n]
  · simp [b2n, Nat.testBit_two_pow_sub_one, hj]

theorem vElems_eq (v : BitVec 512) (w : Nat) : vElems v w = (List.range (64 / w)).map (elem v w) := rfl

theorem vBadElems_eq (m : BitVec 64) (w : Nat) : vBadElems m w = (List.range (64 / w)).map (elemBad m w) := rfl

theorem elem_mod (v : BitVec 512) (w i : Nat) : elem v w i % 2 ^ (8 * w) = elem v w i := Nat.mod_mod _ _

theorem keepOff_map {α β : Type} (l : List β) (on : β → Bool) (old new : β → α) :
    keepOff (l.map on) (l.map old) (l.map new) = l.map (fun x => if on x then new x else old x) := by
  simp [keepOff, List.zip_map', List.map_map, Function.comp_def]

theorem zipWith_map_same {α β γ δ : Type} (f : α → β → γ) (g : δ → α) (h : δ → β) (l : List δ) :
    List.zipWith f (l.map g) (l.map h) = l.map (fun x => f (g x) (h x)) := by
  rw [List.zipWith_map, List.zipWith_self]

/-- Writing as many elements as the register holds writes those that the predicate enables. -/
theorem writeElems_map (k : Fin 16) {d : Deck} {w : BitVec 64} (width : Nat) (f : Nat → Nat) (g : Nat → Bool)
    (hclean : d.pPoison (fPred w) = false) :
    writeElems k d w width ((List.range (64 / width)).map f) ((List.range (64 / width)).map g)
      = writeV k (fD w)
          (packElems width ((List.range (64 / width)).map (fun n =>
            if (d.pGet (fPred w)).getLsbD (width * n) then f n else elem (d.vGet (fD w)) width n)))
          (packMarks width ((List.range (64 / width)).map (fun n =>
            if (d.pGet (fPred w)).getLsbD (width * n) then g n else elemBad (d.vPoison (fD w)) width n))) := by
  simp only [writeElems, vElems_eq, vBadElems_eq, vEnabled, hclean, Bool.or_false, List.map_map, keepOff_map,
    Bool.false_eq_true, if_false, Function.comp_def]

/-! ### Rows of slot V -/

section Rows

variable {row : DeckRow} {code width : Nat} {op : SlotOp} {k : Fin 16} {w : BitVec 64} {s : State}

/-- A V-slot row whose operation writes elements writes those that the predicate enables (R191). -/
theorem writesVector_of_writeElems {f : Nat → Nat} {g : Nat → Bool} (hwidth : 0 < width)
    (hrow : exec (row k w true) s = slotRow k .v w true s) (hop : opOf .v code = some op)
    (hcode : wordSpells code w = true) (halone : alone s k .v w = true)
    (hclean : (s.decks.get k).pPoison (fPred w) = false)
    (hr : op k ((s.decks.get k).holding .v w) w (holdingWord s k .v w)
      = (holdingWord s k .v w, writeElems k ((s.decks.get k).holding .v w) w width
          ((List.range (64 / width)).map f) ((List.range (64 / width)).map g))) :
    writesVector k w s (row k w true) width f g := by
  rw [writeElems_map k width f g (by simpa using hclean)] at hr
  refine ⟨_, _, exec_row_pure (act := fun t => modDeck t k (fun d => d.vSet (fD w) _ _)) (ws := [.v (fD w)])
    hrow hop hcode halone hr, fun n hn => ?_⟩
  rw [elem_packElems (by simpa using hn) hn, elemBad_packMarks hwidth (by simpa using hn) hn]
  simp only [List.getElem_map, List.getElem_range, Deck.pGet_holding, Deck.vGet_holding, Deck.vPoison_holding]
  constructor <;> intro hon <;> simp [hon, elem_mod]

end Rows

theorem etBytes_pos (t : Nat) : 0 < etBytes t := by
  unfold etBytes
  split <;> decide

/-- An element type that is accepted by a form. -/
theorem mem_of_vForm {w : BitVec 64} {types : List Nat} {flags : Nat} (h : vForm w types flags = true) : fEt w ∈ types := by
  simp only [vForm, Bool.and_eq_true, List.contains_iff_mem] at h
  exact h.1.2

/-- The rows by element type are the model's arithmetic on the types that there are. -/
theorem arith_eq_byType (fi : Int → Int → Int) (ff : FloatFmt → Nat → Nat → Nat) {t : Nat} (ht : t ∈ anyType) (a b : Nat) :
    arith fi ff t a b = byType fi ff t a b := by
  simp only [anyType, List.mem_cons, List.not_mem_nil, or_false] at ht
  rcases ht with rfl | rfl | rfl | rfl | rfl <;> rfl

section Rows

variable {row : DeckRow} {code : Nat} {k : Fin 16} {w : BitVec 64} {s : State}

/-- A row of an element-by-element operation on two registers. -/
theorem writesVector_vector2 {types : List Nat} {f : Nat → Nat → Nat → Nat}
    (hrow : exec (row k w true) s = slotRow k .v w true s) (hop : opOf .v code = some (vector2 types f))
    (hcode : wordSpells code w = true) (hform : vForm w types 0 = true) (halone : alone s k .v w = true)
    (hclean : (s.decks.get k).pPoison (fPred w) = false) :
    writesVector k w s (row k w true) (etBytes (fEt w))
      (fun n => f (fEt w) (elem ((s.decks.get k).vGet (fA w)) (etBytes (fEt w)) n)
        (elem ((s.decks.get k).vGet (fB w)) (etBytes (fEt w)) n))
      (fun n => elemBad ((s.decks.get k).vPoison (fA w)) (etBytes (fEt w)) n
        || elemBad ((s.decks.get k).vPoison (fB w)) (etBytes (fEt w)) n) := by
  refine writesVector_of_writeElems (etBytes_pos _) hrow hop hcode halone hclean ?_
  simp only [vector2, pureSlot, hform, if_true, vElems_eq, vBadElems_eq, zipWith_map_same, Deck.vGet_holding,
    Deck.vPoison_holding]

/-- A row of an element-by-element operation on one register. -/
theorem writesVector_vector1 {types : List Nat} {f : Nat → Nat → Nat}
    (hrow : exec (row k w true) s = slotRow k .v w true s) (hop : opOf .v code = some (vector1 types f))
    (hcode : wordSpells code w = true) (hform : vForm w types 0 = true) (halone : alone s k .v w = true)
    (hclean : (s.decks.get k).pPoison (fPred w) = false) :
    writesVector k w s (row k w true) (etBytes (fEt w))
      (fun n => f (fEt w) (elem ((s.decks.get k).vGet (fA w)) (etBytes (fEt w)) n))
      (fun n => elemBad ((s.decks.get k).vPoison (fA w)) (etBytes (fEt w)) n) := by
  refine writesVector_of_writeElems (etBytes_pos _) hrow hop hcode halone hclean ?_
  simp only [vector1, pureSlot, hform, if_true, vElems_eq, vBadElems_eq, List.map_map, Deck.vGet_holding,
    Deck.vPoison_holding, Function.comp_def]

end Rows

/-- Each row on two registers is a V-slot row whose operation is the element-by-element one of its table entry. -/
theorem row_of_mem_vectorRows {r : DeckRow × Nat × List Nat × (Nat → Nat → Nat → Nat)} (hr : r ∈ vectorRows) :
    (∀ k w s, exec (r.1 k w true) s = slotRow k .v w true s) ∧
      ∃ f, opOf .v r.2.1 = some (vector2 r.2.2.1 f) ∧ ∀ t ∈ r.2.2.1, ∀ a b, f t a b = r.2.2.2 t a b := by
  revert r
  simp only [vectorRows, List.forall_mem_cons, List.not_mem_nil, false_imp_iff, implies_true, and_true]
  refine ⟨⟨fun _ _ _ => rfl, arith (· + ·) fadd, rfl, ?_⟩, ⟨fun _ _ _ => rfl, arith (· - ·) fsub, rfl, ?_⟩,
    ⟨fun _ _ _ => rfl, arith (· * ·) fmul, rfl, ?_⟩, ⟨fun _ _ _ => rfl, arith max (fun f => fextreme f true), rfl, ?_⟩,
    ⟨fun _ _ _ => rfl, arith min (fun f => fextreme f false), rfl, ?_⟩,
    ⟨fun _ _ _ => rfl, fun _ a b => a &&& b, rfl, fun _ _ => rfl⟩,
    ⟨fun _ _ _ => rfl, fun _ a b => a ||| b, rfl, fun _ _ => rfl⟩,
    fun _ _ _ => rfl, fun _ a b => a ^^^ b, rfl, fun _ _ => rfl⟩
  all_goals exact fun t ht a b => arith_eq_byType _ _ ht a b

/-- The element-by-element rows, and VFMA. -/
theorem vectorArithmetic : VectorArithmetic := by
  constructor
  · intro r hr k w s hcode hform halone hclean
    obtain ⟨hrow, f, hop, hf⟩ := row_of_mem_vectorRows hr
    have h := writesVector_vector2 (hrow k w s) hop hcode hform halone hclean
    simpa only [hf _ (mem_of_vForm hform)] using h
  · intro k w s f hcode hform halone hclean hf
    refine writesVector_of_writeElems (row := .vfma) (op := opVfma) (etBytes_pos _) rfl rfl hcode halone hclean ?_
    simp only [opVfma, pureSlot, hform, if_true, vElems_eq, vBadElems_eq, List.zip_map', zipWith_map_same,
      Deck.vGet_holding, Deck.vPoison_holding, hf, Option.getD_some]

/-- Each fp32 row is a V-slot row whose operation is the function of its table entry. -/
theorem row_of_mem_functionRows {r : DeckRow × Nat × (Nat → Nat)} (hr : r ∈ functionRows) :
    (∀ k w s, exec (r.1 k w true) s = slotRow k .v w true s) ∧ opOf .v r.2.1 = some (vector1 [4] (fun _ a => r.2.2 a)) := by
  revert r
  simp only [functionRows, List.forall_mem_cons, List.not_mem_nil, false_imp_iff, implies_true, and_true]
  and_intros <;> intros <;> rfl

/-- VABS by element type. -/
theorem opOf_vabs : ∃ f, opOf .v 0x0A = some (vector1 anyType f) ∧ (∀ t a g, etFloat t = some g → f t a = fabs g a) ∧
    ∀ t a, etFloat t = none → f t a = intOrOpen t (bitsInt (etBits t) a).natAbs := by
  have hop : opOf .v 0x0A = some opVabs := rfl
  refine ⟨_, hop, ?_, ?_⟩
  · intro t a g h
    simp only [h]
  · intro t a h
    simp only [h]

/-- VNEG by element type. -/
theorem opOf_vneg : ∃ f, opOf .v 0x0B = some (vector1 anyType f) ∧ (∀ t a g, etFloat t = some g → f t a = fneg g a) ∧
    ∀ t a, etFloat t = none → f t a = intOrOpen t (-(bitsInt (etBits t) a)) := by
  have hop : opOf .v 0x0B = some opVneg := rfl
  refine ⟨_, hop, ?_, ?_⟩
  · intro t a g h
    simp only [h]
  · intro t a h
    simp only [h]

/-- The fp32 functions, VABS and VNEG. -/
theorem vectorFunctions : VectorFunctions := by
  intro k w s halone hclean
  refine ⟨fun r hr hcode hform => ?_, fun f hf hcode hform => ?_, fun f hf hcode hform => ?_, fun hf hcode hform => ?_,
    fun hf hcode hform => ?_⟩
  · obtain ⟨hrow, hop⟩ := row_of_mem_functionRows hr
    have htype : fEt w = 4 := by simpa using mem_of_vForm hform
    have h := writesVector_vector1 (hrow k w s) hop hcode hform halone hclean
    rwa [htype] at h
  · obtain ⟨g, hop, hfloat, -⟩ := opOf_vabs
    simpa only [hfloat _ _ _ hf] using writesVector_vector1 (row := .vabs) rfl hop hcode hform halone hclean
  · obtain ⟨g, hop, hfloat, -⟩ := opOf_vneg
    simpa only [hfloat _ _ _ hf] using writesVector_vector1 (row := .vneg) rfl hop hcode hform halone hclean
  · obtain ⟨g, hop, -, hint⟩ := opOf_vabs
    simpa only [hint _ _ hf] using writesVector_vector1 (row := .vabs) rfl hop hcode hform halone hclean
  · obtain ⟨g, hop, -, hint⟩ := opOf_vneg
    simpa only [hint _ _ hf] using writesVector_vector1 (row := .vneg) rfl hop hcode hform halone hclean

/-- Settles O39: a row of slot V packs what its elements come to, and an element of a packed register is that. -/
theorem vectorComputations : Obligations.VectorComputations := ⟨vectorArithmetic, vectorFunctions⟩

/-! ### Elements that move -/

section Moves

variable {k : Fin 16} {w : BitVec 64} {s : State}

theorem writesVector_vsel (halone : alone s k .v w = true) (hclean : (s.decks.get k).pPoison (fPred w) = false)
    (hcode : wordSpells 0x0F w = true) (hform : vForm w [0] 0 = true) (hc : fC w < 8) :
    writesVector k w s (.vsel k w true) 1
      (fun n => if ((s.decks.get k).pGet (fC w)).getLsbD n then elem ((s.decks.get k).vGet (fA w)) 1 n
        else elem ((s.decks.get k).vGet (fB w)) 1 n)
      (fun n => (if ((s.decks.get k).pGet (fC w)).getLsbD n then elemBad ((s.decks.get k).vPoison (fA w)) 1 n
        else elemBad ((s.decks.get k).vPoison (fB w)) 1 n) || (s.decks.get k).pPoison (fC w)) := by
  refine writesVector_of_writeElems (row := .vsel) (op := opVsel) (by decide) rfl rfl hcode halone hclean ?_
  simp only [opVsel, pureSlot, hform, hc, decide_true, Bool.and_self, if_true, vElems_eq, vBadElems_eq, keepOff_map,
    List.map_map, Deck.vGet_holding, Deck.vPoison_holding, Deck.pGet_holding, Deck.pPoison_holding, Nat.div_one,
    Function.comp_def]

theorem writesVector_vbcast (halone : alone s k .v w = true) (hclean : (s.decks.get k).pPoison (fPred w) = false)
    (hcode : wordSpells 0x10 w = true) (hform : vForm w anyType 0 = true) :
    writesVector k w s (.vbcast k w true) (etBytes (fEt w))
      (fun _ => ((s.decks.get k).sGet (fA w)).toNat) (fun _ => (s.decks.get k).sPoison (fA w)) := by
  have h : writesVector k w s (.vbcast k w true) (etBytes (fEt w))
      (fun _ => ((s.decks.get k).sGet (fA w)).toNat % 2 ^ (8 * etBytes (fEt w)))
      (fun _ => (s.decks.get k).sPoison (fA w)) := by
    refine writesVector_of_writeElems (row := .vbcast) (op := opVbcast) (etBytes_pos _) rfl rfl hcode halone hclean ?_
    simp only [opVbcast, pureSlot, hform, if_true, Deck.sGet_holding, Deck.sPoison_holding, List.map_const',
      List.length_range]
  simpa only [writesVector, Nat.mod_mod] using h

theorem writesVector_vperm (halone : alone s k .v w = true) (hclean : (s.decks.get k).pPoison (fPred w) = false)
    (hcode : wordSpells 0x12 w = true) (hform : vForm w [0] 0 = true) :
    writesVector k w s (.vperm k w true) 1
      (fun n => elem ((s.decks.get k).vGet (fA w)) 1 (elem ((s.decks.get k).vGet (fB w)) 1 n % 64))
      (fun n => elemBad ((s.decks.get k).vPoison (fB w)) 1 n
        || elemBad ((s.decks.get k).vPoison (fA w)) 1 (elem ((s.decks.get k).vGet (fB w)) 1 n % 64)) := by
  have hpick : ∀ {α : Type} (g : Nat → α) (i : Nat) (dflt : α), (((List.range 64).map g)[i % 64]?).getD dflt = g (i % 64) := by
    intro α g i dflt
    have hi : i % 64 < 64 := Nat.mod_lt _ (by decide)
    simp [hi]
  refine writesVector_of_writeElems (row := .vperm) (op := opVperm) (by decide) rfl rfl hcode halone hclean ?_
  simp only [opVperm, pureSlot, hform, if_true, vElems_eq, vBadElems_eq, List.map_map, zipWith_map_same,
    Deck.vGet_holding, Deck.vPoison_holding, Nat.div_one, Function.comp_def, hpick]

theorem exec_vextr (halone : alone s k .v w = true) (hclean : (s.decks.get k).pPoison (fPred w) = false)
    (hcode : wordSpells 0x11 w = true) (hform : iForm w 0 = true) (hon : predOn (s.decks.get k) w = true)
    (hi : (fImm w).toNat < 64 / etBytes (Config.extractType % 5)) :
    exec (.vextr k w true) s = .next (modDeck (issued s k) k (fun d =>
      d.sSet (fD w)
        (BitVec.ofNat 64 (elem ((s.decks.get k).vGet (fA w)) (etBytes (Config.extractType % 5)) (fImm w).toNat))
        (elemBad ((s.decks.get k).vPoison (fA w)) (etBytes (Config.extractType % 5)) (fImm w).toNat))) := by
  refine exec_row_pure (row := .vextr) (op := opVextr) (act := fun t => modDeck t k (fun d => d.sSet (fD w) _ _))
    (ws := [.s (fD w)]) rfl rfl hcode halone ?_
  simp only [opVextr, pureSlot, hform]
  rw [dataOn_of_enabled _ (by simpa using hon) (by simpa using hclean)]
  simp [writeS, vElems_eq, vBadElems_eq, hi]

end Moves

/-- The operations that move elements. -/
theorem vectorMoves : VectorMoves := fun _ _ _ halone hclean =>
  ⟨writesVector_vsel halone hclean, writesVector_vbcast halone hclean, writesVector_vperm halone hclean,
    exec_vextr halone hclean⟩

/-! ### Conversions, comparisons and reductions -/

/-- The first elements of a list of m, filled up to n with a default. -/
theorem take_append_replicate {α : Type} (f : Nat → α) (dflt : α) (m n : Nat) :
    ((List.range m).map f).take (min m n) ++ List.replicate (n - min m n) dflt
      = (List.range n).map (fun i => if i < m then f i else dflt) := by
  apply List.ext_getElem
  · simp
  · intro i hi hi'
    simp only [List.length_map, List.length_range] at hi'
    simp only [List.getElem_append, List.length_take, List.length_map, List.length_range, List.getElem_take,
      List.getElem_map, List.getElem_range, List.getElem_replicate]
    by_cases hm : i < m
    · simp [hm, hi']
    · simp [hm]

theorem zip_map_range {α β : Type} (f : Nat → α) (g : Nat → β) {m n : Nat} (h : m ≤ n) :
    ((List.range m).map f).zip ((List.range n).map g) = (List.range m).map (fun i => (f i, g i)) := by
  apply List.ext_getElem
  · simp [h]
  · intro i hi hi'
    simp

theorem take_map_range {α : Type} (f : Nat → α) (m n : Nat) :
    ((List.range m).map f).take (min m n) = (List.range (min m n)).map f := by
  rw [← List.map_take, List.take_range, Nat.min_eq_left (Nat.min_le_left m n)]

/-- What an element of v[a] converts to, and whether it saturated. -/
def converted (d : Deck) (w : BitVec 64) (n : Nat) : Nat × Bool :=
  convert (fEt w) (bitsOf (fFl w) 2 0) (elem (d.vGet (fA w)) (etBytes (fEt w)) n)

/-- The elements of v[d] that VCVT writes. -/
def convertedElems (d : Deck) (w : BitVec 64) : List Nat :=
  (List.range (64 / etBytes (bitsOf (fFl w) 2 0))).map (fun n =>
    if (d.pGet (fPred w)).getLsbD (etBytes (bitsOf (fFl w) 2 0) * n) then
      (if n < 64 / etBytes (fEt w) then (converted d w n).1 else 0)
    else elem (d.vGet (fD w)) (etBytes (bitsOf (fFl w) 2 0)) n)

/-- The enabled elements of a VCVT that saturated. -/
def saturated (d : Deck) (w : BitVec 64) : List Nat :=
  (List.range (min (64 / etBytes (fEt w)) (64 / etBytes (bitsOf (fFl w) 2 0)))).filter (fun n =>
    (converted d w n).2 && (d.pGet (fPred w)).getLsbD (etBytes (bitsOf (fFl w) 2 0) * n))

theorem opVcvt_eq {d : Deck} {w : BitVec 64} (k : Fin 16) (s : State) (hclean : d.pPoison (fPred w) = false)
    (hform : vForm w anyType 7 = true) (hto : bitsOf (fFl w) 2 0 < 5) :
    ∃ m, opVcvt k d w s = (s, .ok [.v (fD w)] (fun t =>
      (modDeck t k (fun x => x.vSet (fD w) (packElems (etBytes (bitsOf (fFl w) 2 0)) (convertedElems d w)) m)).bumpBy
        0x2506 1 64 (saturated d w).length)) := by
  have hany : anyType.contains (bitsOf (fFl w) 2 0) = true := by
    generalize bitsOf (fFl w) 2 0 = u at hto
    interval_cases u <;> rfl
  have hvals : (((vElems (d.vGet (fA w)) (etBytes (fEt w))).take
        (min (64 / etBytes (fEt w)) (64 / etBytes (bitsOf (fFl w) 2 0)))).map
          (convert (fEt w) (bitsOf (fFl w) 2 0))).map (·.1)
      ++ List.replicate (64 / etBytes (bitsOf (fFl w) 2 0)
        - min (64 / etBytes (fEt w)) (64 / etBytes (bitsOf (fFl w) 2 0))) 0
      = (List.range (64 / etBytes (bitsOf (fFl w) 2 0))).map (fun n =>
          if n < 64 / etBytes (fEt w) then (converted d w n).1 else 0) := by
    rw [← take_append_replicate, vElems_eq, take_map_range, take_map_range, List.map_map, List.map_map]
    rfl
  have hsat : (((((vElems (d.vGet (fA w)) (etBytes (fEt w))).take
        (min (64 / etBytes (fEt w)) (64 / etBytes (bitsOf (fFl w) 2 0)))).map
          (convert (fEt w) (bitsOf (fFl w) 2 0))).zip
        (vEnabled (d.pGet (fPred w)) (etBytes (bitsOf (fFl w) 2 0)))).filter (fun p => p.1.2 && p.2)).length
      = (saturated d w).length := by
    rw [vElems_eq, take_map_range, List.map_map, vEnabled, zip_map_range _ _ (Nat.min_le_right _ _), List.filter_map,
      List.length_map]
    rfl
  simp only [opVcvt, pureSlot, hform, hany, Bool.and_self, if_true, hvals, hsat]
  rw [vBadElems_eq, take_append_replicate, writeElems_map k _ _ _ hclean]
  exact ⟨_, rfl⟩

section Reductions

variable {k : Fin 16} {w : BitVec 64} {s : State}

theorem exec_vcvt (halone : alone s k .v w = true) (hclean : (s.decks.get k).pPoison (fPred w) = false)
    (hcode : wordSpells 0x0C w = true) (hform : vForm w anyType 7 = true) (hto : bitsOf (fFl w) 2 0 < 5) :
    ∃ m, exec (.vcvt k w true) s =
      .next ((modDeck (issued s k) k (fun d => d.vSet (fD w)
        (packElems (etBytes (bitsOf (fFl w) 2 0)) (convertedElems (s.decks.get k) w)) m)).bumpBy 0x2506 1 64
          (saturated (s.decks.get k) w).length) := by
  obtain ⟨m, hm⟩ := opVcvt_eq k (d := (s.decks.get k).holding .v w) (holdingWord s k .v w) (by simpa using hclean) hform hto
  exact ⟨m, exec_row_pure (row := .vcvt) rfl rfl hcode halone hm⟩

theorem elem_convertedElems {d : Deck} {n : Nat} (hn : n < 64 / etBytes (bitsOf (fFl w) 2 0))
    (hon : (d.pGet (fPred w)).getLsbD (etBytes (bitsOf (fFl w) 2 0) * n) = true) :
    elem (packElems (etBytes (bitsOf (fFl w) 2 0)) (convertedElems d w)) (etBytes (bitsOf (fFl w) 2 0)) n =
      if n < 64 / etBytes (fEt w) then (converted d w n).1 % 2 ^ (8 * etBytes (bitsOf (fFl w) 2 0)) else 0 := by
  rw [elem_packElems (by simpa [convertedElems] using hn) hn]
  simp only [convertedElems, List.getElem_map, List.getElem_range, hon, if_true]
  split
  · rfl
  · exact Nat.zero_mod _

/-- A comparison of the elements of v[a] and v[b] by type. -/
def comparedBy (fi : Int → Int → Bool) (ff : FloatFmt → Nat → Nat → Bool) (t a b : Nat) : Bool :=
  match etFloat t with
  | some f => ff f a b
  | none => fi (bitsInt (etBits t) a) (bitsInt (etBits t) b)

/-- Whether elements n of v[a] and v[b] compare. -/
def comparedElem (fi : Int → Int → Bool) (ff : FloatFmt → Nat → Nat → Bool) (d : Deck) (w : BitVec 64) (n : Nat) : Bool :=
  comparedBy fi ff (fEt w) (elem (d.vGet (fA w)) (etBytes (fEt w)) n) (elem (d.vGet (fB w)) (etBytes (fEt w)) n)

/-- The bits that a comparison leaves in p[d]. -/
def comparedBits (fi : Int → Int → Bool) (ff : FloatFmt → Nat → Nat → Bool) (d : Deck) (w : BitVec 64) : BitVec 64 :=
  (packMarks (etBytes (fEt w)) ((List.range (64 / etBytes (fEt w))).map (comparedElem fi ff d w)) &&&
    packMarks (etBytes (fEt w)) (vEnabled (d.pGet (fPred w)) (etBytes (fEt w)))) |||
  (d.pGet (fD w) &&& ~~~packMarks (etBytes (fEt w)) (vEnabled (d.pGet (fPred w)) (etBytes (fEt w))))

/-- The bits of an enabled element's bytes are what its comparison gives, those of another stay (R191). -/
theorem getLsbD_comparedBits (fi : Int → Int → Bool) (ff : FloatFmt → Nat → Nat → Bool) (d : Deck) (w : BitVec 64)
    {n j : Nat} (hn : n < 64 / etBytes (fEt w)) (hj : j < etBytes (fEt w)) :
    (comparedBits fi ff d w).getLsbD (etBytes (fEt w) * n + j) =
      if (d.pGet (fPred w)).getLsbD (etBytes (fEt w) * n) then comparedElem fi ff d w n
      else (d.pGet (fD w)).getLsbD (etBytes (fEt w) * n + j) := by
  have hbit := width_mul_add_le hn
  rw [comparedBits, BitVec.getLsbD_or, BitVec.getLsbD_and, BitVec.getLsbD_and, BitVec.getLsbD_not,
    getLsbD_packMarks (by simpa using hn) hn hj, getLsbD_packMarks (by simpa [vEnabled] using hn) hn hj]
  simp only [vEnabled, List.getElem_map, List.getElem_range, show etBytes (fEt w) * n + j < 64 by omega, decide_true,
    Bool.true_and]
  cases (d.pGet (fPred w)).getLsbD (etBytes (fEt w) * n) <;> simp

theorem exec_vcompare {row : DeckRow} {code : Nat} {fi : Int → Int → Bool} {ff : FloatFmt → Nat → Nat → Bool}
    (hrow : exec (row k w true) s = slotRow k .v w true s) (hop : opOf .v code = some (vcompare fi ff))
    (hcode : wordSpells code w = true) (halone : alone s k .v w = true)
    (hclean : (s.decks.get k).pPoison (fPred w) = false) (hform : vForm w anyType 0 = true) (hpos : 1 ≤ fD w)
    (hlt : fD w < 8) :
    ∃ bad : Bool, exec (row k w true) s
      = .next (modDeck (issued s k) k (fun d => d.pSet (fD w) (comparedBits fi ff (s.decks.get k) w) bad)) := by
  have hr : ∃ bad, vcompare fi ff k ((s.decks.get k).holding .v w) w (holdingWord s k .v w)
      = (holdingWord s k .v w, writeP k (fD w) (comparedBits fi ff (s.decks.get k) w) bad) := by
    simp only [vcompare, pureSlot, hform, if_true, Deck.pPoison_holding, hclean, Bool.false_eq_true, if_false,
      vElems_eq, zipWith_map_same]
    exact ⟨_, rfl⟩
  obtain ⟨bad, hr⟩ := hr
  rw [writeP_eq _ _ hpos hlt] at hr
  exact ⟨bad, exec_row_pure hrow hop hcode halone hr⟩

/-- A comparison row, bit by bit. -/
theorem vcompare_bits {row : DeckRow} {code : Nat} {fi : Int → Int → Bool} {ff : FloatFmt → Nat → Nat → Bool}
    (hrow : exec (row k w true) s = slotRow k .v w true s) (hop : opOf .v code = some (vcompare fi ff))
    (hcode : wordSpells code w = true) (halone : alone s k .v w = true)
    (hclean : (s.decks.get k).pPoison (fPred w) = false) (hform : vForm w anyType 0 = true) (hpos : 1 ≤ fD w)
    (hlt : fD w < 8) :
    ∃ (v : BitVec 64) (bad : Bool),
      exec (row k w true) s = .next (modDeck (issued s k) k (fun d => d.pSet (fD w) v bad)) ∧
      (∀ n, n < 64 / etBytes (fEt w) →
        ((s.decks.get k).pGet (fPred w)).getLsbD (etBytes (fEt w) * n) = false →
        ∀ j, j < etBytes (fEt w) →
          v.getLsbD (etBytes (fEt w) * n + j) = ((s.decks.get k).pGet (fD w)).getLsbD (etBytes (fEt w) * n + j)) ∧
      ∀ n, n < 64 / etBytes (fEt w) →
        ((s.decks.get k).pGet (fPred w)).getLsbD (etBytes (fEt w) * n) = true →
        ∀ j, j < etBytes (fEt w) →
          v.getLsbD (etBytes (fEt w) * n + j) = comparedElem fi ff (s.decks.get k) w n := by
  obtain ⟨bad, hexec⟩ := exec_vcompare hrow hop hcode halone hclean hform hpos hlt
  refine ⟨_, bad, hexec, fun n hn hoff j hj => ?_, fun n hn hon j hj => ?_⟩
  · rw [getLsbD_comparedBits fi ff _ _ hn hj, hoff]
    rfl
  · rw [getLsbD_comparedBits fi ff _ _ hn hj, hon]
    rfl

/-- VRED with at least one enabled element folds them in element order. -/
theorem exec_vred (halone : alone s k .v w = true) (hclean : (s.decks.get k).pPoison (fPred w) = false)
    (hcode : wordSpells 0x16 w = true) (hform : vForm w anyType 1 = true) {a : Nat} {rest : List Nat}
    (helems : ((List.range (64 / etBytes (fEt w))).filter (fun n =>
        ((s.decks.get k).pGet (fPred w)).getLsbD (etBytes (fEt w) * n))).map
      (elem ((s.decks.get k).vGet (fA w)) (etBytes (fEt w))) = a :: rest) :
    ∃ m : BitVec 64, exec (.vred k w true) s = .next (modDeck (issued s k) k (fun d => d.vSet (fD w)
      (BitVec.ofNat 512 (canonicalOf (fEt w) (rest.foldl
        (if bitOf (fFl w) 0 then byType max (fun f => fextreme f true) (fEt w)
          else byType (· + ·) fadd (fEt w)) a))) m)) := by
  have hstep : (if bitOf (fFl w) 0 then arith max (fun f => fextreme f true) (fEt w) else arith (· + ·) fadd (fEt w))
      = if bitOf (fFl w) 0 then byType max (fun f => fextreme f true) (fEt w) else byType (· + ·) fadd (fEt w) := by
    congr 1 <;> funext x y <;> exact arith_eq_byType _ _ (mem_of_vForm hform) x y
  have hlist : (((vEnabled ((s.decks.get k).pGet (fPred w)) (etBytes (fEt w))).zip
      (vElems ((s.decks.get k).vGet (fA w)) (etBytes (fEt w)))).filter (·.1)).map (·.2) = a :: rest := by
    rw [← helems, vEnabled, vElems_eq, List.zip_map', List.filter_map, List.map_map]
    rfl
  have hr : ∃ m, opVred k ((s.decks.get k).holding .v w) w (holdingWord s k .v w)
      = (holdingWord s k .v w, writeV k (fD w) (BitVec.ofNat 512 (canonicalOf (fEt w) (rest.foldl
        (if bitOf (fFl w) 0 then byType max (fun f => fextreme f true) (fEt w)
          else byType (· + ·) fadd (fEt w)) a))) m) := by
    simp only [opVred, pureSlot, hform, if_true, Deck.pPoison_holding, hclean, Bool.false_eq_true, if_false,
      Deck.pGet_holding, Deck.vGet_holding, hlist, hstep]
    exact ⟨_, rfl⟩
  obtain ⟨m, hr⟩ := hr
  exact ⟨m, exec_row_pure (row := .vred) rfl rfl hcode halone hr⟩

end Reductions

/-- VCVT, the comparisons and VRED. -/
theorem vectorReductions : VectorReductions := by
  intro k w s halone hclean
  refine ⟨fun hcode hform hto => ?_, fun p hp hcode hform hpos hlt => ?_, fun hcode hform a rest helems =>
    exec_vred halone hclean hcode hform helems⟩
  · obtain ⟨m, hexec⟩ := exec_vcvt halone hclean hcode hform hto
    exact ⟨_, m, hexec, fun n hn hon => elem_convertedElems hn hon⟩
  · simp only [List.mem_cons, List.not_mem_nil, or_false] at hp
    rcases hp with rfl | rfl
    · exact vcompare_bits rfl rfl hcode halone hclean hform hpos hlt
    · exact vcompare_bits rfl rfl hcode halone hclean hform hpos hlt

/-- Settles O40: VSEL, VBCAST and VPERM write elements as the arithmetic does; a conversion fills the register up with
zeros; a comparison's bits stand under the mask of the enabled elements' bytes. -/
theorem vectorMovesAndReductions : Obligations.VectorMovesAndReductions := ⟨vectorMoves, vectorReductions⟩

end Sys2Proof.Machine
end

section
/-! SUPPORT and PROOFS. A bundle of one word whose operation stalls, the loads and stores of slot M, its strided rows,
and what decks do with semaphores and fences (08_decks.md, M-slot operations; R191, R192, R202 to R206, R259). -/

namespace Sys2Proof.Machine

open Sys2Proof.Claims

/-! ### A bundle of one word that stalls -/

/-- The slots of a bundle of one word whose operation stalls. -/
theorem evalSlots_stall {k : Fin 16} {d : Deck} {slot : Slot} {w : BitVec 64} {s t : State} {op : SlotOp}
    (hop : opOf slot (fOp w) = some op) (hr : op k d w s = (t, .stall)) :
    evalSlots k d [⟨slot, w⟩] [.c, .m, .v, .x] s = (t, .stall) := by
  cases slot <;> simp [evalSlots, slotWord, hop, hr, opOf_zero, opNop_zero, SlotResult.nothing]

section Alone

variable {row : DeckRow} {slot : Slot} {code : Nat} {op : SlotOp} {k : Fin 16} {w : BitVec 64} {s t : State}

/-- An alone word whose operation stalls leaves its bundle stalled. -/
theorem exec_row_stall (hrow : exec (row k w true) s = slotRow k slot w true s) (hop : opOf slot code = some op)
    (hcode : wordSpells code w = true) (halone : alone s k slot w = true)
    (hr : op k ((s.decks.get k).holding slot w) w (holdingWord s k slot w) = (t, .stall)) :
    exec (row k w true) s = .next (modDeck t k (fun d => { d with stalled := true })) := by
  obtain rfl := (wordSpells_iff code w).1 hcode
  rw [hrow, slotRow_issues k slot w s halone]
  simp only [alone, Bool.and_eq_true, Bool.not_eq_true'] at halone
  obtain ⟨⟨⟨-, hfetch⟩, hwait⟩, hinjected⟩ := halone
  have heval := evalSlots_stall hop hr
  simp only [holdingWord, Deck.holding] at heval
  simp only [issue, holdingWord, decks_get_setDeck_self, hfetch, hwait]
  rw [parityCheck_none _ _ _ (by rw [decks_get_setDeck_self]; exact hinjected)]
  simp [heval]

end Alone

/-! ### Loads -/

@[simp] theorem decks_get_holdingWord (s : State) (k : Fin 16) (slot : Slot) (w : BitVec 64) :
    (holdingWord s k slot w).decks.get k = (s.decks.get k).holding slot w :=
  decks_get_setDeck_self s k _

section Loads

variable {k : Fin 16} {w : BitVec 64} {s t : State} {l : List Octet}

theorem deckRead_of_loaded {n : Nat} (h : loaded s k w n t l) :
    deckRead k ((s.decks.get k).holding .m w) (holdingWord s k .m w) (immAddress s k w) n = (t, .got l) := by
  simpa only [loaded, decks_get_holdingWord] using h

theorem iAddr_holding (s : State) (k : Fin 16) (w : BitVec 64) :
    iAddr ((s.decks.get k).holding .m w) w = immAddress s k w := rfl

/-- What a load writes of v[d] under its predicate (R191). -/
theorem writeElems_octets {d : Deck} (k : Fin 16) (l : List Octet) (hclean : d.pPoison (fPred w) = false) :
    writeElems k d w 1 ((vals l).map (·.toNat)) (List.replicate 64 false)
      = writeV k (fD w)
          (packElems 1 (keepOff (vEnabled (d.pGet (fPred w)) 1) (vElems (d.vGet (fD w)) 1) ((vals l).map (·.toNat))))
          (packMarks 1 (keepOff (vEnabled (d.pGet (fPred w)) 1) (vBadElems (d.vPoison (fD w)) 1)
            (List.replicate 64 false))) := by
  simp only [writeElems, hclean, Bool.or_false, List.map_id', Bool.false_eq_true, if_false]

theorem exec_ld (halone : alone s k .m w = true) (hclean : (s.decks.get k).pPoison (fPred w) = false)
    (hsource : (s.decks.get k).sPoison (fA w) = false) (hcode : wordSpells 0x01 w = true) (hform : iForm w 7 = true)
    (hon : predOn (s.decks.get k) w = true) (haligned : immAddress s k w % accessSize w = 0)
    (hloaded : loaded s k w (accessSize w) t l) :
    exec (.ld k w true) s = .next (modDeck (issued t k) k (fun d =>
      d.sSet (fD w) (extendLoad w (leNat (vals l))) false)) := by
  refine exec_row_ok (row := .ld) (op := opLd) (ws := [.s (fD w)]) (act := fun t => modDeck t k (fun d => d.sSet (fD w) _ _))
    rfl rfl hcode halone ?_
  simp only [opLd, hform, iAddr_holding, Deck.sPoison_holding, hsource]
  rw [memOn_of_predOn _ _ (by simpa using hon) (by simpa using hclean), atAddress_of_aligned _ _ haligned,
    loadThen_of_got _ (deckRead_of_loaded hloaded)]
  rfl

theorem exec_vld (halone : alone s k .m w = true) (hclean : (s.decks.get k).pPoison (fPred w) = false)
    (hsource : (s.decks.get k).sPoison (fA w) = false) (hcode : wordSpells 0x03 w = true) (hform : iForm w 0 = true)
    (haligned : immAddress s k w % 64 = 0) (hloaded : loaded s k w 64 t l) :
    exec (.vld k w true) s = .next (modDeck (issued t k) k (fun d =>
      d.vSet (fD w)
        (packElems 1 (keepOff (vEnabled ((s.decks.get k).pGet (fPred w)) 1)
          (vElems ((s.decks.get k).vGet (fD w)) 1) ((vals l).map (·.toNat))))
        (packMarks 1 (keepOff (vEnabled ((s.decks.get k).pGet (fPred w)) 1)
          (vBadElems ((s.decks.get k).vPoison (fD w)) 1) (List.replicate 64 false))))) := by
  have hr : opVld k ((s.decks.get k).holding .m w) w (holdingWord s k .m w)
      = (t, writeElems k ((s.decks.get k).holding .m w) w 1 ((vals l).map (·.toNat)) (List.replicate 64 false)) := by
    simp only [opVld, hform, iAddr_holding, Deck.sPoison_holding, hsource, Bool.not_true, Bool.false_eq_true, if_false]
    rw [atAddress_of_aligned _ _ haligned, loadThen_of_got _ (deckRead_of_loaded hloaded)]
  rw [writeElems_octets k l (by simpa using hclean)] at hr
  simp only [Deck.pGet_holding, Deck.vGet_holding, Deck.vPoison_holding] at hr
  exact exec_row_ok (row := .vld) rfl rfl hcode halone hr

theorem exec_rmld (halone : alone s k .m w = true) (hclean : (s.decks.get k).pPoison (fPred w) = false)
    (hsource : (s.decks.get k).sPoison (fA w) = false) (hcode : wordSpells 0x0A w = true) (hform : iForm w 0 = true)
    (hon : predOn (s.decks.get k) w = true) (haligned : immAddress s k w % 32 = 0) (hloaded : loaded s k w 32 t l)
    (hrows : ((List.range 8).map (fun r => fld (vals l) (4 * r) 4)).all rowEntryOk = true) :
    exec (.rmld k w true) s = .next (modDeck (issued t k) k (fun d =>
      { d with rowmap := Vector.ofFn (fun i => BitVec.ofNat 32 (fld (vals l) (4 * i.val) 4)) })) := by
  have hentry : ∀ i : Fin 8, (((List.range 8).map (fun r => fld (vals l) (4 * r) 4))[i.val]?).getD 0xFFF
      = fld (vals l) (4 * i.val) 4 := by
    intro i
    simp
  refine exec_row_ok (row := .rmld) (op := opRmld) (ws := (List.range 8).map .map)
    (act := fun t => modDeck t k (fun d => { d with rowmap := _ })) rfl rfl hcode halone ?_
  simp only [opRmld, hform, iAddr_holding, Deck.sPoison_holding, hsource]
  rw [memOn_of_predOn _ _ (by simpa using hon) (by simpa using hclean), atAddress_of_aligned _ _ haligned,
    loadThen_of_got _ (deckRead_of_loaded hloaded)]
  simp only [hrows, if_true, hentry]

theorem exec_wsld (halone : alone s k .m w = true) (hclean : (s.decks.get k).pPoison (fPred w) = false)
    (hsource : (s.decks.get k).sPoison (fA w) = false) (hcode : wordSpells 0x08 w = true) (hform : iForm w 0 = true)
    (hon : predOn (s.decks.get k) w = true) (hd : fD w < 4) (haligned : immAddress s k w % 64 = 0)
    (hloaded : loaded s k w 64 t l) (hok : descriptorOk (vals l) (s.decks.get k).logical = true) :
    exec (.wsld k w true) s = .next (loadStream k (fD w) (vals l) (issued t k)) := by
  refine exec_row_ok (row := .wsld) (op := opWsld) (ws := []) rfl rfl hcode halone ?_
  simp only [opWsld, hform, hd, decide_true, Bool.and_self, iAddr_holding, Deck.sPoison_holding, hsource]
  rw [memOn_of_predOn _ _ (by simpa using hon) (by simpa using hclean), atAddress_of_aligned _ _ haligned,
    loadThen_of_got _ (deckRead_of_loaded hloaded)]
  simp only [Deck.logical_holding, hok, if_true]

end Loads

/-- The loads of slot M. -/
theorem loads : Loads := fun _ _ _ _ _ halone hclean hsource =>
  ⟨exec_ld halone hclean hsource, exec_vld halone hclean hsource, exec_rmld halone hclean hsource,
    exec_wsld halone hclean hsource⟩

/-! ### Stores -/

section Stores

variable {k : Fin 16} {w : BitVec 64} {s : State}

/-- A fold whose every step leaves its start comes to its start. -/
theorem foldl_fixed_of_mem {α β : Type} {f : α → β → α} {a : α} {l : List β} (h : ∀ x ∈ l, f a x = a) :
    l.foldl f a = a := by
  induction l with
  | nil => rfl
  | cons x l ih =>
    rw [List.foldl_cons, h x List.mem_cons_self]
    exact ih fun y hy => h y (List.mem_cons_of_mem _ hy)

/-- A store of ranges that may be written and that finds room waits in the buffer. -/
theorem storeThen_of_permitted {d : Deck} {t : State} {ranges : List (Nat × Nat)} {span : Option Nat}
    (bytes : List StoreByte) (hpermitted : ∀ p ∈ ranges, writePermitted k t p.1 p.2 = (t, none))
    (hroom : storeRoom d span = true) :
    storeThen k d ranges span bytes t = (t, .ok [] (fun s => modDeck s k (placeStore span bytes [] false))) := by
  rw [storeThen, foldl_fixed_of_mem fun p hp => by simp [hpermitted p hp]]
  simp only [hroom, if_true]

theorem exec_st (halone : alone s k .m w = true) (hclean : (s.decks.get k).pPoison (fPred w) = false)
    (hsource : (s.decks.get k).sPoison (fA w) = false) (hcode : wordSpells 0x02 w = true) (hform : iForm w 3 = true)
    (hon : predOn (s.decks.get k) w = true) (haligned : immAddress s k w % accessSize w = 0)
    (hstorable : storable s k w (immAddress s k w) (accessSize w) (some (immAddress s k w / 64))) :
    exec (.st k w true) s = .next (modDeck (issued s k) k (placeStore (some (immAddress s k w / 64))
      (storeBytes (immAddress s k w) ((leBytes (accessSize w) ((s.decks.get k).sGet (fB w)).toNat).map
        (fun b => ⟨b, (s.decks.get k).sPoison (fB w)⟩))) [] false)) := by
  obtain ⟨hpermitted, hroom⟩ := hstorable
  refine exec_row_pure (row := .st) (op := opSt) (ws := []) (act := fun t => modDeck t k (placeStore _ _ [] false))
    rfl rfl hcode halone ?_
  simp only [opSt, hform, iAddr_holding, Deck.sPoison_holding, Deck.sGet_holding, hsource]
  rw [memOn_of_predOn _ _ (by simpa using hon) (by simpa using hclean), atAddress_of_aligned _ _ haligned]
  exact storeThen_of_permitted _ (by simpa using hpermitted) hroom

theorem exec_vst (halone : alone s k .m w = true) (hclean : (s.decks.get k).pPoison (fPred w) = false)
    (hsource : (s.decks.get k).sPoison (fA w) = false) (hcode : wordSpells 0x04 w = true) (hform : iForm w 0 = true)
    (haligned : immAddress s k w % 64 = 0)
    (hstorable : storable s k w (immAddress s k w) 64 (some (immAddress s k w / 64))) :
    exec (.vst k w true) s = .next (modDeck (issued s k) k (placeStore (some (immAddress s k w / 64))
      (enabledBytes ((s.decks.get k).pGet (fPred w)) 0 (immAddress s k w)
        (vOctets ((s.decks.get k).vGet (fB w)) ((s.decks.get k).vPoison (fB w)))) [] false)) := by
  obtain ⟨hpermitted, hroom⟩ := hstorable
  refine exec_row_pure (row := .vst) (op := opVst) (ws := []) (act := fun t => modDeck t k (placeStore _ _ [] false))
    rfl rfl hcode halone ?_
  simp only [opVst, hform, iAddr_holding, Deck.sPoison_holding, Deck.pGet_holding, hsource, vSource,
    Deck.pPoison_holding, hclean, Deck.vGet_holding, Deck.vPoison_holding, Bool.not_true, Bool.false_eq_true, if_false]
  rw [atAddress_of_aligned _ _ haligned]
  exact storeThen_of_permitted _ (by simpa using hpermitted) hroom

theorem exec_wsend (halone : alone s k .m w = true) (hclean : (s.decks.get k).pPoison (fPred w) = false)
    (hcode : wordSpells 0x09 w = true) (hform : rForm w 0 = true) (hon : predOn (s.decks.get k) w = true)
    (hd : fD w < 4) :
    exec (.wsend k w true) s = .next (modDeck (issued s k) k (fun d => d.setStream (fD w) none)) := by
  refine exec_row_pure (row := .wsend) (op := opWsend) (ws := [])
    (act := fun t => modDeck t k (fun d => d.setStream (fD w) none)) rfl rfl hcode halone ?_
  simp only [opWsend, hform, hd, decide_true, Bool.and_self]
  rw [memOn_of_predOn _ _ (by simpa using hon) (by simpa using hclean)]

theorem opFence_of_on {d : Deck} (t : State) (hclean : d.pPoison (fPred w) = false) (hform : iForm w 0 = true)
    (hon : predOn d w = true) : opFence k d w t = (t, if d.store = [] then .nothing else .stall) := by
  rw [opFence, hform, memOn_of_predOn _ _ hon hclean]

end Stores

/-- The stores of slot M, WSEND and FENCE. -/
theorem stores : Stores := by
  intro k w s halone hclean hsource
  refine ⟨exec_st halone hclean hsource, exec_vst halone hclean hsource, exec_wsend halone hclean,
    fun hcode hform hon hempty => ?_, fun hcode hform hon hfull => ?_⟩
  · refine exec_row_nothing (row := .fence) (op := opFence) rfl rfl hcode halone ?_
    rw [opFence_of_on _ (by simpa using hclean) hform (by simpa using hon), if_pos (by simpa using hempty)]
  · refine exec_row_stall (row := .fence) (op := opFence) rfl rfl hcode halone ?_
    rw [opFence_of_on _ (by simpa using hclean) hform (by simpa using hon), if_neg (by simpa using hfull)]

/-- Settles O38: a read that is given reaches its register, a store that is permitted and finds room waits. -/
theorem loadsAndStores : Obligations.LoadsAndStores := ⟨loads, stores⟩

/-! ### Strided rows -/

section Rows

variable {k : Fin 16} {w : BitVec 64} {s : State}

/-- Rows that can all be read are gathered one after the other. -/
theorem loadRows_of_rowsGathered {d : Deck} (mk : List Octet → SlotResult) {rows : List Nat} {u t : State}
    {l : List Octet} (acc : List Octet) (h : rowsGathered k d w rows u = some (t, l)) :
    loadRows k d w mk rows u acc = (t, mk (acc ++ l)) := by
  induction rows generalizing u t l acc with
  | nil =>
    obtain ⟨rfl, rfl⟩ : u = t ∧ [] = l := by simpa [rowsGathered] using h
    simp [loadRows]
  | cons r rows ih =>
    rw [rowsGathered] at h
    split at h
    next t' l' hread =>
      obtain ⟨⟨t'', l''⟩, hrest, heq⟩ := Option.map_eq_some_iff.1 h
      obtain ⟨rfl, rfl⟩ : t'' = t ∧ l' ++ l'' = l := by simpa using heq
      rw [loadRows]
      simp only [hread]
      rw [ih (acc ++ l') hrest, List.append_assoc]
    next => simp at h

theorem rowAddr_holding (d : Deck) (slot : Slot) (x : BitVec 64) (w : BitVec 64) (r : Nat) :
    rowAddr (d.holding slot x) w r = rowAddr d w r := rfl

/-- Rows that are all aligned: none is found that is not. -/
theorem find_misaligned_eq_none {d : Deck} (h : ∀ r < 8, rowAddr d w r % 8 = 0) :
    (List.range 8).find? (fun r => !decide (rowAddr d w r % 8 = 0)) = none := by
  rw [List.find?_eq_none]
  intro r hr
  simp [h r (List.mem_range.1 hr)]

theorem rowMasked_holdingWord (s : State) (k : Fin 16) (slot : Slot) (w : BitVec 64) (d : Deck) (r : Nat) :
    rowMasked (holdingWord s k slot w) (d.holding slot w) r = rowMasked s d r := rfl

theorem exec_vldr (halone : alone s k .m w = true) (hclean : (s.decks.get k).pPoison (fPred w) = false)
    (hsource : (s.decks.get k).sPoison (fA w) = false) (hstride : (s.decks.get k).sPoison (fC w) = false)
    (hcode : wordSpells 0x05 w = true) (hform : rForm w 0 = true)
    (haligned : ∀ r < 8, rowAddr (s.decks.get k) w r % 8 = 0) (t : State) (l : List Octet)
    (hrows : rowsGathered k ((holdingWord s k .m w).decks.get k) w (List.range 8) (holdingWord s k .m w) = some (t, l)) :
    exec (.vldr k w true) s = .next (modDeck (issued t k) k (fun d =>
      d.vSet (fD w)
        (packElems 1 (keepOff (vEnabled ((s.decks.get k).pGet (fPred w)) 1)
          (vElems ((s.decks.get k).vGet (fD w)) 1) ((vals l).map (·.toNat))))
        (packMarks 1 (keepOff (vEnabled ((s.decks.get k).pGet (fPred w)) 1)
          (vBadElems ((s.decks.get k).vPoison (fD w)) 1) (List.replicate 64 false))))) := by
  rw [decks_get_holdingWord] at hrows
  have hfind := find_misaligned_eq_none (d := (s.decks.get k).holding .m w) haligned
  have hr : opVldr k ((s.decks.get k).holding .m w) w (holdingWord s k .m w)
      = (t, writeElems k ((s.decks.get k).holding .m w) w 1 ((vals l).map (·.toNat)) (List.replicate 64 false)) := by
    simp only [opVldr, hform, Deck.sPoison_holding, hsource, hstride, Bool.not_true, Bool.or_self, Bool.false_eq_true,
      if_false, hfind]
    rw [loadRows_of_rowsGathered _ [] hrows, List.nil_append]
  rw [writeElems_octets k l (by simpa using hclean)] at hr
  simp only [Deck.pGet_holding, Deck.vGet_holding, Deck.vPoison_holding] at hr
  exact exec_row_ok (row := .vldr) rfl rfl hcode halone hr

theorem exec_vstr (halone : alone s k .m w = true) (hclean : (s.decks.get k).pPoison (fPred w) = false)
    (hsource : (s.decks.get k).sPoison (fA w) = false) (hstride : (s.decks.get k).sPoison (fC w) = false)
    (hcode : wordSpells 0x06 w = true) (hform : rForm w 0 = true)
    (haligned : ∀ r < 8, rowAddr (s.decks.get k) w r % 8 = 0)
    (hpermitted : ∀ r < 8, writePermitted k (holdingWord s k .m w) (rowAddr (s.decks.get k) w r) 8
      = (holdingWord s k .m w, none))
    (hroom : storeRoom (s.decks.get k) none = true) :
    exec (.vstr k w true) s = .next (modDeck (issued s k) k (placeStore none
      (((List.range 8).filter (fun r => !rowMasked s (s.decks.get k) r)).foldl (fun acc r => mergeBytes acc
        (enabledBytes ((s.decks.get k).pGet (fPred w)) (8 * r) (rowAddr (s.decks.get k) w r)
          (((vOctets ((s.decks.get k).vGet (fB w)) ((s.decks.get k).vPoison (fB w))).drop (8 * r)).take 8))) [])
      [] false)) := by
  have hranges : ∀ p ∈ ((List.range 8).filter (fun r => !rowMasked s (s.decks.get k) r)).map
      (fun r => (rowAddr (s.decks.get k) w r, 8)),
      writePermitted k (holdingWord s k .m w) p.1 p.2 = (holdingWord s k .m w, none) := by
    intro p hp
    obtain ⟨r, hr, rfl⟩ := List.mem_map.1 hp
    exact hpermitted r (List.mem_range.1 (List.mem_of_mem_filter hr))
  have hfind := find_misaligned_eq_none (d := (s.decks.get k).holding .m w) haligned
  refine exec_row_pure (row := .vstr) (op := opVstr) (ws := []) (act := fun t => modDeck t k (placeStore none _ [] false))
    rfl rfl hcode halone ?_
  simp only [opVstr, hform, Deck.sPoison_holding, hsource, hstride, Bool.not_true, Bool.or_self, Bool.false_eq_true,
    if_false, hfind]
  simp only [rowAddr_holding, rowMasked_holdingWord, vSource, Deck.pPoison_holding, hclean, Bool.false_eq_true, if_false,
    Deck.vGet_holding, Deck.vPoison_holding, Deck.pGet_holding]
  exact storeThen_of_permitted _ hranges hroom

end Rows

/-! ### What KVPUT leaves of the decks (R203, R266) -/

@[simp] theorem setBerth_decks (s : State) (n : Nat) (f : Berth → Berth) : (setBerth s n f).decks = s.decks := rfl
@[simp] theorem markFull_decks (s : State) (n detail : Nat) : (markFull s n detail).decks = s.decks := rfl
@[simp] theorem modTurn_decks (s : State) (f : Turn → Turn) : (modTurn s f).decks = s.decks := rfl
@[simp] theorem failAttempt_decks (r : FailReason) (s : State) : (failAttempt r s).decks = s.decks := rfl
@[simp] theorem evictSet_decks (s : State) (k : Nat × Nat) : (evictSet s k).decks = s.decks := rfl

@[simp] theorem evictForQuota_decks (t pages n : Nat) (s : State) : (evictForQuota t pages n s).decks = s.decks := by
  induction n generalizing s with
  | zero => rfl
  | succ n ih =>
    rw [evictForQuota]
    split
    · rfl
    · split
      · rw [ih, evictSet_decks]
      · rfl

@[simp] theorem roomForSet_decks (s : State) (slot t : Nat) : (roomForSet s slot t).decks = s.decks := by
  simp only [roomForSet]
  split
  · simp
  · split <;> simp

@[simp] theorem takeSet_decks (s : State) (slot t : Nat) : (takeSet s slot t).1.decks = s.decks := by
  simp only [takeSet]
  split
  · split
    · exact roomForSet_decks s slot t
    · exact roomForSet_decks s slot t
  · exact roomForSet_decks s slot t

@[simp] theorem setFor_decks (s : State) (b : Berth) (i : Nat) : (setFor s b i).1.decks = s.decks := by
  simp only [setFor]
  split
  · rfl
  · split <;> simp

/-- The page of a row is resolved, or its set taken, without a change of a deck. -/
@[simp] theorem resolveRow_decks (s : State) (num layerIndex q : Nat) :
    (resolveRow s num layerIndex q).1.decks = s.decks := by
  simp only [resolveRow]
  repeat' split
  all_goals simp

@[simp] theorem kvRow_decks (d : Deck) (m : Manifest) (c : KvCoord) (p : BitVec 64) (src : List Octet) (layerIndex : Nat)
    (acc : KvPut) (r : Nat) : (kvRow d m c p src layerIndex acc r).st.decks = acc.st.decks := by
  simp only [kvRow]
  repeat' split
  all_goals simp

theorem foldl_kvRow_decks (d : Deck) (m : Manifest) (c : KvCoord) (p : BitVec 64) (src : List Octet) (layerIndex : Nat)
    (rows : List Nat) (acc : KvPut) :
    (rows.foldl (kvRow d m c p src layerIndex) acc).st.decks = acc.st.decks := by
  induction rows generalizing acc with
  | nil => rfl
  | cons r rows ih => rw [List.foldl_cons, ih, kvRow_decks]

/-- A KVPUT joins the store buffer as one entry of its own. -/
theorem exists_kvputAct_decks (k : Fin 16) (d : Deck) (w : BitVec 64) (m : Manifest) (c : KvCoord) (rows : List Nat)
    (layerIndex : Nat) (s : State) :
    ∃ bytes sets, (kvputAct k d w m c rows layerIndex s).decks.get k
      = { s.decks.get k with store := (s.decks.get k).store ++ [⟨none, bytes, false, sets, true⟩] } := by
  rw [kvputAct, modDeck_eq, decks_get_setDeck_self, foldl_kvRow_decks]
  exact ⟨_, _, rfl⟩

section Kvput

variable {k : Fin 16} {w : BitVec 64} {s : State}

theorem exec_kvput (halone : alone s k .m w = true) (hsource : (s.decks.get k).sPoison (fA w) = false)
    (hcode : wordSpells 0x0B w = true) (hform : rForm w 0 = true) {m : Manifest}
    (hm : manifestOf s ((s.turn.map (·.slot)).getD 0) = some m)
    (hcoord : coordOk s ((s.turn.map (·.slot)).getD 0) m (kvCoord ((s.decks.get k).sGet (fA w)).toNat) = true)
    (hroom : storeRoom (s.decks.get k) none = true) :
    exec (.kvput k w true) s = .next (kvputAct k (s.decks.get k) w m (kvCoord ((s.decks.get k).sGet (fA w)).toNat)
      ((List.range 8).filter (fun r => !rowMasked s (s.decks.get k) r))
      (((heldLayers s ((s.turn.map (·.slot)).getD 0)).findIdx?
        (· == (kvCoord ((s.decks.get k).sGet (fA w)).toNat).layer)).getD 0) (issued s k)) := by
  have hm' : manifestOf (holdingWord s k .m w) (((holdingWord s k .m w).turn.map (·.slot)).getD 0) = some m := hm
  have hcoord' : coordOk (holdingWord s k .m w) (((holdingWord s k .m w).turn.map (·.slot)).getD 0) m
    (kvCoord ((s.decks.get k).sGet (fA w)).toNat) = true := hcoord
  have hroom' : storeRoom ((s.decks.get k).holding .m w) none = true := hroom
  refine exec_row_pure (row := .kvput) (op := opKvput) (ws := []) (act := kvputAct k _ w m _ _ _) rfl rfl hcode halone ?_
  simp only [opKvput, hform, Deck.sPoison_holding, hsource, Deck.sGet_holding, hm', hcoord', hroom', Bool.not_true,
    Bool.false_eq_true, if_false]
  rfl

end Kvput

/-- Settles O5: the rows are gathered one after the other; a store that may be written finds its entry. -/
theorem rowTransfers : Obligations.RowTransfers := by
  intro k w s halone hclean hsource hstride
  refine ⟨exec_vldr halone hclean hsource hstride, exec_vstr halone hclean hsource hstride,
    fun hcode hform m hm hcoord hroom => ?_⟩
  obtain ⟨bytes, sets, hdeck⟩ := exists_kvputAct_decks k (s.decks.get k) w m (kvCoord ((s.decks.get k).sGet (fA w)).toNat)
    ((List.range 8).filter (fun r => !rowMasked s (s.decks.get k) r))
    (((heldLayers s ((s.turn.map (·.slot)).getD 0)).findIdx?
      (· == (kvCoord ((s.decks.get k).sGet (fA w)).toNat).layer)).getD 0) (issued s k)
  refine ⟨_, bytes, sets, exec_kvput halone hsource hcode hform hm hcoord hroom, rfl, ?_, ?_⟩
  · rw [hdeck, decks_get_issued]
  · rw [hdeck, decks_get_issued]

end Sys2Proof.Machine
end

section
/-! SUPPORT and PROOFS. The events of a deck and its semaphore operations, and what a write of memory and an exception leave of
the decks (08_decks.md, R189, R194 to R196, R205 to R210; R259, R312). -/

namespace Sys2Proof.Machine

open Sys2Proof.Claims

/-! ### Events of a deck -/

theorem retryDeck_of_not_stalled {s : State} {k : Fin 16} (h : (s.decks.get k).stalled = false) : retryDeck s k = s := by
  simp [retryDeck, h]

/-- A check of a deck with no fault injected finds nothing (R361). -/
theorem residueCheck_of_none {s : State} {k : Fin 16} (h : (s.decks.get k).injected = none) : residueCheck k s = s := by
  simp [residueCheck, h]

section Events

variable {k : Fin 16} {s : State}

theorem exec_storeDrain (hrunning : s.running = true) {e : StoreEntry} {r : List StoreEntry}
    (hstore : (s.decks.get k).store = e :: r) :
    exec (.storeDrain k) s
      = .next (retryDeck (modDeck (drainBytes k s e.bytes) k (fun d => { d with store := r })) k) := by
  simp only [exec, execStoreDrain, hrunning, if_true, drainOne, hstore]

theorem exec_sequencedOperationDone (u : SeqUnit) (hstalled : (s.decks.get k).stalled = false) :
    exec (.sequencedOperationDone k u) s = .next (modDeck s k (fun d =>
      { d with sequenced := d.sequenced.eraseP (fun x => decide (x.1 = u)) })) := by
  simp only [exec, execSequencedOperationDone]
  rw [retryDeck_of_not_stalled (by simpa [modDeck_eq] using hstalled)]

/-- A started stream of one deck whose buffer has room fetches its next step, and delivers it or waits (R195, R196). -/
theorem advanceStream_alone {n : Nat} {x : Stream} {t : State} {st : StreamStep} {note : Note}
    (hstream : (s.decks.get k).stream n = some x) (hstarted : x.started = true) (hpos : x.pos < x.total)
    (hroom : x.buffer.length < 64) (halone : sharers s k x.mask = []) (hfetch : fetchStep k x s = (t, st, note)) :
    ((∀ b, note ≠ .stalled b) → advanceStream k n s = modDeck (touchTensor t x.base) k (deliverStep n st)) ∧
      (∀ b, note = .stalled b → advanceStream k n s = modDeck s k (waitStream n true)) := by
  simp only [advanceStream, hstream, halone, List.filter_nil, List.any_cons, List.any_nil, Option.map_some,
    Option.getD_some, hstarted, Nat.not_le.2 hpos, Nat.not_le.2 hroom, hfetch, Bool.not_true, decide_false,
    Bool.or_self, Bool.false_eq_true, if_false]
  constructor
  · intro hnot
    cases note with
    | stalled b => exact absurd rfl (hnot b)
    | _ => rfl
  · rintro b rfl
    rfl

theorem exec_streamStep (hrunning : s.running = true) (ws : Fin 4) {x : Stream} {t : State} {st : StreamStep}
    {note : Note} (hstream : (s.decks.get k).stream ws.val = some x) (hstarted : x.started = true)
    (hpos : x.pos < x.total) (hroom : x.buffer.length < 64) (halone : sharers s k x.mask = [])
    (hfetch : fetchStep k x s = (t, st, note)) :
    ((∀ b, note ≠ .stalled b) → exec (.streamStep k ws) s =
      .next (retryStalled (modDeck (touchTensor t x.base) k (deliverStep ws.val st)))) ∧
    (∀ b, note = .stalled b → exec (.streamStep k ws) s =
      .next (retryStalled (modDeck s k (waitStream ws.val true)))) := by
  obtain ⟨hdelivers, hwaits⟩ := advanceStream_alone hstream hstarted hpos hroom halone hfetch
  simp only [exec, execStreamStep, hrunning, if_true]
  exact ⟨fun hnot => by rw [hdelivers hnot], fun b hb => by rw [hwaits b hb]⟩

theorem exec_deckCompletion (hrunning : s.running = true) (hstatus : (s.decks.get k).status = .running)
    (hending : (s.decks.get k).ending = true) (hstore : (s.decks.get k).store = [])
    (hinjected : (s.decks.get k).injected = none) :
    exec (.deckCompletion k) s = .next (deckFree k (modDeck s k (fun d =>
      { d with status := .idle, ending := false, sequenced := [] }))) := by
  simp only [exec, execDeckCompletion, hstatus, hending, hstore, hrunning, and_self, if_true,
    residueCheck_of_none hinjected]

theorem exec_timeLimit (hrunning : s.running = true) (hstatus : (s.decks.get k).status = .running)
    (hending : (s.decks.get k).ending = false) : exec (.timeLimit k) s = .next (raiseDeck k 0 0x0A 0 s) := by
  simp only [exec, execTimeLimit, hstatus, hending, hrunning, Bool.not_false, and_self, if_true, excTime]

/-- A command with its signature does what the command does. -/
theorem command_of_signature {val : Bytes} {sig : Nat} (act : State → Applied) (s : State) (h : leNat val = sig) :
    command val sig act s = act s := by
  simp [command, h]

theorem exec_deckReset {ch : Channel} {val : Bytes} (htaken : taken s ch (0x4000 + 0x100 * k.val) 8 val.length = true)
    (hsig : leNat val = 0x5357_0040) :
    exec (.deckReset ch k val) s =
      .next (answered (modDeck s k (fun d => { d with resetDue := true })) ch (0x4000 + 0x100 * k.val) 8 0) :=
  objectWrite_of_done htaken (command_of_signature _ s hsig)

end Events

/-- The events of a deck. -/
theorem deckEvents : DeckEvents := fun _ _ hrunning =>
  ⟨fun _ _ hstore => exec_storeDrain hrunning hstore, fun u hstalled => exec_sequencedOperationDone u hstalled,
    fun ws _ _ _ hstream hstarted hpos hroom halone _ hfetch =>
      exec_streamStep hrunning ws hstream hstarted hpos hroom halone hfetch,
    exec_deckCompletion hrunning, exec_timeLimit hrunning, fun _ _ htaken hsig => exec_deckReset htaken hsig⟩

/-! ### Semaphores of a deck -/

section Semaphores

variable {k : Fin 16} {w : BitVec 64} {s : State}

theorem semDeck_holdingWord (s : State) (k : Fin 16) (slot : Slot) (w : BitVec 64) (n : Nat) :
    semDeck (holdingWord s k slot w) n = semDeck s n := rfl

theorem semValue_holdingWord (s : State) (k : Fin 16) (slot : Slot) (w : BitVec 64) (n : Nat) :
    semValue (holdingWord s k slot w) n = semValue s n := rfl

theorem exec_semsig (halone : alone s k .m w = true) (henabled : enabled s k w = true) (hform : rForm w 0 = true)
    (ha : (s.decks.get k).sPoison (fA w) = false) (hlt : ((s.decks.get k).sGet (fA w)).toNat < 1024)
    (hdeck : semDeck s ((s.decks.get k).sGet (fA w)).toNat = true) (hcode : wordSpells 0x0D w = true) :
    exec (.semsig k w true) s = .next (modTurn (issued s k) (fun t =>
      { t with signals := t.signals ++ [(((s.decks.get k).sGet (fA w)).toNat, 0)] })) := by
  obtain ⟨hon, hclean⟩ := (enabled_iff s k w).1 henabled
  have hsem : bitsOf ((s.decks.get k).sGet (fA w)).toNat 9 0 = ((s.decks.get k).sGet (fA w)).toNat := by
    simp only [bitsOf]
    omega
  have hnode : bitsOf ((s.decks.get k).sGet (fA w)).toNat 13 10 = 0 := by
    simp only [bitsOf]
    omega
  have hrest : ((s.decks.get k).sGet (fA w)).toNat / 2 ^ 14 = 0 := by omega
  refine exec_row_pure (row := .semsig) (op := opSemsig) (ws := [])
    (act := fun t => modTurn t (fun t => { t with signals := t.signals ++ [(_, 0)] })) rfl rfl hcode halone ?_
  simp only [opSemsig, hform, Deck.sPoison_holding, ha, Deck.sGet_holding, hsem, hnode, hrest, semDeck_holdingWord, hdeck]
  rw [memOn_of_predOn _ _ (by simpa using hon) (by simpa using hclean)]
  simp

/-- SEMWAIT of a local semaphore that decks may use passes or stalls by its value. -/
theorem opSemwait_eq (henabled : enabled s k w = true) (hform : rForm w 0 = true)
    (ha : (s.decks.get k).sPoison (fA w) = false) (hb : (s.decks.get k).sPoison (fB w) = false)
    (hlt : ((s.decks.get k).sGet (fA w)).toNat < 1024)
    (hdeck : semDeck s ((s.decks.get k).sGet (fA w)).toNat = true) :
    opSemwait k ((s.decks.get k).holding .m w) w (holdingWord s k .m w) = (holdingWord s k .m w,
      if ((s.decks.get k).sGet (fB w)).toNat ≤ semValue s ((s.decks.get k).sGet (fA w)).toNat then .nothing
      else .stall) := by
  obtain ⟨hon, hclean⟩ := (enabled_iff s k w).1 henabled
  simp only [opSemwait, hform, Deck.sPoison_holding, ha, hb, Deck.sGet_holding, semDeck_holdingWord, hdeck,
    semValue_holdingWord]
  rw [memOn_of_predOn _ _ (by simpa using hon) (by simpa using hclean)]
  rw [if_neg (by simp), if_neg (by simpa using hlt)]
  rfl

end Semaphores

/-- The semaphore operations of a deck. -/
theorem deckSemaphores : DeckSemaphores := by
  intro k w s halone henabled hform ha hb hlt hdeck
  have hwait := opSemwait_eq henabled hform ha hb hlt hdeck
  refine ⟨exec_semsig halone henabled hform ha hlt hdeck, fun hcode hle => ?_, fun hcode hlt' => ?_⟩
  · exact exec_row_nothing (row := .semwait) rfl rfl hcode halone (hwait.trans (by rw [if_pos hle]))
  · exact exec_row_stall (row := .semwait) rfl rfl hcode halone (hwait.trans (by rw [if_neg (Nat.not_le.2 hlt')]))

/-- Settles O42: each event acts where the deck is in the state that causes it; SEMWAIT stalls below its value. -/
theorem deckEventsAndSemaphores : Obligations.DeckEventsAndSemaphores := ⟨deckEvents, deckSemaphores⟩

/-! ### What writes of memory leave of the decks -/

/-- A fold of steps that keep a part of what they fold keeps it. -/
theorem foldl_keeps {α β γ : Type} {f : α → β → α} (part : α → γ) (h : ∀ a x, part (f a x) = part a) (l : List β) (a : α) :
    part (l.foldl f a) = part a := by
  induction l generalizing a with
  | nil => rfl
  | cons x l ih => rw [List.foldl_cons, ih, h]

@[simp] theorem accessError_decks (cls m a : Nat) (s : State) : (accessError cls m a s).decks = s.decks :=
  State.error_decks _ _

@[simp] theorem refuseLine_decks (q : Query) (s : State) (a : Nat) : (refuseLine q s a).decks = s.decks := by
  simp [refuseLine]

@[simp] theorem closeBlock_decks (s : State) (b : Nat) : (closeBlock s b).decks = s.decks := by
  simp only [closeBlock]
  split <;> simp

@[simp] theorem openBlock_decks (s : State) (b : Nat) : (openBlock s b).decks = s.decks := by
  simp only [openBlock, State.setTiers_decks]
  split
  · rfl
  · split <;> simp

@[simp] theorem writeLpddr_decks (s : State) (a : Nat) (octs : List Octet) : (writeLpddr s a octs).decks = s.decks := by
  simp only [writeLpddr]
  split
  · simp
  · split <;> simp

@[simp] theorem writeHoldWord_decks (master : Nat) (s : State) (a : Nat) (octs : List Octet) :
    (writeHoldWord master s a octs).decks = s.decks := by
  simp only [writeHoldWord]
  split
  · simp
  · split <;> simp

@[simp] theorem writeHold_decks (q : Query) (s : State) (a : Nat) (octs : List Octet) :
    (writeHold q s a octs).decks = s.decks := by
  simp only [writeHold]
  split
  · rfl
  · exact foldl_keeps State.decks (fun s p => writeHoldWord_decks _ _ _ _) _ _

@[simp] theorem storeLine_decks (q : Query) (s : State) (a : Nat) (octs : List Octet) :
    (storeLine q s a octs).decks = s.decks := by
  simp only [storeLine]
  split <;> simp

@[simp] theorem writeLine_decks (q : Query) (s : State) (a : Nat) (octs : List Octet) :
    (writeLine q s a octs).1.decks = s.decks := by
  simp only [writeLine, storeBoth]
  repeat' split
  all_goals simp

@[simp] theorem clearFullBlocks_decks (s : State) (a : Nat) (octs : List Octet) :
    (clearFullBlocks s a octs).decks = s.decks := by
  refine foldl_keeps State.decks (fun s p => ?_) _ _
  split
  · refine foldl_keeps State.decks (fun s b => ?_) _ _
    simp only [clearBlock]
    split <;> simp
  · rfl

@[simp] theorem memWrite_decks (q : Query) (s : State) (a : Nat) (octs : List Octet) :
    (memWrite q s a octs).1.decks = s.decks := by
  have hfold : ((linesOf a octs.length).foldl (fun acc p =>
      let w := writeLine q acc.1 p.1 ((octs.drop (p.1 - a)).take p.2)
      (w.1, acc.2.first w.2)) (s, Note.ok)).1.decks = s.decks := by
    refine foldl_keeps (fun acc : State × Note => acc.1.decks) (fun acc p => ?_) _ _
    exact writeLine_decks _ _ _ _
  simp only [memWrite]
  split
  · rw [clearFullBlocks_decks]
    exact hfold
  · exact hfold

@[simp] theorem touchTensor_decks (s : State) (a : Nat) : (touchTensor s a).decks = s.decks := by
  simp only [touchTensor]
  split <;> simp

@[simp] theorem drainBytes_decks (k : Fin 16) (s : State) (l : List StoreByte) : (drainBytes k s l).decks = s.decks :=
  foldl_keeps State.decks (fun s r => by simp) _ _

/-! ### What an exception leaves of the decks (R208, R209) -/

theorem decks_get_modDeck_self (s : State) (k : Fin 16) (f : Deck → Deck) :
    (modDeck s k f).decks.get k = f (s.decks.get k) := decks_get_setDeck_self s k _

theorem decks_get_setDeck_of_ne {s : State} {j k : Fin 16} (d : Deck) (h : j ≠ k) :
    (s.setDeck k d).decks.get j = s.decks.get j := by
  rw [State.setDeck_decks, Vector.get_eq_getElem, Vector.get_eq_getElem]
  exact Vector.getElem_set_ne _ _ (fun hkj => h (Fin.ext hkj.symm))

theorem decks_get_modDeck_of_ne {s : State} {j k : Fin 16} (f : Deck → Deck) (h : j ≠ k) :
    (modDeck s k f).decks.get j = s.decks.get j := decks_get_setDeck_of_ne _ h

/-- The oldest entry of a deck's store buffer goes; no other deck changes. -/
theorem drainOne_decks_get (k j : Fin 16) (s : State) : (drainOne k s).decks.get j =
    if j = k then { s.decks.get k with store := (s.decks.get k).store.drop 1 } else s.decks.get j := by
  unfold drainOne
  split
  next hstore =>
    split
    next hjk => rw [hjk, hstore, List.drop_nil, ← hstore]
    next => rfl
  next e r hstore =>
    split
    next hjk => rw [hjk, decks_get_modDeck_self, drainBytes_decks, hstore, List.drop_one, List.tail_cons]
    next hjk => rw [decks_get_modDeck_of_ne _ hjk, drainBytes_decks]

theorem foldl_drainOne_decks_get {α : Type} (k j : Fin 16) (l : List α) (s : State) :
    (l.foldl (fun s _ => drainOne k s) s).decks.get j =
      if j = k then { s.decks.get k with store := (s.decks.get k).store.drop l.length } else s.decks.get j := by
  induction l generalizing s with
  | nil => split <;> simp_all
  | cons x l ih =>
    rw [List.foldl_cons, ih, drainOne_decks_get, drainOne_decks_get, if_pos rfl]
    split
    · simp
    · rfl

/-- A store buffer, which holds at most eight entries, drains; no other deck changes. -/
theorem drainAll_decks_get {k : Fin 16} (j : Fin 16) {s : State} (h : (s.decks.get k).store.length ≤ 8) :
    (drainAll k s).decks.get j = if j = k then { s.decks.get k with store := [] } else s.decks.get j := by
  rw [drainAll, foldl_drainOne_decks_get, List.length_range, List.drop_eq_nil_of_le h]

/-- The halt of a deck changes nothing of another than its streams, and nothing of itself. -/
theorem exists_faultSharers_decks_get (k j : Fin 16) (s : State) :
    ∃ streams, (faultSharers s k).decks.get j = { s.decks.get j with streams := streams } ∧
      (j = k → streams = (s.decks.get k).streams) := by
  unfold faultSharers
  refine List.foldlRecOn (motive := fun t : State => ∃ streams, t.decks.get j = { s.decks.get j with streams := streams } ∧
    (j = k → streams = (s.decks.get k).streams)) _ _ ⟨_, rfl, fun h => h ▸ rfl⟩ fun t ht i hi => ?_
  obtain ⟨streams, hdeck, hself⟩ := ht
  have hik : i ≠ k := by
    simp only [List.mem_filter, Bool.and_eq_true, Bool.not_eq_true', decide_eq_false_iff_not] at hi
    exact hi.2.1
  by_cases hij : j = i
  · subst hij
    exact ⟨_, by rw [decks_get_modDeck_self, hdeck], fun h => absurd h hik⟩
  · exact ⟨streams, by rw [decks_get_modDeck_of_ne _ hij, hdeck], hself⟩

@[simp] theorem deckFree_decks (k : Fin 16) (s : State) : (deckFree k s).decks = s.decks := rfl

@[simp] theorem programError_decks (k : Fin 16) (cause address : Nat) (s : State) :
    (programError k cause address s).decks = s.decks := by
  unfold programError
  split <;> simp

@[simp] theorem excOutcome_decks (k : Fin 16) (cause address : Nat) (s : State) :
    (excOutcome k cause address s).decks = s.decks := by
  unfold excOutcome
  split
  · simp
  · split <;> simp

/-- A deck after an exception, and every other deck. -/
theorem raiseDeck_decks (k : Fin 16) (slot cause address : Nat) (s : State) :
    (raiseDeck k slot cause address s).decks = (modDeck (faultSharers (drainAll k s) k) k (fun d =>
      { stopStreams d with
        status := .halted, bundle := [], stalled := false, sequenced := []
        exc := ⟨cause, slot, d.pc, address, s.turns % 2 ^ 32, d.layer, d.logical⟩ })).decks := by
  simp only [raiseDeck, deckFree_decks, excOutcome_decks, programError_decks, State.bump_decks]

/-- Settles O7: the buffer drains, the other decks lose streams alone, and the record is of the deck as it was. -/
theorem exceptionHaltsTheDeck : Obligations.ExceptionHaltsTheDeck := by
  intro k slot cause address s hstore d t
  have hdeck : t.decks.get k = { { d with store := [] } with
      streams := Vector.replicate 4 none, status := .halted, bundle := [], stalled := false, sequenced := []
      exc := ⟨cause, slot, d.pc, address, s.turns % 2 ^ 32, d.layer, d.logical⟩ } := by
    obtain ⟨streams, hfault, -⟩ := exists_faultSharers_decks_get k k (drainAll k s)
    rw [drainAll_decks_get k hstore, if_pos rfl] at hfault
    rw [show t.decks = _ from raiseDeck_decks k slot cause address s, decks_get_modDeck_self, hfault]
    rfl
  have hother : ∀ j, j ≠ k → ∃ streams, t.decks.get j = { s.decks.get j with streams := streams } := by
    intro j hj
    obtain ⟨streams, hfault, -⟩ := exists_faultSharers_decks_get k j (drainAll k s)
    rw [drainAll_decks_get j hstore, if_neg hj] at hfault
    exact ⟨streams, by rw [show t.decks = _ from raiseDeck_decks k slot cause address s, decks_get_modDeck_of_ne _ hj, hfault]⟩
  rw [hdeck]
  refine ⟨rfl, rfl, rfl, rfl, rfl, rfl, rfl, rfl, fun j hj => ?_⟩
  obtain ⟨streams, hj⟩ := hother j hj
  rw [hj]
  exact ⟨rfl, rfl, rfl, rfl, rfl, rfl⟩

end Sys2Proof.Machine
end

section
/-! SUPPORT and PROOFS. Updates of accumulator entries of keys that differ, and the entries that an MMA reaches
(08_decks.md, R197 to R199). -/

namespace Sys2Proof.Machine

open Sys2Proof.Claims

/-! ### Updates of accumulator entries -/

/-- An update of an accumulator entry: its key and what becomes of it. -/
abbrev CellUpdate := Nat × (AccCell → AccCell)

/-- Apply an update to a deck. -/
def Deck.update (d : Deck) (u : CellUpdate) : Deck := d.setCell u.1 (u.2 (d.cell u.1))

theorem setCell_eq (d : Deck) (key : Nat) (c : AccCell) : d.setCell key c = { d with acc := (d.setCell key c).acc } := rfl

theorem rising_setCell {d : Deck} (key : Nat) (c : AccCell) (h : rising d.acc = true) :
    rising (d.setCell key c).acc = true := rising_sput _ _ _ h

theorem cell_setCell {d : Deck} (key j : Nat) (c : AccCell) (h : rising d.acc = true) :
    (d.setCell key c).cell j = if j = key then c else d.cell j := by
  rw [Deck.cell, Deck.setCell, sget_sput _ _ _ _ h]
  split
  · split <;> simp_all
  · rfl

theorem rising_update {d : Deck} (u : CellUpdate) (h : rising d.acc = true) : rising (d.update u).acc = true :=
  rising_setCell _ _ h

theorem cell_update {d : Deck} (u : CellUpdate) (j : Nat) (h : rising d.acc = true) :
    (d.update u).cell j = if j = u.1 then u.2 (d.cell u.1) else d.cell j := cell_setCell _ _ _ h

theorem rising_foldl_update {d : Deck} (l : List CellUpdate) (h : rising d.acc = true) :
    rising (l.foldl Deck.update d).acc = true :=
  List.foldlRecOn (motive := fun e : Deck => rising e.acc = true) l _ h fun _ he u _ => rising_update u he

/-- Updates change nothing of a deck but its accumulators. -/
theorem foldl_update_eq (d : Deck) (l : List CellUpdate) :
    l.foldl Deck.update d = { d with acc := (l.foldl Deck.update d).acc } := by
  induction l generalizing d with
  | nil => rfl
  | cons u l ih =>
    rw [List.foldl_cons, ih]
    rfl

/-- An entry that no update names stays. -/
theorem cell_foldl_update_of_not_mem {d : Deck} {key : Nat} {l : List CellUpdate} (h : rising d.acc = true)
    (hkey : ∀ u ∈ l, u.1 ≠ key) : (l.foldl Deck.update d).cell key = d.cell key := by
  induction l generalizing d with
  | nil => rfl
  | cons u l ih =>
    rw [List.foldl_cons, ih (rising_update u h) fun v hv => hkey v (List.mem_cons_of_mem _ hv), cell_update _ _ h,
      if_neg (Ne.symm (hkey u List.mem_cons_self))]

/-- Among updates of keys that differ, each is of the entry as it was. -/
theorem cell_foldl_update_of_mem {d : Deck} {u : CellUpdate} {l : List CellUpdate} (h : rising d.acc = true)
    (hnodup : (l.map (·.1)).Nodup) (hu : u ∈ l) : (l.foldl Deck.update d).cell u.1 = u.2 (d.cell u.1) := by
  induction l generalizing d with
  | nil => cases hu
  | cons v l ih =>
    obtain ⟨hv, hnodup⟩ := List.nodup_cons.1 hnodup
    have hne : ∀ x ∈ l, x.1 ≠ v.1 := fun x hx heq => hv (List.mem_map.2 ⟨x, hx, heq⟩)
    rw [List.foldl_cons]
    rcases List.mem_cons.1 hu with rfl | hu
    · rw [cell_foldl_update_of_not_mem (rising_update _ h) hne, cell_update _ _ h, if_pos rfl]
    · rw [ih (rising_update v h) hnodup hu, cell_update _ _ h, if_neg (hne u hu)]

/-! ### The updates of an MMA (R198, R199) -/

/-- The columns of a mode: one of eight, or in mode 1 two of them for one of four. -/
def columnFits (mode col : Nat) : Prop := col < 8 ∧ (mode = 1 → col < 4)

theorem laneCells_columns {mode col : Nat} (hcol : columnFits mode col) (close : Bool) (lane : LaneStep)
    (acts : List Act) : ((laneCells mode col close lane acts).map (·.1)).Nodup ∧
      ∀ t ∈ laneCells mode col close lane acts, t.1 < 8 := by
  obtain ⟨hlt, hhalf⟩ := hcol
  by_cases hzero : mode = 0
  · simpa [laneCells, hzero] using hlt
  · by_cases hone : mode = 1
    · have := hhalf hone
      simp [laneCells, hone]
      omega
    · simpa [laneCells, hzero, hone] using hlt

section Updates

variable {mode col : Nat} (hcol : columnFits mode col) (bank : Nat) (close : Bool)

/-- The updates that an array's lane makes of one row. -/
def rowUpdates (mode col bank : Nat) (close : Bool) (array : Nat) (lane : LaneStep) (row : List Act × Nat) :
    List CellUpdate :=
  (laneCells mode col close lane row.1).map (fun t => (accKey bank array row.2 t.1, t.2))

/-- The updates that an array's lane makes of all rows. -/
def laneUpdates (mode col bank : Nat) (close : Bool) (rows : List (List Act)) (lane : LaneStep × Nat) : List CellUpdate :=
  rows.zipIdx.flatMap (rowUpdates mode col bank close lane.2 lane.1)

/-- The updates of an MMA. -/
def mmaUpdates (mode col bank : Nat) (close : Bool) (rows : List (List Act)) (lanes : List LaneStep) : List CellUpdate :=
  lanes.zipIdx.flatMap (laneUpdates mode col bank close rows)

include hcol

/-- The keys of a row's updates: the row stands above the column. -/
theorem key_of_mem_rowUpdates {array : Nat} {lane : LaneStep} {row : List Act × Nat} {u : CellUpdate}
    (hu : u ∈ rowUpdates mode col bank close array lane row) : u.1 / 8 = bank * 256 + array * 8 + row.2 := by
  obtain ⟨t, ht, rfl⟩ := List.mem_map.1 hu
  have := (laneCells_columns hcol close lane row.1).2 t ht
  simp only [accKey]
  omega

theorem nodup_rowUpdates (array : Nat) (lane : LaneStep) (row : List Act × Nat) :
    ((rowUpdates mode col bank close array lane row).map (·.1)).Nodup := by
  have h := (laneCells_columns hcol close lane row.1).1
  rw [rowUpdates, List.map_map]
  refine List.Nodup.of_map (fun key => key - (bank * 2048 + array * 64 + row.2 * 8)) ?_
  rw [List.map_map]
  convert h using 1
  refine List.map_congr_left fun t _ => ?_
  simp [accKey]

/-- The keys of a lane's updates: the array stands above the row, of which there are eight. -/
theorem key_of_mem_laneUpdates {rows : List (List Act)} (hrows : rows.length = 8) {lane : LaneStep × Nat} {u : CellUpdate}
    (hu : u ∈ laneUpdates mode col bank close rows lane) : u.1 / 64 = bank * 32 + lane.2 := by
  obtain ⟨row, hrow, hu⟩ := List.mem_flatMap.1 hu
  have hlt := List.snd_lt_of_mem_zipIdx hrow
  have hkey := key_of_mem_rowUpdates hcol bank close hu
  omega

omit hcol in
/-- Places of a list differ. -/
theorem pairwise_zipIdx_ne {α : Type} (l : List α) : l.zipIdx.Pairwise (fun a b => a.2 ≠ b.2) := by
  have h : (l.zipIdx.map (·.2)).Nodup := by
    rw [List.zipIdx_map_snd]
    exact List.nodup_range'
  exact List.pairwise_map.1 h

theorem nodup_laneUpdates (rows : List (List Act)) (lane : LaneStep × Nat) :
    ((laneUpdates mode col bank close rows lane).map (·.1)).Nodup := by
  rw [laneUpdates, List.map_flatMap, List.nodup_flatMap]
  refine ⟨fun row _ => nodup_rowUpdates hcol bank close _ _ _, (pairwise_zipIdx_ne rows).imp fun {a b} hne key ha hb => ?_⟩
  obtain ⟨u, hu, rfl⟩ := List.mem_map.1 ha
  obtain ⟨v, hv, heq⟩ := List.mem_map.1 hb
  have hua := key_of_mem_rowUpdates hcol bank close hu
  have hvb := key_of_mem_rowUpdates hcol bank close hv
  rw [heq] at hvb
  omega

/-- No two updates of an MMA are of one entry. -/
theorem nodup_mmaUpdates {rows : List (List Act)} (hrows : rows.length = 8) (lanes : List LaneStep) :
    ((mmaUpdates mode col bank close rows lanes).map (·.1)).Nodup := by
  rw [mmaUpdates, List.map_flatMap, List.nodup_flatMap]
  refine ⟨fun lane _ => nodup_laneUpdates hcol bank close _ _, (pairwise_zipIdx_ne lanes).imp fun {a b} hne key ha hb => ?_⟩
  obtain ⟨u, hu, rfl⟩ := List.mem_map.1 ha
  obtain ⟨v, hv, heq⟩ := List.mem_map.1 hb
  have hua := key_of_mem_laneUpdates hcol bank close hrows hu
  have hvb := key_of_mem_laneUpdates hcol bank close hrows hv
  rw [heq] at hvb
  omega

/-- Every update of an MMA of at most 32 lanes is of its bank. -/
theorem inBank_of_mem_mmaUpdates {rows : List (List Act)} (hrows : rows.length = 8) {lanes : List LaneStep}
    (hlanes : lanes.length ≤ 32) {u : CellUpdate} (hu : u ∈ mmaUpdates mode col bank close rows lanes) :
    inBank bank u.1 = true := by
  obtain ⟨lane, hlane, hu⟩ := List.mem_flatMap.1 hu
  have hlt := List.snd_lt_of_mem_zipIdx hlane
  have hkey := key_of_mem_laneUpdates hcol bank close hrows hu
  simp only [inBank, decide_eq_true_eq]
  omega

end Updates

theorem mem_mmaUpdates {mode col bank : Nat} {close : Bool} {rows : List (List Act)} {lanes : List LaneStep}
    {array r : Nat} {lane : LaneStep} {acts : List Act} {p : Nat × (AccCell → AccCell)} (hlane : lanes[array]? = some lane)
    (hrow : rows[r]? = some acts) (hp : p ∈ laneCells mode col close lane acts) :
    (accKey bank array r p.1, p.2) ∈ mmaUpdates mode col bank close rows lanes := by
  refine List.mem_flatMap.2 ⟨(lane, array), List.mk_mem_zipIdx_iff_getElem?.2 hlane, ?_⟩
  refine List.mem_flatMap.2 ⟨(acts, r), List.mk_mem_zipIdx_iff_getElem?.2 hrow, ?_⟩
  exact List.mem_map_of_mem (f := fun t => (accKey bank array r t.1, t.2)) hp

/-- The rows of activations that an MMA takes of a deck. -/
def actRows (mode a : Nat) (masked : List Bool) (src : Deck) : List (List Act) :=
  (List.range 8).map (fun r => maskRow ((masked[r]?).getD true) (if mode < 2 then intRow src a r else floatRow src a r))

/-- An MMA makes its updates one after the other. -/
theorem mmaCells_eq (mode bank col : Nat) (close : Bool) (a : Nat) (masked : List Bool) (src : Deck) (step : StreamStep)
    (d : Deck) : mmaCells mode bank col close a masked src step d
      = (mmaUpdates mode col bank close (actRows mode a masked src) step.lanes).foldl Deck.update d := by
  simp only [mmaCells, mmaUpdates, List.foldl_flatMap, laneUpdates, rowUpdates, List.foldl_map]
  rfl

/-! ### MMA of a deck -/

theorem stream_setStream {d : Deck} {n : Nat} (h : n < 4) (x : Option Stream) : (d.setStream n x).stream n = x := by
  simp [Deck.setStream, Deck.stream, h]

theorem setStream_acc (d : Deck) (n : Nat) (x : Option Stream) : (d.setStream n x).acc = d.acc := by
  unfold Deck.setStream
  split <;> rfl

theorem setStream_injected (d : Deck) (n : Nat) (x : Option Stream) : (d.setStream n x).injected = d.injected := by
  unfold Deck.setStream
  split <;> rfl

/-- The deck whose stream has given its first step away. -/
def tookStep (w : BitVec 64) (d : Deck) : Deck :=
  d.setStream (fB w) ((d.stream (fB w)).map (fun z => { z with buffer := z.buffer.drop 1 }))

/-- The deck whose accumulators an MMA has updated. -/
def accumulated (w : BitVec 64) (rows : List (List Act)) (step : StreamStep) (d : Deck) : Deck :=
  (mmaUpdates (bitsOf (fFl w) 1 0) (fC w) (fD w) (bitOf (fFl w) 2) rows step.lanes).foldl Deck.update (tookStep w d)

/-- The deck after an MMA took a step. -/
def mmaDeck (w : BitVec 64) (rows : List (List Act)) (step : StreamStep) (d : Deck) : Deck :=
  if bitsOf (fFl w) 1 0 < 2 then accumulated w rows step d
  else { accumulated w rows step d with sequenced := (accumulated w rows step d).sequenced ++ [(.arrays, none)] }

section MmaDeck

variable (w : BitVec 64) (rows : List (List Act)) (step : StreamStep) (d : Deck)

theorem tookStep_acc : (tookStep w d).acc = d.acc := setStream_acc _ _ _

theorem accumulated_eq : accumulated w rows step d = { tookStep w d with acc := (accumulated w rows step d).acc } :=
  foldl_update_eq _ _

theorem mmaDeck_cell (key : Nat) : (mmaDeck w rows step d).cell key = (accumulated w rows step d).cell key := by
  unfold mmaDeck
  split <;> rfl

theorem mmaDeck_stream {x : Stream} (hb : fB w < 4) (hx : d.stream (fB w) = some x) :
    (mmaDeck w rows step d).stream (fB w) = some { x with buffer := x.buffer.drop 1 } := by
  have htook : (tookStep w d).stream (fB w) = some { x with buffer := x.buffer.drop 1 } :=
    (stream_setStream hb _).trans (by rw [hx]; rfl)
  unfold mmaDeck
  rw [accumulated_eq]
  split <;> exact htook

theorem mmaDeck_injected : (mmaDeck w rows step d).injected = d.injected := by
  have htook : (tookStep w d).injected = d.injected := setStream_injected _ _ _
  unfold mmaDeck
  rw [accumulated_eq]
  split <;> exact htook

end MmaDeck

/-- What an MMA does with its deck, where no fault is armed. -/
theorem mmaAct_decks_get {k : Fin 16} {w : BitVec 64} {step : StreamStep} {s : State} (src : Deck)
    (hclean : (s.decks.get k).injected = none) :
    (mmaAct k src w step s).decks.get k = mmaDeck w (actRows (bitsOf (fFl w) 1 0) (fA w)
      ((List.range 8).map (rowMasked s src)) src) step (s.decks.get k) := by
  have hdeck : ∀ s2 : State, (s2.decks.get k) = mmaDeck w (actRows (bitsOf (fFl w) 1 0) (fA w)
      ((List.range 8).map (rowMasked s src)) src) step (s.decks.get k) →
      ((if (bitOf (fFl w) 2 : Bool) ∨ 2 ≤ bitsOf (fFl w) 1 0 then residueCheck k s2 else s2).decks.get k)
        = mmaDeck w (actRows (bitsOf (fFl w) 1 0) (fA w)
      ((List.range 8).map (rowMasked s src)) src) step (s.decks.get k) := by
    intro s2 hs2
    rw [residueCheck_of_none (by rw [hs2, mmaDeck_injected, hclean]), ite_self, hs2]
  refine hdeck _ ?_
  simp only [State.draw_decks, State.bumpBy_decks, decks_get_modDeck_self, mmaCells_eq]
  rfl

section Mma

variable {k : Fin 16} {w : BitVec 64} {s : State} {x : Stream} {step : StreamStep} {rest : List StreamStep}

/-- MMA with a step in its stream: it raises what the step met, or takes the step. -/
theorem opMma_of_step (hform : mmaForm w = true) (henabled : enabled s k w = true)
    (hstream : (s.decks.get k).stream (fB w) = some x) (hgood : x.faulty = false)
    (hmode : modeFits (bitsOf (fFl w) 1 0) x.format = true) (hcol : bitsOf (fFl w) 1 0 = 1 → fC w < 4)
    (hbuffer : x.buffer = step :: rest) (t : State) :
    opMma k ((s.decks.get k).holding .x w) w t = match step.fault with
      | some (c, a) => (t, .raise c a)
      | none => if step.closing ≠ bitOf (fFl w) 2 then (t, .raise excMismatch 0)
        else (t, .ok [] (mmaAct k ((s.decks.get k).holding .x w) w step)) := by
  obtain ⟨hon, hclean⟩ := (enabled_iff s k w).1 henabled
  have hheld : ((s.decks.get k).holding .x w).stream (fB w) = some x := hstream
  have hfits : ¬ (bitsOf (fFl w) 1 0 = 1 ∧ 3 < fC w) := fun h => by have := hcol h.1; omega
  rw [opMma, hform, memOn_of_predOn _ _ (by simpa using hon) (by simpa using hclean), hheld]
  simp only [hgood, hmode, hfits, hbuffer]
  rfl

theorem exec_mma_of_fault {cause address : Nat} (hcode : wordSpells 0x01 w = true) (hform : mmaForm w = true)
    (halone : alone s k .x w = true) (henabled : enabled s k w = true)
    (hstream : (s.decks.get k).stream (fB w) = some x) (hgood : x.faulty = false)
    (hmode : modeFits (bitsOf (fFl w) 1 0) x.format = true) (hcol : bitsOf (fFl w) 1 0 = 1 → fC w < 4)
    (hbuffer : x.buffer = step :: rest) (hfault : step.fault = some (cause, address)) :
    exec (.mma k w true) s = .next (raiseDeck k 3 cause address (holdingWord s k .x w)) := by
  refine slotRow_raise (op := opMma) ((wordSpells_iff _ _).1 hcode) halone rfl ?_
  exact (opMma_of_step hform henabled hstream hgood hmode hcol hbuffer _).trans (by rw [hfault])

theorem exec_mma_of_step (hfault : step.fault = none) (hcode : wordSpells 0x01 w = true) (hform : mmaForm w = true)
    (halone : alone s k .x w = true) (henabled : enabled s k w = true)
    (hstream : (s.decks.get k).stream (fB w) = some x) (hgood : x.faulty = false)
    (hmode : modeFits (bitsOf (fFl w) 1 0) x.format = true) (hcol : bitsOf (fFl w) 1 0 = 1 → fC w < 4)
    (hbuffer : x.buffer = step :: rest) (hclosing : step.closing = bitOf (fFl w) 2) :
    exec (.mma k w true) s = .next (mmaAct k ((s.decks.get k).holding .x w) w step (issued s k)) := by
  refine exec_row_pure (row := fun k w last => .mma k w last) (op := opMma) (ws := []) rfl rfl hcode halone ?_
  exact (opMma_of_step hform henabled hstream hgood hmode hcol hbuffer _).trans (by simp [hfault, hclosing])

/-- The activations that an issued MMA takes are those of the deck before it. -/
theorem actRows_getElem? {r : Nat} (hr : r < 8) :
    (actRows (bitsOf (fFl w) 1 0) (fA w) ((List.range 8).map (rowMasked (issued s k) ((s.decks.get k).holding .x w)))
      ((s.decks.get k).holding .x w))[r]? = some (activations s k w r) := by
  simp only [actRows, List.getElem?_map, List.getElem?_range hr, Option.map_some, Option.getD_some]
  rfl

end Mma

/-- Settles O6: a step's updates are of entries that differ, all of the bank that the word names. -/
theorem mmaAccumulates : Obligations.MmaAccumulates := by
  refine ⟨fun k w s x step rest cause address hcode hform halone henabled hstream hgood hmode hcol hbuffer hfault =>
    exec_mma_of_fault hcode hform halone henabled hstream hgood hmode hcol hbuffer hfault, ?_⟩
  intro k w s x step rest hfault hcode hform halone henabled hclean hrising hstream hgood hmode hcol hbuffer hclosing hlanes
  obtain ⟨⟨⟨⟨-, -⟩, hb⟩, hc⟩, -⟩ : (((rForm w 7 = true ∧ fD w < 8) ∧ fB w < 4) ∧ fC w < 8) ∧
      (bitsOf (fFl w) 1 0 < 2 ∨ fA w % 2 = 0) := by simpa [mmaForm] using hform
  have hfits : columnFits (bitsOf (fFl w) 1 0) (fC w) := ⟨hc, hcol⟩
  have hissued := decks_get_issued s k
  refine ⟨_, exec_mma_of_step hfault hcode hform halone henabled hstream hgood hmode hcol hbuffer hclosing, ?_⟩
  rw [mmaAct_decks_get _ (by rw [hissued]; exact hclean)]
  have hrise : rising (tookStep w ((issued s k).decks.get k)).acc = true := by
    rw [tookStep_acc, hissued]
    exact hrising
  have hcell : ∀ key, (tookStep w ((issued s k).decks.get k)).cell key = (s.decks.get k).cell key := by
    intro key
    rw [Deck.cell, tookStep_acc, hissued, ← Deck.cell]
    rfl
  refine ⟨?_, ?_, ?_⟩
  · rw [mmaDeck_stream (x := x) _ _ _ _ hb (by rw [hissued]; exact hstream), hbuffer]
    rfl
  · intro array lane hlane r hr p hp
    rw [mmaDeck_cell, ← hcell]
    exact cell_foldl_update_of_mem (u := (accKey (fD w) array r p.1, p.2)) hrise
      (nodup_mmaUpdates hfits _ _ (by simp [actRows]) _) (mem_mmaUpdates hlane (actRows_getElem? hr) hp)
  · intro key hkey
    rw [mmaDeck_cell, ← hcell]
    refine cell_foldl_update_of_not_mem hrise fun u hu heq => ?_
    have hin := inBank_of_mem_mmaUpdates hfits _ _ (by simp [actRows]) hlanes.le hu
    rw [heq, hkey] at hin
    cases hin

end Sys2Proof.Machine
end

section
/-! SUPPORT and PROOFS. The empty queue, the block as delivered, writes of objects that are refused, the lifecycle
transitions, and a Store Parameters whose end comes while bank 0 is busy (02_object_dictionary.md,
04_start_up_and_custody.md). -/

namespace Sys2Proof.Machine

open Sys2Proof.Claims

/-! ### Writes that are refused (R40, R94) -/

section Refused

variable {s : State} {ch : Channel} {idx sub : Nat} {val : Bytes} (apply : State → Applied)

theorem objectWrite_of_not_serves (h : s.serves = false) : objectWrite ch idx sub val apply s = .next s := by
  simp [objectWrite, h]

theorem objectWrite_of_writeChecks_error {code : Nat} (hserves : s.serves = true)
    (h : writeChecks s ch idx sub val.length = .error code) :
    objectWrite ch idx sub val apply s = .next (answered s ch idx sub code) := by
  simp [objectWrite, serveWrite, hserves, h, answerWrite, answered]

theorem objectWrite_of_harbourRefuses {d : ObjDef} (hserves : s.serves = true)
    (h : writeChecks s ch idx sub val.length = .ok d) (hharbour : harbourRefuses s idx = true) :
    objectWrite ch idx sub val apply s = .next (answered s ch idx sub abHarbour) := by
  simp [objectWrite, serveWrite, hserves, h, hharbour, answerWrite, answered]

end Refused

/-- Every command that writes an object serves that write by an owner of its own. -/
theorem exists_objectWrite_of_writes {i : Instr} {ch : Channel} {idx sub : Nat} {val : Bytes}
    (h : writes i = some (ch, idx, sub, val)) (s : State) : ∃ apply, exec i s = objectWrite ch idx sub val apply s := by
  cases i
  case registerWrite t =>
    cases t with
    | object c x n v =>
      obtain ⟨rfl, rfl, rfl, rfl⟩ : c = ch ∧ x = idx ∧ n = sub ∧ v = val := by simpa [writes] using h
      exact ⟨_, rfl⟩
    | _ => cases h
  case tierQuotaWrite c x n v =>
    obtain ⟨rfl, rfl, rfl, rfl⟩ : c = ch ∧ x = idx ∧ n = sub ∧ v = val := by simpa [writes] using h
    change ∃ apply, execTierQuotaWrite c x n v s = _
    unfold execTierQuotaWrite
    split <;> exact ⟨_, rfl⟩
  case receiverSetting c x n v =>
    obtain ⟨rfl, rfl, rfl, rfl⟩ : c = ch ∧ x = idx ∧ n = sub ∧ v = val := by simpa [writes] using h
    change ∃ apply, execReceiverSetting c x n v s = _
    unfold execReceiverSetting
    split
    · exact ⟨_, rfl⟩
    · split <;> exact ⟨_, rfl⟩
  all_goals cases h <;> exact ⟨_, rfl⟩

/-- Settles O9: every such command serves its write alike. -/
theorem refusedWritesChangeNothing : Obligations.RefusedWritesChangeNothing := by
  intro i s ch idx sub val hwrites
  obtain ⟨apply, hexec⟩ := exists_objectWrite_of_writes hwrites s
  rw [hexec]
  exact ⟨objectWrite_of_not_serves apply, fun code => objectWrite_of_writeChecks_error apply,
    fun d => objectWrite_of_harbourRefuses apply⟩

/-! ### Writes that their owner ends -/

/-- A command that serves its write by an owner which accepts it. -/
theorem accepted_of_done {i : Instr} {ch : Channel} {idx sub : Nat} {val : Bytes} {s t : State} {apply : State → Applied}
    (hwrites : writes i = some (ch, idx, sub, val)) (hexec : exec i s = objectWrite ch idx sub val apply s)
    (hdone : apply s = .done 0 t) : Accepted i s t := by
  intro ch' idx' sub' val' hwrites' htaken
  obtain ⟨rfl, rfl, rfl, rfl⟩ : ch = ch' ∧ idx = idx' ∧ sub = sub' ∧ val = val' := by simpa [hwrites] using hwrites'
  rw [hexec, objectWrite_of_done htaken hdone]

/-- A command that serves its write by an owner which turns it down. -/
theorem turnedDown_of_done {i : Instr} {ch : Channel} {idx sub : Nat} {val : Bytes} {s : State} {apply : State → Applied}
    {code : Nat} (hwrites : writes i = some (ch, idx, sub, val)) (hexec : exec i s = objectWrite ch idx sub val apply s)
    (hdone : apply s = .done code s) : TurnedDown i code s := by
  intro ch' idx' sub' val' hwrites' htaken
  obtain ⟨rfl, rfl, rfl, rfl⟩ : ch = ch' ∧ idx = idx' ∧ sub = sub' ∧ val = val' := by simpa [hwrites] using hwrites'
  rw [hexec, objectWrite_of_done htaken hdone]

/-! ### Lifecycle transitions (R96 to R98) -/

section Transition

variable {t : Transition} {val : Bytes} {s : State}

theorem applyTransition_of_permitted (hfree : s.custody.transition = none) (hval : leNat val = t.command)
    (h : permitted t s.lifecycle s.custody.serviceAuth = true) :
    applyTransition t val s = .done 0 { s with
      custody := { s.custody with transition := some (t.counter, s.lifecycle, t.enters), serviceAuth := false }
      serving := { s.serving with stopped := true } } :=
  guarded_of_passes _ s (by simp [hfree, hval, h, firstFail])

theorem applyTransition_of_not_permitted (hfree : s.custody.transition = none) (hval : leNat val = t.command)
    (h : permitted t s.lifecycle s.custody.serviceAuth = false) : applyTransition t val s = .done abLifecycle s :=
  guarded_of_firstFail _ s (by simp [hfree, hval, h])

/-- A row of the transitions: its command leaves the states that permit it, and only those. -/
theorem transition_row {i : Instr} {ch : Channel} {leaves : List Lifecycle}
    (hpermitted : ∀ l auth, permitted t l auth = (leaves.contains l && (!decide (t.enters = .service) || auth)))
    (hwrites : writes i = some (ch, 0x2110, 2, val))
    (hexec : exec i s = objectWrite ch 0x2110 2 val (applyTransition t val) s)
    (hfree : s.custody.transition = none) (hval : leNat val = t.command) :
    (s.lifecycle ∈ leaves → (t.enters = .service → s.custody.serviceAuth = true) →
      Accepted i s { s with
        custody := { s.custody with transition := some (t.counter, s.lifecycle, t.enters), serviceAuth := false }
        serving := { s.serving with stopped := true } }) ∧
    ((s.lifecycle ∉ leaves ∨ (t.enters = .service ∧ s.custody.serviceAuth = false)) → TurnedDown i abLifecycle s) := by
  refine ⟨fun hleaves hauth => ?_, fun hrefused => ?_⟩
  · refine accepted_of_done hwrites hexec (applyTransition_of_permitted hfree hval ?_)
    by_cases hservice : t.enters = .service
    · simp [hpermitted, hleaves, hauth hservice]
    · simp [hpermitted, hleaves, hservice]
  · refine turnedDown_of_done hwrites hexec (applyTransition_of_not_permitted hfree hval ?_)
    rcases hrefused with hleaves | ⟨hservice, hauth⟩
    · simp [hpermitted, hleaves]
    · simp [hpermitted, hservice, hauth]

end Transition

/-- Settles O11: `permitted` is the table of states that each transition leaves. -/
theorem lifecycleTransitions : Obligations.LifecycleTransitions := by
  intro ch val s hfree
  refine List.forall_mem_cons.2 ⟨fun hval => transition_row (t := toFactory) ?_ rfl rfl hfree hval,
    List.forall_mem_cons.2 ⟨fun hval => transition_row (t := toDevelopment) ?_ rfl rfl hfree hval,
    List.forall_mem_cons.2 ⟨fun hval => transition_row (t := toDeployed) ?_ rfl rfl hfree hval,
    List.forall_mem_cons.2 ⟨fun hval => transition_row (t := toService) ?_ rfl rfl hfree hval,
    List.forall_mem_cons.2 ⟨fun hval => transition_row (t := leaveService) ?_ rfl rfl hfree hval,
    List.forall_mem_singleton.2 fun hval => transition_row (t := toEnd) ?_ rfl rfl hfree hval⟩⟩⟩⟩⟩
  all_goals
    intro l auth
    cases l <;> cases auth <;> rfl

/-! ### A store that ends while bank 0 is busy (R51, R123) -/

/-- A part whose stored set is being copied while bank 0 of its flash erases a sector. -/
def storingWhileErasing : State :=
  { State.reset with
    custody := { State.reset.custody with storing := some (.priv, ⟨1, []⟩) }
    flash := { State.reset.flash with banks := [(0, ⟨.priv, 0, true, false, 0, 0, false, false, 0, 16⟩)] } }

theorem exec_storeDone_storingWhileErasing : exec (.storeDone true) storingWhileErasing = .next storingWhileErasing := rfl

/-- Refutes O43: the clause of STORE_DONE forgets that bank 0, which holds the parameter area, may be busy; then the
copy stays in progress. -/
theorem not_interfaceResetAndStoredSettings : ¬ Obligations.InterfaceResetAndStoredSettings := by
  unfold Obligations.InterfaceResetAndStoredSettings
  rintro ⟨hstored, -⟩
  obtain ⟨-, -, -, hdone⟩ := hstored .priv [] storingWhileErasing rfl
  obtain ⟨t, hexec, hstoring, -⟩ := hdone .priv ⟨1, []⟩ rfl rfl
  rw [exec_storeDone_storingWhileErasing, Host.Outcome.next.injEq] at hexec
  rw [← hexec] at hstoring
  cases hstoring

/-! ### The queue and the block as delivered -/

/-- A command's outcome is a next state. -/
def Completes (o : Host.Outcome State Fault Refusal) : Prop := ∃ t, o = .next t

theorem completes_next (t : State) : Completes (.next t) := ⟨t, rfl⟩

theorem completes_slotRow (k : Fin 16) (slot : Slot) (w : BitVec 64) (last : Bool) (s : State) :
    Completes (slotRow k slot w last s) := by
  dsimp only [slotRow]
  split
  · exact completes_next _
  · split <;> exact completes_next _

theorem completes_objectWrite (ch : Channel) (idx sub : Nat) (val : Bytes) (apply : State → Applied) (s : State) :
    Completes (objectWrite ch idx sub val apply s) := by
  unfold objectWrite
  split <;> exact completes_next _

theorem completes_of_writes {i : Instr} {ch : Channel} {idx sub : Nat} {val : Bytes}
    (h : writes i = some (ch, idx, sub, val)) (s : State) : Completes (exec i s) := by
  obtain ⟨apply, hexec⟩ := exists_objectWrite_of_writes h s
  exact hexec ▸ completes_objectWrite ch idx sub val apply s

/-- Settles O2: a write of an object and a slot word answer a next state, and so does each branch of every other
command. -/
theorem everyCommandCompletes : Obligations.EveryCommandCompletes := by
  intro c s
  change Completes (exec c s)
  rcases hwrites : writes c with _ | ⟨ch, idx, sub, val⟩
  case some => exact completes_of_writes hwrites s
  cases c
  case registerWrite t =>
    cases t with
    | object => cases hwrites
    | bar0 =>
      dsimp only [exec, execRegisterWrite]
      split <;> exact completes_next _
  all_goals try cases hwrites
  all_goals
    dsimp only [exec, frameRow, submitRow, ringRow, shortPacketRow, execScrubRead, execSwPgood, execSwPgoodTimeout, execRailRetry, execLinkL12Entry, execPerstNRelease,
      execPcieLinkUp, execTamperNRelease, execWatchFllLock, execDynamicAddressAssignment, execReadyTimeout,
      execDozeTimeout, execWatchTimeout, execThermalSample, execPointChangeDone, execJournalRecordWritten,
      execKeepalivePeriod, execForwardTimeout, execHostReadTimeout, execTierMoveStart, execTierMoveDone,
      execMemoryAccess, execDeckCompletion, execSequencedOperationDone, execStoreDrain, execStreamStep,
      execTimeLimit, execDescriptorStart, execProgramPulseDone, execEraseDone, execEraseResume,
      execRegionChangeEffect, execCompletionPost, execImageCommandDone, execSwapLayerStaged, execSwapCopyDone,
      execHostWakeCoalesce, execWatchDeadlineTimer, execHostSleepIdle, execCoalesceTime, execHeldOutputFlush,
      execGenerateReq, execContinueReq, execCancelReq, execCloseReq, execParkLimit, execSemSignal,
      execSemWait, execSemWaitSatisfied, execRoutingStep, execLayerDispatch, execSampling, execCommitPoint,
      execAttemptAbandon, execErrorReportCoalesce, execPowerOnReset, execRstNAssert, execResetDelay,
      execHelmWatchdog, execOffPrepareDone, execPowerLoss, execRailsRemoved, execDozeEntry, execDozeEntryDone,
      execWatchEntry, execWatchEntryDone, execTurnBarrier, execJobConsumed, execNextFrameStart, execFrameDone,
      execFrameBudget, execFrameStart, execFrameEnd, execLineStart, execLineEnd, execLongPacket,
      execLinkTrained, execRetryTimeout, execKeepaliveSilence, execJoinDecision, execStoreDone,
      execExpeditedRead, execExpeditedWrite, execSegmentedRead, execSegmentedWrite, execAbortFrame,
      execSegmentTimeout, execRegisterWrite, execI3cPrivateWrite, execI3cPrivateRead, execI2cLegacyTransfer,
      execDozeExitDone, execWatchExitDone, execWakeSource, execHostL1Exit, execConfigurationRequest,
      execDoorbell, execHeldOutputTimer, execHostReset, execRstNRelease, execTamperEvent, execIdlePacket,
      execNakPacket, execHelloPacket, execJoinPacket, execDictPacket, execBerthPacket, execBatchTable,
      execCommitReport, execTurnCommit, execSemsigPacket, execWritePacket, execReadPacket, execReadData,
      execDownshift, execLossPacket, execKeepalive, execWakeFrame, execDictReq, execDictRsp]
    repeat' split
    all_goals try with_reducible exact completes_next _
  all_goals exact completes_slotRow _ _ _ _ _

/-- Settles O1: by the two cases of the queue. -/
theorem stepRunsTheFrontCommand : Obligations.StepRunsTheFrontCommand := by
  refine ⟨fun c rest s h => by simp only [step, h], fun s h => ⟨by simp only [step, h], fun hidle => ?_⟩⟩
  simp [tick, hidle]

/-- Settles O35: a closed fact about the state of delivery. -/
theorem resetLeavesAnEmptyBlock : Obligations.ResetLeavesAnEmptyBlock := by
  refine ⟨?_, rfl, rfl, rfl, rfl, rfl, rfl, ?_, ?_, rfl, rfl, rfl, rfl⟩
  · decide
  · decide
  · decide

end Sys2Proof.Machine
end

section
/-! SUPPORT and PROOFS. Finite maps, the channels and the objects, what sending a message changes, and how request
frames arrive and are served (02_object_dictionary.md). -/

namespace Sys2Proof.Machine

open Sys2Proof.Claims

/-! ### Finite maps -/

section Maps

variable {α β : Type} [DecidableEq α] (l : List (α × β)) (k j : α) (v : β)

theorem aget_cons (p : α × β) : aget (p :: l) k = if p.1 = k then some p.2 else aget l k := by
  by_cases h : p.1 = k <;> simp [aget, h]

theorem aget_adel : aget (adel l k) j = if k = j then none else aget l j := by
  induction l with
  | nil => simp [adel, aget]
  | cons p l ih =>
    by_cases hp : p.1 = k
    · have hdel : adel (p :: l) k = adel l k := by simp [adel, hp]
      rw [hdel, ih, aget_cons, hp]
      split <;> rfl
    · have hdel : adel (p :: l) k = p :: adel l k := by simp [adel, hp]
      rw [hdel, aget_cons, aget_cons, ih]
      by_cases hj : p.1 = j
      · rw [if_pos hj, if_pos hj, if_neg fun h => hp (hj.trans h.symm)]
      · rw [if_neg hj, if_neg hj]

theorem aget_aset : aget (aset l k v) j = if k = j then some v else aget l j := by
  rw [aset, aget_cons, aget_adel]
  split <;> rfl

@[simp] theorem aget_aset_self : aget (aset l k v) k = some v := by rw [aget_aset, if_pos rfl]

theorem aget_aset_of_ne (h : k ≠ j) : aget (aset l k v) j = aget l j := by rw [aget_aset, if_neg h]

@[simp] theorem agetD_aset_self (d : β) : agetD (aset l k v) k d = v := by rw [agetD, aget_aset_self, Option.getD_some]

theorem agetD_aset_of_ne (d : β) (h : k ≠ j) : agetD (aset l k v) j d = agetD l j d := by
  rw [agetD, aget_aset_of_ne _ _ _ _ h, agetD]

end Maps

/-! ### Channels and objects -/

section Fields

variable (s : State) (ch : Channel) (c : Chan) (idx sub i n v : Nat)

@[simp] theorem chan_setChan : (s.setChan ch c).chan ch = c := agetD_aset_self _ _ _ _

@[simp] theorem chan_setVal : (s.setVal idx sub v).chan ch = s.chan ch := rfl
@[simp] theorem chan_bump : (s.bump idx sub).chan ch = s.chan ch := rfl
@[simp] theorem chan_emit (o : Out) : (s.emit o).chan ch = s.chan ch := rfl
@[simp] theorem chan_linkActive : (linkActive s).chan ch = s.chan ch := by
  unfold linkActive
  split <;> rfl

@[simp] theorem val_setChan : (s.setChan ch c).val idx sub = s.val idx sub := rfl
@[simp] theorem val_emit (o : Out) : (s.emit o).val idx sub = s.val idx sub := rfl

@[simp] theorem val_setVal_self : (s.setVal idx sub v).val idx sub = v := by
  simp [State.val]

theorem val_setVal_of_ne (h : objKey idx sub ≠ objKey i n) : (s.setVal idx sub v).val i n = s.val i n := by
  simp [State.val, aget_aset_of_ne _ _ _ _ h]

theorem val_bump_of_ne (h : objKey idx sub ≠ objKey i n) : (s.bump idx sub).val i n = s.val i n :=
  val_setVal_of_ne _ _ _ _ _ _ h

@[simp] theorem chan_countServed : (s.countServed v).chan ch = s.chan ch := by
  unfold State.countServed
  split <;> rfl

end Fields

/-! ### Sending over the ferry -/

/-- A step that sends: it changes the ports and what leaves the device. -/
def Sends (s t : State) : Prop := ∃ f o, t = { s with ferry := f, out := o }

namespace Sends

theorem refl (s : State) : Sends s s := ⟨_, _, rfl⟩

theorem trans {s t u : State} (h : Sends s t) (h' : Sends t u) : Sends s u := by
  obtain ⟨f, o, rfl⟩ := h
  obtain ⟨g, p, rfl⟩ := h'
  exact ⟨g, p, rfl⟩

theorem setFerry (s : State) (f : Ferry) : Sends s (s.setFerry f) := ⟨_, _, rfl⟩

theorem setPort (s : State) (n : Nat) (p : Port) : Sends s (s.setPort n p) := ⟨_, _, rfl⟩

theorem emit (s : State) (o : Out) : Sends s (s.emit o) := ⟨_, _, rfl⟩

theorem foldl {α : Type} (l : List α) {f : State → α → State} (h : ∀ s a, Sends s (f s a)) (s : State) :
    Sends s (l.foldl f s) := by
  induction l generalizing s with
  | nil => exact refl s
  | cons a l ih => exact (h s a).trans (ih _)

theorem sendBareTo (s : State) (n kind dst seq : Nat) : Sends s (sendBareTo s n kind dst seq) := by
  dsimp only [Machine.sendBareTo]
  split
  · exact (setPort _ _ _).trans (emit _ _)
  · exact refl s

theorem returnAck (s : State) (n : Nat) : Sends s (returnAck s n) := by
  dsimp only [Machine.returnAck]
  split
  · exact sendBareTo _ _ _ _ _
  · exact refl s

theorem leaveBuffer (s : State) (w : Waiting) : Sends s (leaveBuffer s w) := by
  dsimp only [Machine.leaveBuffer]
  split
  · exact refl s
  · split
    · exact refl s
    · exact (setPort _ _ _).trans (returnAck _ _)

theorem pumpOne (s : State) (n : Nat) : Sends s (pumpOne s n) := by
  dsimp only [Machine.pumpOne]
  split
  · split
    · exact refl s
    · exact ((setPort _ _ _).trans (emit _ _)).trans (leaveBuffer _ _)
  · exact refl s

theorem pump (s : State) (n : Nat) : Sends s (pump s n) := foldl _ (fun s _ => pumpOne s n) s

theorem askFullRate (s : State) (n : Nat) : Sends s (askFullRate s n) := by
  dsimp only [Machine.askFullRate]
  split
  · exact (setPort _ _ _).trans (emit _ _)
  · exact refl s

theorem queueTo (s : State) (ports : List Nat) (p : Packet) (held : Option (Nat × Nat)) :
    Sends s (queueTo s ports p held) :=
  (foldl ports (fun _ _ => setPort _ _ _) s).trans (foldl ports (fun s q => (pump s q).trans (askFullRate _ q)) _)

theorem sendTo (s : State) (node kind cls flags context : Nat) (payload : Bytes) :
    Sends s (sendTo s node kind cls flags context payload) := by
  dsimp only [Machine.sendTo]
  split
  · exact refl s
  · exact (setFerry _ _).trans (queueTo _ _ _ _)

theorem sendSlow (s : State) (n : Nat) (f : Bytes) : Sends s (sendSlow s n f) := by
  dsimp only [Machine.sendSlow]
  split
  · exact refl s
  · exact emit _ _

theorem answerDict (s : State) (node : Nat) (slow : Bool) (frame : Bytes) : Sends s (answerDict s node slow frame) := by
  dsimp only [Machine.answerDict]
  split
  · exact refl s
  · split
    · exact sendSlow _ _ _
    · exact sendTo _ _ _ _ _ _ _

theorem ibi (s : State) (b : Byte) : Sends s (s.ibi b) := by
  unfold State.ibi
  split
  · exact emit _ _
  · exact refl s

theorem msix (s : State) (v : Nat) : Sends s (s.msix v) := by
  unfold State.msix
  split
  · exact refl s
  · exact emit _ _

/-- Sending leaves the channels and the objects. -/
theorem chan_eq {s t : State} (h : Sends s t) (ch : Channel) : t.chan ch = s.chan ch := by
  obtain ⟨f, o, rfl⟩ := h
  rfl

end Sends

/-! ### Answers (R38, R42a, R44) -/

/-- A step that answers a frame: it changes the channels, the ports and what leaves the device. -/
def Answers (s t : State) : Prop := ∃ c f o, t = { s with chans := c, ferry := f, out := o }

theorem Sends.answers {s t : State} (h : Sends s t) : Answers s t := by
  obtain ⟨f, o, rfl⟩ := h
  exact ⟨_, f, o, rfl⟩

theorem Answers.trans {s t u : State} (h : Answers s t) (h' : Answers t u) : Answers s u := by
  obtain ⟨c, f, o, rfl⟩ := h
  obtain ⟨d, g, p, rfl⟩ := h'
  exact ⟨d, g, p, rfl⟩

theorem answers_setChan (s : State) (ch : Channel) (c : Chan) : Answers s (s.setChan ch c) := ⟨_, _, _, rfl⟩

/-- A response is posted: the channel keeps its open transfer and its last frame. -/
theorem postResponse_spec (ch : Channel) (resp : Bytes) (s : State) :
    Answers s (postResponse ch resp s) ∧ ((postResponse ch resp s).chan ch).xfer = (s.chan ch).xfer ∧
      ((postResponse ch resp s).chan ch).last = (s.chan ch).last := by
  have hfree : Answers s
      ((s.setChan ch { s.chan ch with busy := false, latched := none, way := .usual }).emit (.response ch resp)) :=
    (answers_setChan _ _ _).trans (Sends.emit _ _).answers
  cases ch
  case fwd =>
    have hsend := Sends.answerDict
      ((s.setChan .fwd { s.chan .fwd with busy := false, latched := none, way := .usual }).emit (.response .fwd resp))
      s.ferry.pilotNode (decide ((s.chan .fwd).way = .slowCrossing)) resp
    refine ⟨hfree.trans hsend.answers, ?_⟩
    exact ⟨(congrArg Chan.xfer (hsend.chan_eq .fwd)).trans (by simp), (congrArg Chan.last (hsend.chan_eq .fwd)).trans (by simp)⟩
  case side =>
    refine ⟨(hfree.trans (answers_setChan _ _ _)).trans (Sends.ibi _ _).answers, ?_⟩
    simp only [postResponse, (Sends.ibi _ _).chan_eq]
    simp
  all_goals
    simp only [postResponse]
    split
    · refine ⟨(hfree.trans (answers_setChan _ _ _)).trans (Sends.msix _ _).answers, ?_⟩
      simp only [(Sends.msix _ _).chan_eq]
      simp
    · refine ⟨hfree.trans (answers_setChan _ _ _), ?_⟩
      simp

/-- A frame is answered: the answer is kept beside it. -/
theorem respond_spec (ch : Channel) (f resp : Bytes) (s : State) :
    Answers s (respond ch f resp s) ∧ ((respond ch f resp s).chan ch).xfer = (s.chan ch).xfer ∧
      ((respond ch f resp s).chan ch).last = some (f, resp) := by
  obtain ⟨hanswers, hxfer, hlast⟩ := postResponse_spec ch resp (s.setChan ch { s.chan ch with last := some (f, resp) })
  exact ⟨(answers_setChan _ _ _).trans hanswers, hxfer.trans (by simp), hlast.trans (by simp)⟩

/-! ### Frames that arrive (R38, R41) -/

theorem deaf_of_serves {s : State} (h : s.serves = true) : deaf s = false := by
  unfold deaf
  split
  next hoff => simp [State.serves, hoff] at h
  · rfl

theorem serves_linkActive (s : State) : (linkActive s).serves = s.serves := by
  obtain ⟨l, hl⟩ := exists_linkActive_eq s
  rw [hl]
  rfl

theorem padTo_of_length {n : Nat} {bs : Bytes} (h : bs.length = n) : padTo n bs = bs := by
  simp [padTo, ← h]

/-- The device's link returns to L0 where a mailbox's request buffer is written; the buffer changes, nothing else. -/
theorem exists_fillRequest_eq (ch : Channel) (f : Bytes) (s : State) :
    ∃ r l, fillRequest ch f s = { s with chans := r, power := { s.power with link := l } } ∧
      ∃ q, (fillRequest ch f s).chan ch = { s.chan ch with request := q } := by
  have hmailbox : ∃ r l, linkActive (s.setChan ch { s.chan ch with request := f })
        = { s with chans := r, power := { s.power with link := l } } ∧
      ∃ q, (linkActive (s.setChan ch { s.chan ch with request := f })).chan ch = { s.chan ch with request := q } := by
    obtain ⟨l, hl⟩ := exists_linkActive_eq (s.setChan ch { s.chan ch with request := f })
    refine ⟨_, l, hl, f, ?_⟩
    rw [chan_linkActive, chan_setChan]
  cases ch
  case side => exact ⟨s.chans, s.power.link, rfl, (s.chan .side).request, rfl⟩
  case fwd => exact ⟨s.chans, s.power.link, rfl, (s.chan .fwd).request, rfl⟩
  all_goals exact hmailbox

/-- The shadow dictionary serves in WATCH alone (R57). -/
theorem shadowFrame_of_serves {s : State} (ch : Channel) (f : Bytes) (h : s.serves = true) : shadowFrame s ch f = false := by
  have hwatch : s.power.state ≠ .watch := by
    intro hw
    simp [State.serves, hw] at h
  simp [shadowFrame, hwatch]

/-- A frame that comes to a free channel of a quiet device is taken up and served. -/
theorem arriveFree_of_quiet {s : State} {ch : Channel} (f : Bytes) (way : Way) (hserves : s.serves = true)
    (hinbox : s.inbox = []) (hlatched : (s.chan ch).latched = none) :
    arriveFree ch f way s = serveFrame ch f (takeUp ⟨ch, f, way⟩ (latch ch f way s)) := by
  have hs : (latch ch f way s).serves = true := hserves
  have hin : (latch ch f way s).inbox = [⟨ch, f, way⟩] := by simp [latch, hinbox]
  have hl : ((latch ch f way s).chan ch).latched = none := by
    have : (latch ch f way s).chan ch = { s.chan ch with busy := true, ready := false } := chan_setChan _ _ _
    rw [this]
    exact hlatched
  have hfind : (latch ch f way s).inbox.find?
      (fun a => (latch ch f way s).serves && ((latch ch f way s).chan a.ch).latched.isNone) = some ⟨ch, f, way⟩ := by
    rw [hin]
    simp [hs, hl]
  simp only [arriveFree, shadowFrame_of_serves ch f hserves]
  rw [if_neg Bool.false_ne_true, wake_of_awake _ (asleep_of_serves hs), serveLatched, hin]
  simp only [List.length_singleton, serveSome, serveNext, hfind]

section Free

variable {s : State} {ch : Channel} {f : Bytes}

/-- A frame on a free channel is served at once, however it came. -/
theorem arriveFrame_of_free (way : Way) (h : free s ch f) :
    arriveFrame ch f way s = serveFrame ch f (arrived ch f way s) := by
  obtain ⟨hserves, hbusy, hlatched, hinbox, -⟩ := h
  obtain ⟨r, l, hfill, q, hchan⟩ := exists_fillRequest_eq ch f s
  have hoccupied : occupied ch (fillRequest ch f s) = false := by
    cases ch
    case fwd => rfl
    all_goals exact (congrArg Chan.busy hchan).trans hbusy
  simp only [arriveFrame, hoccupied]
  rw [if_neg Bool.false_ne_true, arriveFree_of_quiet f way (by rw [hfill]; exact hserves) (by rw [hfill]; exact hinbox)
    (by rw [hchan]; exact hlatched)]
  rfl

/-- A frame row on a free channel. -/
theorem frameRow_of_free (h : free s ch f) :
    frameRow ch f s = .next (serveFrame ch f (arrived ch f .usual s)) := by
  have hlength := h.2.2.2.2
  simp only [frameRow, deaf_of_serves h.1, padTo_of_length hlength]
  rw [if_neg Bool.false_ne_true, arriveFrame_of_free .usual h]

/-- The channel of a frame that has arrived: it has been taken up, and nothing else of it is new but the request
buffer. -/
theorem chan_arrived (ch : Channel) (f : Bytes) (way : Way) (s : State) : ∃ q, (arrived ch f way s).chan ch
    = { s.chan ch with busy := true, ready := false, latched := some f, way := way, request := q } := by
  obtain ⟨-, -, -, q, hchan⟩ := exists_fillRequest_eq ch f s
  refine ⟨q, ?_⟩
  have htake : (arrived ch f way s).chan ch
      = { (latch ch f way (fillRequest ch f s)).chan ch with busy := true, latched := some f, way := way } :=
    chan_setChan _ _ _
  have hlatch : (latch ch f way (fillRequest ch f s)).chan ch
      = { (fillRequest ch f s).chan ch with busy := true, ready := false } := chan_setChan _ _ _
  rw [htake, hlatch, hchan]

/-- A frame that has arrived on a quiet device changed its channel, and perhaps the link. -/
theorem exists_arrived_eq (way : Way) (h : s.inbox = []) :
    ∃ r l, arrived ch f way s = { s with chans := r, power := { s.power with link := l } } := by
  obtain ⟨r, l, hfill, -⟩ := exists_fillRequest_eq ch f s
  refine ⟨(arrived ch f way s).chans, l, ?_⟩
  have hinbox : (arrived ch f way s).inbox = [] := by
    simp [arrived, takeUp, latch, hfill, h]
  have heq : arrived ch f way s = { fillRequest ch f s with
      chans := (arrived ch f way s).chans, inbox := (arrived ch f way s).inbox } := rfl
  rw [hinbox, hfill] at heq
  rw [heq]
  simp only [← h]

theorem exec_of_mem_frameRows {r : Nat × (Channel → Bytes → Instr)} (hr : r ∈ frameRows) (ch : Channel) (f : Bytes)
    (s : State) : exec (r.2 ch f) s = frameRow ch f s := by
  revert r
  simp only [frameRows, List.forall_mem_cons, List.not_mem_nil, false_imp_iff, implies_true, and_true]
  and_intros <;> rfl

/-- A repeat of the last frame is answered with the stored response (R38). -/
theorem serveFrame_of_repeat {resp : Bytes} (h : (s.chan ch).last = some (f, resp)) :
    serveFrame ch f s = postResponse ch resp (s.bump 0x1102 3) := by
  have hrepeat : ((s.chan ch).last.filter fun p => decide (p.1 = f)) = some (f, resp) := by simp [h, Option.filter]
  simp only [serveFrame, hrepeat]

end Free

/-- Settles O12: a quiet device takes up the one frame that has come. -/
theorem framesAreServedOnce : Obligations.FramesAreServedOnce := by
  intro ch f s
  refine ⟨fun hcomes => ⟨fun r hr => (exec_of_mem_frameRows hr ch f s).trans (frameRow_of_free hcomes.1), ?_⟩,
    fun resp hfree hlast r hr => ?_⟩
  · rintro rfl
    have hdeaf := deaf_of_serves hcomes.1.1
    have hside : ∀ way, sideWrite f way s = serveFrame .side f (arrived .side f way s) := fun way =>
      (if_pos hcomes.1.2.2.2.2).trans (arriveFrame_of_free way hcomes.1)
    refine ⟨?_, ?_, fun hlegacy => ?_⟩
    · simp [exec, execI3cPrivateWrite, hdeaf, hside]
    · simp [exec, execI3cPrivateWrite, hdeaf, hside]
    · simp [exec, execI2cLegacyTransfer, hdeaf, hlegacy, hside]
  · obtain ⟨q, hchan⟩ := chan_arrived ch f .usual s
    rw [exec_of_mem_frameRows hr ch f s, frameRow_of_free hfree,
      serveFrame_of_repeat (resp := resp) (by rw [hchan]; exact hlast)]

end Sys2Proof.Machine
end

section
/-! SUPPORT and PROOFS. Expedited and segmented transfers of frames that pass the first steps of R40, their timeouts and
the reads of the sideband (02_object_dictionary.md, R30 to R47). -/

namespace Sys2Proof.Machine

open Sys2Proof.Claims

/-! ### Frames that pass steps 1 to 4 of R40 -/

theorem belongs_iff (x : Transfer) (f : Bytes) :
    belongs x f = true ↔ frId f = x.id ∧ frOp f = if x.write then 4 else 3 := by
  simp [belongs]

/-- A frame that is no segment belongs to no segmented transfer. -/
theorem belongs_of_op {f : Bytes} (x : Transfer) (h3 : frOp f ≠ 3) (h4 : frOp f ≠ 4) : belongs x f = false := by
  rw [Bool.eq_false_iff, ne_eq, belongs_iff]
  rintro ⟨-, hop⟩
  split at hop
  · exact h4 hop
  · exact h3 hop

section Passes

variable {s : State} {ch : Channel} {f : Bytes}

/-- Objects, class and node are found in the state that the frame's arrival leaves as before. -/
structure ArrivedLike (s t : State) (ch : Channel) : Prop where
  eq : ∃ c l, t = { s with chans := c, power := { s.power with link := l } }
  xfer : (t.chan ch).xfer = (s.chan ch).xfer
  last : (t.chan ch).last = (s.chan ch).last
  selects : (t.chan ch).selects = (s.chan ch).selects
  way : (t.chan ch).way = .usual

theorem arrivedLike_arrived (h : s.inbox = []) : ArrivedLike s (arrived ch f .usual s) ch := by
  obtain ⟨q, hchan⟩ := chan_arrived ch f .usual s
  refine ⟨exists_arrived_eq .usual h, ?_, ?_, ?_, ?_⟩ <;> rw [hchan]

theorem arrivedLike_setChan {t : State} {c : Chan} (h : ArrivedLike s t ch) (hxfer : c.xfer = (t.chan ch).xfer)
    (hlast : c.last = (t.chan ch).last) (hselects : c.selects = (t.chan ch).selects) (hway : c.way = (t.chan ch).way) :
    ArrivedLike s (t.setChan ch c) ch := by
  obtain ⟨⟨r, l, heq⟩, hx, hl, hs, hw⟩ := h
  refine ⟨⟨(t.setChan ch c).chans, l, ?_⟩, ?_, ?_, ?_, ?_⟩
  · rw [heq]; rfl
  all_goals rw [chan_setChan]
  exacts [hxfer.trans hx, hlast.trans hl, hselects.trans hs, hway.trans hw]

theorem arrivedLike_served (h : s.inbox = []) : ArrivedLike s (served ch f s) ch :=
  arrivedLike_setChan (arrivedLike_arrived h) rfl rfl rfl rfl

namespace ArrivedLike

variable {t : State} (h : ArrivedLike s t ch)

include h

theorem val_eq (idx sub : Nat) : t.val idx sub = s.val idx sub := by
  obtain ⟨r, l, rfl⟩ := h.eq
  rfl

theorem rowFor_eq (idx sub : Nat) : rowFor t ch idx sub = rowFor s ch idx sub := by
  obtain ⟨r, l, rfl⟩ := h.eq
  rfl

theorem harbourRefuses_eq (idx : Nat) : harbourRefuses t idx = harbourRefuses s idx := by
  obtain ⟨r, l, rfl⟩ := h.eq
  rfl

theorem sel_eq (idx sub : Nat) : t.sel ch idx sub = s.sel ch idx sub := by
  obtain ⟨r, l, heq⟩ := h.eq
  rw [State.sel, State.sel, h.selects, heq]

theorem readsOwn_eq (idx sub : Nat) : readsOwn t ch idx sub = readsOwn s ch idx sub := by
  have hring : ∀ n, ringTenant t n = ringTenant s n := by
    obtain ⟨r, l, rfl⟩ := h.eq
    intro n
    rfl
  simp only [readsOwn, h.sel_eq, hring]

/-- Steps 5 to 8 find in the arrived frame's state what they find before. -/
theorem classOk_of_finds {d : ObjDef} (hfinds : finds s ch f d) : classOk t ch d f = true := by
  obtain ⟨-, -, hclass, -, -⟩ := hfinds
  simpa [classOk, h.way] using hclass

end ArrivedLike

/-- A frame that comes and is no repeat is served anew, and answered. -/
theorem serveFrame_of_answer {type total status : Nat} {payload : Bytes} {t : State} (h : comes s ch f)
    (hserve : serveNew ch f (arrived ch f .usual s) = .answer type total status payload t) :
    serveFrame ch f (arrived ch f .usual s)
      = respond ch f (responseOf f type total status payload) ((endBroken ch f status t).countServed status) := by
  have hlast := (arrivedLike_arrived (ch := ch) (f := f) h.1.2.2.2.1).last
  have hnew : (((arrived ch f .usual s).chan ch).last.filter fun p => decide (p.1 = f)) = none := by
    rw [hlast, Option.filter_eq_none_iff]
    intro p hp
    simpa using h.2 p hp
  simp only [serveFrame, hnew, hserve]

/-- An answer of success ends no transfer. -/
theorem endBroken_zero (ch : Channel) (f : Bytes) (s : State) : endBroken ch f 0 s = s := by
  unfold endBroken
  split <;> simp

/-- A frame that passes is served here. -/
theorem serveNew_of_passes (h : passes s ch f) :
    serveNew ch f (arrived ch f .usual s) = serveHere ch f (arrived ch f .usual s) := by
  obtain ⟨hcomes, hok, hreach, hcode, -⟩ := h
  have hlike := arrivedLike_arrived (ch := ch) (f := f) hcomes.1.2.2.2.1
  obtain ⟨q, hchan⟩ := chan_arrived ch f .usual s
  have hcode' : transferCode ((arrived ch f .usual s).chan ch) f = 0 := by
    rw [← hcode, hchan]
    rfl
  have hreach' : reach (arrived ch f .usual s) ch f = .here := by
    obtain ⟨r, l, heq⟩ := hlike.eq
    rw [← hreach, heq]
    rfl
  simp only [serveNew, hlike.xfer, hok, hreach', hcode']
  simp

/-- Step 4 of R40 lets the frame pass. -/
theorem level_of_passes {t : State} (h : passes s ch f) (hlike : ArrivedLike s t ch) :
    ((chanTenant ch).isSome && decide (t.val 0x1002 2 = 0)) = false := by
  obtain ⟨-, -, -, -, hlevel⟩ := h
  rw [hlike.val_eq]
  cases htenant : (chanTenant ch).isSome
  · rfl
  · simpa using hlevel htenant

/-- A frame row whose frame passes and is answered with success. -/
theorem frameRow_of_answer {type total : Nat} {payload : Bytes} {t : State} (h : passes s ch f)
    (hserve : serveHere ch f (arrived ch f .usual s) = .answer type total 0 payload t) :
    frameRow ch f s = .next (respond ch f (responseOf f type total 0 payload) (t.countServed 0)) := by
  rw [frameRow_of_free h.1.1, serveFrame_of_answer h.1 ((serveNew_of_passes h).trans hserve), endBroken_zero]

/-- A frame that belongs to no open transfer and aborts none starts one. -/
theorem serveHere_of_start (h : passes s ch f) (hop : frOp f ≠ 5)
    (hfirst : ∀ x, (s.chan ch).xfer = some x → belongs x f = false) :
    serveHere ch f (arrived ch f .usual s) = serveStart ch f (served ch f s) := by
  have hinbox := h.1.1.2.2.2.1
  have hnone : (((arrived ch f .usual s).chan ch).xfer.filter fun x => belongs x f) = none := by
    rw [(arrivedLike_arrived hinbox).xfer, Option.filter_eq_none_iff]
    intro x hx
    simpa using hfirst x hx
  simp only [serveHere, if_neg hop, hnone]
  have hlevel := level_of_passes h (arrivedLike_served (f := f) hinbox)
  exact if_neg (Bool.eq_false_iff.1 hlevel)

/-- A segment of the open transfer continues it. -/
theorem serveHere_of_belongs {x : Transfer} {d : ObjDef} (h : passes s ch f) (hop : frOp f ≠ 5)
    (hx : (s.chan ch).xfer = some x) (hbelongs : belongs x f = true) (hd : objectAt x.idx x.sub = some d) :
    serveHere ch f (arrived ch f .usual s) = if x.write then takeSegment ch d x (frOff f) f (arrived ch f .usual s)
      else sendSegment ch d x (frOff f) (arrived ch f .usual s) := by
  have hlike := arrivedLike_arrived (ch := ch) (f := f) h.1.1.2.2.2.1
  have hsome : (((arrived ch f .usual s).chan ch).xfer.filter fun x => belongs x f) = some x := by
    rw [hlike.xfer, hx, Option.filter_some, if_pos hbelongs]
  have hlevel := level_of_passes h hlike
  simp only [serveHere, if_neg hop, hsome, hlevel, continueTransfer, hd, hlike.way]
  simp

section Start

variable {d : ObjDef} (h : passes s ch f) (hfirst : ∀ x, (s.chan ch).xfer = some x → belongs x f = false)
  (hfinds : finds s ch f d)

include h hfirst hfinds

theorem serveHere_read (hop : frOp f = 1) :
    serveHere ch f (arrived ch f .usual s) = serveRead ch d f (served ch f s) := by
  have hrow := ((arrivedLike_served (f := f) h.1.1.2.2.2.1).rowFor_eq _ _).trans hfinds.1
  rw [serveHere_of_start h (by omega) hfirst]
  simp only [serveStart, hrow, hop]

theorem serveHere_write (hop : frOp f = 2) :
    serveHere ch f (arrived ch f .usual s) = serveWriteFrame ch d f (served ch f s) := by
  have hrow := ((arrivedLike_served (f := f) h.1.1.2.2.2.1).rowFor_eq _ _).trans hfinds.1
  rw [serveHere_of_start h (by omega) hfirst]
  simp only [serveStart, hrow, hop]

theorem serveHere_segmentedRead (hop : frOp f = 3) :
    serveHere ch f (arrived ch f .usual s) = startRead ch d f (served ch f s) := by
  have hrow := ((arrivedLike_served (f := f) h.1.1.2.2.2.1).rowFor_eq _ _).trans hfinds.1
  rw [serveHere_of_start h (by omega) hfirst]
  simp only [serveStart, hrow, hop]

theorem serveHere_segmentedWrite (hop : frOp f = 4) :
    serveHere ch f (arrived ch f .usual s) = startWrite ch d f (served ch f s) := by
  have hrow := ((arrivedLike_served (f := f) h.1.1.2.2.2.1).rowFor_eq _ _).trans hfinds.1
  rw [serveHere_of_start h (by omega) hfirst]
  simp only [serveStart, hrow, hop]

end Start

end Passes

/-! ### Expedited transfers (R30, R35) -/

section Expedited

variable {s : State} {ch : Channel} {f : Bytes}

theorem frameRow_read {d : ObjDef} {bs : Bytes} (h : passes s ch f) (hop : frOp f = 1) (hfinds : finds s ch f d)
    (hread : readable d = true) (hdomain : isDomain d = false)
    (hbs : readObject ch d (frIdx f) (frSub f) (served ch f s) = bs) (hlength : bs.length ≤ 48) :
    frameRow ch f s = .next (respond ch f (responseOf f d.type.code bs.length 0 bs) ((served ch f s).countServed 0)) := by
  have hlike := arrivedLike_served (ch := ch) (f := f) h.1.1.2.2.2.1
  refine frameRow_of_answer h ?_
  rw [serveHere_read h (fun x _ => belongs_of_op x (by omega) (by omega)) hfinds hop]
  have hclass := hlike.classOk_of_finds hfinds
  obtain ⟨-, -, -, htype, hharbour⟩ := hfinds
  simp [serveRead, hbs, hclass, hread, htype, hdomain, hlength, hlike.harbourRefuses_eq, hharbour, firstFail]

theorem frameRow_write {d : ObjDef} {t : State} (h : passes s ch f) (hop : frOp f = 2) (hfinds : finds s ch f d)
    (hwrite : writable d (frIdx f) (frSub f) = true) (hdomain : isDomain d = false)
    (hfits : expeditedFits d (frTotal f) = true)
    (happly : applyFor ch d (frIdx f) (frSub f) ((frPayload f).take (frTotal f)) (served ch f s) = .done 0 t) :
    frameRow ch f s = .next (respond ch f (responseOf f d.type.code 0 0 []) (t.countServed 0)) := by
  have hlike := arrivedLike_served (ch := ch) (f := f) h.1.1.2.2.2.1
  refine frameRow_of_answer h ?_
  rw [serveHere_write h (fun x _ => belongs_of_op x (by omega) (by omega)) hfinds hop]
  have hclass := hlike.classOk_of_finds hfinds
  obtain ⟨-, -, -, htype, hharbour⟩ := hfinds
  simp [serveWriteFrame, hclass, hwrite, htype, hdomain, hfits, hlike.harbourRefuses_eq, hharbour, happly, firstFail,
    answerApplied]

/-- The state that an abort of the open transfer leaves before it is answered. -/
def aborted (ch : Channel) (f : Bytes) (s : State) : State :=
  (s.setChan ch { s.chan ch with xfer := none }).setVal 0x1102 5 (frOff f)

theorem frameRow_abort {x : Transfer} (h : passes s ch f) (hop : frOp f = 5) (hx : (s.chan ch).xfer = some x)
    (hid : x.id = frId f) : frameRow ch f s = .next (respond ch f (responseOf f 0 0 0 [])
      ((aborted ch f (arrived ch f .usual s)).countServed 0)) := by
  have hlike := arrivedLike_arrived (ch := ch) (f := f) h.1.1.2.2.2.1
  refine frameRow_of_answer h ?_
  simp only [serveHere, if_pos hop, if_neg (Bool.eq_false_iff.1 (level_of_passes h hlike)), serveAbort, hlike.xfer, hx,
    if_pos hid]
  rfl

/-- What an answered abort leaves. -/
theorem respond_aborted (f resp : Bytes) {t : State} (hlike : ArrivedLike s t ch) :
    ((respond ch f resp ((aborted ch f t).countServed 0)).chan ch).xfer = none ∧
      (respond ch f resp ((aborted ch f t).countServed 0)).val 0x1102 5 = frOff f ∧
      ((respond ch f resp ((aborted ch f t).countServed 0)).chan ch).last = some (f, resp) ∧
      (respond ch f resp ((aborted ch f t).countServed 0)).mem = s.mem ∧
      (respond ch f resp ((aborted ch f t).countServed 0)).decks = s.decks ∧
      (respond ch f resp ((aborted ch f t).countServed 0)).serving = s.serving := by
  obtain ⟨hanswers, hxfer, hlast⟩ := respond_spec ch f resp ((aborted ch f t).countServed 0)
  obtain ⟨r, l, heq⟩ := hlike.eq
  have hval : ((aborted ch f t).countServed 0).val 0x1102 5 = frOff f :=
    (val_bump_of_ne _ _ _ _ _ (by decide)).trans (val_setVal_self _ _ _ _)
  obtain ⟨c, g, o, hrespond⟩ := hanswers
  refine ⟨hxfer.trans (by simp [aborted]), ?_, hlast, ?_, ?_, ?_⟩
  · rw [hrespond]
    exact hval
  all_goals
    rw [hrespond, heq]
    rfl

end Expedited

/-- Settles O13: each frame that passes is answered by the step that its op names. -/
theorem expeditedTransfers : Obligations.ExpeditedTransfers := by
  intro ch f s h
  refine ⟨fun d bs hop hfinds hread hdomain hbs hlength => frameRow_read h hop hfinds hread hdomain hbs hlength,
    fun d t hop hfinds hwrite hdomain hfits happly => frameRow_write h hop hfinds hwrite hdomain hfits happly,
    fun x hop hx hid => ⟨_, frameRow_abort h hop hx hid, ?_⟩⟩
  exact respond_aborted f _ (arrivedLike_arrived h.1.1.2.2.2.1)

/-! ### Segmented transfers (R31 to R33) -/

section Segmented

variable {s t : State} {ch : Channel} {f : Bytes}

@[simp] theorem chan_setTransfer (x : Option Transfer) :
    (setTransfer ch x t).chan ch = { t.chan ch with xfer := x, timedOut := none } := chan_setChan _ _ _

/-- Consuming what a read has sent leaves the channels. -/
theorem chan_consume (idx sub upto : Nat) : (consume idx sub upto t).chan ch = t.chan ch := by
  unfold consume
  split
  case h_4 =>
    unfold consumeMedia
    dsimp only
    split <;> rfl
  all_goals rfl

/-- What the channel holds of a transfer once a segment from off on has been sent. -/
theorem sendSegment_of_data {d : ObjDef} {x : Transfer} (hlive : x.live = false) (off : Nat) :
    ∃ u, sendSegment ch d x off t = .answer d.type.code x.total 0 (slice x.data off (min 48 (x.total - off))) u ∧
      (u.chan ch).xfer = if x.total ≤ off + min 48 (x.total - off) then none else some { x with next := off + 48 } := by
  simp only [sendSegment, hlive, segmentLength]
  refine ⟨_, rfl, ?_⟩
  split
  · rw [chan_consume, chan_setTransfer]
  · rw [chan_setTransfer]

/-- The same for a segment that is read as it is sent. -/
theorem sendSegment_of_live {d : ObjDef} {x : Transfer} (hlive : x.live = true)
    (hlength : (readObject ch d x.idx x.sub t).length = x.total) (off : Nat) :
    ∃ u, sendSegment ch d x off t
        = .answer d.type.code x.total 0 (slice (readObject ch d x.idx x.sub t) off (min 48 (x.total - off))) u ∧
      (u.chan ch).xfer = if x.total ≤ off + min 48 (x.total - off) then none else some { x with next := off + 48 } := by
  simp only [sendSegment, hlive, segmentLength, padTo_of_length hlength]
  refine ⟨_, rfl, ?_⟩
  split
  · rw [chan_consume, chan_setTransfer]
  · rw [chan_setTransfer]

/-- A segmented read that starts: the answer and what stays open. -/
theorem startRead_of_finds {d : ObjDef} {bs : Bytes} (hlike : ArrivedLike s t ch) (hfinds : finds s ch f d)
    (hread : readable d = true) (hbs : readObject ch d (frIdx f) (frSub f) t = bs) :
    ∃ (u : State) (x : Transfer), startRead ch d f t
        = .answer d.type.code bs.length 0 (slice bs 0 (min 48 bs.length)) u ∧
      (u.chan ch).xfer = (if bs.length ≤ 48 then none else some { x with next := 48 }) ∧ x.total = bs.length ∧
      x.id = frId f := by
  have hclass := hlike.classOk_of_finds hfinds
  obtain ⟨-, hown, -, htype, hharbour⟩ := hfinds
  have hopen : ∀ x : Transfer, x.idx = frIdx f → x.sub = frSub f → x.total = bs.length →
      x.data = (if x.live then [] else bs) → ∃ u, sendSegment ch d x 0 t
        = .answer d.type.code bs.length 0 (slice bs 0 (min 48 bs.length)) u ∧
      (u.chan ch).xfer = if bs.length ≤ 48 then none else some { x with next := 48 } := by
    intro x hidx hsub htotal hdata
    have hend : x.total ≤ 0 + min 48 (x.total - 0) ↔ bs.length ≤ 48 := by omega
    by_cases hlive : x.live = true
    · have hlength : (readObject ch d x.idx x.sub t).length = x.total := by rw [hidx, hsub, hbs, htotal]
      obtain ⟨u, hu, hx⟩ := sendSegment_of_live (ch := ch) (t := t) (d := d) hlive hlength 0
      exact ⟨u, by rw [hu, htotal, hidx, hsub, hbs]; rfl, hx.trans (if_congr hend rfl rfl)⟩
    · obtain ⟨u, hu, hx⟩ := sendSegment_of_data (ch := ch) (t := t) (d := d) (Bool.eq_false_iff.2 hlive) 0
      exact ⟨u, by rw [hu, htotal, hdata, if_neg hlive]; rfl, hx.trans (if_congr hend rfl rfl)⟩
  have hstart : startRead ch d f t = sendSegment ch d ⟨frId f, false, frIdx f, frSub f, bs.length, 0,
      if isDomain d && !consumes (frIdx f) (frSub f) then [] else bs, isDomain d && !consumes (frIdx f) (frSub f),
      consumeMark ch (frIdx f) (frSub f) t⟩ 0 t := by
    simp [startRead, hclass, hread, htype, hlike.harbourRefuses_eq, hharbour, hlike.readsOwn_eq, hown, firstFail, hbs]
  obtain ⟨u, hu, hx⟩ := hopen ⟨frId f, false, frIdx f, frSub f, bs.length, 0,
      if isDomain d && !consumes (frIdx f) (frSub f) then [] else bs, isDomain d && !consumes (frIdx f) (frSub f),
      consumeMark ch (frIdx f) (frSub f) t⟩ rfl rfl rfl rfl
  exact ⟨u, _, hstart.trans hu, hx, rfl, rfl⟩

/-- A segmented write that starts and has bytes left. -/
theorem startWrite_of_finds {d : ObjDef} (hlike : ArrivedLike s t ch) (hfinds : finds s ch f d)
    (hwrite : writable d (frIdx f) (frSub f) = true) (hfits : segmentedFits t ch d (frSub f) (frTotal f) = true)
    (hlong : 48 < frTotal f) : startWrite ch d f t = .answer d.type.code 0 0 [] (setTransfer ch
      (some ⟨frId f, true, frIdx f, frSub f, frTotal f, 48, (frPayload f).take 48, false, 0⟩) t) := by
  have hclass := hlike.classOk_of_finds hfinds
  obtain ⟨-, -, -, htype, -⟩ := hfinds
  have hsegment : segmentLength (frTotal f) 0 = 48 := by simp only [segmentLength]; omega
  simp [startWrite, hclass, hwrite, htype, hfits, firstFail, takeSegment, hsegment, hlong]

/-- The last segment of a write hands its value over. -/
theorem takeSegment_of_last {d : ObjDef} {x : Transfer} {u : State} {off : Nat}
    (hlast : x.total ≤ off + min 48 (x.total - off)) (hharbour : harbourRefuses t x.idx = false)
    (happly : applyFor ch d x.idx x.sub (x.data ++ (frPayload f).take (min 48 (x.total - off))) (setTransfer ch none t)
      = .done 0 u) : takeSegment ch d x off f t = .answer d.type.code 0 0 [] u := by
  have hclosed : harbourRefuses (setTransfer ch none t) x.idx = false := hharbour
  rw [takeSegment]
  simp only [segmentLength, if_pos hlast, happly]
  exact if_neg (Bool.eq_false_iff.1 hclosed)

end Segmented

/-- Segmented transfers: each segment that passes continues or starts its transfer. -/
theorem segmentedTransfers : SegmentedTransfers := by
  intro ch f s h
  have harrived := arrivedLike_arrived (ch := ch) (f := f) h.1.1.2.2.2.1
  have hserved := arrivedLike_served (ch := ch) (f := f) h.1.1.2.2.2.1
  have hnone : ∀ {P : Transfer → Prop}, (s.chan ch).xfer = none → ∀ x, (s.chan ch).xfer = some x → P x := by
    intro P hx x hsome
    rw [hx] at hsome
    cases hsome
  refine ⟨fun d bs hop hoff hx hfinds hread hbs => ?_, fun d x hop hx hlive hbelongs hoff hd => ?_,
    fun d hop hoff hx hfinds hwrite hfits hlong => ?_, fun d x t hop hx hwrite hbelongs hoff hlast hd hharbour happly => ?_⟩
  · obtain ⟨u, x, hu, hxu, htotal, hid⟩ := startRead_of_finds hserved hfinds hread hbs
    have hserve := (serveHere_segmentedRead h (hnone hx) hfinds hop).trans hu
    obtain ⟨-, hxfer, hlast⟩ := respond_spec ch f (responseOf f d.type.code bs.length 0 (slice bs 0 (min 48 bs.length)))
      (u.countServed 0)
    rw [chan_countServed, hxu] at hxfer
    refine ⟨_, frameRow_of_answer h hserve, hlast, ?_, ?_⟩
    · rw [hxfer]
      split <;> simp <;> omega
    · intro y hy
      rw [hxfer] at hy
      split at hy
      · cases hy
      · cases hy
        exact ⟨rfl, htotal, hid⟩
  · have hread : x.write = false := by
      obtain ⟨-, hop'⟩ := (belongs_iff x f).1 hbelongs
      rw [hop] at hop'
      split at hop' <;> simp_all
    obtain ⟨u, hu, hxu⟩ := sendSegment_of_data (ch := ch) (t := arrived ch f .usual s) (d := d) hlive (frOff f)
    have hserve := serveHere_of_belongs h (by omega) hx hbelongs hd
    rw [hread, if_neg Bool.false_ne_true, hu] at hserve
    obtain ⟨-, hxfer, hlast⟩ := respond_spec ch f (responseOf f d.type.code x.total 0
      (slice x.data (frOff f) (min 48 (x.total - frOff f)))) (u.countServed 0)
    rw [chan_countServed, hxu] at hxfer
    rw [hoff] at hserve hlast hxfer
    exact ⟨_, frameRow_of_answer h hserve, hlast, hxfer⟩
  · have hserve := (serveHere_segmentedWrite h (hnone hx) hfinds hop).trans
      (startWrite_of_finds hserved hfinds hwrite hfits hlong)
    obtain ⟨⟨c, g, o, hrespond⟩, hxfer, hlast⟩ := respond_spec ch f (responseOf f d.type.code 0 0 [])
      ((setTransfer ch (some ⟨frId f, true, frIdx f, frSub f, frTotal f, 48, (frPayload f).take 48, false, 0⟩)
        (served ch f s)).countServed 0)
    obtain ⟨r, l, heq⟩ := hserved.eq
    refine ⟨_, frameRow_of_answer h hserve, hlast, hxfer.trans (by simp), ?_, ?_, ?_⟩ <;> rw [hrespond, heq] <;> rfl
  · have hserve := serveHere_of_belongs h (by omega) hx hbelongs hd
    have htake : takeSegment ch d x (frOff f) f (arrived ch f .usual s) = .answer d.type.code 0 0 [] t :=
      takeSegment_of_last (by rw [hoff]; exact hlast) ((harrived.harbourRefuses_eq x.idx).trans hharbour)
        (by rw [hoff]; exact happly)
    rw [if_pos hwrite, htake] at hserve
    exact frameRow_of_answer h hserve

/-! ### Timeouts and reads of the sideband (R36, R43, R44, R47) -/

theorem sideReady_deaf {s : State} (h : sideReady s = true) : deaf s = false := by
  unfold deaf
  split
  next hoff => simp [sideReady, isDown, hoff] at h
  · rfl

theorem sideRead_of_ready {s : State} (h : sideReady s = true) (n : Nat) :
    sideRead n s = if 64 ≤ n then (s.emit (.read ((s.chan .side).response.take n))).setChan .side
        { s.chan .side with ready := false }
      else s.emit (.read ((s.chan .side).response.take n)) := by
  simp [sideRead, h]

/-- Timeouts of the transports and reads of the sideband, by the conditions of each. -/
theorem transportTimeoutsAndReads : TransportTimeoutsAndReads := by
  intro s
  refine ⟨fun ch x hx => ?_, fun ch f hfind hch => ?_, fun hready n => ⟨fun c hc => ?_, fun hlegacy => ?_⟩,
    fun hdeaf hready n => ?_, fun hdeaf data hlength => ?_⟩
  · simp only [exec, execSegmentTimeout, hx]
  · cases ch
    case fwd => exact absurd rfl hch
    all_goals simp only [exec, execForwardTimeout, hfind]
  · rcases hc with rfl | rfl
    · simp [exec, execI3cPrivateRead, sideReady_deaf hready, sideRead_of_ready hready]
    · simp [exec, execI3cPrivateRead, sideReady_deaf hready, sideRead_of_ready hready]
  · simp [exec, execI3cPrivateRead, execI2cLegacyTransfer, sideReady_deaf hready, hlegacy]
  · simp [exec, execI3cPrivateRead, hdeaf, sideRead, hready]
  · simp [exec, execI3cPrivateWrite, hdeaf, sideWrite, hlength]

/-- Settles O44: by its two parts. -/
theorem segmentsAndTransports : Obligations.SegmentsAndTransports := ⟨segmentedTransfers, transportTimeoutsAndReads⟩

end Sys2Proof.Machine
end

section
/-! SUPPORT and PROOFS. Writes of BAR0: the mailboxes and the interrupt and wake page (02_object_dictionary.md, R6, R42a;
03_watch_and_power.md, R67). -/

namespace Sys2Proof.Machine

open Sys2Proof.Claims

section Bar0

variable {s : State}

/-- A write of BAR0 to a quiet device falls on it with its link in L0. -/
theorem exec_bar0_of_quiet (h : quiet s) (off : Nat) (data : Bytes) (hoff : 0x08_0000 ≤ off) :
    exec (.registerWrite (.bar0 off data)) s = .next (match mailboxAt off with
      | some ch => writeMailbox ch (off % 0x1000) data (linkActive s)
      | none => if 0x10_0000 ≤ off ∧ off < 0x10_1000 then writeWakePage (off - 0x10_0000) data (linkActive s)
        else linkActive s) := by
  simp only [exec, execRegisterWrite, deaf_of_serves h.1, writeBar0, serveLatched_wake_linkActive_of_quiet 1 h,
    if_neg (Nat.not_lt.2 hoff)]
  rfl

theorem mailboxAt_priv {off : Nat} (h : 0x08_0000 ≤ off) (h' : off < 0x08_1000) : mailboxAt off = some .priv :=
  if_pos ⟨h, h'⟩

theorem mailboxAt_none {off : Nat} (h : 0x10_0000 ≤ off) : mailboxAt off = none := by
  rw [mailboxAt, if_neg (by omega), dif_neg (by omega)]

theorem coveredWord_none {off reg : Nat} {data : Bytes} (h : reg < off ∨ off + data.length < reg + 4) :
    coveredWord off data reg = none := if_neg (by omega)

/-- A write within a mailbox's request buffer changes its bytes. -/
theorem writeMailbox_of_request {o : Nat} {data : Bytes} (h : o + data.length ≤ 64) (hpos : 0 < data.length)
    (ch : Channel) (u : State) : writeMailbox ch o data u
      = u.setChan ch { u.chan ch with request := overlay (u.chan ch).request o data } := by
  have hdata : data.take (64 - o) = data := List.take_of_length_le (by omega)
  simp only [writeMailbox, coveredWord_none (reg := 0x84) (data := data) (off := o) (by omega),
    coveredWord_none (reg := 0x80) (data := data) (off := o) (by omega), writeRequest, if_pos (show o < 64 by omega), hdata]

/-- A write of 1 to a mailbox's doorbell. -/
theorem writeMailbox_of_doorbell (ch : Channel) (u : State) : writeMailbox ch 0x80 [1, 0, 0, 0] u = ringMailbox ch 1 u :=
  rfl

end Bar0

/-- Settles O14: a quiet device takes each write with its link in L0. -/
theorem registerWrites : Obligations.RegisterWrites := by
  intro s
  refine ⟨fun ch idx sub val t hdone => accepted_registerWrite hdone, fun hcomes => ?_, ?_⟩
  · obtain ⟨⟨hserves, hbusy, hlatched, hinbox, -⟩, -⟩ := hcomes
    rw [exec_bar0_of_quiet ⟨hserves, hinbox⟩ _ _ (by decide), mailboxAt_priv (by decide) (by decide)]
    have hring : ringMailbox .priv 1 (linkActive s)
        = arriveFree .priv (s.chan .priv).request .usual (linkActive s) := by
      simp [ringMailbox, hbusy]
    rw [← arriveFree_of_quiet _ .usual ((serves_linkActive s).trans hserves) (by simpa using hinbox) (by simpa using hlatched),
      ← hring, ← writeMailbox_of_doorbell]
  · rintro hquiet u rfl
    refine ⟨fun o data hfits hpos => ?_, fun data hlength => ?_, fun off data hoff => ?_⟩
    · have hplace : (0x08_0000 + o) % 0x1000 = o := by omega
      rw [exec_bar0_of_quiet hquiet _ _ (by omega), mailboxAt_priv (by omega) (by omega), hplace,
        ← writeMailbox_of_request hfits hpos]
    · have hvalue : slice (List.replicate 0 0 ++ data) 0 32 = data := by
        rw [List.replicate_zero, List.nil_append, slice_self hlength]
      rw [exec_bar0_of_quiet hquiet _ _ (by decide), mailboxAt_none (by decide)]
      simp only [writeWakePage, hvalue]
      rfl
    · rw [exec_bar0_of_quiet hquiet _ _ (by omega), mailboxAt_none (by omega), if_neg (by omega)]

end Sys2Proof.Machine
end

section
/-! SUPPORT and PROOFS. Entries to the sleeping states and exits from them, the commands for them, the power timers, the
thermal levels, the rails and the pins (03_watch_and_power.md, 16_electrical.md). -/

namespace Sys2Proof.Machine

open Sys2Proof.Claims

/-! ### What the shared steps of power management change -/

section Changes

variable (s : State)

/-- Powering the decks changes them and their margins. -/
theorem exists_powerDecks_eq : ∃ d i, powerDecks s = { s with decks := d, integrity := i } := by
  refine List.foldlRecOn (motive := fun t => ∃ d i, t = { s with decks := d, integrity := i }) _ powerDeck ?_ ?_
  · exact ⟨_, _, rfl⟩
  · rintro t ⟨d, i, rfl⟩ k -
    exact ⟨_, _, rfl⟩

theorem exists_reloadDividers_eq : ∃ d, reloadDividers s = { s with decks := d } := by
  refine List.foldlRecOn (motive := fun t => ∃ d, t = { s with decks := d }) _ _ ?_ ?_
  · exact ⟨_, rfl⟩
  · rintro t ⟨d, rfl⟩ k -
    exact ⟨_, rfl⟩

theorem exists_closeBlock_eq (b : Nat) : ∃ x o, closeBlock s b = { s with tiers := x, obj := o } := by
  dsimp only [closeBlock]
  split <;> exact ⟨_, _, rfl⟩

theorem exists_closeAllBlocks_eq : ∃ x o, closeAllBlocks s = { s with tiers := x, obj := o } := by
  refine List.foldlRecOn (motive := fun t => ∃ x o, t = { s with tiers := x, obj := o }) _ _ ?_ ?_
  · exact ⟨_, _, rfl⟩
  · rintro t ⟨x, o, rfl⟩ b -
    obtain ⟨y, p, h⟩ := exists_closeBlock_eq { s with tiers := x, obj := o } b
    exact ⟨y, p, h⟩

theorem sends_ferryToSlow : Sends s (ferryToSlow s) := by
  refine Sends.foldl _ (fun s n => ?_) s
  split
  · exact (Sends.queueTo _ _ _ _).trans (Sends.setPort _ _ _)
  · exact Sends.refl s

/-- What the exit from a sleeping state makes of the power record. -/
def awakened (p : Power) : Power :=
  { p with
    state := .ready, exiting := none, latched := 0, dozeDue := false, watchDue := false, readyDue := false
    refclk := true }

/-- Leaving a sleeping state: the ports train again, the decks have power, no source is latched. -/
theorem exists_enterReady_eq :
    ∃ d i f, enterReady s = { s with decks := d, integrity := i, ferry := f, power := awakened s.power } := by
  obtain ⟨d, i, h⟩ := exists_powerDecks_eq ((ferryRetrain s).setPower (awakened (ferryRetrain s).power))
  exact ⟨d, i, (ferryRetrain s).ferry, h⟩

/-- A request for L1 changes the link's asking and what leaves the device. -/
theorem askL1_eq : askL1 s
    = { s with power := { s.power with l1Asked := (askL1 s).power.l1Asked }, out := (askL1 s).out } := by
  unfold askL1
  split <;> rfl

/-- An emergency setting changes dividers and what leaves the device. -/
theorem exists_emergencyEntry_eq :
    ∃ d o, emergencyEntry s = { s with decks := d, out := o, power := { s.power with emergency := true } } := by
  unfold emergencyEntry
  split
  next h => exact ⟨s.decks, s.out, by rw [← h]⟩
  next =>
    obtain ⟨d, hd⟩ := exists_reloadDividers_eq (s.setPower { s.power with emergency := true })
    obtain ⟨f, o, ho⟩ := Sends.ibi (reloadDividers (s.setPower { s.power with emergency := true })) 0xD3
    refine ⟨d, ((reloadDividers (s.setPower { s.power with emergency := true })).ibi 0xD3).out, ?_⟩
    unfold State.ibi
    rw [hd]
    split <;> rfl

theorem exists_event_eq (c fl k : Nat) (l : List Nat) :
    ∃ x n, s.event c fl k l = { s with custody := x, draws := n } := by
  unfold State.event State.pushEvent
  split <;> exact ⟨_, _, rfl⟩

end Changes

/-! ### Entries and exits (R56 to R63) -/

theorem status_get_unpowerDecks (s : State) (k : Fin 16) : ((unpowerDecks s).decks.get k).status
    = match (s.decks.get k).status with | .retired => .retired | _ => .off := by
  simp only [unpowerDecks, Vector.get_map] <;> rfl

/-- DOZE is entered from READY. -/
theorem state_of_dozeAllowed {s : State} (h : dozeAllowed s = true) : s.power.state = .ready := by
  simp only [dozeAllowed, Bool.and_eq_true, decide_eq_true_eq] at h
  tauto

theorem entriesAndExits : EntriesAndExits := by
  intro s
  refine ⟨fun hallowed => ?_, fun hentering => ?_, fun hexiting hinbox => ?_, fun hexiting hgood hrail hinbox => ?_, ?_,
    fun hready u v hu hv => ?_, fun hready hnone => ?_, fun hentering => ?_⟩
  · obtain ⟨x, o, hclose⟩ := exists_closeAllBlocks_eq s
    refine ⟨_, if_pos hallowed, ?_⟩
    rw [hclose]
    exact ⟨rfl, state_of_dozeAllowed (s := s) hallowed, rfl, rfl⟩
  · obtain ⟨f, o, hslow⟩ := sends_ferryToSlow (clearDeckStores (unpowerDecks s))
    simp only [exec, execDozeEntryDone, hentering]
    refine ⟨_, rfl, ?_⟩
    rw [askL1_eq, hslow]
    exact ⟨rfl, rfl, rfl, status_get_unpowerDecks s, rfl, rfl⟩
  · obtain ⟨d, i, f, hready⟩ := exists_enterReady_eq s
    simp only [exec, execDozeExitDone, hexiting]
    rw [serveLatched_of_inbox_nil (by rw [hready]; exact hinbox)]
  · obtain ⟨d, i, f, hready⟩ := exists_enterReady_eq s
    simp only [exec, execWatchExitDone, hexiting, hgood, hrail]
    rw [serveLatched_of_inbox_nil (by rw [hready]; exact hinbox)]
    rfl
  · obtain ⟨d, i, f, hready⟩ := exists_enterReady_eq s
    rw [hready]
    exact ⟨rfl, rfl, rfl, rfl⟩
  · subst hv
    simp only [exec, execWatchEntry, if_pos hready, hu]
  · simp only [exec, execWatchEntry, if_pos hready, hnone]
  · simp only [exec, execWatchEntryDone, hentering]
    exact ⟨_, rfl, rfl, rfl, rfl, rfl, rfl, rfl, rfl, rfl, rfl, rfl⟩

/-! ### State commands (R65, R66) -/

section Commands

variable {s : State} {val : Bytes} {ch : Channel}

theorem accepted_dozeNow (hharbour : s.inHarbour = false) (hval : leNat val = 3) :
    Accepted (.dozeNow ch val) s (replaceCommand .dozeNow s) :=
  accepted_of_done rfl rfl (by simp [hval, applyDozeNow, guarded, firstFail, hharbour, accept])

theorem accepted_watchNow (hharbour : s.inHarbour = false) (hval : leNat val = 4) (hallowed : watchAllowed s = true) :
    Accepted (.watchNow ch val) s (replaceCommand .watchNow s) :=
  accepted_of_done rfl rfl (by simp [hval, applyWatchNow, guarded, firstFail, hharbour, hallowed, accept])

theorem turnedDown_watchNow (hharbour : s.inHarbour = false) (hval : leNat val = 4) (hallowed : watchAllowed s = false) :
    TurnedDown (.watchNow ch val) abInconsistent s :=
  turnedDown_of_done rfl rfl (by simp [hval, applyWatchNow, guarded, firstFail, hharbour, hallowed, refuse])

theorem turnedDown_offPrepare (hval : leNat val = 5) (hidle : idleForOff s = false) :
    TurnedDown (.offPrepare ch val) abNotIdle s :=
  turnedDown_of_done rfl rfl (by simp [hval, applyOffPrepare, guarded, firstFail, hidle, refuse])

theorem replaceCommand_of_offReady (c : SleepCommand) (h : s.power.state = .offReady) : replaceCommand c s = s := by
  simp [replaceCommand, h]

theorem replaceCommand_of_preparing (c : SleepCommand) (h : s.power.state ≠ .offReady)
    (hentering : s.power.entering = some .offReady) : replaceCommand c s = { s with
      power := { s.power with command := some c, entering := none }
      custody := { s.custody with planned := false }
      serving := { s.serving with stopped := s.serving.clearDue || s.custody.transition.isSome } } := by
  unfold replaceCommand
  split
  next h' => exact absurd h' h
  next => rfl
  next h' => exact absurd hentering h'

theorem replaceCommand_of_other (c : SleepCommand) (h : s.power.state ≠ .offReady)
    (hentering : s.power.entering ≠ some .offReady) :
    replaceCommand c s = s.setPower { s.power with command := some c } := by
  unfold replaceCommand
  split
  next h' => exact absurd h' h
  next => exact absurd (by assumption) hentering
  next => rfl

end Commands

/-- A deck with no stores has none to drain. -/
theorem drainDecks_of_storesDrained {s : State} (h : storesDrained s = true) : drainDecks s = s := by
  have hnil : ∀ k : Fin 16, (s.decks.get k).store = [] := by
    intro k
    have hmem : s.decks.get k ∈ s.decks.toList := Vector.mem_toList_iff.2 (Vector.getElem_mem _)
    exact List.isEmpty_iff.1 (List.all_eq_true.1 h _ hmem)
  have hone : ∀ k, drainAll k s = s := fun k => foldl_fixed_of_mem fun _ _ => by simp [drainOne, hnil k]
  exact foldl_fixed_of_mem fun k _ => hone k

theorem flushJournal_of_nil (n : Nat) {s : State} (h : s.custody.journal.queue = []) : flushJournal n s = s := by
  cases n <;> simp [flushJournal, h]

/-- With nothing left to do the end of OFF_PREPARE reports OFF_READY. -/
theorem exec_offPrepareDone_of_idle {s : State} (hentering : s.power.entering = some .offReady) (hturn : s.turn = none)
    (hmover : moverIdle s = true) (hstores : storesDrained s = true) (hplanned : s.custody.planned = true)
    (hjournal : s.custody.journal.queue = []) :
    exec .offPrepareDone s = .next (dropBuffers (reportOffReady (ferryToSlow (closeAllBlocks s)))) := by
  obtain ⟨x, o, hclose⟩ := exists_closeAllBlocks_eq s
  obtain ⟨f, p, hslow⟩ := sends_ferryToSlow (closeAllBlocks s)
  have hcustody : (ferryToSlow (closeAllBlocks s)).custody = s.custody := by rw [hslow, hclose]
  simp only [exec, execOffPrepareDone, hentering, hturn, hmover, drainDecks_of_storesDrained hstores, hcustody, hplanned]
  simp [flushJournal_of_nil 256 (hcustody ▸ hjournal), hcustody, hjournal]

theorem stateCommands : StateCommands := by
  intro ch val s hharbour
  refine ⟨fun hoff hentering => ⟨fun hval => ?_, fun hval hallowed => ?_⟩,
    fun hoff hentering c hc t ht => ⟨fun hval hdoze => ?_, fun hval hwatch hallowed => ?_⟩,
    fun hoff => ⟨fun hval => ?_, fun hval hallowed => ?_, fun hval hidle => ?_⟩,
    fun hval hallowed => turnedDown_watchNow hharbour hval hallowed, fun hoff hval hidle => ?_,
    fun hval hidle => turnedDown_offPrepare hval hidle,
    fun hentering hturn hmover hstores hplanned hjournal => ?_⟩
  · exact replaceCommand_of_other .dozeNow hoff hentering ▸ accepted_dozeNow hharbour hval
  · exact replaceCommand_of_other .watchNow hoff hentering ▸ accepted_watchNow hharbour hval hallowed
  · subst ht hdoze
    exact replaceCommand_of_preparing .dozeNow hoff hentering ▸ accepted_dozeNow hharbour hval
  · subst ht hwatch
    exact replaceCommand_of_preparing .watchNow hoff hentering ▸ accepted_watchNow hharbour hval hallowed
  · have h := accepted_dozeNow (ch := ch) hharbour hval
    rwa [replaceCommand_of_offReady .dozeNow hoff] at h
  · have h := accepted_watchNow (ch := ch) hharbour hval hallowed
    rwa [replaceCommand_of_offReady .watchNow hoff] at h
  · exact accepted_of_done rfl rfl (by simp [hval, applyOffPrepare, guarded, firstFail, hidle, accept, hoff])
  · refine accepted_of_done rfl rfl ?_
    rw [if_pos hval, applyOffPrepare, guarded_of_passes _ _ (by simp [firstFail, hidle])]
    refine congrArg (Applied.done 0) ?_
    split
    next h => exact absurd h hoff
    next => rfl
  · obtain ⟨x, o, hclose⟩ := exists_closeAllBlocks_eq s
    obtain ⟨f, p, hslow⟩ := sends_ferryToSlow (closeAllBlocks s)
    have hnil : ∀ k : Fin 16, (s.decks.get k).store = [] := by
      intro k
      have hmem : s.decks.get k ∈ s.decks.toList := Vector.mem_toList_iff.2 (Vector.getElem_mem _)
      exact List.isEmpty_iff.1 (List.all_eq_true.1 hstores _ hmem)
    refine ⟨_, exec_offPrepareDone_of_idle hentering hturn hmover hstores hplanned hjournal, ?_⟩
    obtain ⟨g, q, hibi⟩ := Sends.ibi ((ferryToSlow (closeAllBlocks s)).setPower
      { (ferryToSlow (closeAllBlocks s)).power with
        state := .offReady, entering := none, command := none, railEn := false }) 0xD4
    rw [dropBuffers, reportOffReady, hibi, hslow, hclose]
    exact ⟨rfl, rfl, rfl, hnil⟩

/-- Settles O46: by its two parts. -/
theorem sleepEntriesAndCommands : Obligations.SleepEntriesAndCommands := ⟨entriesAndExits, stateCommands⟩

/-! ### Timers, the operating point and the thermal levels (R60, R64, R77, R78) -/

theorem timeoutsAndPoints : TimeoutsAndPoints := by
  intro s
  refine ⟨fun hactive hidle => ?_, fun hready hauto hdoze => ?_, fun hready hoff => ?_, fun hdoze hauto htime hwatch => ?_,
    fun p hp => ?_⟩
  · simp [exec, execReadyTimeout, hactive, hidle]
  · exact exec_dozeTimeout_of_timeoutsApply hready ((timeoutsApply_iff s).2 ⟨hauto, hdoze⟩)
  · refine exec_dozeTimeout_of_not_timeoutsApply (Bool.eq_false_iff.2 fun happly => ?_)
    obtain ⟨hauto, hdoze⟩ := (timeoutsApply_iff s).1 happly
    exact hoff.elim (fun h => h hauto) hdoze
  · exact exec_watchTimeout_of_timeoutsApply hdoze ((timeoutsApply_iff s).2 ⟨hauto, htime⟩) hwatch
  · obtain ⟨d, i, hdecks⟩ := exists_powerDecks_eq (s.setPower { s.power with point := p, raising := none })
    simp only [exec, execPointChangeDone, hp, setPoint, hdecks]
    exact ⟨_, rfl, rfl, rfl, rfl, rfl, rfl⟩

/-- The trip that a sample of 115 °C or more brings. -/
def tripAt (l : List Int) (s : State) : State := if 115000 ≤ hottest l then tripEntry s else s

/-- A trip marks the part tripped, the flag where it was not, and lowers THERMTRIP_N then. -/
theorem tripAt_eq (l : List Int) (s : State) : ∃ o, tripAt l s = { s with
    out := o
    power := { s.power with
      tripped := s.power.tripped || decide (115000 ≤ hottest l)
      tripFlag := s.power.tripFlag || (decide (115000 ≤ hottest l) && !s.power.tripped) } } ∧
    (s.power.tripped = false → 115000 ≤ hottest l → o.getLast? = some (.thermtripN false)) := by
  unfold tripAt tripEntry
  by_cases hhot : 115000 ≤ hottest l
  · by_cases htripped : s.power.tripped = true
    · refine ⟨s.out, ?_, fun h => by rw [htripped] at h; cases h⟩
      rw [if_pos hhot, if_pos htripped]
      simp only [htripped, Bool.true_or, Bool.not_true, Bool.and_false, Bool.or_false]
      rw [← htripped]
    · refine ⟨s.out ++ [.thermtripN false], ?_, fun _ _ => List.getLast?_concat⟩
      rw [if_pos hhot, if_neg htripped]
      simp [Bool.eq_false_iff.2 htripped, hhot]
      rfl
  · refine ⟨s.out, ?_, fun _ h => absurd h hhot⟩
    rw [if_neg hhot]
    simp [hhot]

theorem exec_thermalSample_asleep (l : List Int) (a b : Nat) {s : State}
    (h : s.power.state = .doze ∨ s.power.state = .watch) :
    exec (.thermalSample l a b) s = .next (tripAt l (s.setPower { s.power with readings := l })) := by
  rcases h with h | h <;> simp only [exec, execThermalSample, h] <;> rfl

theorem exec_thermalSample_awake (l : List Int) (a b : Nat) {s : State}
    (h : s.power.state = .active ∨ s.power.state = .ready) :
    exec (.thermalSample l a b) s = .next (tripAt l (fullSample l a b s)) := by
  rcases h with h | h <;> simp only [exec, execThermalSample, h] <;> rfl

/-- What a full sample makes of the power record. -/
def sampled (l : List Int) (a b : Nat) (s : State) : Power :=
  { s.power with
    readings := l, avg1s := a, avg10ms := b, coolSamples := coolAfter s l, calmSamples := calmAfter s a b
    emergency := s.power.emergency || decide (105000 ≤ hottest l) }

/-- A full sample keeps the readings and averages and enters the emergency setting from 105 °C on. -/
theorem exists_fullSample_eq (l : List Int) (a b : Nat) (s : State) :
    ∃ d o, fullSample l a b s = { s with decks := d, out := o, power := sampled l a b s } := by
  unfold fullSample sampled
  by_cases hhot : 105000 ≤ hottest l
  · obtain ⟨d, o, h⟩ := exists_emergencyEntry_eq (s.setPower { s.power with
      readings := l, avg1s := a, avg10ms := b, coolSamples := coolAfter s l, calmSamples := calmAfter s a b })
    refine ⟨d, o, ?_⟩
    rw [if_pos hhot, h, decide_eq_true hhot, Bool.or_true]
    rfl
  · refine ⟨s.decks, s.out, ?_⟩
    rw [if_neg hhot, decide_eq_false hhot, Bool.or_false]
    rfl

theorem thermalSamples : ThermalSamples := by
  refine ⟨fun l a b s h => ?_, fun l a b s h => ?_⟩
  · obtain ⟨o, htrip, -⟩ := tripAt_eq l (s.setPower { s.power with readings := l })
    refine ⟨_, exec_thermalSample_asleep l a b h, ?_⟩
    rw [htrip]
    exact ⟨rfl, rfl, rfl, rfl, rfl, rfl, rfl⟩
  · obtain ⟨d, q, hfull⟩ := exists_fullSample_eq l a b s
    obtain ⟨o, htrip, hout⟩ := tripAt_eq l (fullSample l a b s)
    refine ⟨_, exec_thermalSample_awake l a b h, ?_⟩
    rw [hfull] at hout
    rw [htrip, hfull]
    exact ⟨rfl, rfl, rfl, rfl, rfl, rfl, hout, rfl, rfl, rfl, rfl⟩

/-! ### Rails and pins (R43, R55, R67, R69, R87, R100, R364) -/

theorem railsAndPins : RailsAndPins := by
  intro s
  refine ⟨rfl, fun hwaiting => ?_, fun hretrying hlatched => ?_, rfl, fun hup hperst => ?_, rfl, fun hup => ?_,
    fun hup addr => ?_, fun hcold hasked => ?_, fun hcold htrained => ?_⟩
  · simp only [exec, execSwPgoodTimeout, hwaiting]
    refine ⟨_, rfl, ?_, ?_, ?_, ?_⟩
    · rw [State.event_power]; rfl
    · rw [State.event_out]; rfl
    · rw [State.event_mem]; rfl
    · rw [State.event_serving]; rfl
  · simp only [exec, execRailRetry, hretrying]
    exact if_neg hlatched
  · simp only [exec, execPcieLinkUp, hup, hperst]
    refine ⟨_, rfl, ?_, ?_⟩
    · split <;> rfl
    · cases s.power.pme <;> simp
  · simp [exec, execWatchFllLock, hup]
  · simp [exec, execDynamicAddressAssignment, hup]
  · simp only [exec, execLinkL12Entry]
    exact if_pos hasked
  · simp only [exec, execLinkL12Entry, hcold, htrained, if_true]
    refine ⟨_, rfl, ?_, rfl, rfl, rfl⟩
    simp only [State.draw_power, State.setPower_power]
    split
    · exact Or.inr rfl
    · exact Or.inl rfl

/-- Settles O47: by its three parts. -/
theorem clocksHeatAndRails : Obligations.ClocksHeatAndRails := ⟨timeoutsAndPoints, thermalSamples, railsAndPins⟩

end Sys2Proof.Machine
end

section
/-! SUPPORT and PROOFS. Flash commands that become descriptors, descriptors that start, and what the banks report
(05_weight_flash.md, R111 to R130). -/

namespace Sys2Proof.Machine

open Sys2Proof.Claims

/-! ### Submissions and the flush (R124, R125) -/

section Submissions

variable {op : Nat} {val : Bytes} {s : State}

theorem submitOp_of_length (h : val.length ≠ 32) : submitOp op val s = .done abLength s := by
  simp [submitOp, applySubmit, guarded, firstFail, h, refuse]

theorem submitOp_of_opcode (hop : fld val 0 1 = op) : submitOp op val s = applySubmit val s := by
  simp [submitOp, hop]

theorem applySubmit_of_malformed (hlength : val.length = 32) (hform : descForm val = false) :
    applySubmit val s = .done abMalformed s := by
  simp [applySubmit, guarded, firstFail, hlength, hform, refuse]

theorem applySubmit_of_range (hlength : val.length = 32) (hform : descForm val = true) (hrange : descRange val = false) :
    applySubmit val s = .done abRange s := by
  simp [applySubmit, guarded, firstFail, hlength, hform, hrange, refuse]

theorem applySubmit_of_full (hlength : val.length = 32) (hform : descForm val = true) (hrange : descRange val = true)
    (hfull : 16 ≤ s.flash.priv.length) : applySubmit val s = .done abNoEntry s := by
  simp [applySubmit, guarded, firstFail, hlength, hform, hrange, Nat.not_lt.2 hfull, refuse]

theorem applySubmit_of_room (hlength : val.length = 32) (hform : descForm val = true) (hrange : descRange val = true)
    (hroom : s.flash.priv.length < 16) : applySubmit val s = .done 0 (pushPriv (parseDesc val s.flash.nextSeq) s) := by
  simp [applySubmit, guarded, firstFail, hlength, hform, hrange, hroom, accept]

end Submissions

/-- Every row of Submit writes 0x2200:01 with its opcode. -/
theorem exec_of_mem_submitRows {r : Nat × (Channel → Bytes → Instr)} (hr : r ∈ submitRows) :
    (∀ ch val, writes (r.2 ch val) = some (ch, 0x2200, 1, val)) ∧
      ∀ ch val s, exec (r.2 ch val) s = objectWrite ch 0x2200 1 val (submitOp r.1 val) s := by
  revert r
  simp only [submitRows, List.forall_mem_cons, List.not_mem_nil, false_imp_iff, implies_true, and_true]
  and_intros <;> intros <;> rfl

theorem beginAllClearing_of_nil {s : State} (h : s.flash.changes = []) : beginAllClearing s = s := by
  simp [beginAllClearing, h]

/-- A waiting descriptor is ended as aborted by a flush. -/
def flushed (d : FlashDesc) : FlashDesc :=
  match d.st with
  | .waiting => { d with st := .finished (d.completion 11 0 0) }
  | _ => d

theorem flashSubmissions : FlashSubmissions := by
  intro ch val s
  refine ⟨fun r hr => ?_, fun hval hchanges => ?_⟩
  · obtain ⟨hwrites, hexec⟩ := exec_of_mem_submitRows hr
    have hturned : ∀ {code}, applySubmit val s = .done code s → fld val 0 1 = r.1 → TurnedDown (r.2 ch val) code s :=
      fun hdone hop => turnedDown_of_done (hwrites ch val) (hexec ch val s) ((submitOp_of_opcode hop).trans hdone)
    refine ⟨fun hlength => turnedDown_of_done (hwrites ch val) (hexec ch val s) (submitOp_of_length hlength),
      fun hlength hop => ⟨fun hform => hturned (applySubmit_of_malformed hlength hform) hop,
        fun hform hrange => hturned (applySubmit_of_range hlength hform hrange) hop,
        fun hform hrange hfull => hturned (applySubmit_of_full hlength hform hrange hfull) hop,
        fun hform hrange hroom => ?_⟩⟩
    exact accepted_of_done (hwrites ch val) (hexec ch val s)
      ((submitOp_of_opcode hop).trans (applySubmit_of_room hlength hform hrange hroom))
  · refine accepted_of_done rfl rfl ?_
    have hnone : (s.setFlash { s.flash with priv := s.flash.priv.map flushed }).flash.changes = [] := hchanges
    have hflush : applyFlush val s
        = .done 0 (beginAllClearing (s.setFlash { s.flash with priv := s.flash.priv.map flushed })) := if_pos hval
    rw [hflush, beginAllClearing_of_nil hnone]
    rfl

/-! ### A queue of one descriptor -/

/-- The state whose privileged queue is one descriptor. -/
def holdsOne (s : State) (d : FlashDesc) : State := s.setFlash { s.flash with priv := [d] }

theorem descOf_of_single {s : State} {d : FlashDesc} (h : s.flash.priv = [d]) : descOf s .priv d.seq = some d := by
  simp [descOf, queueOf, h]

theorem setDesc_of_single {s : State} {d : FlashDesc} {seq : Nat} (h : s.flash.priv = [d]) (hseq : d.seq = seq)
    (f : FlashDesc → FlashDesc) : setDesc s .priv seq f = holdsOne s (f d) := by
  simp [setDesc, setQueue, queueOf, h, holdsOne, hseq]

theorem countFailure_flash (s : State) (status : Nat) : (countFailure s status).flash = s.flash := by
  unfold countFailure
  split
  · rfl
  · split <;> rfl

theorem countFailure_mem (s : State) (status : Nat) : (countFailure s status).mem = s.mem := by
  unfold countFailure
  split
  · rfl
  · split <;> rfl

/-- With no change of regions under way a descriptor that finishes is only marked finished, and counted if it failed. -/
theorem finishDesc_of_single {s : State} {d e : FlashDesc} (h : s.flash.priv = [e]) (hseq : e.seq = d.seq)
    (hchanges : s.flash.changes = []) (status done result : Nat) :
    finishDesc s .priv d status done result
      = holdsOne (countFailure s status) { e with st := .finished (d.completion status done result) } := by
  have hpriv : (countFailure s status).flash.priv = [e] := by rw [countFailure_flash, h]
  have hdesc := setDesc_of_single hpriv hseq fun d' => { d' with st := .finished (d.completion status done result) }
  simp only [finishDesc, hdesc]
  refine beginAllClearing_of_nil ?_
  change (countFailure s status).flash.changes = []
  rw [countFailure_flash, hchanges]

/-! ### Descriptors that start (R116, R122 to R126) -/

section Start

variable {d : FlashDesc} {s : State}

/-- A descriptor under the region table that its start leaves with it. -/
def started (s : State) (d : FlashDesc) : FlashDesc := { d with table := newTable s, st := .running }

theorem mayStart_of_single (hpriv : s.flash.priv = [d]) (hwaiting : d.st = .waiting) (hroom : s.flash.unread.length < 16) :
    mayStart s .priv d = true := by
  simp [mayStart, queueOf, hpriv, hwaiting, hroom]

/-- The only descriptor of the queue starts. -/
theorem exec_descriptorStart_of_single (hserves : s.serves = true) (hpriv : s.flash.priv = [d]) (hwaiting : d.st = .waiting)
    (hroom : s.flash.unread.length < 16) : exec (.descriptorStart .priv d.seq) s = .next
      (if startStatus s .priv d ≠ 0 then
        finishDesc (if startStatus s .priv d = 2 then refusedByKind (holdsOne s (started s d)) .priv d
          else holdsOne s (started s d)) .priv d (startStatus s .priv d) 0 0
      else attempt (holdsOne s (started s d)) .priv (started s d)) := by
  simp only [exec, execDescriptorStart, descOf_of_single hpriv, hserves, mayStart_of_single hpriv hwaiting hroom,
    setDesc_of_single hpriv rfl, Bool.and_self, if_true]
  by_cases hst : startStatus s .priv d = 0
  · rw [if_neg (not_not.2 hst), if_neg (not_not.2 hst)]
    rfl
  · rw [if_pos hst, if_pos hst]
    rfl

/-- A refusal by kind is counted and perhaps an error; the flash, the memory, the decks and the serving plane stay. -/
theorem refusedByKind_keeps (s : State) (q : QueueId) (d : FlashDesc) :
    (refusedByKind s q d).flash = s.flash ∧ (refusedByKind s q d).mem = s.mem ∧ (refusedByKind s q d).decks = s.decks ∧
      (refusedByKind s q d).serving = s.serving := by
  dsimp only [refusedByKind]
  split
  · exact ⟨rfl, rfl, rfl, rfl⟩
  · split
    · exact ⟨rfl, rfl, rfl, rfl⟩
    · exact ⟨State.error_flash _ _, State.error_mem _ _, State.error_decks _ _, State.error_serving _ _⟩

/-- A failure is counted, and nothing else. -/
theorem exists_countFailure_eq (s : State) (status : Nat) : ∃ o, countFailure s status = { s with obj := o } := by
  unfold countFailure
  split
  · exact ⟨_, rfl⟩
  · split <;> exact ⟨_, rfl⟩

/-- A descriptor that a check of its range fails. -/
theorem descriptorStart_of_refused (hserves : s.serves = true) (hpriv : s.flash.priv = [d])
    (hchanges : s.flash.changes = []) (hwaiting : d.st = .waiting) (hroom : s.flash.unread.length < 16)
    (hstatus : startStatus s .priv d ≠ 0) :
    ∃ t, exec (.descriptorStart .priv d.seq) s = .next t ∧
      t.flash.priv = [{ d with
        table := newTable s, st := .finished (d.completion (startStatus s .priv d) 0 0) }] ∧ t.mem = s.mem ∧
      t.flash.banks = s.flash.banks ∧ t.decks = s.decks ∧ t.serving = s.serving := by
  have hkeep : ∀ u : State, u.flash = (holdsOne s (started s d)).flash → u.mem = s.mem → u.decks = s.decks →
      u.serving = s.serving → ∀ status, (finishDesc u .priv d status 0 0).flash.priv = [{ d with
        table := newTable s, st := .finished (d.completion status 0 0) }] ∧ (finishDesc u .priv d status 0 0).mem = s.mem ∧
      (finishDesc u .priv d status 0 0).flash.banks = s.flash.banks ∧ (finishDesc u .priv d status 0 0).decks = s.decks ∧
      (finishDesc u .priv d status 0 0).serving = s.serving := by
    intro u hflash hmem hdecks hserving status
    obtain ⟨o, hcount⟩ := exists_countFailure_eq u status
    rw [finishDesc_of_single (d := d) (e := started s d) (by rw [hflash]; rfl) rfl (by rw [hflash]; exact hchanges),
      hcount]
    refine ⟨rfl, hmem, ?_, hdecks, hserving⟩
    change u.flash.banks = _
    rw [hflash]
    rfl
  refine ⟨_, exec_descriptorStart_of_single hserves hpriv hwaiting hroom, ?_⟩
  rw [if_pos hstatus]
  split
  · obtain ⟨hflash, hmem, hdecks, hserving⟩ := refusedByKind_keeps (holdsOne s (started s d)) .priv d
    exact hkeep _ hflash hmem hdecks hserving _
  · exact hkeep _ rfl rfl rfl rfl _

/-- An erase takes its bank. -/
theorem descriptorStart_of_erase (hserves : s.serves = true) (hpriv : s.flash.priv = [d]) (hwaiting : d.st = .waiting)
    (hroom : s.flash.unread.length < 16) (hstatus : startStatus s .priv d = 0) (herase : d.opcode = 3)
    (hfree : aget s.flash.banks d.bank = none) :
    ∃ t, exec (.descriptorStart .priv d.seq) s = .next t ∧ t.flash.priv = [started s d] ∧
      (∃ op, aget t.flash.banks d.bank = some op ∧ op.queue = .priv ∧ op.seq = d.seq ∧ op.erase = true ∧
        op.suspended = false ∧ op.sector = (d.offset + d.done) / 4096) ∧
      t.mem = s.mem ∧ t.serving = s.serving := by
  have hplace : attempt (holdsOne s (started s d)) .priv (started s d) = dropSector
      (((holdsOne s (started s d)).setFlash { (holdsOne s (started s d)).flash with
        banks := aset s.flash.banks d.bank ((started s d).op .priv (holdsOne s (started s d))) }).draw)
      ((d.offset + d.done) / 4096) := by
    have hop : (started s d).opcode = 3 := herase
    have hbank : aget (holdsOne s (started s d)).flash.banks (started s d).bank = none := hfree
    simp only [attempt, hop, placeOp, hbank]
    rfl
  refine ⟨_, exec_descriptorStart_of_single hserves hpriv hwaiting hroom, ?_⟩
  rw [if_neg (not_not.2 hstatus), hplace]
  exact ⟨rfl, ⟨_, aget_aset_self _ _ _, rfl, rfl, decide_eq_true herase, rfl, rfl⟩, rfl, rfl⟩

/-- Banks that are free serve a range at once. -/
theorem bankGate_of_free (q : Query) {l : List Nat} (h : ∀ sec ∈ l, aget s.flash.banks (bankOf sec) = none) :
    bankGate q l s = (s, none) := by
  induction l with
  | nil => rfl
  | cons sec l ih =>
    have hfree : bankAnswer s q sec = .free := by simp [bankAnswer, h sec List.mem_cons_self]
    simp only [bankGate, hfree]
    exact ih fun x hx => h x (List.mem_cons_of_mem _ hx)

/-- Counting the marked words of a range leaves the memory and the flash. -/
theorem countWords_keeps (q : QueueId) (s : State) (a n : Nat) :
    (countWords q s a n).mem = s.mem ∧ (countWords q s a n).flash = s.flash := by
  refine List.foldlRecOn (motive := fun t : State => t.mem = s.mem ∧ t.flash = s.flash) _ _ ⟨rfl, rfl⟩ ?_
  rintro t ⟨hmem, hflash⟩ p -
  split
  · exact ⟨(State.error_mem _ _).trans hmem, (State.error_flash _ _).trans hflash⟩
  · exact ⟨(State.error_mem _ _).trans hmem, (State.error_flash _ _).trans hflash⟩

/-- A read-type descriptor whose banks are free ends with what it found. -/
theorem descriptorStart_of_read {r : ReadEnd} (hserves : s.serves = true) (hpriv : s.flash.priv = [d])
    (hchanges : s.flash.changes = []) (hwaiting : d.st = .waiting) (hroom : s.flash.unread.length < 16)
    (hstatus : startStatus s .priv d = 0) (hfree : ∀ sec ∈ d.sectors, aget s.flash.banks (bankOf sec) = none)
    (hattempt : (d.opcode = 4 ∧ runBlankCheck (holdsOne s (started s d)) .priv (started s d) = r) ∨
      (d.opcode = 6 ∧ runCrc32 (holdsOne s (started s d)) .priv (started s d) = r))
    (hmem : r.s.mem = s.mem) (hflash : r.s.flash = (holdsOne s (started s d)).flash) :
    ∃ t, exec (.descriptorStart .priv d.seq) s = .next t ∧
      t.flash.priv = [{ d with table := newTable s, st := .finished (d.completion r.status r.done r.result) }] ∧
      t.mem = s.mem := by
  have hgate : bankGate (queueQuery (holdsOne s (started s d)) .priv) (started s d).sectors (holdsOne s (started s d))
      = (holdsOne s (started s d), none) := bankGate_of_free _ hfree
  have hread : attempt (holdsOne s (started s d)) .priv (started s d)
      = finishDesc r.s .priv (started s d) r.status r.done r.result := by
    rcases hattempt with ⟨hop, hrun⟩ | ⟨hop, hrun⟩
    all_goals
      have hopcode : (started s d).opcode = d.opcode := rfl
      simp only [attempt, attemptRead, hgate, hopcode, hop, hrun]
      rfl
  refine ⟨_, exec_descriptorStart_of_single hserves hpriv hwaiting hroom, ?_⟩
  obtain ⟨o, hcount⟩ := exists_countFailure_eq r.s r.status
  rw [if_neg (not_not.2 hstatus), hread, finishDesc_of_single (e := started s d) (by rw [hflash]; rfl) rfl
    (by rw [hflash]; exact hchanges), hcount]
  exact ⟨rfl, hmem⟩

/-- A range without marks has no word that cannot be corrected. -/
theorem firstUncorrectable_of_nil {m : Mem} {a n : Nat} (h : marksIn m 16 a n = []) : firstUncorrectable m a n = none := by
  simp [firstUncorrectable, h]

theorem runCrc32_of_clean {q : QueueId} (h : marksIn s.mem 16 (flashBase + d.offset) d.length = []) :
    runCrc32 s q d = ⟨countWords q s (flashBase + d.offset) d.length, 0, d.length,
      (crc32 (s.mem.bytes (flashBase + d.offset) d.length)).toNat⟩ := by
  simp only [runCrc32, firstUncorrectable_of_nil h]

theorem runBlankCheck_of_blank {q : QueueId} (h : marksIn s.mem 16 (flashBase + d.offset) d.length = [])
    (hblank : firstWritten s.mem (flashBase + d.offset) d.length = none) :
    runBlankCheck s q d = ⟨countWords q s (flashBase + d.offset) d.length, 0, d.length, 0⟩ := by
  simp [runBlankCheck, firstUncorrectable_of_nil h, hblank]

theorem runBlankCheck_of_written {q : QueueId} {o : Nat} (h : marksIn s.mem 16 (flashBase + d.offset) d.length = [])
    (hwritten : firstWritten s.mem (flashBase + d.offset) d.length = some o) (ho : o < d.length) :
    runBlankCheck s q d = .at (countWords q s (flashBase + d.offset) o) 12 o := by
  simp [runBlankCheck, firstUncorrectable_of_nil h, hwritten, ho]

end Start

theorem descriptorsStart : DescriptorsStart := by
  intro d s hserves hpriv hhelm hchanges hwaiting hroom
  refine ⟨fun st hst hne => ?_, fun hstatus herase hfree => ?_, fun hstatus hfree hclean =>
    ⟨fun hop => ?_, fun hop hblank => ?_, fun o hop hwritten ho => ?_⟩⟩
  · subst hst
    exact descriptorStart_of_refused hserves hpriv hchanges hwaiting hroom hne
  · exact descriptorStart_of_erase hserves hpriv hwaiting hroom hstatus herase hfree
  · obtain ⟨hmem, hflash⟩ := countWords_keeps .priv (holdsOne s (started s d)) (flashBase + d.offset) d.length
    exact descriptorStart_of_read hserves hpriv hchanges hwaiting hroom hstatus hfree
      (Or.inr ⟨hop, runCrc32_of_clean (d := started s d) (s := holdsOne s (started s d)) hclean⟩) hmem hflash
  · obtain ⟨hmem, hflash⟩ := countWords_keeps .priv (holdsOne s (started s d)) (flashBase + d.offset) d.length
    exact descriptorStart_of_read hserves hpriv hchanges hwaiting hroom hstatus hfree
      (Or.inl ⟨hop, runBlankCheck_of_blank (d := started s d) (s := holdsOne s (started s d)) hclean hblank⟩) hmem hflash
  · obtain ⟨hmem, hflash⟩ := countWords_keeps .priv (holdsOne s (started s d)) (flashBase + d.offset) o
    exact descriptorStart_of_read hserves hpriv hchanges hwaiting hroom hstatus hfree
      (Or.inl ⟨hop, runBlankCheck_of_written (d := started s d) (s := holdsOne s (started s d)) hclean hwritten ho⟩)
      hmem hflash

/-- Settles O49: by its two parts. -/
theorem flashDescriptors : Obligations.FlashDescriptors := ⟨flashSubmissions, descriptorsStart⟩

end Sys2Proof.Machine
end

section
/-! SUPPORT and PROOFS. Bytes of a memory of which a run has been cleared or written, and what the banks of the flash
report (05_weight_flash.md, R112, R121, R124, R126, R130). -/

namespace Sys2Proof.Machine

open Sys2Proof.Claims

/-! ### Bytes of the memory -/

section Bytes

variable {m : Mem}

theorem sget_filter {β : Type} (l : List (Nat × β)) (keep : Nat → Bool) (k : Nat) :
    sget (l.filter fun p => keep p.1) k = if keep k then sget l k else none := by
  induction l with
  | nil => simp [sget]
  | cons p l ih =>
    by_cases hk : k = p.1
    · subst hk
      by_cases hkeep : keep p.1 = true <;> simp [hkeep, sget, ih]
    · by_cases hkeep : keep p.1 = true <;> simp [hkeep, sget, hk, ih]

/-- A byte of a memory of which a run has been cleared. -/
theorem byte_clear (m : Mem) (x y a : Nat) :
    (m.clear x y).byte a = if x ≤ a ∧ a < y then blankByte a else m.byte a := by
  simp only [Mem.byte, Mem.clear, cellGet]
  rw [sget_filter m.cells (fun k => !(decide (x ≤ k) && decide (k < y))) a]
  by_cases h : x ≤ a ∧ a < y
  · rw [if_pos h, if_neg (by simp [h])]
    rfl
  · rw [if_neg h, if_pos (by simp; omega)]

theorem byte_foldl_setMark {α : Type} (l : List α) (f : α → Nat × Option Mark) (m : Mem) (a : Nat) :
    (l.foldl (fun m i => m.setMark (f i).1 (f i).2) m).byte a = m.byte a := by
  induction l generalizing m with
  | nil => rfl
  | cons i l ih => rw [List.foldl_cons, ih, Mem.byte_setMark]

@[simp] theorem byte_clearMarks (m : Mem) (x n a : Nat) : (clearMarks m x n).byte a = m.byte a :=
  byte_foldl_setMark _ (fun i => (x + 16 * i, none)) m a

/-- The bytes of a run that has just been written. -/
theorem bytes_setBytes (h : m.wf = true) (a : Nat) (bs : Bytes) : (m.setBytes a bs).bytes a bs.length = bs := by
  refine List.ext_getElem (by simp [Mem.bytes]) fun i hi hi' => ?_
  simp only [Mem.bytes, List.getElem_map, List.getElem_range]
  rw [Mem.byte_setBytes _ _ _ _ h, if_pos ⟨by omega, by omega⟩, Nat.add_sub_cancel_left]
  simp [List.getD, hi']

/-- A byte outside a run that has been written. -/
theorem byte_setBytes_of_outside (h : m.wf = true) {a j : Nat} {bs : Bytes} (hj : ¬(a ≤ j ∧ j < a + bs.length)) :
    (m.setBytes a bs).byte j = m.byte j := by
  rw [Mem.byte_setBytes _ _ _ _ h, if_neg hj]

theorem clearMarks_wf (h : m.wf = true) (x n : Nat) : (clearMarks m x n).wf = true :=
  List.foldlRecOn (motive := fun m : Mem => m.wf = true) _ _ h fun _ hm _ _ => Mem.setMark_wf _ _ _ hm

end Bytes

/-- Words that failed change no byte outside them. -/
theorem byte_failWords {s : State} (h : s.mem.wf = true) {a n j : Nat} (hj : ¬(a ≤ j ∧ j < a + n)) :
    (failWords s a n).mem.byte j = s.mem.byte j := by
  simp only [failWords, State.draw_mem, State.setMem_mem]
  rw [byte_foldl_setMark _ (fun i => (a + 16 * i, if Config.failedWordPoison s.draws i then some .poison else none)),
    byte_setBytes_of_outside h (by simpa using hj)]

theorem exists_failWords_eq (s : State) (a n : Nat) : ∃ m k, failWords s a n = { s with mem := m, draws := k } :=
  ⟨_, _, rfl⟩

/-! ### Nothing waits for the flash -/

/-- No access, no deck and no stream waits for a bank, no region changes, and none of the device's own operations waits
for bank 0. -/
structure FlashIdle (s : State) : Prop where
  helm : s.flash.helm = []
  waiting : s.flash.waiting = []
  changes : s.flash.changes = []
  advances : s.flash.advances = []
  table : s.flash.tableDue = false
  stalled : ∀ k : Fin 16, (s.decks.get k).stalled = false
  streams : ∀ (k : Fin 16) n x, (s.decks.get k).stream n = some x → x.waiting = false

theorem flashIdle_of_onlyRuns {s : State} {d : FlashDesc} (h : onlyRuns s d) : FlashIdle s := by
  obtain ⟨hhelm, -, -, hwaiting, hchanges, hadvances, htable, hdecks⟩ := h
  exact ⟨hhelm, hwaiting, hchanges, hadvances, htable, fun k => (hdecks k).1, fun k => (hdecks k).2⟩

section Idle

variable {s : State} (h : FlashIdle s)

include h

theorem serveWaiting_of_idle : serveWaiting s = s := by
  simp only [serveWaiting, h.waiting, List.foldl_nil]
  exact congrArg (fun w => s.setFlash { s.flash with waiting := w }) h.waiting.symm

theorem serveStreams_of_idle : serveStreams s = s := by
  refine foldl_fixed_of_mem fun k _ => foldl_fixed_of_mem fun n _ => ?_
  cases hx : (s.decks.get k).stream n with
  | none => rfl
  | some x => simp [h.streams k n x hx]

theorem retryStalled_of_idle : retryStalled s = s :=
  foldl_fixed_of_mem fun k _ => retryDeck_of_not_stalled (h.stalled k)

omit h in
/-- A queue none of whose running descriptors passes a test has none to try again. -/
theorem retryQueue_of_none {q : QueueId} {which : FlashDesc → Bool}
    (hnone : ∀ d ∈ queueOf s q, d.st = .running → which d = false) : retryQueue s q which = s := by
  have hnil : (queueOf s q).filter (fun d => decide (d.st = .running) && which d) = [] := by
    rw [List.filter_eq_nil_iff]
    intro d hd
    simpa using hnone d hd
  rw [retryQueue, hnil, List.foldl_nil]

/-- With no read under way none is tried again. -/
theorem servePending_of_idle (hpriv : ∀ d ∈ s.flash.priv, d.st = .running → d.opcode = 2 ∨ d.opcode = 3) :
    servePending s = s := by
  have hhelm : ∀ which, retryQueue s .helm which = s := fun which =>
    retryQueue_of_none (by simp [queueOf, h.helm])
  rw [servePending, serveWaiting_of_idle h, serveStreams_of_idle h, retryStalled_of_idle h, retryReads, hhelm]
  refine retryQueue_of_none fun d hd hrun => ?_
  rcases hpriv d hd hrun with hop | hop <;> simp [hop]

theorem retryPrograms_of_idle (hpriv : ∀ d ∈ s.flash.priv, d.st ≠ .running) : retryPrograms s = s := by
  have hhelm : ∀ which, retryQueue s .helm which = s := fun which =>
    retryQueue_of_none (by simp [queueOf, h.helm])
  rw [retryPrograms, hhelm]
  exact retryQueue_of_none fun d hd hrun => absurd hrun (hpriv d hd)

theorem ownOperations_of_idle : s.ownOperations = s := by
  have hnone : s.flash.advances.foldl (fun s p => State.advanceCounter s p.1 p.2)
      { s with flash := { s.flash with advances := [] } } = s := by
    rw [h.advances]
    exact congrArg (fun w => ({ s with flash := { s.flash with advances := w } } : State)) h.advances.symm
  unfold State.ownOperations
  dsimp only
  rw [hnone, h.table, if_neg Bool.false_ne_true, ite_self]

theorem claimBank_of_idle (bank : Nat) (hpriv : ∀ d ∈ s.flash.priv, d.st ≠ .running) : claimBank s bank = s := by
  have hready : ∀ (p : FlashDesc → Bool), s.flash.priv.find? (fun d => decide (d.st = .running) && p d) = none := by
    intro p
    rw [List.find?_eq_none]
    intro d hd
    simp [hpriv d hd]
  simp only [claimBank, ownOperations_of_idle h, ite_self, h.helm, List.find?_nil, Bool.and_assoc, hready]

end Idle

/-! ### A descriptor of the host ends -/

section Ends

variable {s : State} {d e : FlashDesc} {bank : Nat}

/-- The descriptor of the queue, ended with a status. -/
def ended (s : State) (e d : FlashDesc) (status done result : Nat) : State :=
  holdsOne (countFailure s status) { e with st := .finished (d.completion status done result) }

/-- What an ended descriptor leaves of the state but its queue and the counters of failures. -/
theorem exists_ended_eq (s : State) (e d : FlashDesc) (status done result : Nat) : ∃ o, ended s e d status done result
    = { s with
        obj := o
        flash := { s.flash with priv := [{ e with st := .finished (d.completion status done result) }] } } := by
  obtain ⟨o, hcount⟩ := exists_countFailure_eq s status
  refine ⟨o, ?_⟩
  rw [ended, hcount]
  rfl

theorem flashIdle_ended (h : FlashIdle s) (status done result : Nat) : FlashIdle (ended s e d status done result) := by
  obtain ⟨o, heq⟩ := exists_ended_eq s e d status done result
  rw [heq]
  exact ⟨h.helm, h.waiting, h.changes, h.advances, h.table, h.stalled, h.streams⟩

theorem not_running_ended (s : State) (status done result : Nat) :
    ∀ x ∈ (ended s e d status done result).flash.priv, x.st ≠ .running := by
  obtain ⟨o, heq⟩ := exists_ended_eq s e d status done result
  rw [heq]
  intro x hx
  obtain rfl : x = { e with st := .finished (d.completion status done result) } := by simpa using hx
  exact nofun

/-- The last descriptor's program or erase ends it, and nothing follows. -/
theorem endHere_of_idle (h : FlashIdle s) (hpriv : s.flash.priv = [e]) (hseq : e.seq = d.seq)
    (hop : e.opcode = 2 ∨ e.opcode = 3) (status : Nat) :
    endHere s .priv d status bank = ended s e d status d.done d.done := by
  rw [endHere, servePending_of_idle h (by simp [hpriv, hop]), finishDesc_of_single hpriv hseq h.changes]
  change retryPrograms (claimBank (ended s e d status d.done d.done) bank) = _
  rw [claimBank_of_idle (flashIdle_ended h _ _ _) bank (not_running_ended s _ _ _),
    retryPrograms_of_idle (flashIdle_ended h _ _ _) (not_running_ended s _ _ _)]

/-- The last descriptor's program or erase has come to its length. -/
theorem goOn_of_idle (h : FlashIdle s) (hpriv : s.flash.priv = [d]) (hop : d.opcode = 2 ∨ d.opcode = 3)
    (hdone : d.length ≤ d.done) : goOn s .priv d bank = ended s d d 0 d.length 0 := by
  rw [goOn, servePending_of_idle h (by simp [hpriv, hop])]
  simp only [if_pos hdone]
  rw [finishDesc_of_single hpriv rfl h.changes]
  change retryPrograms (claimBank (ended s d d 0 d.length 0) bank) = _
  rw [claimBank_of_idle (flashIdle_ended h _ _ _) bank (not_running_ended s _ _ _),
    retryPrograms_of_idle (flashIdle_ended h _ _ _) (not_running_ended s _ _ _)]

end Ends

/-! ### The last pulse of a program and the last sector of an erase (R121, R126, R130) -/

section Banks

variable {bank : Fin 64} {d : FlashDesc} {op : BankOp} {s : State}

theorem aget_single {β : Type} (k : Nat) (v : β) : aget [(k, v)] k = some v := by simp [aget]

theorem adel_single {β : Type} (k : Nat) (v : β) : adel [(k, v)] k = [] := by simp [adel]

/-- The state whose banks are all free. -/
def freed (s : State) : State := s.setFlash { s.flash with banks := [] }

theorem flashIdle_freed (h : FlashIdle s) : FlashIdle (freed s) :=
  ⟨h.helm, h.waiting, h.changes, h.advances, h.table, h.stalled, h.streams⟩

/-- A part's memory and draws do not matter to what waits for the flash. -/
theorem FlashIdle.setMem (h : FlashIdle s) (m : Mem) (k : Nat) : FlashIdle { s with mem := m, draws := k } :=
  ⟨h.helm, h.waiting, h.changes, h.advances, h.table, h.stalled, h.streams⟩

theorem flashIdle_holdsOne (h : FlashIdle s) (d : FlashDesc) : FlashIdle (holdsOne s d) :=
  ⟨h.helm, h.waiting, h.changes, h.advances, h.table, h.stalled, h.streams⟩

/-- The memory after a pulse that verified. -/
def pulsed (m : Mem) (d : FlashDesc) : Mem :=
  clearMarks (m.setBytes (flashBase + d.offset + d.done) (slice d.source d.done d.pulse)) (flashBase + d.offset + d.done)
    d.pulse

theorem exec_programPulseDone_of_single (hbanks : s.flash.banks = [(bank.val, op)]) (hqueue : op.queue = .priv)
    (hseq : op.seq = d.seq) (hprogram : op.erase = false) (hpriv : s.flash.priv = [d]) (verified : Bool) :
    exec (.programPulseDone bank verified) s = .next (if verified then
        match readBack s d with
        | some off => endHere (failWords ((freed s).setMem (pulsed s.mem d)).draw (flashBase + d.offset + d.done + off) 16) .priv
            { d with done := d.done + off } 7 bank.val
        | none => goOn (holdsOne ((freed s).setMem (pulsed s.mem d)).draw { d with done := d.done + d.pulse }) .priv
            { d with done := d.done + d.pulse } bank.val
      else endHere (failWords (freed s) (flashBase + d.offset + d.done) d.pulse) .priv d 5 bank.val) := by
  have hfree : s.setFlash { s.flash with banks := adel s.flash.banks bank.val } = freed s := by
    rw [hbanks, adel_single]
    rfl
  have hdesc : descOf s .priv d.seq = some d := descOf_of_single hpriv
  have hback : readBack ((freed s).setMem (pulsed s.mem d)) d = readBack s d := rfl
  have hset : setDesc ((freed s).setMem (pulsed s.mem d)).draw .priv d.seq (fun _ => { d with done := d.done + d.pulse })
      = holdsOne ((freed s).setMem (pulsed s.mem d)).draw { d with done := d.done + d.pulse } :=
    setDesc_of_single (s := ((freed s).setMem (pulsed s.mem d)).draw) hpriv rfl _
  have haget : aget s.flash.banks bank.val = some op := by rw [hbanks, aget_single]
  cases verified with
  | false =>
    simp only [exec, execProgramPulseDone, haget, hprogram, hqueue, hseq, hdesc, hfree]
    rfl
  | true =>
    rw [if_pos rfl]
    cases hread : readBack s d with
    | none =>
      rw [hread] at hback
      simp only [exec, execProgramPulseDone, haget, hprogram, hqueue, hseq, hdesc, hfree]
      change (match readBack ((freed s).setMem (pulsed s.mem d)) d with | some off => _ | none => _) = _
      rw [hback, ← hset]
      rfl
    | some off =>
      rw [hread] at hback
      simp only [exec, execProgramPulseDone, haget, hprogram, hqueue, hseq, hdesc, hfree]
      change (match readBack ((freed s).setMem (pulsed s.mem d)) d with | some off => _ | none => _) = _
      rw [hback]
      rfl

/-- A pulse that verified has written its bytes, and no other byte changed. -/
theorem byte_pulsed {m : Mem} (h : m.wf = true) (hlength : d.done + d.pulse = d.length)
    (hsource : d.source.length = d.length) :
    (pulsed m d).bytes (flashBase + d.offset + d.done) d.pulse = slice d.source d.done d.pulse ∧
      ∀ a, ¬(flashBase + d.offset + d.done ≤ a ∧ a < flashBase + d.offset + d.done + d.pulse) →
        (pulsed m d).byte a = m.byte a := by
  have hslice : (slice d.source d.done d.pulse).length = d.pulse := by simp [slice]; omega
  refine ⟨?_, fun a ha => ?_⟩
  · have hbytes := bytes_setBytes h (flashBase + d.offset + d.done) (slice d.source d.done d.pulse)
    rw [hslice] at hbytes
    rw [← hbytes]
    exact List.map_congr_left fun i _ => byte_clearMarks _ _ _ _
  · rw [pulsed, byte_clearMarks, byte_setBytes_of_outside h (by rw [hslice]; exact ha)]

/-- The word that is read back different lies in the pulse. -/
theorem readBack_lt {off : Nat} (h : readBack s d = some off) : off + 16 ≤ d.pulse := by
  unfold readBack at h
  split at h
  · obtain ⟨i, hi, rfl⟩ := Option.map_eq_some_iff.1 h
    have := List.mem_range.1 (List.mem_of_find?_eq_some hi)
    omega
  · cases h

theorem readBack_of_no_flag (h : bitOf d.flags 2 = false) : readBack s d = none := by simp [readBack, h]

section Pulse

variable (hidle : FlashIdle s) (hpriv : s.flash.priv = [d]) (hmem : s.mem.wf = true)
  (hbanks : s.flash.banks = [(bank.val, op)]) (hqueue : op.queue = .priv) (hseq : op.seq = d.seq)

include hidle hpriv hmem hbanks hqueue hseq

theorem programPulseDone_of_different {off : Nat} (hprogram : op.erase = false) (hop : d.opcode = 2)
    (hlength : d.done + d.pulse = d.length) (hsource : d.source.length = d.length) (hback : readBack s d = some off) :
    ∃ t, exec (.programPulseDone bank true) s = .next t ∧ t.flash.banks = [] ∧
      t.flash.priv = [{ d with
        st := .finished (FlashDesc.completion { d with done := d.done + off } 7 (d.done + off) (d.done + off)) }] ∧
      (∀ a, ¬(flashBase + d.offset + d.done ≤ a ∧ a < flashBase + d.offset + d.done + d.pulse) →
        t.mem.byte a = s.mem.byte a) := by
  obtain ⟨-, houtside⟩ := byte_pulsed hmem hlength hsource
  have hwf : (pulsed s.mem d).wf = true := clearMarks_wf (Mem.setBytes_wf _ _ _ hmem) _ _
  have hoff := readBack_lt hback
  have hend := endHere_of_idle (bank := bank.val) (d := { d with done := d.done + off }) (e := d)
    (s := failWords ((freed s).setMem (pulsed s.mem d)).draw (flashBase + d.offset + d.done + off) 16)
    (((flashIdle_freed hidle).setMem _ _).setMem _ _) hpriv rfl (Or.inl hop) 7
  obtain ⟨o, heq⟩ := exists_ended_eq
    (failWords ((freed s).setMem (pulsed s.mem d)).draw (flashBase + d.offset + d.done + off) 16) d
    { d with done := d.done + off } 7 (d.done + off) (d.done + off)
  refine ⟨_, exec_programPulseDone_of_single hbanks hqueue hseq hprogram hpriv true, ?_⟩
  simp only [if_true, hback]
  rw [hend, heq]
  refine ⟨rfl, rfl, fun a ha => ?_⟩
  refine (byte_failWords (s := ((freed s).setMem (pulsed s.mem d)).draw) hwf ?_).trans (houtside a ha)
  omega

theorem programPulseDone_of_same (hprogram : op.erase = false) (hop : d.opcode = 2)
    (hlength : d.done + d.pulse = d.length) (hsource : d.source.length = d.length) (hback : readBack s d = none) :
    ∃ t, exec (.programPulseDone bank true) s = .next t ∧ t.flash.banks = [] ∧
      (t.flash.priv = [{ d with
          done := d.length, st := .finished ({ d with done := d.length }.completion 0 d.length 0) }] ∧
        t.mem.bytes (flashBase + d.offset + d.done) d.pulse = slice d.source d.done d.pulse) ∧
      (∀ a, ¬(flashBase + d.offset + d.done ≤ a ∧ a < flashBase + d.offset + d.done + d.pulse) →
        t.mem.byte a = s.mem.byte a) := by
  obtain ⟨hbytes, houtside⟩ := byte_pulsed hmem hlength hsource
  have hgo := goOn_of_idle (bank := bank.val) (d := { d with done := d.length })
    (s := holdsOne ((freed s).setMem (pulsed s.mem d)).draw { d with done := d.length })
    (flashIdle_holdsOne ((flashIdle_freed hidle).setMem _ _) _) rfl (Or.inl hop) le_rfl
  obtain ⟨o, heq⟩ := exists_ended_eq (holdsOne ((freed s).setMem (pulsed s.mem d)).draw { d with done := d.length })
    { d with done := d.length } { d with done := d.length } 0 d.length 0
  refine ⟨_, exec_programPulseDone_of_single hbanks hqueue hseq hprogram hpriv true, ?_⟩
  simp only [if_true, hback, hlength]
  rw [hgo, heq]
  exact ⟨rfl, ⟨rfl, hbytes⟩, houtside⟩

theorem programPulseDone_of_unverified (hprogram : op.erase = false) (hop : d.opcode = 2) :
    ∃ t, exec (.programPulseDone bank false) s = .next t ∧ t.flash.banks = [] ∧
      t.flash.priv = [{ d with st := .finished (d.completion 5 d.done d.done) }] ∧
      t.count 0x2240 5 = (s.count 0x2240 5 + 1) % 2 ^ 32 ∧
      (∀ a, ¬(flashBase + d.offset + d.done ≤ a ∧ a < flashBase + d.offset + d.done + d.pulse) →
        t.mem.byte a = s.mem.byte a) := by
  have hend := endHere_of_idle (bank := bank.val) (d := d) (e := d)
    (s := failWords (freed s) (flashBase + d.offset + d.done) d.pulse) ((flashIdle_freed hidle).setMem _ _) hpriv rfl
    (Or.inl hop) 5
  refine ⟨_, exec_programPulseDone_of_single hbanks hqueue hseq hprogram hpriv false, ?_⟩
  rw [if_neg Bool.false_ne_true, hend]
  refine ⟨rfl, rfl, agetD_aset_self _ _ _ _, fun a ha => byte_failWords (s := freed s) hmem ha⟩

end Pulse

/-- A descriptor of which one more sector has been erased. -/
def sectorErased (u : State) (d : FlashDesc) (sector : Nat) : FlashDesc :=
  { d with done := d.done + 4096, worn := d.worn || decide (20000 < agetD u.flash.wear sector 0) }

/-- The state whose bank could not erase a sector. -/
def sectorFailed (s : State) (sector : Nat) : State :=
  (freed s).setFlash { (freed s).flash with
    indeterminate := if s.flash.indeterminate.contains sector then s.flash.indeterminate
      else s.flash.indeterminate ++ [sector] }

section Erase

variable (hpriv : s.flash.priv = [d]) (hbanks : s.flash.banks = [(bank.val, op)]) (hqueue : op.queue = .priv)
  (hseq : op.seq = d.seq) (herase : op.erase = true) (hgoing : op.suspended = false)

include hpriv hbanks hqueue hseq herase hgoing

theorem exec_eraseDone_true : exec (.eraseDone bank true) s = .next
    (goOn (holdsOne (eraseSector (freed s) op.sector) (sectorErased (eraseSector (freed s) op.sector) d op.sector)) .priv
      (sectorErased (eraseSector (freed s) op.sector) d op.sector) bank.val) := by
  have hfree : s.setFlash { s.flash with banks := adel s.flash.banks bank.val } = freed s := by
    rw [hbanks, adel_single]
    rfl
  have hdesc : descOf s .priv d.seq = some d := descOf_of_single hpriv
  have haget : aget s.flash.banks bank.val = some op := by rw [hbanks, aget_single]
  have hset := setDesc_of_single (s := eraseSector (freed s) op.sector) (d := d) hpriv rfl fun _ =>
    sectorErased (eraseSector (freed s) op.sector) d op.sector
  simp only [exec, execEraseDone, haget, herase, hgoing, hqueue, hseq, hdesc, hfree]
  rw [← hset]
  simp only [sectorErased, if_true, Bool.not_true, Bool.or_self, Bool.false_eq_true, if_false]

theorem exec_eraseDone_false : exec (.eraseDone bank false) s = .next (endHere (sectorFailed s op.sector) .priv d 6 bank.val) := by
  have hfree : s.setFlash { s.flash with banks := adel s.flash.banks bank.val } = freed s := by
    rw [hbanks, adel_single]
    rfl
  have hdesc : descOf s .priv d.seq = some d := descOf_of_single hpriv
  have haget : aget s.flash.banks bank.val = some op := by rw [hbanks, aget_single]
  simp only [exec, execEraseDone, haget, herase, hgoing, hqueue, hseq, hdesc, hfree, Bool.not_true, Bool.or_self,
    Bool.false_eq_true, if_false]
  rfl

omit hpriv hbanks hqueue hseq herase hgoing in
/-- Blank flash outside the firmware's sectors is erased. -/
theorem blankByte_of_flash {a : Nat} (hlo : firmwareEnd ≤ a) (hhi : a < flashEnd) : blankByte a = 0xFF := by
  have hbase : flashBase ≤ a := (Nat.le_add_right _ _).trans hlo
  rw [blankByte, if_pos ⟨hbase, hhi⟩, if_neg (Nat.not_lt.2 hlo)]

omit hpriv hbanks hqueue hseq herase hgoing in
/-- An erased sector reads all ones, every other byte stays. -/
theorem byte_eraseSector {u : State} (h : u.mem.wf = true) {sector : Nat} (hsector : sector < 2 ^ 21) (a : Nat) :
    (eraseSector u sector).mem.byte a
      = if flashBase + sector * 4096 ≤ a ∧ a < flashBase + sector * 4096 + 4096 then 0xFF else u.mem.byte a := by
  simp only [eraseSector, State.setFlash_mem, State.setMem_mem]
  by_cases hfirmware : sector < 1536
  · rw [if_pos hfirmware, Mem.byte_setBytes _ _ _ _ (Mem.clear_wf _ _ _ h), List.length_replicate, byte_clear]
    by_cases ha : flashBase + sector * 4096 ≤ a ∧ a < flashBase + sector * 4096 + 4096
    · rw [if_pos ha, if_pos ha]
      exact List.getD_replicate _ (by omega)
    · rw [if_neg ha, if_neg ha, if_neg ha]
  · rw [if_neg hfirmware, byte_clear]
    by_cases ha : flashBase + sector * 4096 ≤ a ∧ a < flashBase + sector * 4096 + 4096
    · have hlo : flashBase + 0x60_0000 ≤ a := by omega
      have hhi : a < flashBase + 0x2_0000_0000 := by omega
      rw [if_pos ha, if_pos ha]
      exact blankByte_of_flash hlo hhi
    · rw [if_neg ha, if_neg ha]

variable (hidle : FlashIdle s) (hop : d.opcode = 3)

include hidle hop

theorem eraseDone_of_completed (hmem : s.mem.wf = true) (hsector : op.sector < 2 ^ 21) (hlength : d.done + 4096 = d.length) :
    ∃ t, exec (.eraseDone bank true) s = .next t ∧ t.flash.banks = [] ∧
      (∀ a, flashBase + op.sector * 4096 ≤ a → a < flashBase + op.sector * 4096 + 4096 → t.mem.byte a = 0xFF) ∧
      (∀ a, ¬(flashBase + op.sector * 4096 ≤ a ∧ a < flashBase + op.sector * 4096 + 4096) →
        t.mem.byte a = s.mem.byte a) ∧
      agetD t.flash.wear op.sector 0 = min (agetD s.flash.wear op.sector 0 + 1) 0xFFFF_FFFF ∧
      op.sector ∉ t.flash.indeterminate := by
  have herased : FlashIdle (eraseSector (freed s) op.sector) :=
    ⟨hidle.helm, hidle.waiting, hidle.changes, hidle.advances, hidle.table, hidle.stalled, hidle.streams⟩
  have hgo := goOn_of_idle (bank := bank.val)
    (flashIdle_holdsOne herased (sectorErased (eraseSector (freed s) op.sector) d op.sector)) rfl (Or.inr hop) hlength.ge
  refine ⟨_, exec_eraseDone_true hpriv hbanks hqueue hseq herase hgoing, ?_⟩
  obtain ⟨o, heq⟩ := exists_ended_eq
    (holdsOne (eraseSector (freed s) op.sector) (sectorErased (eraseSector (freed s) op.sector) d op.sector))
    (sectorErased (eraseSector (freed s) op.sector) d op.sector)
    (sectorErased (eraseSector (freed s) op.sector) d op.sector) 0
    (sectorErased (eraseSector (freed s) op.sector) d op.sector).length 0
  rw [hgo, heq]
  have hbyte := byte_eraseSector (u := freed s) hmem hsector
  refine ⟨rfl, fun a hlo hhi => (hbyte a).trans (if_pos ⟨hlo, hhi⟩), fun a ha => (hbyte a).trans (if_neg ha),
    agetD_aset_self _ _ _ _, ?_⟩
  change op.sector ∉ s.flash.indeterminate.filter fun x => !decide (x = op.sector)
  simp

theorem eraseDone_of_failed :
    ∃ t, exec (.eraseDone bank false) s = .next t ∧ t.flash.banks = [] ∧ op.sector ∈ t.flash.indeterminate ∧
      t.flash.priv = [{ d with st := .finished (d.completion 6 d.done d.done) }] ∧ t.mem = s.mem ∧
      t.count 0x2240 6 = (s.count 0x2240 6 + 1) % 2 ^ 32 := by
  have hfailed : FlashIdle (sectorFailed s op.sector) :=
    ⟨hidle.helm, hidle.waiting, hidle.changes, hidle.advances, hidle.table, hidle.stalled, hidle.streams⟩
  refine ⟨_, exec_eraseDone_false hpriv hbanks hqueue hseq herase hgoing, ?_⟩
  rw [endHere_of_idle hfailed hpriv rfl (Or.inr hop)]
  refine ⟨rfl, ?_, rfl, rfl, agetD_aset_self _ _ _ _⟩
  change op.sector ∈ if s.flash.indeterminate.contains op.sector then s.flash.indeterminate
    else s.flash.indeterminate ++ [op.sector]
  split
  next h => exact List.contains_iff_mem.1 h
  next => simp

end Erase


end Banks

theorem pulsesAndErases : PulsesAndErases := by
  intro bank d op s honly hmem hbanks hqueue hseq
  have hidle := flashIdle_of_onlyRuns honly
  have hpriv : s.flash.priv = [d] := honly.2.1
  refine ⟨fun hprogram hop hlength hsource => ⟨readBack_of_no_flag, ?_,
    programPulseDone_of_unverified hidle hpriv hmem hbanks hqueue hseq hprogram hop⟩,
    fun herase hop hgoing hsector hlength =>
      ⟨eraseDone_of_completed hpriv hbanks hqueue hseq herase hgoing hidle hop hmem hsector hlength,
        eraseDone_of_failed hpriv hbanks hqueue hseq herase hgoing hidle hop⟩⟩
  cases hback : readBack s d with
  | none => exact programPulseDone_of_same hidle hpriv hmem hbanks hqueue hseq hprogram hop hlength hsource hback
  | some off => exact programPulseDone_of_different hidle hpriv hmem hbanks hqueue hseq hprogram hop hlength hsource hback

/-! ### Resumed erases and completions (R112, R124) -/

/-- With nothing in the backlog no descriptor of the install flow takes a place. -/
theorem admitBacklog_of_nil {s : State} (h : s.flash.backlog = []) : admitBacklog s = s := by
  simp only [admitBacklog, h, List.take_nil, List.drop_nil, List.append_nil]
  exact congrArg (fun w => s.setFlash { s.flash with backlog := w }) h.symm

theorem erasesResumeAndCompletionsPost : ErasesResumeAndCompletionsPost := by
  intro s
  refine ⟨fun bank => rfl, fun d r c hjob hpriv hst howner hflag hbacklog => ?_⟩
  have hinstall : ∀ u : State, u.images.job = none → advanceInstall u = u := by
    intro u hu
    simp only [advanceInstall, hu]
  refine ⟨fun hroom => ?_, fun hfull => ?_⟩
  · have hadmit : admitBacklog (s.setFlash { s.flash with priv := r, unread := s.flash.unread ++ [c] })
        = s.setFlash { s.flash with priv := r, unread := s.flash.unread ++ [c] } := admitBacklog_of_nil hbacklog
    have hpost : postOldest s = s.setFlash { s.flash with priv := r, unread := s.flash.unread ++ [c] } := by
      simp only [postOldest, hpriv, hst, howner, if_pos hroom, hadmit, hflag]
      rfl
    simp only [exec, execCompletionPost, hpost]
    exact congrArg Host.Outcome.next (hinstall _ hjob)
  · have hpost : postOldest s = s := by
      simp only [postOldest, hpriv, hst, howner, if_neg (Nat.not_lt.2 hfull)]
    simp only [exec, execCompletionPost, hpost]
    rw [hinstall _ hjob]

/-- Settles O50: by its two parts. -/
theorem flashBankEvents : Obligations.FlashBankEvents := ⟨pulsesAndErases, erasesResumeAndCompletionsPost⟩

end Sys2Proof.Machine
end

section
/-! SUPPORT and PROOFS. Accesses of one line of memory by the masters, the patrol scrubber, and host reads that time out
(R13, R14, R134, R136, R137, R150). -/

namespace Sys2Proof.Machine

open Sys2Proof.Claims

/-! ### One line, cut once -/

theorem cuts_zero (unit fuel a : Nat) : cuts unit fuel a 0 = [] := by
  cases fuel <;> rfl

/-- A range that does not cross a multiple of the unit is one piece. -/
theorem cuts_single {unit fuel a n : Nat} (hn : 0 < n) (hfit : a % unit + n ≤ unit) : cuts unit (fuel + 1) a n = [(a, n)] := by
  obtain ⟨n, rfl⟩ : ∃ m, n = m + 1 := ⟨n - 1, by omega⟩
  have hmin : min (n + 1) (unit - a % unit) = n + 1 := by omega
  simp only [cuts, hmin, Nat.sub_self, cuts_zero]

theorem linesOf_single {a n : Nat} (hn : 0 < n) (hfit : a % 256 + n ≤ 256) : linesOf a n = [(a, n)] :=
  cuts_single hn hfit

theorem memRead_single {q : Query} {s : State} {a n : Nat} (hn : 0 < n) (hfit : a % 256 + n ≤ 256) :
    memRead q s a n = readLine q s a n := by
  simp only [memRead, linesOf_single hn hfit, List.foldl_cons, List.foldl_nil, List.nil_append]
  rfl

/-- No piece is longer than the range. -/
theorem cuts_length_le {unit : Nat} {p : Nat × Nat} :
    ∀ {fuel a n : Nat}, p ∈ cuts unit fuel a n → p.2 ≤ n
  | 0, _, _, h => absurd h (List.not_mem_nil)
  | fuel + 1, a, 0, h => absurd (cuts_zero unit (fuel + 1) a ▸ h) (List.not_mem_nil)
  | fuel + 1, a, n + 1, h => by
    obtain rfl | h := List.mem_cons.1 h
    · exact Nat.min_le_left _ _
    · exact (cuts_length_le h).trans (Nat.sub_le _ _)

/-- A write that stays in one line writes no whole 4096-byte block. -/
theorem clearFullBlocks_of_line {s : State} {a : Nat} {octs : List Octet} (h : octs.length ≤ 256) :
    clearFullBlocks s a octs = s := by
  refine foldl_fixed_of_mem fun p hp => if_neg fun hfull => ?_
  have hle := cuts_length_le hp
  omega

theorem memWrite_single {q : Query} {s : State} {a : Nat} {octs : List Octet} (hn : 0 < octs.length)
    (hfit : a % 256 + octs.length ≤ 256) : memWrite q s a octs = writeLine q s a octs := by
  have hfull : ∀ u, clearFullBlocks u a octs = u := fun u => clearFullBlocks_of_line (by omega)
  simp only [memWrite, linesOf_single hn hfit, List.foldl_cons, List.foldl_nil, Nat.sub_self, List.drop_zero,
    List.take_length, hfull, Note.first]
  obtain ⟨t, note⟩ := writeLine q s a octs
  cases note <;> rfl

/-! ### Words without an error mark (R133) -/

theorem mem_of_sget {β : Type} {k : Nat} {v : β} : ∀ {l : List (Nat × β)}, sget l k = some v → (k, v) ∈ l
  | (k', v') :: l, h => by
    rw [sget] at h
    split at h
    next hk => rw [hk, ← Option.some.inj h]; exact List.mem_cons_self
    next => exact List.mem_cons_of_mem _ (mem_of_sget h)

/-- Where no mark touches a range, no word of it has one. -/
theorem mark_of_marksIn_nil {m : Mem} {a n w : Nat} (h : marksIn m 8 a n = []) (hlo : w < a + n) (hhi : a < w + 8) :
    m.mark w = none := by
  cases hw : m.mark w with
  | none => rfl
  | some v =>
    have hin : (w, v) ∈ marksIn m 8 a n :=
      List.mem_filter.2 ⟨mem_of_sget hw, by simp only [overlaps, Bool.and_eq_true, decide_eq_true_eq]; exact ⟨hlo, hhi⟩⟩
    rw [h] at hin
    exact absurd hin List.not_mem_nil

/-- Good bytes written to a word without an error mark. -/
theorem writeHoldWord_of_unmarked {master : Nat} {s : State} {a : Nat} {octs : List Octet}
    (hgood : ∀ o ∈ octs, o.bad = false) (hmark : s.mem.mark (a / 8 * 8) = none) :
    writeHoldWord master s a octs = s.setMem ((s.mem.setBytes a (vals octs)).setMark (a / 8 * 8) none) := by
  have hbad : octs.any (·.bad) = false := List.any_eq_false.2 fun o ho => by simp [hgood o ho]
  simp only [writeHoldWord, hbad, hmark, Bool.false_eq_true, if_false, ite_self]
  rfl

/-- Memory `m` is memory `u` with the bytes `bs` at `a`, those before place `i` excepted. -/
def HoldsFrom (m u : Mem) (a i : Nat) (bs : Bytes) : Prop :=
  m.wf = true ∧ ∀ x, m.byte x = if a + i ≤ x ∧ x < a + bs.length then bs.getD (x - a) 0 else u.byte x

/-- The words of a range without error marks take the good bytes written to it. -/
theorem exists_writeHoldWords_eq (master a : Nat) {octs : List Octet} (hgood : ∀ o ∈ octs, o.bad = false) :
    ∀ (fuel i : Nat) (s : State), s.mem.wf = true → i ≤ octs.length →
      (∀ w, w < a + octs.length → a + i < w + 8 → s.mem.mark w = none) →
      (i < octs.length → (a + i) % 8 + (octs.length - i) ≤ 8 * fuel) →
      ∃ m, (cuts 8 fuel (a + i) (octs.length - i)).foldl
          (fun s p => writeHoldWord master s p.1 ((octs.drop (p.1 - a)).take p.2)) s = s.setMem m ∧
        HoldsFrom m s.mem a i (vals octs)
  | 0, i, s, hwf, hi, _, hfuel => by
    refine ⟨s.mem, rfl, hwf, fun x => (if_neg ?_).symm⟩
    simp only [vals, List.length_map]
    omega
  | fuel + 1, i, s, hwf, hi, hmark, hfuel => by
    have hlength : (vals octs).length = octs.length := List.length_map _
    by_cases hend : i = octs.length
    · refine ⟨s.mem, ?_, hwf, fun x => (if_neg ?_).symm⟩
      · rw [hend, Nat.sub_self, cuts_zero]; rfl
      · rw [hlength]; omega
    obtain ⟨n, hn⟩ : ∃ n, octs.length - i = n + 1 := ⟨octs.length - i - 1, by omega⟩
    generalize hk : min (n + 1) (8 - (a + i) % 8) = k
    have hkn : k ≤ n + 1 := hk ▸ Nat.min_le_left _ _
    have hpos : 0 < k := by omega
    have hrest : n + 1 - k = octs.length - (i + k) := by omega
    have hgoodPiece : ∀ o ∈ (octs.drop i).take k, o.bad = false := fun o ho =>
      hgood o (List.mem_of_mem_drop (List.mem_of_mem_take ho))
    have hword := writeHoldWord_of_unmarked (master := master) (s := s) (a := a + i) hgoodPiece
      (hmark _ (by omega) (by omega))
    generalize hm : (s.mem.setBytes (a + i) (vals ((octs.drop i).take k))).setMark ((a + i) / 8 * 8) none = m at hword
    have hwf' : m.wf = true := hm ▸ Mem.setMark_wf _ _ _ (Mem.setBytes_wf _ _ _ hwf)
    have hmark' : ∀ w, w < a + octs.length → a + (i + k) < w + 8 → (s.setMem m).mem.mark w = none := by
      intro w hlo hhi
      rw [State.setMem_mem, ← hm, Mem.mark_setMark _ _ _ _ (Mem.setBytes_wf _ _ _ hwf), Mem.mark_setBytes,
        hmark w hlo (by omega), ite_self]
    obtain ⟨m', hfold, hm'wf, hm'⟩ := exists_writeHoldWords_eq master a hgood fuel (i + k) (s.setMem m) hwf' (by omega)
      hmark' (by omega)
    refine ⟨m', ?_, hm'wf, fun x => ?_⟩
    · simp only [hn, cuts, hk, List.foldl_cons, Nat.add_sub_cancel_left, hword]
      rw [hrest, Nat.add_assoc, hfold]
      rfl
    · have hpiece : (vals ((octs.drop i).take k)).length = k := by simp [vals]; omega
      rw [hm' x, State.setMem_mem, ← hm, Mem.byte_setMark, Mem.byte_setBytes _ _ _ _ hwf, hpiece, hlength]
      by_cases hlate : a + (i + k) ≤ x ∧ x < a + octs.length
      · rw [if_pos hlate, if_pos ⟨by omega, hlate.2⟩]
      by_cases hhere : a + i ≤ x ∧ x < a + i + k
      · rw [if_neg hlate, if_pos hhere, if_pos ⟨hhere.1, by omega⟩]
        have hlt : x - (a + i) < k := by omega
        simp only [vals, List.getD_eq_getElem?_getD, List.getElem?_map, List.getElem?_take, List.getElem?_drop, if_pos hlt]
        rw [show i + (x - (a + i)) = x - a by omega]
      · rw [if_neg hlate, if_neg hhere, if_neg (by omega)]

/-- A write of good bytes to a range of the hold that no mark touches. -/
theorem exists_writeHold_eq {q : Query} {s : State} {a : Nat} {octs : List Octet} (harea : areaOf a ≠ .secure)
    (hgood : ∀ o ∈ octs, o.bad = false) (hwf : s.mem.wf = true) (hmarks : marksIn s.mem 8 a octs.length = []) :
    ∃ m, writeHold q s a octs = s.setMem m ∧ HoldsFrom m s.mem a 0 (vals octs) := by
  obtain ⟨m, hfold, hm⟩ := exists_writeHoldWords_eq q.master a hgood (octs.length / 8 + 2) 0 s hwf (Nat.zero_le _)
    (fun w hlo hhi => mark_of_marksIn_nil hmarks hlo hhi) (by omega)
  exact ⟨m, (if_neg fun h => harea h.1).trans hfold, hm⟩

/-- The bytes written are those read back. -/
theorem bytes_of_holdsFrom {m u : Mem} {a : Nat} {bs : Bytes} (h : HoldsFrom m u a 0 bs) : m.bytes a bs.length = bs := by
  refine List.ext_getElem (by simp [Mem.bytes]) fun i hi hi' => ?_
  simp only [Mem.bytes, List.getElem_map, List.getElem_range]
  rw [h.2, if_pos ⟨by omega, by omega⟩, Nat.add_sub_cancel_left]
  simp [List.getD, hi']

/-- Bytes that no mark touches are read as they are. -/
theorem octetsAt_of_marksIn_nil {m : Mem} {a n : Nat} (hgeneral : a + n ≤ generalEnd) (hmarks : marksIn m 8 a n = []) :
    octetsAt m a n = (m.bytes a n).map fun b => ⟨b, false⟩ := by
  simp only [octetsAt, Mem.bytes, List.map_map]
  refine List.map_congr_left fun i hi => ?_
  have hi : i < n := List.mem_range.1 hi
  have harea : areaOf (a + i) = .general := if_pos (by omega)
  have hbad : m.badAt (a + i) = false := by
    simp only [Mem.badAt, wordOf, harea, mark_of_marksIn_nil hmarks (w := (a + i) / 8 * 8) (by omega) (by omega)]
  rw [hbad]
  rfl

/-! ### Reads and writes by the masters -/

section Access

variable {s : State} {a : Access}

theorem exec_memoryAccess_read (hserves : s.serves = true) (hkind : a.kind ≠ .write) :
    exec (.memoryAccess a) s = .next (accessRead a s) := by
  simp only [exec, execMemoryAccess, hserves]
  cases h : a.kind with
  | write => exact absurd h hkind
  | _ => rfl

theorem exec_memoryAccess_write (hserves : s.serves = true) (hkind : a.kind = .write) :
    exec (.memoryAccess a) s = .next (accessWrite a s) := by
  simp only [exec, execMemoryAccess, hserves, hkind]
  rfl

/-- Nothing is damaged by a read that met no bad byte. -/
theorem damageRead_of_good {at' : Nat} {bs : Bytes} : damageRead at' (bs.map fun b => ⟨b, false⟩) s = s := by
  have hnil : ((bs.map fun b => (⟨b, false⟩ : Octet)).zipIdx.filterMap fun p =>
      if p.1.bad then committedAt s (at' + p.2) else none) = [] := by
    refine List.filterMap_eq_nil_iff.2 fun p hp => if_neg ?_
    obtain ⟨b, -, hb⟩ := List.mem_map.1 (List.fst_mem_of_mem_zipIdx hp)
    simp [← hb]
  rw [damageRead, hnil]
  rfl

variable (hn : 0 < a.len) (hfit : a.addr % 256 + a.len ≤ 256)

include hn hfit

theorem accessRead_of_plain (hgeneral : a.addr + a.len ≤ generalEnd)
    (hpermits : regionPermits s a.master.val (a.tenant.map (·.val)) a.kind a.addr = true)
    (hmarks : marksIn s.mem 8 a.addr a.len = []) :
    accessRead a s = s.emit (.access a ((s.mem.bytes a.addr a.len).map fun b => ⟨b, false⟩) .ok) := by
  have harea : areaOf a.addr = .general := if_pos (by omega)
  have hread : ∀ q : Query, readHold q s a.addr a.len = (s, octetsAt s.mem a.addr a.len) := by
    intro q
    rw [readHold, harea, if_neg (fun h => by cases h.1), hmarks]
    rfl
  simp only [accessRead, memRead_single hn hfit, readLine, mapped, harea, query, hpermits, Bool.not_true,
    Bool.false_eq_true, if_false, hread, octetsAt_of_marksIn_nil hgeneral hmarks, damageRead_of_good]

theorem accessRead_of_unmapped (hmapped : mapped s a.addr = false) :
    accessRead a s = (accessError 9 a.master.val a.addr s).emit (.access a (poison a.len) .unmapped) := by
  simp only [accessRead, memRead_single hn hfit, readLine, hmapped, Bool.not_false, if_true, query]

theorem accessRead_of_refused (hmapped : mapped s a.addr = true)
    (hrefused : regionPermits s a.master.val (a.tenant.map (·.val)) a.kind a.addr = false) :
    accessRead a s
      = (accessError 10 a.master.val a.addr (s.bump 0x2301 4)).emit (.access a (poison a.len) .refused) := by
  simp only [accessRead, memRead_single hn hfit, readLine, hmapped, hrefused, Bool.not_true, Bool.false_eq_true, if_false,
    Bool.not_false, if_true, query, refuseLine]

variable (hlength : a.data.length = a.len)

include hlength

theorem accessWrite_of_unmapped (hmapped : mapped s a.addr = false) :
    accessWrite a s = accessError 9 a.master.val a.addr s := by
  rw [← hlength] at hn hfit
  simp only [accessWrite, memWrite_single hn hfit, writeLine, hmapped, Bool.not_false, if_true, query]

theorem accessWrite_of_refused (hmapped : mapped s a.addr = true)
    (hrefused : regionPermits s a.master.val (a.tenant.map (·.val)) .write a.addr = false) :
    accessWrite a s = accessError 10 a.master.val a.addr (s.bump 0x2301 4) := by
  rw [← hlength] at hn hfit
  simp only [accessWrite, memWrite_single hn hfit, writeLine, hmapped, hrefused, Bool.not_true, Bool.false_eq_true, if_false,
    Bool.not_false, if_true, query, refuseLine]

theorem exists_accessWrite_eq (hgeneral : a.addr + a.len ≤ generalEnd)
    (hpermits : regionPermits s a.master.val (a.tenant.map (·.val)) .write a.addr = true)
    (hmarks : marksIn s.mem 8 a.addr a.len = []) (hmirror : mirrorOf s a.addr = none)
    (hgood : ∀ o ∈ a.data, o.bad = false) (hwf : s.mem.wf = true) :
    ∃ m, accessWrite a s = s.setMem m ∧ HoldsFrom m s.mem a.addr 0 (vals a.data) := by
  have harea : areaOf a.addr = .general := if_pos (by omega)
  rw [← hlength] at hn hfit hmarks
  obtain ⟨m, hm, hholds⟩ := exists_writeHold_eq
    (q := { query s a.master.val .write with tenant := a.tenant.map (·.val) }) (by rw [harea]; decide) hgood hwf hmarks
  have hsealed : s.isSealed a.addr = false := by
    have hlow : ¬ lpddrBase ≤ a.addr := by simp only [lpddrBase]; simp only [generalEnd] at hgeneral; omega
    simp [State.isSealed, hlow]
  refine ⟨m, ?_, hholds⟩
  simp only [query] at hm
  simp only [accessWrite, memWrite_single hn hfit, writeLine, mapped, harea, query, hpermits, Bool.not_true,
    Bool.false_eq_true, if_false, hsealed, Bool.not_false, Bool.true_or, if_true, storeBoth, hmirror, storeLine, hm]

end Access

theorem memoryAccesses : MemoryAccesses := by
  intro a s
  refine ⟨fun ⟨hserves, hn, hfit, hgeneral, hpermits, hmarks⟩ hkind => ?_,
    fun ⟨hserves, hn, hfit, hgeneral, hpermits, hmarks⟩ hkind hmirror hlength hgood hwf => ?_,
    fun hserves hn hfit => ⟨fun hmapped => ⟨fun hkind => ?_, fun hkind hlength => ?_⟩,
      fun hmapped hrefused => ⟨fun hkind => ?_, fun hkind hlength => ?_⟩⟩⟩
  · rw [exec_memoryAccess_read hserves hkind, accessRead_of_plain hn hfit hgeneral hpermits hmarks]
  · obtain ⟨m, heq, hholds⟩ := exists_accessWrite_eq hn hfit hlength hgeneral (hkind ▸ hpermits) hmarks hmirror hgood hwf
    have hbytes := bytes_of_holdsFrom hholds
    have hvals : (vals a.data).length = a.len := (List.length_map _).trans hlength
    rw [hvals] at hbytes
    refine ⟨_, exec_memoryAccess_write hserves hkind, ?_⟩
    rw [heq]
    refine ⟨hbytes, fun x hx => (hholds.2 x).trans (if_neg ?_), rfl, rfl, rfl⟩
    rw [hvals]
    exact hx
  · rw [exec_memoryAccess_read hserves hkind, accessRead_of_unmapped hn hfit hmapped]
  · rw [exec_memoryAccess_write hserves hkind, accessWrite_of_unmapped hn hfit hlength hmapped]
  · rw [exec_memoryAccess_read hserves hkind, accessRead_of_refused hn hfit hmapped hrefused]
  · rw [exec_memoryAccess_write hserves hkind, accessWrite_of_refused hn hfit hlength hmapped (hkind ▸ hrefused)]

/-! ### The scrubber and host reads -/

theorem scrubsAndHostTimeouts : ScrubsAndHostTimeouts := by
  intro a s
  refine ⟨fun hrunning hrate haddr => ?_, fun hserves m => ?_⟩
  · have hon : (s.running && !decide (s.val 0x2300 3 = 0) && decide (a < dualEnd)) = true := by
      simp [hrunning, hrate, haddr]
    refine ⟨fun h => ?_, fun h => ?_, fun h => ?_⟩ <;> simp only [exec, execScrubRead, hon, if_true, h]
  · simp only [exec, execHostReadTimeout, hserves, if_true]

/-- Settles O51: by its two parts. -/
theorem memoryReadsAndWrites : Obligations.MemoryReadsAndWrites := ⟨memoryAccesses, scrubsAndHostTimeouts⟩

end Sys2Proof.Machine
end

section
/-! SUPPORT and PROOFS. Flash regions, region entries of the masters, and tensor windows (R116 to R118, R138, R139,
R149). -/

namespace Sys2Proof.Machine

open Sys2Proof.Claims

@[simp] theorem firstFail_nil : firstFail [] = none := rfl

/-! ### Flash regions (R116, R117) -/

section Regions

variable {n : Fin 16} {val : Bytes} {s : State}

theorem regionState_of_change {m : Nat} {c : RegionChange} (h : aget s.flash.changes m = some c) : regionState s m ≠ 0 := by
  simp only [regionState, h]
  split <;> decide

theorem applyRegion_of_changing (hn : 3 ≤ n.val) {c : RegionChange} (h : aget s.flash.changes n.val = some c) :
    applyRegion n.val val s = .done abBusy s := by
  unfold applyRegion
  exact guarded_of_firstFail _ s (by simp [hn, regionState_of_change h])

theorem applyRegion_of_free (hn : 3 ≤ n.val) (hfree : aget s.flash.changes n.val = none)
    (horder : (regionOf (leNat val)).used = true → (regionOf (leNat val)).first ≤ (regionOf (leNat val)).last)
    (hapart : ∀ m < 16, m ≠ n.val →
      ((s.flash.regions[m]?).getD ⟨0, 0, .unused⟩).meets (regionOf (leNat val)) = false ∧
      ((newTable s)[m]?.getD ⟨0, 0, .unused⟩).meets (regionOf (leNat val)) = false)
    (hidle : ∀ r ∈ changedRuns ((s.flash.regions[n.val]?).getD ⟨0, 0, .unused⟩) (regionOf (leNat val)),
      tensorsInUse s r.1 r.2 = false) :
    applyRegion n.val val s = .done 0 (beginClearing (s.setFlash { s.flash with
      changes := aset s.flash.changes n.val ⟨regionOf (leNat val),
        removedRuns ((s.flash.regions[n.val]?).getD ⟨0, 0, .unused⟩) (regionOf (leNat val)), false,
        ((s.flash.helm ++ s.flash.priv).filter (fun d => decide (d.st = .running))).map (·.seq), []⟩ }) n.val) := by
  have hstate : regionState s n.val = 0 := by simp only [regionState, hfree]
  have hordered : (!(regionOf (leNat val)).used || decide ((regionOf (leNat val)).first ≤ (regionOf (leNat val)).last))
      = true := by
    cases hused : (regionOf (leNat val)).used with
    | false => rfl
    | true => simpa using horder hused
  have hothers : ((List.range 16).filter (fun m => !decide (m = n.val))).all (fun m =>
      !((s.flash.regions[m]?).getD ⟨0, 0, .unused⟩).meets (regionOf (leNat val))
        && !((newTable s)[m]?.getD ⟨0, 0, .unused⟩).meets (regionOf (leNat val))) = true := by
    refine List.all_eq_true.2 fun m hm => ?_
    obtain ⟨hlt, hne⟩ := List.mem_filter.1 hm
    obtain ⟨hold, hnew⟩ := hapart m (List.mem_range.1 hlt) (by simpa using hne)
    simp only [hold, hnew, Bool.not_false, Bool.and_self]
  have hunused : (changedRuns ((s.flash.regions[n.val]?).getD ⟨0, 0, .unused⟩) (regionOf (leNat val))).any
      (fun r => tensorsInUse s r.1 r.2) = false := List.any_eq_false.2 fun r hr => by simp [hidle r hr]
  unfold applyRegion
  exact guarded_of_passes _ s (by
    simp only [hn, hstate, hordered, hothers, hunused, decide_true, Bool.not_false, firstFail_cons_true, firstFail_nil])

end Regions

theorem regionChanges : RegionChanges := by
  intro ch n val s
  refine ⟨fun hn hfree horder hapart hidle =>
      accepted_of_done rfl rfl (applyRegion_of_free hn hfree horder hapart hidle),
    fun c hn hc => turnedDown_of_done rfl rfl (applyRegion_of_changing hn hc), fun c hc hdue hfree => ?_,
    fun c hc hnot => ?_⟩
  · simp only [exec, execRegionChangeEffect, hc, hdue, hfree, Bool.and_self, if_true]
  · have hnot : (changeDue s n.val c && s.systemFree) = false := Bool.and_eq_false_iff.2 hnot
    simp only [exec, execRegionChangeEffect, hc, hnot, Bool.false_eq_true, if_false]

/-! ### Region entries of the masters and tensor windows (R138, R139, R149) -/

theorem applyRegionBase_of_tenant {m e : Nat} {val : Bytes} {s : State}
    (h : tenantCode (bitsOf (baseMask (leNat val)) 50 44) = true) :
    applyRegionBase m e val s = .done 0 (s.setTiers { s.tiers with
      pendingBase := aset s.tiers.pendingBase (m * 16 + e) (baseMask (leNat val)) }) := by
  unfold applyRegionBase
  exact guarded_of_passes _ s (by simp only [h, firstFail_cons_true, firstFail_nil])

theorem applyRegionLimit_of_reached {m e : Nat} {val : Bytes} {s : State}
    (hle : bitsOf (baseFor s m e) 35 0 ≤ bitsOf (leNat val) 35 0)
    (hreach : bitOf (baseFor s m e) 63 = true →
      hostReach s (bitsOf (baseFor s m e) 35 0) (bitsOf (leNat val) 35 0) = true) :
    applyRegionLimit m e val s = .done 0
      (((s.setTiers { s.tiers with pendingBase := adel s.tiers.pendingBase (m * 16 + e) }).setVal
        (0x2310 + m) (2 * e + 1) (baseFor s m e)).setVal (0x2310 + m) (2 * e + 2) (bitsOf (leNat val) 35 0)) := by
  have hreached : (!bitOf (baseFor s m e) 63
      || hostReach s (bitsOf (baseFor s m e) 35 0) (bitsOf (leNat val) 35 0)) = true := by
    cases hbit : bitOf (baseFor s m e) 63 with
    | false => rfl
    | true => exact hreach hbit
  unfold applyRegionLimit
  exact guarded_of_passes _ s (by simp only [hle, hreached, decide_true, firstFail_cons_true, firstFail_nil])

theorem applyRegionLimit_of_reversed {m e : Nat} {val : Bytes} {s : State}
    (hlt : bitsOf (leNat val) 35 0 < bitsOf (baseFor s m e) 35 0) :
    applyRegionLimit m e val s = .done abInconsistent s := by
  unfold applyRegionLimit
  exact guarded_of_firstFail _ s (by simp only [decide_eq_false (Nat.not_le.2 hlt), firstFail_cons_false])

section Windows

variable {val : Bytes} {s : State} {same : Prop}
  (hlength : val.length = 24) (htenant : tenantCode (fld val 2 1) = true) (hflags : fld val 3 1 < 4)
  (hzero : zeroAt val 4 4 = true) (hplain : bitOf (fld val 3 1) 1 = false → zeroAt val 16 8 = true)
  (hsame : same ↔ aget s.tiers.windows (fld val 0 2) = if bitOf (fld val 3 1) 0
    then some ⟨fld val 2 1, bitOf (fld val 3 1) 1, fld val 8 8, fld val 16 8⟩ else none)

include hlength htenant hflags hzero hplain hsame

theorem applyWindowUpdate_of_held (hheld : windowHeld s (fld val 0 2) = true) (hnew : ¬ same) :
    applyWindowUpdate val s = .done abNotIdle s := by
  have hcoded : (bitOf (fld val 3 1) 1 || zeroAt val 16 8) = true := by
    cases h : bitOf (fld val 3 1) 1 with
    | true => rfl
    | false => exact hplain h
  unfold applyWindowUpdate
  exact guarded_of_firstFail _ s (by
    simp only [hlength, htenant, hflags, hzero, hcoded, hheld, decide_true, Bool.and_self, firstFail_cons_true,
      decide_eq_false (mt hsame.2 hnew), Bool.not_true, Bool.or_self, firstFail_cons_false])

theorem applyWindowUpdate_of_free (hfree : windowHeld s (fld val 0 2) = false ∨ same) (hindex : fld val 0 2 < 4096)
    (hfirst : fld val 8 8 % 4096 = 0) (hlut : fld val 16 8 % 64 = 0) (hbuf : s.tiers.bufWindow = []) :
    applyWindowUpdate val s = .done 0 (s.setTiers { s.tiers with
      windows := if bitOf (fld val 3 1) 0
        then aset s.tiers.windows (fld val 0 2) ⟨fld val 2 1, bitOf (fld val 3 1) 1, fld val 8 8, fld val 16 8⟩
        else adel s.tiers.windows (fld val 0 2) }) := by
  have hcoded : (bitOf (fld val 3 1) 1 || zeroAt val 16 8) = true := by
    cases h : bitOf (fld val 3 1) 1 with
    | true => rfl
    | false => exact hplain h
  have hopen : (decide (aget s.tiers.windows (fld val 0 2) = if bitOf (fld val 3 1) 0
      then some (⟨fld val 2 1, bitOf (fld val 3 1) 1, fld val 8 8, fld val 16 8⟩ : WindowEntry) else none)
      || !windowHeld s (fld val 0 2)) = true := by
    rcases hfree with h | h
    · rw [h, Bool.not_false, Bool.or_true]
    · rw [decide_eq_true (hsame.1 h), Bool.true_or]
  unfold applyWindowUpdate
  refine (guarded_of_passes _ s ?_).trans ?_
  · simp only [hlength, htenant, hflags, hzero, hcoded, hopen, hindex, hfirst, hlut, decide_true, Bool.and_self,
      firstFail_cons_true, firstFail_nil]
  · simp only [accept, hbuf, List.filter_nil]

end Windows

theorem regionEntriesAndWindows : RegionEntriesAndWindows := by
  intro ch m e val s
  refine ⟨fun htenant => accepted_of_done rfl rfl (applyRegionBase_of_tenant htenant),
    fun base hbase hle hreach => ?_, fun hlt => turnedDown_of_done rfl rfl (applyRegionLimit_of_reversed hlt),
    fun hlength htenant hflags hzero hplain hindex hfirst hlut same hsame => ⟨fun hheld hnew => ?_, fun hfree hbuf => ?_⟩⟩
  · subst hbase
    exact accepted_of_done rfl rfl (applyRegionLimit_of_reached hle hreach)
  · exact turnedDown_of_done rfl rfl (applyWindowUpdate_of_held hlength htenant hflags hzero hplain hsame hheld hnew)
  · exact accepted_of_done rfl rfl
      (applyWindowUpdate_of_free hlength htenant hflags hzero hplain hsame hfree hindex hfirst hlut hbuf)

/-- Settles O52: by its two parts. -/
theorem regionsAndWindows : Obligations.RegionsAndWindows := ⟨regionChanges, regionEntriesAndWindows⟩

end Sys2Proof.Machine
end

section
/-! SUPPORT and PROOFS. Tensor commands, the quotas of the tiers, and the mover (R151 to R159, R162). -/

namespace Sys2Proof.Machine

open Sys2Proof.Claims

/-! ### Tensor commands (R151 to R155) -/

section Commands

variable {ch : Channel} {val : Bytes} {s : State}

theorem firstFail_append (l r : List (Bool × Nat)) : firstFail (l ++ r) = (firstFail l).or (firstFail r) := by
  induction l with
  | nil => rfl
  | cons check l ih =>
    obtain ⟨ok, code⟩ := check
    cases ok with
    | false => rfl
    | true => exact ih

variable (hlength : val.length = 32) (hform : commandForm ch val = true) (hrange : commandRange val = true)

include hlength hform hrange

theorem commandChecks_pass {op : Nat} (hop : fld val 0 1 = op) : firstFail (commandChecks ch op val) = none := by
  simp only [commandChecks, hlength, hform, hop, hrange, decide_true, Bool.and_self, firstFail_cons_true, firstFail_nil]

theorem handleChecks_pass {op : Nat} (hop : fld val 0 1 = op) {t : Tensor}
    (ht : tensorOf s (commandHandle ch val) = some t) : firstFail (handleChecks ch op val s) = none := by
  simp only [handleChecks, firstFail_append, commandChecks_pass hlength hform hrange hop, ht, Option.isSome_some,
    firstFail_cons_true, firstFail_nil, Option.or_none]

/-- A command on a handle that is not known is answered so, whatever its further checks are. -/
theorem guarded_of_unknown {op : Nat} (hop : fld val 0 1 = op) (ht : tensorOf s (commandHandle ch val) = none)
    (r : List (Bool × Nat)) (act : State → Applied) :
    guarded (handleChecks ch op val s ++ r) act s = .done abExists s := by
  refine guarded_of_firstFail _ s ?_
  simp only [handleChecks, List.append_assoc, firstFail_append, commandChecks_pass hlength hform hrange hop, ht,
    Option.isSome_none, firstFail_cons_false, Option.none_or, Option.some_or]

theorem applyCreate_tier3 (hop : fld val 0 1 = 1) (hhome : fld val 3 1 = 3) (hhint : fld val 1 1 = 0)
    (hro : bitOf (fld val 2 1) 0 = false) (hnew : tensorOf s (commandHandle ch val) = none)
    (hroom : s.tiers.tensors.length < 65536)
    (howned : sourceOwned s (fld val 16 8) (fld val 8 8) (ownerOf (commandHandle ch val)) = true) :
    applyCreate ch val s
      = .done 0 (addTensor s (newTensor (commandHandle ch val) 0 (fld val 8 8) 3 (fld val 16 8) false)) := by
  unfold applyCreate
  rw [guarded_of_passes]
  · rw [hhome, hhint, hro]
    rfl
  · have hpass := commandChecks_pass hlength hform hrange hop
    simp only [firstFail_append, hpass, hhome, hhint, hro, hnew, howned, hroom, Option.isNone_none, Bool.false_and,
      Bool.not_false, Bool.or_true, Bool.and_self, decide_true, firstFail_cons_true, firstFail_nil, Option.or_none,
      show decide (3 = 1) = false from rfl, show decide (0 = 1) = false from rfl, Bool.true_or]

variable {t : Tensor} (ht : tensorOf s (commandHandle ch val) = some t)

include ht

theorem applyDestroy_of_unpinned (hop : fld val 0 1 = 2) (hpins : t.pins = 0) :
    applyDestroy ch val s = .done 0 ((freeTensor s t).setTiers { (freeTensor s t).tiers with
      tensors := (freeTensor s t).tiers.tensors.filter (fun x => !decide (x.handle = t.handle))
      queue := (freeTensor s t).tiers.queue.filter (fun m => !decide (m.handle = t.handle)) }) := by
  have hcommand : commandTensor ch val s = t := by rw [commandTensor, ht]; rfl
  unfold applyDestroy
  rw [guarded_of_passes, hcommand]
  · rfl
  · simp only [firstFail_append, handleChecks_pass hlength hform hrange hop ht, hcommand, hpins, decide_true,
      firstFail_cons_true, firstFail_nil, Option.or_none]

theorem applyDestroy_of_pinned (hop : fld val 0 1 = 2) (hpins : 0 < t.pins) :
    applyDestroy ch val s = .done abNotIdle s := by
  have hcommand : commandTensor ch val s = t := by rw [commandTensor, ht]; rfl
  unfold applyDestroy
  exact guarded_of_firstFail _ s (by
    simp only [firstFail_append, handleChecks_pass hlength hform hrange hop ht, hcommand,
      decide_eq_false (Nat.pos_iff_ne_zero.1 hpins), firstFail_cons_false, Option.none_or])

theorem applySetHint_auto (hop : fld val 0 1 = 3) (hhint : fld val 1 1 = 0) :
    applySetHint ch val s = .done 0 (askHint false (setTensor s t.handle (fun t =>
      { t with hint := 0, pins := t.pins - b2n t.nearPin, nearPin := false })) t.handle) := by
  have hcommand : commandTensor ch val s = t := by rw [commandTensor, ht]; rfl
  unfold applySetHint
  rw [guarded_of_passes, hcommand, hhint]
  · rfl
  · simp only [firstFail_append, handleChecks_pass hlength hform hrange hop ht, hhint,
      show decide (0 = 1) = false from rfl, Bool.false_and, Bool.not_false, Bool.true_or, firstFail_cons_true,
      firstFail_nil, Option.or_none]

theorem applyPin_of_room (hop : fld val 0 1 = 4) (hpins : t.pins < 65535) :
    applyPin ch val s
      = .done 0 (setTensor s (commandHandle ch val) (fun t => { t with pins := t.pins + 1 })) := by
  have hcommand : commandTensor ch val s = t := by rw [commandTensor, ht]; rfl
  unfold applyPin
  exact guarded_of_passes _ s (by
    simp only [firstFail_append, handleChecks_pass hlength hform hrange hop ht, hcommand, hpins, decide_true,
      firstFail_cons_true, firstFail_nil, Option.or_none])

theorem applyUnpin_of_pinned (hop : fld val 0 1 = 5) (hpins : 0 < t.pins) :
    applyUnpin ch val s = .done 0 (setTensor s (commandHandle ch val) (fun t =>
      { t with pins := t.pins - 1, nearPin := t.nearPin && decide (1 < t.pins) })) := by
  have hcommand : commandTensor ch val s = t := by rw [commandTensor, ht]; rfl
  unfold applyUnpin
  exact guarded_of_passes _ s (by
    simp only [firstFail_append, handleChecks_pass hlength hform hrange hop ht, hcommand, hpins, decide_true,
      firstFail_cons_true, firstFail_nil, Option.or_none])

theorem applyUnpin_of_unpinned (hop : fld val 0 1 = 5) (hpins : t.pins = 0) :
    applyUnpin ch val s = .done abRange s := by
  have hcommand : commandTensor ch val s = t := by rw [commandTensor, ht]; rfl
  unfold applyUnpin
  exact guarded_of_firstFail _ s (by
    simp only [firstFail_append, handleChecks_pass hlength hform hrange hop ht, hcommand, hpins, Nat.lt_irrefl, decide_false,
      firstFail_cons_false, Option.none_or])

end Commands

theorem tensorCommands : TensorCommands := by
  intro ch val s hlength hform hrange
  refine ⟨fun hop hhome hhint hro hnew hroom howned => ?_,
    fun t ht => ⟨fun hop hpins => ?_, fun hop hpins => ?_, fun hop hhint => ?_, fun hop hpins => ?_,
      fun hop hpins => ?_, fun hop hpins => ?_⟩,
    fun hnone => ⟨fun hop => ?_, fun hop => ?_, fun hop => ?_, fun hop => ?_⟩⟩
  · exact accepted_of_done rfl rfl (applyCreate_tier3 hlength hform hrange hop hhome hhint hro hnew hroom howned)
  · exact accepted_of_done rfl rfl (applyDestroy_of_unpinned hlength hform hrange ht hop hpins)
  · exact turnedDown_of_done rfl rfl (applyDestroy_of_pinned hlength hform hrange ht hop hpins)
  · exact accepted_of_done rfl rfl (applySetHint_auto hlength hform hrange ht hop hhint)
  · exact accepted_of_done rfl rfl (applyPin_of_room hlength hform hrange ht hop hpins)
  · exact accepted_of_done rfl rfl (applyUnpin_of_pinned hlength hform hrange ht hop hpins)
  · exact turnedDown_of_done rfl rfl (applyUnpin_of_unpinned hlength hform hrange ht hop hpins)
  · exact turnedDown_of_done rfl rfl (by
      unfold applyDestroy; exact guarded_of_unknown hlength hform hrange hop hnone _ _)
  · exact turnedDown_of_done rfl rfl (by
      unfold applySetHint; exact guarded_of_unknown hlength hform hrange hop hnone _ _)
  · exact turnedDown_of_done rfl rfl (by
      unfold applyPin; exact guarded_of_unknown hlength hform hrange hop hnone _ _)
  · exact turnedDown_of_done rfl rfl (by
      unfold applyUnpin; exact guarded_of_unknown hlength hform hrange hop hnone _ _)

/-! ### Quotas (R159) -/

theorem applyTierQuota_of_fits {idx sub : Nat} {val : Bytes} {s : State}
    (h : quotaSum (s.setVal idx sub (leNat val)) (quotaOwner idx sub).2 ≤ tierPool s (quotaOwner idx sub).2) :
    applyTierQuota idx sub val s = .done 0
      (shrinkToQuota (s.setVal idx sub (leNat val)) (quotaOwner idx sub).2 (quotaOwner idx sub).1) := by
  unfold applyTierQuota
  exact guarded_of_passes _ s (by simp only [h, decide_true, firstFail_cons_true, firstFail_nil])

theorem applyTierQuota_of_exceeds {idx sub : Nat} {val : Bytes} {s : State}
    (h : tierPool s (quotaOwner idx sub).2 < quotaSum (s.setVal idx sub (leNat val)) (quotaOwner idx sub).2) :
    applyTierQuota idx sub val s = .done abInconsistent s := by
  unfold applyTierQuota
  exact guarded_of_firstFail _ s (by simp only [decide_eq_false (Nat.not_le.2 h), firstFail_cons_false])

theorem exec_tierQuotaWrite {ch : Channel} {idx sub : Nat} {val : Bytes} {s : State} (h : isTierQuota idx sub = true) :
    exec (.tierQuotaWrite ch idx sub val) s = objectWrite ch idx sub val (applyTierQuota idx sub val) s := if_pos h

/-! ### The mover (R156, R157, R162) -/

section Mover

variable {s : State}

theorem mem_of_mem_byClass {l : List Move} {m : Move} (h : m ∈ byClass l) : m ∈ l := by
  obtain ⟨c, -, hm⟩ := List.mem_flatMap.1 h
  exact List.mem_of_mem_filter hm

/-- The first queued work in the order of classes that can start, with its place. -/
def firstStart (s : State) : Option (Move × Move) :=
  (byClass s.tiers.queue).findSome? (fun m => (canStart s m).map (fun m' => (m, m')))

/-- With nothing in the queue that has fallen away the mover takes the first work that can start, if there is any. -/
theorem exec_tierMoveStart_of_asked (hrunning : s.running = true) (hcurrent : s.tiers.current = none)
    (hclass : classOneLeft s = false) (hasked : ∀ m ∈ s.tiers.queue, stillAsked s m = true) :
    (∀ m m', firstStart s = some (m, m') → exec .tierMoveStart s = .next (startMove s m m')) ∧
      (firstStart s = none → exec .tierMoveStart s = .next s) := by
  have hfilter : s.setTiers { s.tiers with queue := s.tiers.queue.filter (stillAsked s) } = s := by
    rw [List.filter_eq_self.2 hasked]
    rfl
  have hgo : (!s.running || s.tiers.current.isSome || classOneLeft s) = false := by
    simp only [hrunning, hcurrent, hclass, Bool.not_true, Option.isSome_none, Bool.or_self]
  refine ⟨fun m m' hfirst => ?_, fun hfirst => ?_⟩ <;> unfold firstStart at hfirst <;>
    simp only [exec, execTierMoveStart, hgo, Bool.false_eq_true, if_false, hfilter, hfirst]

/-- Work that is started is the current one and has left the queue. -/
theorem startMove_tiers (s : State) (asked m : Move) :
    (startMove s asked m).tiers.current = some m ∧ (startMove s asked m).tiers.queue = s.tiers.queue.erase asked := by
  unfold startMove
  split
  next => exact ⟨rfl, rfl⟩
  next t =>
    split
    · exact ⟨rfl, rfl⟩
    · dsimp only
      split <;> exact ⟨rfl, rfl⟩
    · exact ⟨rfl, rfl⟩
    · exact ⟨rfl, rfl⟩

/-- A copy that has ended, by what it met. -/
theorem endCopy_of_moveBytes {m : Move} {t : Tensor} {src : Nat} {u : State} {e : CopyEnd}
    (h : moveBytes s t src m.dest = (u, e)) :
    (e = .done → endCopy s m t src = landMove u m) ∧ (e = .waits → endCopy s m t src = s) ∧
      (e = .poisoned → endCopy s m t src
        = abandonMove (u.setTiers { u.tiers with current := none }) m m.kind.tier t.size) := by
  refine ⟨?_, ?_, ?_⟩ <;> rintro rfl <;> simp only [endCopy, h]

/-- A copy or a move of a tensor ends by what its bytes met. -/
theorem exec_tierMoveDone_of_copy {m : Move} {t : Tensor} {src : Nat} (hrunning : s.running = true)
    (hcurrent : s.tiers.current = some m) (ht : tensorOf s m.handle = some t)
    (hsrc : (∃ tier, m.kind = .copyUp tier) ∧ src = t.copy1.getD t.homeAddr ∨
      (m.kind = .moveUp ∨ m.kind = .moveDown) ∧ src = t.homeAddr) :
    exec .tierMoveDone s = .next (endCopy s m t src) := by
  simp only [exec, execTierMoveDone, hrunning, hcurrent, ht, Bool.not_true, Bool.false_eq_true, if_false]
  obtain ⟨⟨tier, hkind⟩, rfl⟩ | ⟨hkind | hkind, rfl⟩ := hsrc <;> simp only [hkind]

end Mover

theorem quotasAndMoves : QuotasAndMoves := by
  intro ch idx sub val s
  refine ⟨fun hquota => ⟨fun hfits => ?_, fun hexceeds => ?_⟩, fun hrunning hcurrent hclass => ?_,
    fun hrunning hcurrent hclass hasked => ⟨fun before m after m' hsplit hbefore hstart => ?_, fun hnone => ?_⟩,
    fun hrunning m hcurrent => ⟨fun tier hkind => ?_, fun t u e src ht hsrc hmoved => ?_⟩⟩
  · exact accepted_of_done rfl (exec_tierQuotaWrite hquota) (applyTierQuota_of_fits hfits)
  · exact turnedDown_of_done rfl (exec_tierQuotaWrite hquota) (applyTierQuota_of_exceeds hexceeds)
  · simp only [exec, execTierMoveStart, hclass, Bool.or_true, if_true]
  · have hfirst : firstStart s = some (m, m') := by
      rw [firstStart, hsplit, List.findSome?_append, List.findSome?_cons, hstart,
        List.findSome?_eq_none_iff.2 fun x hx => by rw [hbefore x hx]; rfl]
      rfl
    obtain ⟨hnow, hleft⟩ := startMove_tiers s m m'
    exact ⟨_, (exec_tierMoveStart_of_asked hrunning hcurrent hclass hasked).1 m m' hfirst, rfl, hnow, hleft⟩
  · refine (exec_tierMoveStart_of_asked hrunning hcurrent hclass hasked).2 ?_
    exact List.findSome?_eq_none_iff.2 fun x hx => by rw [hnone x (mem_of_mem_byClass hx)]; rfl
  · simp only [exec, execTierMoveDone, hrunning, hcurrent, hkind, Bool.not_true, Bool.false_eq_true, if_false]
  · obtain ⟨hdone, hwaits, hpoisoned⟩ := endCopy_of_moveBytes hmoved
    rw [exec_tierMoveDone_of_copy hrunning hcurrent ht hsrc]
    exact ⟨fun he => congrArg _ (hdone he), fun he => congrArg _ (hwaits he), fun he => congrArg _ (hpoisoned he)⟩

/-- Settles O53: by its two parts. -/
theorem tensorsAndTiers : Obligations.TensorsAndTiers := ⟨tensorCommands, quotasAndMoves⟩

end Sys2Proof.Machine
end

section
/-! SUPPORT and PROOFS. Turn barriers, the start of a turn and its end (R15, R17, R85, R98, R246, R248, R250, R350). -/

namespace Sys2Proof.Machine

open Sys2Proof.Claims

/-! ### Barriers (R15, R17, R85, R98) -/

section Barriers

variable {s : State}

theorem exec_turnBarrier_of_transition {n : Nat} {a b : Lifecycle} (h : s.custody.transition = some (n, a, b)) :
    exec .turnBarrier s
      = .next (if s.serves && s.turn.isNone && s.systemFree then runTransition n a b s else s) := by
  simp only [exec, execTurnBarrier, h]
  split <;> rfl

theorem exec_turnBarrier_of_meets (h : meets s) : exec .turnBarrier s = .next (meetBarrier s) := by
  obtain ⟨hnone, hmet⟩ := h
  simp only [exec, execTurnBarrier, hnone, hmet, if_true]

theorem exec_turnBarrier_of_not_met (hnone : s.custody.transition = none) (hnot : atBarrier s = false) :
    exec .turnBarrier s = .next (idleBarrier s) := by
  simp only [exec, execTurnBarrier, hnone, hnot, Bool.false_eq_true, if_false]

theorem atBarrier_of_turn {t : Turn} (h : s.turn = some t) : atBarrier s = false := by
  simp only [atBarrier, h, Option.isNone_some, Bool.and_false, Bool.false_and]

theorem copiesBack_of_nil (h : s.power.refetch = []) : copiesBack s = s := by
  simp only [copiesBack, h, tryEach, List.foldl_nil]
  exact congrArg (fun l => s.setPower { s.power with refetch := l }) h.symm

end Barriers

theorem turnBarriers : TurnBarriers := by
  intro s
  refine ⟨fun hmet hheld hfree => ?_, fun hmet hheld hafter => ?_, fun u hmet hheld hback => ⟨fun hstill => ?_, fun hstill => ?_⟩,
    copiesBack_of_nil, fun n a b htransition hserves hturn => ⟨fun hfree => ?_, fun hbusy => ?_⟩,
    fun hnone hrunning hserves hturn => ?_, fun t hturn => ?_⟩
  · simp only [exec_turnBarrier_of_meets hmet, meetBarrier, hheld, hfree, Bool.false_eq_true, if_false]
  · simp only [exec_turnBarrier_of_meets hmet, meetBarrier, hheld, hafter, Bool.false_eq_true, if_false, if_true]
  · simp only [exec_turnBarrier_of_meets hmet, meetBarrier, hheld, hback, hstill, if_true]
  · simp only [exec_turnBarrier_of_meets hmet, meetBarrier, hheld, hback, hstill, if_true, Bool.false_eq_true, if_false]
  · simp only [exec_turnBarrier_of_transition htransition, hserves, hturn, hfree, Option.isNone_none, Bool.and_self, if_true]
  · simp only [exec_turnBarrier_of_transition htransition, hbusy, Bool.and_false, Bool.false_eq_true, if_false]
  · have hnot : atBarrier s = false := by simp only [atBarrier, hrunning, Bool.false_and]
    simp only [exec_turnBarrier_of_not_met hnone hnot, idleBarrier, hserves, hturn, Option.isNone_none, Bool.true_and]
  · cases htransition : s.custody.transition with
    | some p =>
      obtain ⟨n, a, b⟩ := p
      simp only [exec_turnBarrier_of_transition htransition, hturn, Option.isNone_some, Bool.and_false, Bool.false_and,
        Bool.false_eq_true, if_false]
    | none =>
      simp only [exec_turnBarrier_of_not_met htransition (atBarrier_of_turn hturn), idleBarrier, hturn, Option.isNone_some,
        Bool.and_false, Bool.false_and, Bool.false_eq_true, if_false]

/-! ### The start of a turn (R15, R65, R246) -/

/-- What forming keeps: the state differs in its rings alone, and the batch stays within its bounds. -/
structure Forms (s : State) (f : Forming) : Prop where
  serving : ∃ v, f.st = { s with serving := v }
  batch : f.batch.length ≤ 256
  rows : f.rows ≤ 256

theorem rowsFor_le (s : State) (b : Berth) (left : Nat) : (rowsFor s b left).1 ≤ left := by
  unfold rowsFor
  split
  · exact Nat.min_le_right _ _
  · dsimp only
    split <;> omega

theorem exists_keepSlot_eq (b : Berth) (s : State) : ∃ v, (keepSlot b s).1 = { s with serving := v } := by
  unfold keepSlot
  split
  · exact ⟨_, rfl⟩
  · exact ⟨s.serving, rfl⟩

theorem Forms.offerBerth {s : State} {f : Forming} (h : Forms s f) (slot : Nat) (m : Manifest) (b : Berth) :
    Forms s (offerBerth slot m f b) := by
  obtain ⟨⟨v, hv⟩, hbatch, hrows⟩ := h
  unfold Machine.offerBerth
  dsimp only
  split
  next => exact ⟨⟨v, hv⟩, hbatch, hrows⟩
  next hroom =>
    split
    next => exact ⟨⟨v, hv⟩, hbatch, hrows⟩
    next =>
      have hle := rowsFor_le f.st b (256 - f.rows)
      obtain ⟨w, hw⟩ := exists_keepSlot_eq b f.st
      rw [not_or] at hroom
      obtain ⟨hbatch', -⟩ := hroom
      refine ⟨⟨w, by rw [hw, hv]⟩, ?_, ?_⟩
      · simp only [List.length_append, List.length_singleton]; omega
      · dsimp only; omega

theorem forms_of_formBatch {s : State} {slot : Nat} {f : Forming} (h : formBatch s = some (slot, f)) : Forms s f := by
  unfold formBatch at h
  split at h
  next => cases h
  next =>
    split at h
    next => cases h
    next =>
      dsimp only at h
      split at h
      next => cases h
      next b hb =>
        split at h
        next => cases h
        next m hm =>
          split at h
          next => cases h
          next =>
            cases h
            refine List.foldlRecOn (motive := Forms s) _ _ ⟨⟨s.serving, rfl⟩, Nat.zero_le _, Nat.zero_le _⟩ fun f hf x _ => ?_
            exact hf.offerBerth _ _ _

theorem exists_takePart_eq (batch : List BatchEntry) (s : State) : ∃ v, takePart batch s = { s with serving := v } := by
  refine List.foldlRecOn (motive := fun u => ∃ v, u = { s with serving := v }) _ _ ⟨s.serving, rfl⟩ fun u hu e _ => ?_
  obtain ⟨v, rfl⟩ := hu
  exact ⟨_, rfl⟩

/-- A turn that starts on one device. -/
theorem exists_startTurn_eq {s : State} {slot : Nat} {f : Forming} (h : Forms s f) (hone : inPipeline s = false) :
    ∃ (u : State) (c : Bool), startTurn slot f = { u with turn := some (newTurn slot (u.turns % 2 ^ 32) f.batch f.rows c true) } ∧
      u.power.state = .active ∧ u.turns = (f.st.turns + 1) % 2 ^ 64 := by
  obtain ⟨⟨v, hv⟩, -, -⟩ := h
  obtain ⟨w, hw⟩ := exists_takePart_eq f.batch (f.st.bumpBy 0x2806 1 64 1)
  have hpipeline : inPipeline (goActive (takePart f.batch (f.st.bumpBy 0x2806 1 64 1))) = false := by
    rw [hw, hv]
    exact hone
  have hturns : (f.st.bumpBy 0x2806 1 64 1).turns = (f.st.turns + 1) % 2 ^ 64 := by
    simp only [State.turns, State.bumpBy, State.setVal, State.count, agetD_aset_self]
  refine ⟨goActive (takePart f.batch (f.st.bumpBy 0x2806 1 64 1)),
    decide ((goActive (takePart f.batch (f.st.bumpBy 0x2806 1 64 1))).ferry.role = .member), ?_, rfl, ?_⟩
  · simp only [startTurn, hpipeline]
  · rw [hw]
    exact hturns

theorem turnsStart : TurnsStart := by
  intro s
  refine ⟨fun m cancels hbatch => ?_, fun slot f hnone hform hone => ?_, fun hform hactive hrunnable hdue => ?_⟩
  · simp only [formNext, startWaiting, hbatch, Option.isSome_some, if_true]
  · have hforms := forms_of_formBatch hform
    obtain ⟨u, c, heq, hstate, hturns⟩ := exists_startTurn_eq (slot := slot) hforms hone
    have hnext : formNext s = startTurn slot f := by
      simp only [formNext, hnone, Option.isSome_none, Bool.false_eq_true, if_false, hform]
    rw [hnext, heq]
    exact ⟨hstate, hturns, ⟨_, rfl, rfl, rfl, rfl, rfl, rfl, rfl, rfl, rfl⟩, hforms.batch, hforms.rows⟩
  · have hnone : s.ferry.batch.isSome = false := by
      simp only [anyRunnable, Bool.or_eq_false_iff] at hrunnable
      exact hrunnable.2
    simp only [formNext, hnone, Bool.false_eq_true, if_false, hform, readyAtBarrier, hactive, hrunnable, Bool.not_false,
      Bool.and_true]
    obtain h | h | h := hdue <;> simp only [h, Bool.true_or, Bool.or_true, if_true]

/-! ### The end of a turn (R248, R250, R350) -/

/-- The logits that a berth reads are those written. -/
theorem leNat_words (l : List Nat) (hl : ∀ x ∈ l, x < 2 ^ 32) :
    (List.range l.length).map (fun i =>
      leNat (vals (((l.flatMap fun x => (leBytes 4 x).map fun b => (⟨b, false⟩ : Octet)).drop (4 * i)).take 4))) = l := by
  induction l with
  | nil => rfl
  | cons x l ih =>
    have hx : ((leBytes 4 x).map fun b => (⟨b, false⟩ : Octet)).length = 4 := by simp [length_leBytes]
    rw [List.length_cons, List.range_succ_eq_map, List.map_cons, List.map_map]
    refine congrArg₂ List.cons ?_ ((List.map_congr_left fun i _ => ?_).trans (ih fun y hy => hl y (List.mem_cons_of_mem _ hy)))
    · rw [Nat.mul_zero, List.drop_zero, List.flatMap_cons, List.take_left' hx]
      simp only [vals, List.map_map]
      exact (congrArg leNat (List.map_id' _)).trans (leNat_leBytes_of_lt (hl x List.mem_cons_self))
    · simp only [Function.comp_apply, List.flatMap_cons]
      rw [show 4 * Nat.succ i = 4 + 4 * i by omega, ← List.drop_drop, List.drop_left' hx]

theorem anyBad_words (l : List Nat) :
    anyBad (l.flatMap fun x => (leBytes 4 x).map fun b => (⟨b, false⟩ : Octet)) = false := by
  refine List.any_eq_false.2 fun o ho => ?_
  obtain ⟨x, -, hx⟩ := List.mem_flatMap.1 ho
  obtain ⟨b, -, rfl⟩ := List.mem_map.1 hx
  exact Bool.false_ne_true

/-- Frames of the parts of a retried attempt. -/
theorem exists_setBerths_eq (batch : List BatchEntry) (f : Berth → Berth) (s : State) :
    ∃ v, batch.foldl (fun s e => setBerth s e.berth f) s = { s with serving := v } := by
  refine List.foldlRecOn (motive := fun u => ∃ v, u = { s with serving := v }) _ _ ⟨s.serving, rfl⟩ fun u hu e _ => ?_
  obtain ⟨v, rfl⟩ := hu
  exact ⟨_, rfl⟩

section End

variable {s : State} {t : Turn} (hturn : s.turn = some t)

include hturn

theorem exec_sampling_of_due {tag logits n : Nat} {e : BatchEntry} {b : Berth} {m : Manifest} (he : t.batch[tag]? = some e)
    (hdone : programsDone s t = true) (hlast : lastStage s t.slot = true) (hyields : e.yields = true)
    (hlive : e.cancelled = false) (hundrawn : aget t.drawn tag = none) (hb : berthOf s e.berth = some b)
    (hm : manifestOf s t.slot = some m) :
    exec (.sampling tag logits n) s = .next (sampleBerth tag logits n m.vocab b e s) := by
  simp only [exec, execSampling, hturn, he, hdone, hlast, hyields, hlive, hundrawn, hb, hm, Bool.not_true, Bool.or_self,
    Option.isSome_none, Bool.false_eq_true, if_false]

/-- A token is drawn from logits that are good. -/
theorem sampleBerth_of_good {tag a vocab : Nat} {b : Berth} {e : BatchEntry} {l : List Nat}
    (hread : readLogits s a (4 * vocab) = (s, l.flatMap (fun x => (leBytes 4 x).map (⟨·, false⟩))))
    (hlength : l.length = vocab) (hl : ∀ x ∈ l, x < 2 ^ 32) (hnan : l.any (isNan fp32) = false)
    (harmed : s.integrity.armed = []) :
    ∃ v, (sampleBerth tag a 0 vocab b e s).turn = some v ∧ v.drawn = t.drawn ++ [(tag, drawToken b e l)] ∧
      v.failing = t.failing := by
  subst hlength
  have hmismatch : takeMismatch s 0 = (s, 0) := by
    simp only [takeMismatch, hturn, harmed, List.find?_nil]
  have heq : sampleBerth tag a 0 l.length b e s = modTurn (modTurn s fun t => { t with reruns := t.reruns + 0 })
      fun t => { t with drawn := t.drawn ++ [(tag, drawToken b e l)] } := by
    simp only [sampleBerth, hread, anyBad_words, leNat_words l hl, hnan, Bool.or_self, Bool.false_eq_true, if_false,
      hmismatch, Nat.zero_min, Nat.not_lt_zero, decide_false, sampleErrors, List.range_zero, List.foldl_nil]
  rw [heq]
  simp only [modTurn, hturn, Option.map_some]
  exact ⟨_, rfl, rfl, rfl⟩

/-- A NaN among the logits fails the attempt. -/
theorem sampleBerth_of_nan {tag a n vocab : Nat} {b : Berth} {e : BatchEntry} {l : List Nat}
    (hread : readLogits s a (4 * vocab) = (s, l.flatMap (fun x => (leBytes 4 x).map (⟨·, false⟩))))
    (hlength : l.length = vocab) (hl : ∀ x ∈ l, x < 2 ^ 32) (hnan : l.any (isNan fp32) = true) (hsound : t.failing = none) :
    ∃ v, (sampleBerth tag a n vocab b e s).turn = some v ∧ v.failing = some .integrity ∧ v.drawn = t.drawn := by
  subst hlength
  have heq : sampleBerth tag a n l.length b e s = failAttempt .integrity s := by
    simp only [sampleBerth, hread, leNat_words l hl, hnan, Bool.or_true, if_true]
  rw [heq]
  simp only [failAttempt, modTurn, hturn, Option.map_some, hsound, if_true]
  exact ⟨_, rfl, rfl, rfl⟩

theorem exec_attemptAbandon_of_busy (hrunning : s.running = true) (hbusy : t.busy = []) {bank : Nat}
    (hfailing : t.failing = some (.busy bank)) (hbank : bankRuns s bank = false) :
    exec .attemptAbandon s = .next (restart false s) := by
  simp only [exec, execAttemptAbandon, hturn, hbusy, hrunning, hfailing, hbank, Bool.not_true, Bool.false_eq_true, ne_eq,
    not_true_eq_false, or_self, if_false]

theorem exec_attemptAbandon_of_integrity (hrunning : s.running = true) (hbusy : t.busy = [])
    (hfailing : t.failing = some .integrity) (hmet : t.metNow = []) (hlive : (t.batch.any fun e => !e.cancelled) = true)
    (hreplays : t.replays < s.val 0x2D01 3) (hdecks : workDecks s t.suspects ≠ []) :
    exec .attemptAbandon s = .next (restart true s) := by
  have hnotAll : t.batch.all (·.cancelled) = false := by
    obtain ⟨e, he, hcancelled⟩ := List.any_eq_true.1 hlive
    exact List.all_eq_false.2 ⟨e, he, by simpa using hcancelled⟩
  have hempty : (workDecks s t.suspects).isEmpty = false := by
    cases h : workDecks s t.suspects with
    | nil => exact absurd h hdecks
    | cons _ _ => rfl
  simp only [exec, execAttemptAbandon, hturn, hbusy, hrunning, hfailing, hmet, List.filter_nil, List.foldl_nil, replayOrEnd,
    hnotAll, hempty, Nat.not_le.2 hreplays, Bool.not_true, Bool.false_eq_true, ne_eq, not_true_eq_false, or_self, if_false]

/-- An attempt that starts again has the same batch and nothing dispatched or drawn. -/
theorem restart_true_turn :
    ∃ v, (restart true s).turn = some v ∧ v.attempt = t.attempt + 1 ∧ v.replays = t.replays + 1 ∧ v.batch = t.batch ∧
      v.next = 0 ∧ v.busy = [] ∧ v.drawn = [] ∧ v.failing = none ∧ (restart true s).mem = s.mem := by
  obtain ⟨w, hw⟩ := exists_setBerths_eq t.batch (fun b => { b with full := 0 }) s
  simp only [restart, hturn, hw]
  exact ⟨_, rfl, rfl, rfl, rfl, rfl, rfl, rfl, rfl, rfl⟩

end End

theorem turnsEnd : TurnsEnd := by
  intro s t hturn
  refine ⟨fun tag logits n e b m he hdone hlast hyields hlive hundrawn hb hm => ?_, fun hdone hgood hdrawn => ⟨?_, fun hone => ?_⟩,
    fun hrunning hbusy hfailing hmet hlive hreplays hdecks => ?_,
    fun hrunning hbusy bank hfailing hbank => exec_attemptAbandon_of_busy hturn hrunning hbusy hfailing hbank⟩
  · have hexec := exec_sampling_of_due (logits := logits) (n := n) hturn he hdone hlast hyields hlive hundrawn hb hm
    refine ⟨hexec, fun l hread hlength hl => ⟨fun hnan harmed hn => ?_, fun hnan hsound => ?_⟩⟩
    · subst hn
      obtain ⟨v, h⟩ := sampleBerth_of_good (b := b) (e := e) (tag := tag) hturn hread hlength hl hnan harmed
      exact ⟨_, v, hexec, h⟩
    · obtain ⟨v, h⟩ := sampleBerth_of_nan (b := b) (e := e) (tag := tag) (n := n) hturn hread hlength hl hnan hsound
      exact ⟨_, v, hexec, h⟩
  · have hdue : (programsDone s t && decide (t.damaged = []) && (!lastStage s t.slot || allDrawn t)) = true := by
      rw [hdone, decide_eq_true hgood]
      cases hlast : lastStage s t.slot with
      | false => rfl
      | true => exact hdrawn hlast
    simp only [exec, execCommitPoint, hturn, hdue, if_true]
  · simp only [commitHere, hone, Bool.not_false, if_true]
    rfl
  · obtain ⟨v, h, hattempt, hreplayed, hbatch, hnext, hidle, hnone, hsound, hmem⟩ := restart_true_turn hturn
    exact ⟨_, v, exec_attemptAbandon_of_integrity hturn hrunning hbusy hfailing hmet hlive hreplays hdecks, h, hattempt,
      hreplayed, hbatch, hnext, hidle, hnone, hsound, hmem⟩

/-- Settles O54: by its three parts. -/
theorem turnsRun : Obligations.TurnsRun := ⟨turnBarriers, turnsStart, turnsEnd⟩

end Sys2Proof.Machine
end

section
/-! SUPPORT. What a read or a write of memory may change: memory, counters, the tiers' buffers, erases that it suspends,
error records and journal events, and what the running attempt has met. -/

namespace Sys2Proof.Machine

/-- State `u` is state `s` after accesses of memory. -/
structure Accesses (s u : State) : Prop where
  shape : ∃ mem obj tiers flash custody integrity draws turn, u = { s with
    mem := mem, obj := obj, tiers := tiers, flash := flash, custody := custody, integrity := integrity, draws := draws
    turn := turn }
  turn : ∃ met noted : Turn → List Nat, u.turn = s.turn.map fun t => { t with metNow := met t, journalled := noted t }
  wf : s.mem.wf = true → u.mem.wf = true

namespace Accesses

variable {s t u : State}

theorem refl (s : State) : Accesses s s :=
  ⟨⟨s.mem, s.obj, s.tiers, s.flash, s.custody, s.integrity, s.draws, s.turn, rfl⟩,
    ⟨(·.metNow), (·.journalled), by cases s.turn <;> rfl⟩, id⟩

theorem trans (h : Accesses s t) (h' : Accesses t u) : Accesses s u := by
  obtain ⟨⟨m, o, ti, fl, cu, i, d, tu, rfl⟩, ⟨met, noted, hturn⟩, hwf⟩ := h
  obtain ⟨⟨m', o', ti', fl', cu', i', d', tu', rfl⟩, ⟨met', noted', hturn'⟩, hwf'⟩ := h'
  refine ⟨⟨m', o', ti', fl', cu', i', d', tu', rfl⟩,
    ⟨fun t => met' { t with metNow := met t, journalled := noted t },
      fun t => noted' { t with metNow := met t, journalled := noted t }, ?_⟩, fun h => hwf' (hwf h)⟩
  rw [hturn', hturn, Option.map_map]
  rfl

theorem foldl {β : Type} {f : State → β → State} (h : ∀ s x, Accesses s (f s x)) (l : List β) (s : State) :
    Accesses s (l.foldl f s) :=
  List.foldlRecOn (motive := Accesses s) _ _ (refl s) fun u hu x _ => hu.trans (h u x)

/-- A fold that carries data beside the state. -/
theorem foldl_fst {α β : Type} {f : State × α → β → State × α} (h : ∀ p x, Accesses p.1 (f p x).1) (l : List β)
    (p : State × α) : Accesses p.1 (l.foldl f p).1 :=
  List.foldlRecOn (motive := fun q => Accesses p.1 q.1) _ _ (refl p.1) fun q hq x _ => hq.trans (h q x)

/-! ### Changes of one part -/

/-- Changes of every part but the memory and the turn. -/
theorem update (s : State) (obj : List (Nat × Nat)) (tiers : Tiers) (flash : Flash) (custody : Custody)
    (integrity : Integrity) (draws : Nat) : Accesses s { s with
      obj := obj, tiers := tiers, flash := flash, custody := custody, integrity := integrity, draws := draws } :=
  ⟨⟨s.mem, obj, tiers, flash, custody, integrity, draws, s.turn, rfl⟩,
    ⟨(·.metNow), (·.journalled), by cases h : s.turn <;> rfl⟩, id⟩

theorem setVal (s : State) (idx sub v : Nat) : Accesses s (s.setVal idx sub v) :=
  update s (aset s.obj (objKey idx sub) v) s.tiers s.flash s.custody s.integrity s.draws

theorem bumpBy (s : State) (idx sub bits n : Nat) : Accesses s (s.bumpBy idx sub bits n) := setVal _ _ _ _

theorem bump (s : State) (idx sub : Nat) : Accesses s (s.bump idx sub) := setVal _ _ _ _

theorem bumpSat (s : State) (idx sub : Nat) : Accesses s (s.bumpSat idx sub) := setVal _ _ _ _

theorem setTiers (s : State) (t : Tiers) : Accesses s (s.setTiers t) :=
  update s s.obj t s.flash s.custody s.integrity s.draws

theorem setFlash (s : State) (f : Flash) : Accesses s (s.setFlash f) :=
  update s s.obj s.tiers f s.custody s.integrity s.draws

theorem draw (s : State) : Accesses s s.draw := update s s.obj s.tiers s.flash s.custody s.integrity (s.draws + 1)

theorem setMem (s : State) {m : Mem} (h : s.mem.wf = true → m.wf = true) : Accesses s (s.setMem m) :=
  ⟨⟨m, s.obj, s.tiers, s.flash, s.custody, s.integrity, s.draws, s.turn, rfl⟩,
    ⟨(·.metNow), (·.journalled), by change s.turn = _; cases s.turn <;> rfl⟩, h⟩

theorem setBytes (s : State) (a : Nat) (bs : Bytes) : Accesses s (s.setMem (s.mem.setBytes a bs)) :=
  setMem s (Mem.setBytes_wf _ _ _)

theorem setMark (s : State) (a : Nat) (o : Option Mark) : Accesses s (s.setMem (s.mem.setMark a o)) :=
  setMem s (Mem.setMark_wf _ _ _)

theorem markJournalled (s : State) (cls : Nat) : Accesses s (s.markJournalled cls) :=
  ⟨⟨s.mem, s.obj, s.tiers, s.flash, s.custody, s.integrity, s.draws, _, rfl⟩,
    ⟨(·.metNow), fun t => cls :: t.journalled, rfl⟩, id⟩

theorem noteSource (a : Nat) (s : State) : Accesses s (noteSource a s) := by
  refine ⟨⟨s.mem, s.obj, s.tiers, s.flash, s.custody, s.integrity, s.draws, _, rfl⟩,
    ⟨fun t => if t.metNow.contains a then t.metNow else t.metNow ++ [a], (·.journalled), ?_⟩, id⟩
  refine congrArg (Option.map · s.turn) (funext fun t => ?_)
  by_cases h : t.metNow.contains a = true
  · simp only [if_pos h]
  · simp only [if_neg h]

/-! ### Errors -/

theorem event (s : State) (cls flags kind : Nat) (facts : List Nat) : Accesses s (s.event cls flags kind facts) := by
  unfold State.event State.pushEvent
  split
  · exact refl s
  · exact update s s.obj s.tiers s.flash _ s.integrity _

theorem logError (s : State) (e : ErrorFacts) : Accesses s (s.logError e) :=
  update s s.obj s.tiers s.flash s.custody _ s.draws

theorem error (s : State) (e : ErrorFacts) : Accesses s (s.error e) := by
  unfold State.error State.record
  refine (bumpSat s 0x2D02 e.cls).trans ?_
  dsimp only
  split
  · exact refl _
  · split
    · exact ((logError _ _).trans (event _ _ _ _ _)).trans (markJournalled _ _)
    · exact logError _ _

theorem accessError (cls m a : Nat) (s : State) : Accesses s (accessError cls m a s) := error _ _

theorem sourceError (cls m a : Nat) (s : State) : Accesses s (sourceError cls m a s) :=
  (accessError cls m a s).trans (noteSource a _)

theorem refuseLine (q : Query) (s : State) (a : Nat) : Accesses s (refuseLine q s a) :=
  (bump s 0x2301 4).trans (accessError _ _ _ _)

theorem damaged (c m block code : Nat) (s : State) : Accesses s (damaged c m block code s) :=
  ((((bump s _ _).trans (setVal _ _ _ _)).trans (setVal _ _ _ _)).trans (setVal _ _ _ _)).trans (sourceError _ _ _ _)

/-! ### The hold and the deck stores -/

theorem checkHoldWord (m : Nat) (s : State) (p : Nat × Mark) : Accesses s (checkHoldWord m s p) := by
  unfold Machine.checkHoldWord
  split
  · exact ((setMark _ _ _).trans (bumpBy _ _ _ _ _)).trans (error _ _)
  · exact (bumpBy _ _ _ _ _).trans (sourceError _ _ _ _)
  · exact noteSource _ _

theorem readHold (q : Query) (s : State) (a n : Nat) : Accesses s (readHold q s a n).1 := by
  unfold Machine.readHold
  split
  · exact refl s
  · exact foldl (checkHoldWord q.master) _ s

theorem writeHoldWord (m : Nat) (s : State) (a : Nat) (octs : List Octet) : Accesses s (writeHoldWord m s a octs) := by
  have hboth : ∀ w o, Accesses s (s.setMem ((s.mem.setBytes a (octs.map (·.val))).setMark w o)) := fun w o =>
    setMem s fun h => Mem.setMark_wf _ _ _ (Mem.setBytes_wf _ _ _ h)
  unfold Machine.writeHoldWord
  dsimp only
  split
  · exact hboth _ _
  · split
    · exact accessError _ _ _ _
    · exact ((setMark _ _ _).trans (bumpBy _ _ _ _ _)).trans (accessError _ _ _ _)
    · exact ((hboth _ _).trans (bumpBy _ _ _ _ _)).trans (error _ _)
    · exact hboth _ _

theorem writeHold (q : Query) (s : State) (a : Nat) (octs : List Octet) : Accesses s (writeHold q s a octs) := by
  unfold Machine.writeHold
  split
  · exact refl s
  · exact foldl (fun s p => writeHoldWord _ _ _ _) _ s

/-! ### LPDDR -/

theorem closeBlock (s : State) (b : Nat) : Accesses s (closeBlock s b) := by
  unfold Machine.closeBlock
  dsimp only
  split <;> exact (setTiers _ _).trans (bumpBy _ _ _ _ _)

theorem closeAllBlocks (s : State) : Accesses s (closeAllBlocks s) := foldl closeBlock _ s

theorem openBlock (s : State) (b : Nat) : Accesses s (openBlock s b) := by
  unfold Machine.openBlock
  refine trans ?_ (setTiers _ _)
  split
  · exact refl s
  · split
    · exact closeBlock _ _
    · exact refl s

theorem countBursts (c n : Nat) (s : State) : Accesses s (countBursts c n s) := bumpBy _ _ _ _ _

theorem countDecoded (c : Nat) (s : State) : Accesses s (countDecoded c s) := bumpBy _ _ _ _ _

theorem fetchLpddr (s : State) (b a n : Nat) : Accesses s (fetchLpddr s b a n) := by
  unfold Machine.fetchLpddr
  dsimp only
  split
  · exact countBursts _ _ _
  · exact ((countBursts _ _ _).trans (countDecoded _ _)).trans (setTiers _ _)

theorem linkOf (q : Query) (s : State) : Accesses s (linkOf q s).2 := by
  unfold Machine.linkOf
  split
  · exact refl s
  · exact setTiers _ _
  · exact refl s

theorem linkCheck (q : Query) (s : State) (a : Nat) : Accesses s (linkCheck q s a).2 := by
  unfold Machine.linkCheck
  refine (linkOf q s).trans ?_
  dsimp only
  split
  · exact refl _
  · exact refl _
  · dsimp only
    exact (bumpBy _ _ _ _ _).trans (error _ _)
  · exact (bumpBy _ _ _ _ _).trans (sourceError _ _ _ _)

theorem readLpddr (q : Query) (s : State) (a n : Nat) : Accesses s (readLpddr q s a n).1 := by
  unfold Machine.readLpddr
  dsimp only
  split
  · split
    · exact linkCheck q s a
    · exact (linkCheck q s a).trans (draw _)
  · split
    · exact refl s
    · split
      · exact noteSource _ _
      · split
        · exact setTiers _ _
        · split
          · exact linkCheck q s a
          · exact (linkCheck q s a).trans (fetchLpddr _ _ _ _)

theorem writeLpddr (s : State) (a : Nat) (octs : List Octet) : Accesses s (writeLpddr s a octs) := by
  unfold Machine.writeLpddr
  dsimp only
  split
  · exact setBytes _ _ _
  · split
    · exact (((openBlock s _).trans (setBytes _ _ _)).trans (setMark _ _ _)).trans (closeBlock _ _)
    · exact (openBlock s _).trans (setBytes _ _ _)

/-! ### The weight flash -/

theorem suspendErase (s : State) (bank : Nat) : Accesses s (suspendErase s bank) := by
  unfold Machine.suspendErase
  split
  · exact refl s
  · exact setFlash _ _

theorem checkFlashWord (m : Nat) (s : State) (p : Nat × Mark) : Accesses s (checkFlashWord m s p) := by
  unfold Machine.checkFlashWord
  split
  · exact (bumpBy _ _ _ _ _).trans (error _ _)
  · exact (bumpBy _ _ _ _ _).trans (sourceError _ _ _ _)

theorem checkFlash (m : Nat) (s : State) (a n : Nat) : Accesses s (checkFlash m s a n) := foldl (checkFlashWord m) _ s

theorem expandFlash (q : Query) (s : State) (block lta a n : Nat) : Accesses s (expandFlash q s block lta a n).1 := by
  unfold Machine.expandFlash
  split
  · exact setTiers _ _
  · split
    · exact checkFlash _ _ _ _
    · dsimp only
      split
      · exact (checkFlash _ _ _ _).trans (countBursts _ _ _)
      · split
        · exact damaged _ _ _ _ _
        · split
          · exact (checkFlash _ _ _ _).trans (countBursts _ _ _)
          · split
            · exact ((checkFlash _ _ _ _).trans (countBursts _ _ _)).trans (damaged _ _ _ _ _)
            · exact (((checkFlash _ _ _ _).trans (countBursts _ _ _)).trans (countDecoded _ _)).trans (setTiers _ _)

theorem serveFlash (q : Query) (s : State) (a n : Nat) : Accesses s (serveFlash q s a n).1 := by
  unfold Machine.serveFlash
  dsimp only
  split
  · exact expandFlash _ _ _ _ _ _
  · exact (checkFlash _ _ _ _).trans (countBursts _ _ _)

theorem suspendNeeds (q : Query) (needs : List Nat) (s : State) : Accesses s (suspendNeeds q needs s) := by
  refine foldl (fun s a => ?_) _ s
  split
  · exact suspendErase _ _
  · exact refl s

theorem readFlash (q : Query) (s : State) (a n : Nat) : Accesses s (readFlash q s a n).1 := by
  unfold Machine.readFlash
  dsimp only
  split
  · dsimp only
    exact (bump _ _ _).trans (accessError _ _ _ _)
  · split
    · exact noteSource _ _
    · split
      · exact refl s
      · exact refl s
      · exact (suspendNeeds _ _ _).trans (serveFlash _ _ _ _)

/-! ### The host window -/

theorem expandWindow (q : Query) (s : State) (e : WindowEntry) (i a n : Nat) : Accesses s (expandWindow q s e i a n).1 := by
  unfold Machine.expandWindow
  dsimp only
  split
  · exact setTiers _ _
  · split
    · exact sourceError _ _ _ _
    · split
      · split
        · exact countBursts _ _ _
        · exact (countBursts _ _ _).trans (sourceError _ _ _ _)
      · split
        · exact damaged _ _ _ _ _
        · split
          · exact (countBursts _ _ _).trans (sourceError _ _ _ _)
          · split
            · exact (countBursts _ _ _).trans (damaged _ _ _ _ _)
            · exact ((countBursts _ _ _).trans (countDecoded _ _)).trans (setTiers _ _)

theorem readWindow (q : Query) (s : State) (i a n : Nat) : Accesses s (readWindow q s i a n).1 := by
  unfold Machine.readWindow
  split
  · exact refl s
  · split
    · exact expandWindow _ _ _ _ _ _
    · dsimp only
      split
      · exact refl s
      · exact sourceError _ _ _ _

/-! ### Lines and ranges -/

theorem readLine (q : Query) (s : State) (a n : Nat) : Accesses s (readLine q s a n).1 := by
  unfold Machine.readLine
  split
  · dsimp only
    exact accessError _ _ _ _
  · split
    · exact refuseLine _ _ _
    · split
      · split
        · exact readLpddr _ _ _ _
        · exact refuseLine _ _ _
      · exact readFlash _ _ _ _
      · exact readWindow _ _ _ _ _
      · exact refl s
      · exact readHold _ _ _ _

theorem storeLine (q : Query) (s : State) (a : Nat) (octs : List Octet) : Accesses s (storeLine q s a octs) := by
  unfold Machine.storeLine
  split
  · exact writeLpddr _ _ _
  · exact writeHold _ _ _ _

theorem storeBoth (q : Query) (s : State) (a : Nat) (octs : List Octet) : Accesses s (storeBoth q s a octs) := by
  unfold Machine.storeBoth
  split
  · exact (storeLine _ _ _ _).trans (storeLine _ _ _ _)
  · exact storeLine _ _ _ _

theorem writeLine (q : Query) (s : State) (a : Nat) (octs : List Octet) : Accesses s (writeLine q s a octs).1 := by
  have herror : ∀ cls, Accesses s (Machine.accessError cls q.master a s) := fun cls => accessError _ _ _ _
  unfold Machine.writeLine
  split
  · exact herror 9
  · split
    · exact refuseLine _ _ _
    · split
      · exact herror 10
      · exact herror 10
      · exact refl s
      · split
        · exact storeBoth _ _ _ _
        · exact refuseLine _ _ _

theorem clearFullBlocks (s : State) (a : Nat) (octs : List Octet) : Accesses s (clearFullBlocks s a octs) := by
  refine foldl (fun s p => ?_) _ s
  split
  · refine foldl (fun s b => ?_) _ s
    unfold clearBlock
    split
    · exact setMark _ _ _
    · exact refl s
  · exact refl s

theorem memRead (q : Query) (s : State) (a n : Nat) : Accesses s (memRead q s a n).1 := by
  refine foldl_fst (fun p x => ?_) (linesOf a n) (s, [], Note.ok)
  exact readLine q p.1 x.1 x.2

theorem memWrite (q : Query) (s : State) (a : Nat) (octs : List Octet) : Accesses s (memWrite q s a octs).1 := by
  have hlines := foldl_fst (f := fun (acc : State × Note) p =>
    let w := Machine.writeLine q acc.1 p.1 ((octs.drop (p.1 - a)).take p.2)
    (w.1, acc.2.first w.2)) (fun p x => writeLine q p.1 _ _) (linesOf a octs.length) (s, .ok)
  unfold Machine.memWrite
  dsimp only
  split
  · exact hlines.trans (clearFullBlocks _ _ _)
  · exact hlines

theorem poke (s : State) (a : Nat) (bs : Bytes) : Accesses s (poke s a bs) := memWrite _ _ _ _

theorem planeWrite (s : State) (a : Nat) (octs : List Octet) : Accesses s (planeWrite s a octs) := writeHold _ _ _ _

theorem planeRead (s : State) (a n : Nat) : Accesses s (planeRead s a n).1 := readHold _ _ _ _

theorem headPart (s : State) (slot off n : Nat) : Accesses s (headPart s slot off n).1 := by
  unfold Machine.headPart
  dsimp only
  split
  · exact checkFlash _ _ _ _
  · exact memRead _ _ _ _

/-! ### What accesses leave -/

theorem serving_eq (h : Accesses s u) : u.serving = s.serving := by
  obtain ⟨_, _, _, _, _, _, _, _, rfl⟩ := h.shape
  rfl

theorem decks_eq (h : Accesses s u) : u.decks = s.decks := by
  obtain ⟨_, _, _, _, _, _, _, _, rfl⟩ := h.shape
  rfl

theorem images_eq (h : Accesses s u) : u.images = s.images := by
  obtain ⟨_, _, _, _, _, _, _, _, rfl⟩ := h.shape
  rfl

end Accesses

end Sys2Proof.Machine
end

section
/-! SUPPORT and PROOFS. The layers of a turn and their routing (R213, R280). -/

namespace Sys2Proof.Machine

open Sys2Proof.Claims

/-! ### What dispatching leaves of the turn -/

/-- The turn of `u` is that of `s` at the same place of the layer table, in the same attempt and with the same batch. -/
def SamePlace (s u : State) : Prop :=
  ∀ t, s.turn = some t → ∃ v, u.turn = some v ∧ v.next = t.next ∧ v.attempt = t.attempt ∧ v.batch = t.batch

namespace SamePlace

variable {s t u : State}

theorem of_turn_eq (h : u.turn = s.turn) : SamePlace s u := fun t ht => ⟨t, h.trans ht, rfl, rfl, rfl⟩

theorem trans (h : SamePlace s t) (h' : SamePlace t u) : SamePlace s u := by
  intro x hx
  obtain ⟨v, hv, hnext, hattempt, hbatch⟩ := h x hx
  obtain ⟨w, hw, hnext', hattempt', hbatch'⟩ := h' v hv
  exact ⟨w, hw, hnext'.trans hnext, hattempt'.trans hattempt, hbatch'.trans hbatch⟩

theorem of_accesses (h : Accesses s u) : SamePlace s u := by
  intro t ht
  obtain ⟨met, noted, hturn⟩ := h.turn
  exact ⟨{ t with metNow := met t, journalled := noted t }, by rw [hturn, ht]; rfl, rfl, rfl, rfl⟩

theorem modTurn (s : State) {f : Turn → Turn} (hnext : ∀ t, (f t).next = t.next) (hattempt : ∀ t, (f t).attempt = t.attempt)
    (hbatch : ∀ t, (f t).batch = t.batch) : SamePlace s (modTurn s f) := by
  intro t ht
  exact ⟨f t, by simp only [Machine.modTurn, ht, Option.map_some], hnext t, hattempt t, hbatch t⟩

theorem failAttempt (r : FailReason) (s : State) : SamePlace s (failAttempt r s) :=
  modTurn s (fun t => by split <;> rfl) (fun t => by split <;> rfl) (fun t => by split <;> rfl)

end SamePlace

theorem loadCode_accesses (k : Fin 16) (slot : Nat) (s : State) : Accesses s (loadCode k slot s).1 := by
  unfold loadCode
  split
  · exact .refl s
  · split
    · exact .refl s
    · dsimp only
      split
      · exact .headPart _ _ _ _
      · exact (Accesses.headPart _ _ _ _).trans (.poke _ _ _)

theorem armDeck_turn (k : Fin 16) (s : State) : (armDeck k s).turn = s.turn := by
  unfold armDeck
  dsimp only
  split
  · split
    · rfl
    · split <;> rfl
  · rfl

theorem startLogical_samePlace (t : Turn) (e : LayerEntry) (s : State) (p : Nat × Nat) :
    SamePlace s (startLogical t e s p) := by
  unfold startLogical
  split
  next h =>
    dsimp only
    refine (SamePlace.of_accesses (loadCode_accesses ⟨p.2, h⟩ t.slot s)).trans ?_
    split
    · exact (SamePlace.failAttempt _ _).trans (.modTurn _ (fun _ => rfl) (fun _ => rfl) fun _ => rfl)
    · refine SamePlace.trans (.of_turn_eq ?_) (.modTurn _ (fun _ => rfl) (fun _ => rfl) fun _ => rfl)
      exact armDeck_turn _ _
  next => exact .of_turn_eq rfl

theorem startQueued_samePlace (s : State) : SamePlace s (startQueued s) := by
  unfold startQueued
  split
  · exact .of_turn_eq rfl
  · split
    · exact .of_turn_eq rfl
    · exact List.foldlRecOn (motive := SamePlace s) _ _ (.of_turn_eq rfl) fun u hu p _ =>
        hu.trans (startLogical_samePlace _ _ u p)

/-! ### LAYER_DISPATCH (R213) -/

section Dispatch

variable {s : State} {t : Turn}

theorem exec_layerDispatch_of_between (h : Claims.between s t) : exec .layerDispatch s = .next (if t.routeDue then s else
    match nextEntryOf s t with
    | some p => dispatchEntry t p s
    | none => s) := by
  obtain ⟨hturn, hrunning, hinputs, hreported, hfailing, hbusy, hqueued⟩ := h
  simp only [exec, execLayerDispatch, hturn, attemptRuns, hrunning, hinputs, hreported, hfailing, hbusy, hqueued,
    Option.isNone_none, Bool.not_false, Bool.and_self, Bool.not_true, Bool.false_eq_true, if_false, ne_eq,
    not_true_eq_false, false_or]
  split
  · rfl
  · cases nextEntryOf s t <;> rfl

theorem le_of_nextEntryOf {e : LayerEntry} {i : Nat} (h : nextEntryOf s t = some (e, i)) : t.next ≤ i := by
  have hfound := List.find?_some h
  simp only [Bool.and_eq_true, decide_eq_true_eq] at hfound
  exact hfound.1

/-- An entry whose decks are assigned is the one after which the next is looked for. -/
theorem dispatchEntry_turn (hturn : s.turn = some t) (hnext : 0 < t.next) {e : LayerEntry} (i : Nat)
    (hassigned : assignment s e.decks (excludedNow s) ≠ []) :
    ∃ v, (dispatchEntry t (e, i) s).turn = some v ∧ v.next = i + 1 ∧ v.attempt = t.attempt ∧ v.batch = t.batch := by
  have hmod : ∀ f : Turn → Turn, (modTurn s f).turn = some (f t) := fun f => congrArg (Option.map f) hturn
  simp only [dispatchEntry, if_neg (Nat.pos_iff_ne_zero.1 hnext), if_neg hassigned]
  exact startQueued_samePlace _ _ (hmod _)

end Dispatch

/-! ### ROUTING_STEP (R280) -/

theorem chooseRow_accesses (e : ExpertEntry) (bias : List Nat) (s : State) (r : RouteRow) :
    Accesses s (chooseRow e bias s r).1 := by
  unfold chooseRow
  dsimp only
  split
  · exact (Accesses.planeRead _ _ _).trans (.draw _)
  · exact .planeRead _ _ _

/-- A routing step keeps one routing more. -/
theorem routeLayer_turn {s : State} {t : Turn} (hturn : s.turn = some t) (e : ExpertEntry) :
    ∃ v, (routeLayer e t s).turn = some v ∧ v.routeDue = false ∧ v.routings.length = t.routings.length + 1 ∧
      v.next = t.next ∧ (routeLayer e t s).serving = s.serving := by
  unfold routeLayer
  dsimp only
  generalize hchosen : (routedRows t.batch).foldl (fun acc r =>
    ((chooseRow e (biasInForce s t.slot e) acc.1 r).1, acc.2 ++ [(chooseRow e (biasInForce s t.slot e) acc.1 r).2]))
    (s, ([] : List Choice)) = chosen
  have hrows : Accesses s chosen.1 := hchosen ▸ Accesses.foldl_fst (α := List Choice) (fun p r => chooseRow_accesses e _ p.1 r) _ (s, [])
  generalize dispatchTable _ _ _ _ _ = table
  have haccess := hrows.trans (.planeWrite chosen.1 (actBase s + e.tableOffset) table)
  obtain ⟨met, noted, hturn'⟩ := haccess.turn
  have hserving := haccess.serving_eq
  unfold failPoisoned
  split <;> simp only [failAttempt, modTurn, hturn', hturn, Option.map_some]
  · split <;> exact ⟨_, rfl, rfl, List.length_append, rfl, hserving⟩
  · exact ⟨_, rfl, rfl, List.length_append, rfl, hserving⟩

theorem exec_routingStep_of_between {s : State} {t : Turn} (h : Claims.between s t) (hdue : t.routeDue = true) {e : ExpertEntry}
    (he : dueExpert s t = some e) : exec .routingStep s = .next (routeLayer e t s) := by
  obtain ⟨hturn, hrunning, hinputs, hreported, hfailing, hbusy, hqueued⟩ := h
  simp only [exec, execRoutingStep, hturn, hdue, hbusy, hqueued, hfailing, hrunning, and_self, if_true, he]

/-- Settles O15. -/
theorem layersAndRouting : Obligations.LayersAndRouting := by
  intro s t
  refine ⟨fun h hroute => ⟨fun e i he => ⟨le_of_nextEntryOf he, ?_, fun hnext hassigned => ?_⟩, fun hnone => ?_⟩,
    fun hturn hrunning hinputs hreported hfailing hqueued => ?_, fun h hroute => ⟨?_, fun e he => ?_⟩⟩
  · simp only [exec_layerDispatch_of_between h, hroute, he, Bool.false_eq_true, if_false]
  · obtain ⟨v, hv⟩ := dispatchEntry_turn h.1 hnext i hassigned
    refine ⟨_, v, ?_, hv⟩
    simp only [exec_layerDispatch_of_between h, hroute, he, Bool.false_eq_true, if_false]
  · simp only [exec_layerDispatch_of_between h, hroute, hnone, Bool.false_eq_true, if_false]
  · simp only [exec, execLayerDispatch, hturn, attemptRuns, hrunning, hinputs, hreported, hfailing, Option.isNone_none,
      Bool.not_false, Bool.and_self, Bool.not_true, Bool.false_eq_true, if_false, if_pos hqueued]
  · simp only [exec_layerDispatch_of_between h, hroute, if_true]
  · obtain ⟨v, hv⟩ := routeLayer_turn h.1 e
    exact ⟨_, v, exec_routingStep_of_between h hroute he, hv⟩

end Sys2Proof.Machine
end

section
/-! SUPPORT and PROOFS. The assignment of rows to experts keeps count (R284, R288). -/

namespace Sys2Proof.Machine

open Sys2Proof.Claims

/-! ### One element of a list changed -/

theorem lmod_eq_modify {α : Type} (l : List α) (n : Nat) (f : α → α) : lmod l n f = l.modify n f := by
  induction l generalizing n with
  | nil => simp [lmod]
  | cons a l ih =>
    cases n with
    | zero => rfl
    | succ n => rw [lmod, List.modify_succ_cons, ih]

/-- A change that adds `k` to a count of one element adds it to the sum. -/
theorem sum_map_modify {α : Type} {count : α → Nat} {f : α → α} {k : Nat} (hf : ∀ x, count (f x) = count x + k)
    {l : List α} {n : Nat} (hn : n < l.length) : ((l.modify n f).map count).sum = (l.map count).sum + k := by
  induction l generalizing n with
  | nil => exact absurd hn (Nat.not_lt_zero n)
  | cons a l ih =>
    cases n with
    | zero => rw [List.modify_zero_cons, List.map_cons, List.map_cons, List.sum_cons, List.sum_cons, hf]; omega
    | succ n =>
      rw [List.modify_succ_cons, List.map_cons, List.map_cons, List.sum_cons, List.sum_cons,
        ih (Nat.lt_of_succ_lt_succ hn)]
      omega

/-- What holds of each pair of elements at the same place holds after the elements at one place have changed, if it holds
of these. -/
theorem each_modify {α β : Type} {P : α → β → Prop} {l : List α} {m : List β} {n : Nat} {f : α → α} {g : β → β}
    (h : ∀ (x : Nat) a b, l[x]? = some a → m[x]? = some b → P a b)
    (hn : ∀ a b, l[n]? = some a → m[n]? = some b → P a b → P (f a) (g b)) (x : Nat) (a : α) (b : β)
    (ha : (l.modify n f)[x]? = some a) (hb : (m.modify n g)[x]? = some b) : P a b := by
  rw [List.getElem?_modify] at ha hb
  obtain ⟨a', ha', rfl⟩ := Option.map_eq_some_iff.1 ha
  obtain ⟨b', hb', rfl⟩ := Option.map_eq_some_iff.1 hb
  by_cases hx : n = x
  · subst hx
    rw [if_pos rfl, if_pos rfl]
    exact hn a' b' ha' hb' (h n a' b' ha' hb')
  · rw [if_neg hx, if_neg hx]
    exact h x a' b' ha' hb'

/-! ### The count kept -/

/-- An expert's group and its counters agree: each assignment is a slot or dropped, and what the group holds beyond the
capacity came from the pool. -/
def Agrees (capacity : Nat) (g : List RouteSlot) (n : GroupCount) : Prop :=
  g.length + n.dropped = n.assigned ∧ n.overflow = g.length - capacity

/-- After `k` assignments to experts of an entry. -/
structure Counted (e : ExpertEntry) (k : Nat) (a : Assigning) : Prop where
  groups : a.groups.length = e.experts
  counts : a.counts.length = e.experts
  each : ∀ (x : Nat) g n, a.groups[x]? = some g → a.counts[x]? = some n → Agrees e.capacity g n
  pool : (a.counts.map (·.overflow)).sum = a.poolUsed
  within : a.poolUsed ≤ e.pool
  total : (a.counts.map (·.assigned)).sum = k
  room : a.poolUsed < e.pool → (a.counts.map (·.dropped)).sum = 0

theorem counted_start (e : ExpertEntry) :
    Counted e 0 ⟨List.replicate e.experts [], List.replicate e.experts ⟨0, 0, 0, 0⟩, 0⟩ where
  groups := List.length_replicate
  counts := List.length_replicate
  each x g n hg hn := by
    obtain ⟨-, rfl⟩ := List.getElem?_eq_some_iff.1 hg
    obtain ⟨-, rfl⟩ := List.getElem?_eq_some_iff.1 hn
    simp [Agrees]
  pool := by simp
  within := Nat.zero_le _
  total := by simp
  room _ := by simp

/-- One more assignment, to an expert that there is. -/
theorem Counted.assignOne {e : ExpertEntry} {k : Nat} {a : Assigning} (h : Counted e k a) (c : Choice) (rank : Nat)
    (hx : (c.experts[rank]?).getD 0 < e.experts) : Counted e (k + 1) (assignOne e c a rank) := by
  unfold Machine.assignOne
  simp only [lmod_eq_modify, List.modify_modify_eq]
  generalize (c.experts[rank]?).getD 0 = x at hx
  have hxc : x < a.counts.length := h.counts.symm ▸ hx
  have hheld : ∀ g : List RouteSlot, a.groups[x]? = some g → ((a.groups[x]?).getD []).length = g.length :=
    fun g hg => by rw [hg]; rfl
  generalize ((a.groups[x]?).getD []).length = held at hheld
  split
  next hfits =>
    refine ⟨(List.length_modify ..).trans h.groups, (List.length_modify ..).trans h.counts,
      each_modify h.each fun g n hg _ ⟨hkept, hover⟩ => ?_, ?_, h.within, ?_, fun hroom => ?_⟩
    · have hlen := hheld g hg
      refine ⟨?_, ?_⟩
      · simp only [List.length_append, List.length_singleton]; omega
      · simp only [List.length_append, List.length_singleton]; omega
    · exact Eq.trans (sum_map_modify (k := 0) (by intro; rfl) hxc) h.pool
    · exact Eq.trans (sum_map_modify (k := 1) (by intro; rfl) hxc) (congrArg (· + 1) h.total)
    · exact Eq.trans (sum_map_modify (k := 0) (by intro; rfl) hxc) (h.room hroom)
  next hfull =>
    split
    next hpool =>
      refine ⟨(List.length_modify ..).trans h.groups, (List.length_modify ..).trans h.counts,
        each_modify h.each fun g n hg _ ⟨hkept, hover⟩ => ?_, ?_, hpool, ?_, fun _ => ?_⟩
      · have hlen := hheld g hg
        refine ⟨?_, ?_⟩
        · simp only [Function.comp_apply, List.length_append, List.length_singleton]; omega
        · simp only [Function.comp_apply, List.length_append, List.length_singleton]; omega
      · exact Eq.trans (sum_map_modify (k := 1) (by intro; rfl) hxc) (congrArg (· + 1) h.pool)
      · exact Eq.trans (sum_map_modify (k := 1) (by intro; rfl) hxc) (congrArg (· + 1) h.total)
      · exact Eq.trans (sum_map_modify (k := 0) (by intro; rfl) hxc) (h.room hpool)
    next hpool =>
      have heach := each_modify (f := id) (g := fun n : GroupCount =>
          { n with assigned := n.assigned + 1, dropped := n.dropped + 1 }) (n := x) h.each
        fun g n _ _ ⟨hkept, hover⟩ => ⟨by simp only [id_eq]; omega, hover⟩
      rw [List.modify_id] at heach
      refine ⟨h.groups, (List.length_modify ..).trans h.counts, heach, ?_, h.within, ?_, fun hroom => absurd hroom hpool⟩
      · exact Eq.trans (sum_map_modify (k := 0) (by intro; rfl) hxc) h.pool
      · exact Eq.trans (sum_map_modify (k := 1) (by intro; rfl) hxc) (congrArg (· + 1) h.total)

/-- Every rank of a row is assigned. -/
theorem Counted.assignRow {e : ExpertEntry} {c : Choice} (hc : ∀ rank < e.topK, (c.experts[rank]?).getD 0 < e.experts)
    {k : Nat} {a : Assigning} (h : Counted e k a) {n : Nat} (hn : n ≤ e.topK) :
    Counted e (k + n) ((List.range n).foldl (Machine.assignOne e c) a) := by
  induction n with
  | zero => exact h
  | succ n ih =>
    rw [List.range_succ, List.foldl_append]
    exact (ih (Nat.le_of_succ_le hn)).assignOne c n (hc n hn)

theorem counted_assignRows {e : ExpertEntry} {choices : List Choice}
    (hchoices : ∀ c ∈ choices, ∀ rank < e.topK, (c.experts[rank]?).getD 0 < e.experts) :
    Counted e (choices.length * e.topK) (assignRows e choices) := by
  have hfold : ∀ {l : List Choice} {k : Nat} {a : Assigning},
      (∀ c ∈ l, ∀ rank < e.topK, (c.experts[rank]?).getD 0 < e.experts) → Counted e k a →
      Counted e (k + l.length * e.topK) (l.foldl (fun a c => (List.range e.topK).foldl (Machine.assignOne e c) a) a) := by
    intro l
    induction l with
    | nil => intro k a _ h; simpa using h
    | cons c l ih =>
      intro k a hl h
      have hrow := h.assignRow (hl c List.mem_cons_self) le_rfl
      have hrest := ih (fun c' hc' => hl c' (List.mem_cons_of_mem _ hc')) hrow
      rwa [List.length_cons, Nat.succ_mul, Nat.add_comm (l.length * e.topK), ← Nat.add_assoc]
  simpa [assignRows] using hfold hchoices (counted_start e)

/-- Settles O16. -/
theorem assignmentsAreCounted : Obligations.AssignmentsAreCounted := by
  intro e choices hchoices a
  have h : Counted e (choices.length * e.topK) a := counted_assignRows hchoices
  refine ⟨fun x hx => ?_, h.pool, h.within, h.total, h.room⟩
  have hg : a.groups[x]? = some (a.groups[x]'(h.groups.symm ▸ hx)) := List.getElem?_eq_getElem _
  have hn : a.counts[x]? = some (a.counts[x]'(h.counts.symm ▸ hx)) := List.getElem?_eq_getElem _
  obtain ⟨hkept, hover⟩ := h.each x _ _ hg hn
  exact ⟨_, _, hg, hn, hkept, by omega, fun hpos => by omega⟩

end Sys2Proof.Machine
end

section
/-! SUPPORT and PROOFS. Settings of the KV cache and the experts (R265, R278, R290, R292, R311). -/

namespace Sys2Proof.Machine

open Sys2Proof.Claims

section Settings

variable {ch : Channel} {val : Bytes} {s : State}

/-! ### Partitions and quotas of the KV cache (R265, R278) -/

theorem applyPartitionSets_of_used {slot : Nat} (h : slotInUse s slot = true) :
    applyPartitionSets slot val s = .done abNotIdle s := by
  unfold applyPartitionSets
  exact guarded_of_firstFail _ s (by rw [h, Bool.not_true, firstFail_cons_false])

/-- What a partition must meet beside its slot's being free. -/
theorem applyPartitionSets_of_unfit {slot sum : Nat}
    (hsum : sum = ((List.range 8).map (fun i => if i = slot then 0 else s.val 0x2900 (i + 1))).sum + leNat val)
    (hfree : slotInUse s slot = false)
    (h : imageState s slot ≠ .ready ∨ 2097152 < sum ∨ partitionFits s slot (leNat val) = false) :
    applyPartitionSets slot val s = .done abInconsistent s := by
  unfold applyPartitionSets
  refine guarded_of_firstFail _ s ?_
  simp only [hfree, ← hsum, Bool.not_false, firstFail_cons_true]
  by_cases hready : imageState s slot = .ready
  · by_cases hle : sum ≤ 2097152
    · have hfits : partitionFits s slot (leNat val) = false := by
        obtain h | h | h := h
        · exact absurd hready h
        · omega
        · exact h
      simp only [decide_eq_true hready, decide_eq_true hle, hfits, firstFail_cons_true, firstFail_cons_false]
    · simp only [decide_eq_true hready, decide_eq_false hle, firstFail_cons_true, firstFail_cons_false]
  · simp only [decide_eq_false hready, firstFail_cons_false]

theorem applyPartitionSets_of_fits {slot sum : Nat}
    (hsum : sum = ((List.range 8).map (fun i => if i = slot then 0 else s.val 0x2900 (i + 1))).sum + leNat val)
    (hfree : slotInUse s slot = false) (hready : imageState s slot = .ready) (hle : sum ≤ 2097152)
    (hfits : partitionFits s slot (leNat val) = true) :
    applyPartitionSets slot val s
      = .done 0 (copyToStages slot 0x2900 (slot + 1) val (placePartition s slot (leNat val))) := by
  unfold applyPartitionSets
  exact guarded_of_passes _ s (by
    simp only [hfree, ← hsum, decide_eq_true hready, decide_eq_true hle, hfits, Bool.not_false, firstFail_cons_true,
      firstFail_nil])

theorem applyKvQuota_of_fits {t : Nat} (h : quotaPages (s.setVal 0x2903 (t + 1) (leNat val)) ≤ allPages s) :
    applyKvQuota t val s = .done 0 (copyToMembers 0x2903 (t + 1) val (evictForQuota t 0 s.kv.sets.length
      (s.setVal 0x2903 (t + 1) (leNat val)))) := by
  unfold applyKvQuota
  exact guarded_of_passes _ s (by simp only [decide_eq_true h, firstFail_cons_true, firstFail_nil])

theorem applyKvQuota_of_exceeds {t : Nat} (h : allPages s < quotaPages (s.setVal 0x2903 (t + 1) (leNat val))) :
    applyKvQuota t val s = .done abInconsistent s := by
  unfold applyKvQuota
  exact guarded_of_firstFail _ s (by simp only [decide_eq_false (Nat.not_le.2 h), firstFail_cons_false])

/-! ### The record ring and the biases of the experts (R290, R292) -/

theorem applyRingSize_of_fits (hle : leNat val ≤ 65536)
    (hfits : tierCharge (s.setVal 0x2A01 1 (leNat val)) 1 0xFF ≤ tierQuota s 1 0xFF) :
    applyRingSize val s
      = .done 0 { s.setVal 0x2A01 1 (leNat val) with experts := { s.experts with records := [] } } := by
  have hquota : tierQuota (s.setVal 0x2A01 1 (leNat val)) 1 0xFF = tierQuota s 1 0xFF := by
    simp only [tierQuota, if_true]
    exact val_setVal_of_ne _ _ _ _ _ _ (by decide)
  unfold applyRingSize
  exact guarded_of_passes _ s (by
    simp only [decide_eq_true hle, hquota, decide_eq_true hfits, firstFail_cons_true, firstFail_nil])

theorem applyRingSize_of_large (h : 65536 < leNat val) : applyRingSize val s = .done abRange s := by
  unfold applyRingSize
  exact guarded_of_firstFail _ s (by simp only [decide_eq_false (Nat.not_le.2 h), firstFail_cons_false])

/-- A bias vector of the layer's length, each of its values finite and within the limit. -/
theorem applyExpert_of_biases {layer : Nat} {x : ExpertLayer}
    (hx : expertLayer s (s.sel ch 0x2A00 1) layer = some x) (hlength : val.length = 4 * x.bias.length)
    (hvalues : ∀ i < val.length / 4, isFinite fp32 (fld val (4 * i) 4) = true ∧
      flt fp32 (limitAhead s (s.sel ch 0x2A00 1, layer)) (fabs fp32 (fld val (4 * i) 4)) = false) :
    applyExpert ch 0x2A14 (layer + 1) val s = .done 0 { s with experts := { s.experts with
      changes := s.experts.changes ++ [((s.sel ch 0x2A00 1, layer),
        .bias ((List.range (val.length / 4)).map (fun i => BitVec.ofNat 32 (fld val (4 * i) 4))))] } } := by
  have hgood : ((List.range (val.length / 4)).map (fun i => fld val (4 * i) 4)).all (fun w =>
      isFinite fp32 w && !flt fp32 (limitAhead s (s.sel ch 0x2A00 1, layer)) (fabs fp32 w)) = true := by
    refine List.all_eq_true.2 fun w hw => ?_
    obtain ⟨i, hi, rfl⟩ := List.mem_map.1 hw
    obtain ⟨hfinite, hlimit⟩ := hvalues i (List.mem_range.1 hi)
    rw [hfinite, hlimit]
    rfl
  simp only [applyExpert, Nat.add_sub_cancel, hx]
  exact guarded_of_passes _ s (by
    simp only [expertChecks, decide_eq_true hlength, hgood, firstFail_cons_true, firstFail_nil])

end Settings

/-- Settles O17. -/
theorem kvAndExpertSettings : Obligations.KvAndExpertSettings := by
  intro ch val s
  refine ⟨fun slot sum hsum => ⟨fun hused => ?_, fun hfree => ⟨fun hunfit => ?_, fun hready hle hfits => ?_⟩⟩,
    fun t hfits => ?_, fun t hexceeds => ?_, fun hle hfits => ?_, fun hlarge => ?_,
    fun layer x hx _ hlength hvalues => ?_⟩
  · exact turnedDown_of_done rfl rfl (applyPartitionSets_of_used hused)
  · exact turnedDown_of_done rfl rfl (applyPartitionSets_of_unfit hsum hfree hunfit)
  · exact accepted_of_done rfl rfl (applyPartitionSets_of_fits hsum hfree hready hle hfits)
  · exact accepted_of_done rfl rfl (applyKvQuota_of_fits hfits)
  · exact turnedDown_of_done rfl rfl (applyKvQuota_of_exceeds hexceeds)
  · exact accepted_of_done rfl rfl (applyRingSize_of_fits hle hfits)
  · exact turnedDown_of_done rfl rfl (applyRingSize_of_large hlarge)
  · exact accepted_of_done rfl rfl (applyExpert_of_biases hx hlength hvalues)

end Sys2Proof.Machine
end

section
/-! SUPPORT and PROOFS. Image commands and how they end (R214 to R227). -/

namespace Sys2Proof.Machine

open Sys2Proof.Claims

/-! ### What leaves the image table -/

theorem Sends.feedBroadcast : ∀ (n : Nat) (s : State), Sends s (feedBroadcast n s)
  | 0, s => refl s
  | n + 1, s => by
    unfold Machine.feedBroadcast
    split
    · exact refl s
    · split
      · exact refl s
      · exact ((setFerry _ _).trans (queueTo _ _ _ _)).trans (feedBroadcast n _)

theorem Sends.sendBroadcast (s : State) (kind cls flags context : Nat) (payload : Bytes) :
    Sends s (sendBroadcast s kind cls flags context payload) :=
  (setFerry _ _).trans (feedBroadcast _ _)

theorem Sends.images_eq {s t : State} (h : Sends s t) : t.images = s.images := by
  obtain ⟨_, _, rfl⟩ := h
  rfl

@[simp] theorem sendDict_images (s : State) (node : Nat) (frame : Bytes) : (sendDict s node frame).images = s.images := by
  unfold sendDict
  split
  · rfl
  · rw [State.draw_images]
    split
    · exact (Sends.sendSlow _ _ _).images_eq
    · exact (Sends.sendTo _ _ _ _ _ _ _).images_eq

@[simp] theorem memberWrite_images (s : State) (node idx sub : Nat) (domain : Bool) (val : Bytes) :
    (memberWrite s node idx sub domain val).images = s.images := by
  unfold memberWrite
  dsimp only
  split
  · exact foldl_keeps State.images (fun _ _ => sendDict_images _ _ _) _ _
  · exact sendDict_images _ _ _

@[simp] theorem commandMembers_images (s : State) (j : ImageJob) : (commandMembers s j).images = s.images :=
  foldl_keeps State.images (fun _ _ => memberWrite_images _ _ _ _ _ _) _ _

@[simp] theorem windowRead_images (s : State) (a n : Nat) : (windowRead s a n).1.images = s.images := by
  refine foldl_keeps (fun p : State × List Octet => p.1.images) (fun p x => ?_) _ _
  split
  · exact (Accesses.readLine _ _ _ _).images_eq
  · exact (Accesses.accessError _ _ _ _).images_eq

@[simp] theorem containerRead_images (s : State) (source address : Nat) (pieces : List (Nat × List Octet)) (off n : Nat) :
    (containerRead s source address pieces off n).1.images = s.images := by
  unfold containerRead
  split
  · exact windowRead_images _ _ _
  · rfl

@[simp] theorem fetchTensor_images (s : State) (j : ImageJob) (h : Head) (t : TensorEntry) :
    (fetchTensor s j h t).1.images = s.images := by
  unfold fetchTensor
  refine (foldl_keeps (fun p : State × List CastPart => p.1.images) (fun p x => ?_) _ _).trans ?_
  · dsimp only
    split
    · rfl
    · exact containerRead_images _ _ _ _ _ _
  · exact containerRead_images _ _ _ _ _ _

@[simp] theorem fetchContainer_images (s : State) (j : ImageJob) (h : Head) : (fetchContainer s j h).1.images = s.images := by
  refine foldl_keeps (fun p : State × List CastPart => p.1.images) (fun p t => ?_) _ _
  exact fetchTensor_images p.1 j h t

@[simp] theorem castPart_images (slot : Nat) (last : Bool) (s : State) (c : CastPart) :
    (castPart slot last s c).images = s.images := by
  unfold castPart
  split
  · rfl
  · exact foldl_keeps State.images (fun _ _ => (Sends.sendBroadcast _ _ _ _ _ _).images_eq) _ _

@[simp] theorem castParts_images (slot : Nat) (l : List CastPart) (s : State) : (castParts slot l s).images = s.images :=
  foldl_keeps State.images (fun _ _ => castPart_images _ _ _ _) _ _

@[simp] theorem broadcastContainer_images (s : State) (j : ImageJob) (h : Head) :
    (broadcastContainer s j h).1.images = s.images := by
  unfold broadcastContainer
  split
  · rfl
  · split
    · exact (castParts_images _ _ _).trans (fetchContainer_images _ _ _)
    · exact castParts_images _ _ _

/-! ### What a slot gives back -/

@[simp] theorem zeroRange_images (s : State) (a n : Nat) : (zeroRange s a n).images = s.images := rfl

@[simp] theorem freeSet_images (s : State) (slot n : Nat) : (freeSet s slot n).images = s.images := rfl

@[simp] theorem orphanSets_images (s : State) (sets : List (Nat × Nat)) : (orphanSets s sets).images = s.images := by
  refine foldl_keeps State.images (fun s k => ?_) _ _
  split
  · split <;> rfl
  · rfl

@[simp] theorem withdraw_images (s : State) (p : Node → Bool) : (withdraw s p).images = s.images :=
  orphanSets_images _ _

@[simp] theorem placePartition_images (s : State) (slot sets : Nat) : (placePartition s slot sets).images = s.images := by
  have hwithdraw : (withdrawSlot s slot).images = s.images := withdraw_images s _
  unfold placePartition
  dsimp only
  split
  · split <;> simp only [zeroRange_images, State.setVal_images, State.setKv_images, hwithdraw]
  · simp only [State.setVal_images, State.setKv_images, hwithdraw]

@[simp] theorem releaseSealed_images (s : State) (i : Nat) : (releaseSealed s i).images = s.images := by
  unfold releaseSealed
  split <;> rfl

@[simp] theorem freePlace_images (s : State) (p : Nat × Nat × Nat) : (freePlace s p).images = s.images := by
  unfold freePlace
  dsimp only
  split
  · split
    · exact releaseSealed_images _ _
    · rfl
  · rfl

@[simp] theorem freeCopies_images (s : State) (t : Tensor) : (freeCopies s t).images = s.images := by
  unfold freeCopies
  cases t.copy0 <;> cases t.copy1 <;> rfl

@[simp] theorem dropImageTensors_images (s : State) (slot : Nat) : (dropImageTensors s slot).images = s.images :=
  foldl_keeps State.images (fun _ _ => freeCopies_images _ _) _ _

@[simp] theorem freeImagePlaces_images (s : State) (slot : Nat) : (freeImagePlaces s slot).images = s.images := by
  have htensors : ∀ (u : State) (l : List (TensorEntry × Nat)), (l.foldl (fun s p =>
      if p.1.weightOnly then s else freePlace s (1, p.2, p.1.blocks * 4096)) u).images = u.images :=
    fun u l => foldl_keeps State.images (fun s p => by split <;> simp) l u
  unfold freeImagePlaces
  dsimp only
  split
  · rfl
  · split
    · rw [freePlace_images, htensors]
      split
      · split <;> simp
      · rfl
    · rw [htensors]
      split
      · split <;> simp
      · rfl

/-! ### The slot of a command -/

theorem imageOf_setImage_self {s : State} {slot : Nat} (h : hasSlot s slot) (f : Image → Image) :
    imageOf (setImage s slot f) slot = f (imageOf s slot) := by
  simp only [imageOf, setImage, State.setImages_images, lmod_eq_modify, List.getElem?_modify, if_true,
    List.getElem?_eq_getElem h, Option.map_eq_map, Option.map_some, Option.getD_some]

theorem hasSlot_setImage {s : State} {slot : Nat} (h : hasSlot s slot) (n : Nat) (f : Image → Image) :
    hasSlot (setImage s n f) slot := by
  simp only [hasSlot, setImage, State.setImages_images, lmod_eq_modify, List.length_modify]
  exact h

theorem hasSlot_of_images_eq {s t : State} {slot : Nat} (h : hasSlot s slot) (heq : t.images = s.images) : hasSlot t slot := by
  rw [hasSlot, heq]
  exact h

theorem hasSlot_vacate {s : State} {slot : Nat} (h : hasSlot s slot) : hasSlot (vacate s slot) slot := by
  have hdrop : hasSlot (dropExperts (placePartition (dropImageTensors s slot) slot 0) slot) slot :=
    hasSlot_of_images_eq h ((placePartition_images _ _ _).trans (dropImageTensors_images _ _))
  unfold vacate
  split
  · exact h
  · refine hasSlot_setImage ?_ _ _
    split
    · exact hasSlot_of_images_eq hdrop (freeImagePlaces_images _ _)
    · exact hdrop

/-- A job begins with the slots as they are. -/
theorem exists_beginJob_images (s : State) (j : ImageJob) (phase : JobPhase) (h : Option Head) :
    ∃ k, (beginJob s j phase h).images = { s.images with job := some k } := by
  unfold beginJob
  cases h with
  | none => exact ⟨_, rfl⟩
  | some h => exact ⟨_, by simp [setJob]; rfl⟩

theorem imageOf_of_images {s t : State} {k : Option ImageJob} (h : t.images = { s.images with job := k }) (slot : Nat) :
    imageOf t slot = imageOf s slot := by
  rw [imageOf, h]
  rfl

theorem placeTensors_images : ∀ {l : List TensorEntry} {a : Nat} {s t : State} {r : List Nat},
    placeTensors l a s = some (t, r) → t.images = s.images
  | [], a, s, t, r, h => by cases h; rfl
  | x :: l, a, s, t, r, h => by
    unfold placeTensors at h
    split at h
    · obtain ⟨p, hp, heq⟩ := Option.map_eq_some_iff.1 h
      cases heq
      exact placeTensors_images hp
    · split at h
      · cases h
      · obtain ⟨p, hp, heq⟩ := Option.map_eq_some_iff.1 h
        cases heq
        have himages := placeTensors_images hp
        exact himages

theorem placeImage_images {s t : State} {h : Head} {l : List Nat} {i : Option Nat} (heq : placeImage s h = some (t, l, i)) :
    t.images = s.images := by
  have hstart : ∀ u a k, (if sealedBytes h = 0 then some (s, 0, none)
      else match findPlace s 1 (sealedBytes h), freeSealed s with
        | some a, some i => some (sealRange (takePlace s 1 a (sealedBytes h)) i a (sealedBytes h), a, some i)
        | _, _ => none) = some (u, a, k) → u.images = s.images := by
    intro u a k hu
    split at hu
    · cases hu; rfl
    · split at hu <;> cases hu
      rfl
  unfold placeImage at heq
  dsimp only at heq
  split at heq
  · cases heq
  next u a k hu =>
    split at heq
    · cases heq
    next v r hv =>
      split at heq
      · cases heq
      · cases heq
        exact (placeTensors_images hv).trans (hstart _ _ _ hu)

section Begin

variable {s : State} {j : ImageJob} (h : Head) (hslot : hasSlot s j.slot)

include hslot

theorem imageOf_beginInstall :
    (imageOf (beginInstall s j h) j.slot).st = .installing ∧ (beginInstall s j h).images.job.isSome = true := by
  have hvacated := hasSlot_vacate hslot
  unfold beginInstall
  dsimp only
  generalize hplaced : (setImage (vacate s j.slot) j.slot fun _ => { Image.reset with
    st := .installing, tier := 2, head := some h, region := j.region, bankFirst := j.bankFirst }).keepTable = u
  obtain ⟨k, hk⟩ := exists_beginJob_images u j .erasing (some h)
  have himages : (flowErases (beginJob u j .erasing (some h)) j.slot j.bankFirst h).images = { u.images with job := some k } := hk
  have hslots : imageOf u j.slot = { Image.reset with
      st := .installing, tier := 2, head := some h, region := j.region, bankFirst := j.bankFirst } := by
    rw [← hplaced]
    exact imageOf_setImage_self hvacated _
  refine ⟨?_, by rw [himages]; rfl⟩
  rw [imageOf_of_images himages, hslots]

theorem imageOf_beginLoad (hplaced : placeImage (vacate s j.slot) h ≠ none) :
    (imageOf (beginLoad s j h) j.slot).st = .loading := by
  obtain ⟨⟨u, bases, i⟩, hu⟩ := Option.ne_none_iff_exists'.1 hplaced
  have hslotU : hasSlot u j.slot := hasSlot_of_images_eq (hasSlot_vacate hslot) (placeImage_images hu)
  simp only [beginLoad, hu]
  obtain ⟨k, hk⟩ := exists_beginJob_images (setImage u j.slot fun _ =>
    { Image.reset with st := .loading, tier := 1, head := some h, bases := bases, sealedIndex := i }) j .loading (some h)
  rw [imageOf_of_images hk, imageOf_setImage_self hslotU]

end Begin

/-! ### Commands (R214, R216, R224 to R227) -/

section Commands

variable {ch : Channel} {val : Bytes} {s : State}

theorem imageChecks_pass {op : Nat} (h : imageCommand s ch val op) :
    firstFail [(decide (val.length = 32), abLength), (s.images.job.isNone, abBusy), (imageCommandForm s val, abMalformed),
      (imageCommandRange val, abRange)] = none := by
  obtain ⟨hlength, hidle, hform, hrange, -, -⟩ := h
  simp only [hlength, hidle, hform, hrange, Option.isNone_none, decide_true, firstFail_cons_true, firstFail_nil]

/-- An INSTALL or LOAD from the host window starts at once. -/
theorem imageOp_of_source {op : Nat} (h : imageCommand s ch val op) (hop : op = 1 ∨ op = 2) :
    imageOp op ch val s = startImage (jobOf ch val) s := by
  have hpass := imageChecks_pass h
  obtain ⟨-, -, -, -, hfld, hsource⟩ := h
  unfold imageOp applyImageCommand
  rw [if_neg fun hne => hne.2 hfld, guarded_of_passes _ _ hpass]
  obtain rfl | rfl := hop <;> simp only [hfld, applySource, hsource, if_true]

theorem imageOp_of_remove (h : imageCommand s ch val 3) : imageOp 3 ch val s = applyRemove ch val s := by
  have hpass := imageChecks_pass h
  obtain ⟨-, -, -, -, hfld, -⟩ := h
  unfold imageOp applyImageCommand
  rw [if_neg fun hne => hne.2 hfld, guarded_of_passes _ _ hpass]
  simp only [hfld]

theorem imageOp_of_verify (h : imageCommand s ch val 4) : imageOp 4 ch val s = applyVerify ch val s := by
  have hpass := imageChecks_pass h
  obtain ⟨-, -, -, -, hfld, -⟩ := h
  unfold imageOp applyImageCommand
  rw [if_neg fun hne => hne.2 hfld, guarded_of_passes _ _ hpass]
  simp only [hfld]

theorem imageOp_of_commit (h : imageCommand s ch val 5) : imageOp 5 ch val s = applyCommitVersion ch val s := by
  have hpass := imageChecks_pass h
  obtain ⟨-, -, -, -, hfld, -⟩ := h
  unfold imageOp applyImageCommand
  rw [if_neg fun hne => hne.2 hfld, guarded_of_passes _ _ hpass]
  simp only [hfld]

theorem imageOp_of_running {op : Nat} (hlength : val.length = 32) (hjob : s.images.job ≠ none) (hop : fld val 0 1 = op) :
    imageOp op ch val s = .done abBusy s := by
  have hbusy : s.images.job.isNone = false := by
    cases h : s.images.job with
    | none => exact absurd h hjob
    | some j => rfl
  unfold imageOp applyImageCommand
  rw [if_neg fun hne => hne.2 hop, guarded_of_firstFail]
  simp only [hlength, hbusy, decide_true, firstFail_cons_true, firstFail_cons_false]

theorem applyRemove_of_empty (hswap : s.images.swap = none) (hempty : (imageOf s (jobOf ch val).slot).st = .empty)
    (hfree : slotInUse s (jobOf ch val).slot = false) :
    applyRemove ch val s = .done 0 (beginJob s (jobOf ch val) .removing none) := by
  unfold applyRemove
  dsimp only
  rw [guarded_of_passes]
  · simp only [hempty, if_true, accept]
  · simp only [hswap, hempty, hfree, Bool.not_false, reduceCtorEq, decide_false, Bool.and_self, firstFail_cons_true,
      firstFail_nil]

theorem applyRemove_of_used (hused : slotInUse s (jobOf ch val).slot = true) :
    applyRemove ch val s = .done abNotIdle s := by
  unfold applyRemove
  dsimp only
  exact guarded_of_firstFail _ s (by simp only [hused, Bool.not_true, Bool.false_and, firstFail_cons_false])

theorem applyVerify_of_able (hable : (imageOf s (jobOf ch val).slot).st = .ready ∨
    (imageOf s (jobOf ch val).slot).st = .suspect ∨ (imageOf s (jobOf ch val).slot).st = .broken) :
    applyVerify ch val s = .done 0 (beginJob
      (setImage s (jobOf ch val).slot (fun im => { im with st := .verifying })) (jobOf ch val) .verifying none) := by
  unfold applyVerify
  dsimp only
  exact guarded_of_passes _ s (by
    obtain h | h | h := hable <;> simp only [h, firstFail_cons_true, firstFail_nil])

theorem applyVerify_of_empty (hempty : (imageOf s (jobOf ch val).slot).st = .empty) :
    applyVerify ch val s = .done abNotIdle s := by
  unfold applyVerify
  dsimp only
  exact guarded_of_firstFail _ s (by simp only [hempty, firstFail_cons_false])

theorem applyCommitVersion_of_unversioned (h : versioned (imageOf s (jobOf ch val).slot).st = false) :
    applyCommitVersion ch val s = .done abNotIdle s := by
  unfold applyCommitVersion
  dsimp only
  split
  · rfl
  · exact guarded_of_firstFail _ s (by simp only [h, firstFail_cons_false])

theorem applyCommitVersion_of_versioned {h : Head} (hhead : (imageOf s (jobOf ch val).slot).head = some h)
    (hcounter : h.man.rollback ≠ 0xFF) (hst : versioned (imageOf s (jobOf ch val).slot).st = true)
    (hfree : ∀ i ∈ belowCounter s h.man.rollback h.man.security, slotInUse s i = false) :
    applyCommitVersion ch val s = .done 0 (beginJob (s.advanceCounter (8 + h.man.rollback)
      (h.man.security - s.counter (8 + h.man.rollback))) (jobOf ch val) .ended none) := by
  have hunused : ((belowCounter s h.man.rollback h.man.security).all fun i => !slotInUse s i) = true :=
    List.all_eq_true.2 fun i hi => by rw [hfree i hi]; rfl
  simp only [applyCommitVersion, hhead]
  exact guarded_of_passes _ s (by
    simp only [hst, decide_eq_false hcounter, hunused, Bool.not_false, firstFail_cons_true, firstFail_nil])

end Commands

/-- An INSTALL or a LOAD whose head cannot be read. -/
theorem startImage_of_unread {j : ImageJob} {s u : State} {code : Nat} (hpieces : j.pieces = [])
    (hread : readHead s j.source j.sourceAddress [] = (u, .error code)) : startImage j s = .done code u := by
  simp only [startImage, hpieces, hread, refuse]

/-- An INSTALL or a LOAD whose head can be read, by its checks. -/
theorem startImage_of_read {j : ImageJob} {s u : State} {h : Head} (hpieces : j.pieces = [])
    (hread : readHead s j.source j.sourceAddress [] = (u, .ok h)) :
    (∀ code, firstFail (if j.op = 1 then installChecks u j h else loadChecks u j h) = some code →
      startImage j s = .done code u) ∧
    (firstFail (if j.op = 1 then installChecks u j h else loadChecks u j h) = none →
      startImage j s = .done 0 (if j.op = 1 then beginInstall u j h else beginLoad u j h)) := by
  simp only [startImage, hpieces, hread]
  by_cases hop : j.op = 1
  · simp only [if_pos hop]
    exact ⟨fun code hfail => guarded_of_firstFail _ u hfail, fun hpass => guarded_of_passes _ u hpass⟩
  · simp only [if_neg hop]
    exact ⟨fun code hfail => guarded_of_firstFail _ u hfail, fun hpass => guarded_of_passes _ u hpass⟩

theorem imageCommands : ImageCommands := by
  intro ch val s
  refine ⟨fun r hr hcommand htaken => ?_, fun j h hslot => ?_, fun hcommand hswap => ⟨fun hempty hfree => ?_, fun hused => ?_⟩,
    fun hcommand => ⟨fun hable => ?_, fun hempty => ?_⟩, fun hcommand hst => ?_, rfl,
    fun h hcommand hhead hcounter hst hfree => ?_, fun hlength hjob => ⟨fun hop => ?_, fun hop => ?_, fun hop => ?_⟩⟩
  · have hop : (jobOf ch val).op = r.1 := hcommand.2.2.2.2.1
    have hsource : (jobOf ch val).source = 0 := hcommand.2.2.2.2.2
    have hexec : exec (r.2 ch val) s = objectWrite ch 0x2701 1 val (imageOp r.1 ch val) s := by
      simp only [List.mem_cons, List.not_mem_nil, or_false] at hr
      obtain rfl | rfl := hr <;> rfl
    have hr' : r.1 = 1 ∨ r.1 = 2 := by
      simp only [List.mem_cons, List.not_mem_nil, or_false] at hr
      obtain rfl | rfl := hr
      · exact Or.inl rfl
      · exact Or.inr rfl
    rw [hexec, objectWrite_of_taken _ htaken, imageOp_of_source hcommand hr']
    cases hread : readHead s 0 (jobOf ch val).sourceAddress [] with
    | mk u head =>
      rw [← hsource] at hread
      cases head with
      | error code => rw [startImage_of_unread rfl hread]; rfl
      | ok h =>
        obtain ⟨hrefused, hbegun⟩ := startImage_of_read (j := jobOf ch val) rfl hread
        simp only [hop] at hrefused hbegun
        cases hchecks : firstFail (if r.1 = 1 then installChecks u (jobOf ch val) h else loadChecks u (jobOf ch val) h) with
        | some code => simp only [hrefused code hchecks, hchecks, answerWrite, answered]
        | none => simp only [hbegun hchecks, hchecks, answerWrite, answered]
  · obtain ⟨hst, hjob⟩ := imageOf_beginInstall h hslot
    exact ⟨hst, hjob, imageOf_beginLoad h hslot⟩
  · exact accepted_of_done rfl rfl ((imageOp_of_remove hcommand).trans (applyRemove_of_empty hswap hempty hfree))
  · exact turnedDown_of_done rfl rfl ((imageOp_of_remove hcommand).trans (applyRemove_of_used hused))
  · exact accepted_of_done rfl rfl ((imageOp_of_verify hcommand).trans (applyVerify_of_able hable))
  · exact turnedDown_of_done rfl rfl ((imageOp_of_verify hcommand).trans (applyVerify_of_empty hempty))
  · exact turnedDown_of_done rfl rfl ((imageOp_of_commit hcommand).trans (applyCommitVersion_of_unversioned hst))
  · exact accepted_of_done rfl rfl
      ((imageOp_of_commit hcommand).trans (applyCommitVersion_of_versioned hhead hcounter hst hfree))
  · exact turnedDown_of_done rfl rfl (imageOp_of_running hlength hjob hop)
  · exact turnedDown_of_done rfl rfl (imageOp_of_running hlength hjob hop)
  · exact turnedDown_of_done rfl rfl (imageOp_of_running hlength hjob hop)

/-! ### The end of a command (R216, R218, R224, R226) -/

section End

variable {s : State} {j : ImageJob}

/-- A command that ends leaves no job, and its result where it is read. -/
theorem endCommand_images (s : State) (code : Nat) : (endCommand s code).images = { s.images with job := none } := by
  simp only [endCommand, State.ibi_images, State.msix_images, State.setVal_images, State.setImages_images]

theorem endCommand_val (s : State) (code : Nat) : (endCommand s code).val 0x2701 2 = code := by
  have hsends : Sends ((s.setImages { s.images with job := none }).setVal 0x2701 2 code) (endCommand s code) :=
    (Sends.msix _ _).trans (.ibi _ _)
  obtain ⟨f, o, heq⟩ := hsends
  rw [heq]
  exact val_setVal_self _ _ _ _

variable (hjob : s.images.job = some j) (hserves : s.serves = true) (hdone : workDone s j = true) (hmembers : j.members = [])

include hjob hserves hdone hmembers

theorem exec_imageCommandDone_install (hop : j.op = 1) : exec .imageCommandDone s = .next (endInstall s j) := by
  simp only [exec, execImageCommandDone, hjob, hserves, hdone, hmembers, hop, Bool.not_true, Bool.or_self,
    Bool.false_eq_true, if_false, ne_eq, not_true_eq_false]

theorem exec_imageCommandDone_remove (hop : j.op = 3) : exec .imageCommandDone s = .next (endRemove s j) := by
  simp only [exec, execImageCommandDone, hjob, hserves, hdone, hmembers, hop, Bool.not_true, Bool.or_self,
    Bool.false_eq_true, if_false, ne_eq, not_true_eq_false]

theorem exec_imageCommandDone_verify (hop : j.op = 4) {h : Head} (hhead : (imageOf s j.slot).head = some h) :
    exec .imageCommandDone s = .next (endVerify s j h) := by
  simp only [exec, execImageCommandDone, hjob, hserves, hdone, hmembers, hop, hhead, Bool.not_true, Bool.or_self,
    Bool.false_eq_true, if_false, ne_eq, not_true_eq_false]

theorem exec_imageCommandDone_commit (hop : j.op = 5) : exec .imageCommandDone s = .next (endCommand s j.result) := by
  simp only [exec, execImageCommandDone, hjob, hserves, hdone, hmembers, hop, Bool.not_true, Bool.or_self,
    Bool.false_eq_true, if_false, ne_eq, not_true_eq_false]

/-- Every command that ends does so by `endCommand`. -/
theorem exists_imageCommandDone_eq : ∃ t code, exec .imageCommandDone s = .next (endCommand t code) := by
  simp only [exec, execImageCommandDone, hjob, hserves, hdone, hmembers, Bool.not_true, Bool.or_self,
    Bool.false_eq_true, if_false, ne_eq, not_true_eq_false]
  split
  · unfold endInstall
    split <;> exact ⟨_, _, rfl⟩
  · unfold endLoad
    dsimp only
    split
    · exact ⟨_, _, rfl⟩
    · split <;> exact ⟨_, _, rfl⟩
  · exact ⟨_, _, rfl⟩
  · unfold endVerify
    dsimp only
    split
    · exact ⟨_, _, rfl⟩
    · split <;> exact ⟨_, _, rfl⟩
  · exact ⟨_, _, rfl⟩

end End

theorem result_of_failure {j : ImageJob} (h : j.failure ≠ 0) : j.result = j.failure := if_neg fun hzero => h hzero.1

/-- An emptied slot reads as empty, whichever it is. -/
theorem imageOf_setImage_reset (s : State) (slot : Nat) : (imageOf (setImage s slot fun _ => Image.reset) slot).st = .empty := by
  simp only [imageOf, setImage, State.setImages_images, lmod_eq_modify, List.getElem?_modify, if_true, Option.map_eq_map]
  cases s.images.slots[slot]? <;> rfl

theorem imageCommandsEnd : ImageCommandsEnd := by
  intro s j hjob hserves hdone hmembers hslot
  refine ⟨?_, fun hop => exec_imageCommandDone_commit hjob hserves hdone hmembers hop, fun hop hst hpassed => ?_,
    fun h u l hop hhead hkept => ?_⟩
  · obtain ⟨t, code, hexec⟩ := exists_imageCommandDone_eq hjob hserves hdone hmembers
    refine ⟨_, code, hexec, by rw [endCommand_images], endCommand_val t code, fun hop => ?_, fun hop => ?_, fun hop hst => ?_⟩
    · have h := hexec.symm.trans (exec_imageCommandDone_commit hjob hserves hdone hmembers hop)
      rw [← endCommand_val t code, Host.Outcome.next.inj h, endCommand_val]
    · have h := hexec.symm.trans (exec_imageCommandDone_remove hjob hserves hdone hmembers hop)
      refine ⟨by rw [← endCommand_val t code, Host.Outcome.next.inj h]; exact endCommand_val _ _, ?_⟩
      rw [Host.Outcome.next.inj h, endRemove, imageOf_of_images (endCommand_images _ _)]
      exact imageOf_setImage_reset _ _
    · have h := hexec.symm.trans (exec_imageCommandDone_install hjob hserves hdone hmembers hop)
      rw [← endCommand_val t code, Host.Outcome.next.inj h, endInstall]
      split
      · exact endCommand_val _ _
      next hfailed => exact (endCommand_val _ _).trans (result_of_failure fun hzero => hfailed ⟨hst, hzero⟩).symm
  · rw [exec_imageCommandDone_install hjob hserves hdone hmembers hop, endInstall, if_pos ⟨hst, hpassed⟩]
  · rw [exec_imageCommandDone_verify hjob hserves hdone hmembers hop hhead, endVerify, hkept]
    dsimp only
    cases checkHead u l with
    | error code => rfl
    | ok head =>
      dsimp only
      obtain ⟨v, ok⟩ := homesPass j.slot (((List.range h.tensorTable.length).zip h.tensorTable).filter
        (fun p => holdsTensor s j.slot p.2)) u
      cases ok <;> rfl

/-- Settles O55: by its two parts. -/
theorem imageInstallation : Obligations.ImageInstallation := ⟨imageCommands, imageCommandsEnd⟩

end Sys2Proof.Machine
end

section
/-! SUPPORT and PROOFS. Swap under load (R228, R229, R231). -/

namespace Sys2Proof.Machine

open Sys2Proof.Claims

/-! ### The request (R228) -/

section Request

variable {ch : Channel} {val : Bytes} {s u : State}

theorem applySwapRequest_of_window (hlength : val.length = 32) (hask : s.images.ask = none) (hform : swapForm s val = true)
    (hrange : swapRange val = true) (hsource : fld val 1 1 = 0) : applySwapRequest ch val s = startSwap val [] s := by
  unfold applySwapRequest
  rw [guarded_of_passes]
  · rw [if_pos hsource]
  · simp only [hlength, hask, hform, hrange, hsource, Option.isNone_none, decide_true, Bool.true_or, firstFail_cons_true,
      firstFail_nil]

variable (hsource : fld val 1 1 = 0)

include hsource

theorem startSwap_of_unread {code : Nat} (hread : readHead s 0 (fld val 8 8) [] = (u, .error code)) :
    startSwap val [] s = .done code u := by
  simp only [startSwap, hsource, hread, refuse]

variable {h : Head} (hread : readHead s 0 (fld val 8 8) [] = (u, .ok h))

include hread

theorem startSwap_of_same (hsame : stalledSlot s = some (fld val 0 1) ∧ (s.images.swap.map (·.head)) = some h) :
    startSwap val [] s = .done 0 (setSwap (u.setImages { u.images with retry := some (0, fld val 8 8) })
      (fun j => { j with pieces := [] })) := by
  simp only [startSwap, hsource, hread, if_pos hsame, accept]

theorem startSwap_of_other (hother : ¬(stalledSlot s = some (fld val 0 1) ∧ (s.images.swap.map (·.head)) = some h)) :
    (∀ code, firstFail (swapChecks u (fld val 0 1) 0 (fld val 8 8) (fld val 16 1) h) = some code →
      startSwap val [] s = .done code u) ∧
    (firstFail (swapChecks u (fld val 0 1) 0 (fld val 8 8) (fld val 16 1) h) = none →
      startSwap val [] s = .done 0 (beginSwap u (fld val 0 1) 0 (fld val 8 8) (fld val 16 1) [] h)) := by
  simp only [startSwap, hsource, hread, if_neg hother]
  exact ⟨fun code hfail => guarded_of_firstFail _ u hfail, fun hpass => guarded_of_passes _ u hpass⟩

end Request

/-- A swap that begins shows in its slot. -/
theorem imageOf_beginSwap {s : State} {slot source a mask : Nat} {pieces : List (Nat × List Octet)} {h : Head}
    (hslot : hasSlot s slot) :
    (imageOf (beginSwap s slot source a mask pieces h) slot).st = .swapping ∧
      ((beginSwap s slot source a mask pieces h).images.swap.map (·.slot)) = some slot := by
  unfold beginSwap
  dsimp only
  refine ⟨?_, rfl⟩
  generalize hplaced : (if stagingBytes h = 0 then s else takePlace s 1 _ (stagingBytes h)) = s1
  have hs1 : s1.images = s.images := by
    rw [← hplaced]
    split <;> rfl
  have hcast : ∀ (u : State) (j : ImageJob) (sw : Option SwapJob), imageOf ((broadcastContainer ((maskNodes mask).foldl
      (fun s n => memberWrite s n 0x2710 1 true (padTo 32 (leBytes 1 slot ++ leBytes 1 s.nodeId ++ leBytes 6 0
        ++ leBytes 8 slot))) u) j h).1.setImages { (broadcastContainer ((maskNodes mask).foldl
      (fun s n => memberWrite s n 0x2710 1 true (padTo 32 (leBytes 1 slot ++ leBytes 1 s.nodeId ++ leBytes 6 0
        ++ leBytes 8 slot))) u) j h).1.images with swap := sw }) slot = imageOf u slot := by
    intro u j sw
    have hmembers := foldl_keeps State.images (fun s n => memberWrite_images s n 0x2710 1 true (padTo 32 (leBytes 1 slot
      ++ leBytes 1 s.nodeId ++ leBytes 6 0 ++ leBytes 8 slot))) (maskNodes mask) u
    simp only [imageOf, State.setImages_images, broadcastContainer_images, hmembers]
  rw [hcast]
  refine congrArg Image.st (imageOf_setImage_self (hasSlot_of_images_eq hslot ?_) _)
  rw [← hs1]
  split <;> rfl

/-! ### The copy (R229) -/

@[simp] theorem dropCopies_images (s : State) (h : Nat) : (dropCopies s h).images = s.images := by
  have hfold : ∀ (l : List Move) (size : Nat) (u : State), (l.foldl (fun s m => match m.kind with
      | .drop _ => s
      | k => freeLater s k.tier m.dest size) u).images = u.images :=
    fun l size u => foldl_keeps State.images (fun s m => by split <;> rfl) l u
  unfold dropCopies
  split
  · rfl
  next t _ =>
    dsimp only
    cases t.copy0 <;> exact hfold _ _ _

@[simp] theorem copyStaged_images (j : SwapJob) : ∀ (l : List (Nat × TensorEntry)) (a : Nat) (s : State),
    (copyStaged j l a s).images = s.images
  | [], _, _ => rfl
  | p :: l, a, s => by
    unfold copyStaged
    dsimp only
    rw [copyStaged_images j l, dropCopies_images, (Accesses.memWrite _ _ _ _).images_eq, (Accesses.memRead _ _ _ _).images_eq]

/-- A replaced layer is counted, and the next one is to be staged. -/
theorem layerReplaced_of_more {s : State} {j : SwapJob} (l : Nat) {rest : List Nat} (hrest : rest ≠ [])
    (hslot : hasSlot s j.slot) : ∃ x, (layerReplaced s j l rest).images.swap = some x ∧ x.layers = rest ∧
      x.replaced = j.replaced + 1 ∧ x.phase = .staging ∧
      (imageOf (layerReplaced s j l rest) j.slot).replaced = (imageOf s j.slot).replaced + 1 := by
  unfold layerReplaced
  rw [if_neg hrest]
  refine ⟨_, rfl, rfl, rfl, rfl, ?_⟩
  change (imageOf (setImage s j.slot fun im => { im with replaced := im.replaced + 1 }) j.slot).replaced = _
  rw [imageOf_setImage_self hslot]

/-! ### The end without the image (R231) -/

@[simp] theorem freeStaging_images (s : State) (j : SwapJob) : (freeStaging s j).images = s.images := by
  unfold freeStaging
  dsimp only
  split <;> (try rw [freePlace_images]) <;> cases j.sealedIndex <;> simp

theorem cancelSwap_images {s : State} {j : SwapJob} (hslot : hasSlot s j.slot) :
    (cancelSwap s j).images.swap = none ∧ (imageOf (cancelSwap s j) j.slot).st = .ready := by
  refine ⟨rfl, ?_⟩
  change (imageOf (setImage (freeStaging s j) j.slot fun im => { im with st := .ready, replaced := 0, toReplace := 0 })
    j.slot).st = .ready
  rw [imageOf_setImage_self (hasSlot_of_images_eq hslot (freeStaging_images s j))]

/-- A stalled swap goes on with the source of its new request. -/
theorem applySwapResume_of_stalled {s : State} {j : SwapJob} {a b : Nat} (hswap : s.images.swap = some j)
    (hretry : s.images.retry = some (a, b)) (hphase : j.phase = .stalled) :
    ∃ t, applySwapResume s = .done 0 t ∧ t.images.retry = none ∧
      t.images.swap = some { j with phase := .staging, source := a, sourceAddress := b } ∧ t.mem = s.mem ∧
      t.serving = s.serving := by
  simp only [applySwapResume, hswap, hretry, if_pos hphase, accept]
  exact ⟨_, rfl, rfl, rfl, rfl, rfl⟩

/-- Settles O18. -/
theorem swaps : Obligations.Swaps := by
  intro ch val s
  refine ⟨fun hlength hask hform hrange hsource htaken => ?_, fun slot source a mask pieces h hslot t ht => ?_,
    fun j l rest u ok hswap hphase hlayers hserves harrived hstaged => ?_,
    fun j l rest hswap hphase hlayers hrest hslot => ?_, fun hsignature => ⟨fun hnone => ?_, fun j hswap =>
      ⟨fun hzero hphase => ?_, fun hlate => ?_⟩⟩,
    fun hsignature j a b hswap hretry => ⟨fun hphase => ?_, fun hphase => ?_⟩, fun j _ hslot => cancelSwap_images hslot⟩
  · rw [← hlength] at htaken
    change objectWrite ch 0x2710 1 val (applySwapRequest ch val) s = _
    rw [objectWrite_of_taken _ htaken, applySwapRequest_of_window hlength hask hform hrange hsource]
    cases hread : readHead s 0 (fld val 8 8) [] with
    | mk u head =>
      cases head with
      | error code => rw [startSwap_of_unread hsource hread]; rfl
      | ok h =>
        dsimp only
        by_cases hsame : stalledSlot s = some (fld val 0 1) ∧ (s.images.swap.map (·.head)) = some h
        · rw [startSwap_of_same hsource hread hsame, if_pos hsame]
          rfl
        · obtain ⟨hrefused, hbegun⟩ := startSwap_of_other hsource hread hsame
          rw [if_neg hsame]
          cases hchecks : firstFail (swapChecks u (fld val 0 1) 0 (fld val 8 8) (fld val 16 1) h) with
          | some code => rw [hrefused code hchecks]; rfl
          | none => rw [hbegun hchecks]; rfl
  · rw [← ht]
    exact imageOf_beginSwap hslot
  · simp only [exec, execSwapLayerStaged, hswap, hphase, hlayers, hserves, harrived, hstaged, Bool.not_true, Bool.or_self,
      Bool.false_eq_true, if_false]
    cases ok <;> rfl
  · have hcopied : ∀ v, ((((copyStaged j (stagedTensors s j l) j.area.1 s).setVal 0x2710 4 v).draw).images) = s.images :=
      fun v => copyStaged_images j _ _ _
    generalize hv : Config.elapsed (copyStaged j (stagedTensors s j l) j.area.1 s).draws % 2 ^ 32 = v
    obtain ⟨x, hx, hlayersx, hreplaced, hphasex, hcount⟩ := layerReplaced_of_more l hrest
      (hasSlot_of_images_eq hslot (hcopied v))
    refine ⟨_, x, ?_, hx, hlayersx, hreplaced, hphasex, ?_⟩
    · simp only [exec, execSwapCopyDone, hswap, hphase, hlayers, hv]
    · rw [hcount, imageOf, hcopied v]
      rfl
  · exact turnedDown_of_done rfl rfl (by simp only [command, hsignature, if_true, applySwapAbort, hnone, refuse])
  · exact accepted_of_done rfl rfl (by
      simp only [command, hsignature, if_true, applySwapAbort, hswap, if_pos (And.intro hzero hphase), accept])
  · have hnot : ¬(j.replaced = 0 ∧ j.phase ≠ .copying) := fun h =>
      hlate.elim (fun hpos => absurd h.1 (Nat.pos_iff_ne_zero.1 hpos)) fun hcopying => h.2 hcopying
    exact turnedDown_of_done rfl rfl (by
      simp only [command, hsignature, if_true, applySwapAbort, hswap, if_neg hnot, refuse])
  · exact turnedDown_of_done rfl rfl (by
      simp only [command, hsignature, if_true, applySwapResume, hswap, hretry, if_neg hphase, refuse])
  · obtain ⟨t, hdone, ht⟩ := applySwapResume_of_stalled hswap hretry hphase
    exact ⟨t, accepted_of_done rfl rfl (by simp only [command, hsignature, if_true, hdone]), ht⟩

end Sys2Proof.Machine
end

section
/-! SUPPORT and PROOFS. Ring records, admission, requests that take berths, cancels and closes, and completions (R234 to
R244, R251 to R257, R262). -/

namespace Sys2Proof.Machine

open Sys2Proof.Claims

/-! ### Ring records (R235) -/

section Records

variable {ch : Channel} {t : Nat} {val : Bytes} {s : State}

theorem applyRingRecord_of_other (hlength : val.length = 64)
    (h : ringTenant s (s.sel ch (tenantObj t 2) 1) ≠ some t) : applyRingRecord ch t val s = .done abExists s := by
  unfold applyRingRecord
  dsimp only
  exact guarded_of_firstFail _ s (by
    simp only [hlength, decide_true, decide_eq_false h, firstFail_cons_true, firstFail_cons_false])

variable (hlength : val.length = 64) (hflags : fld val 24 1 < 2) (hzero : zeroAt val 25 7 = true)
  (hzero' : zeroAt val 40 24 = true) (howner : ringTenant s (s.sel ch (tenantObj t 2) 1) = some t)

include hlength hflags hzero hzero' howner

theorem applyRingRecord_of_live
    (hother : (ringOf s (s.sel ch (tenantObj t 2) 1)).sameButSignals
      ((ringOf s (s.sel ch (tenantObj t 2) 1)).with val) = false)
    (hlive : ringLive s (s.sel ch (tenantObj t 2) 1) = true) : applyRingRecord ch t val s = .done abNotIdle s := by
  unfold applyRingRecord
  dsimp only
  exact guarded_of_firstFail _ s (by
    simp only [hlength, decide_true, howner, hflags, hzero, hzero', hother, hlive, Bool.and_self, Bool.not_true,
      Bool.or_self, firstFail_cons_true, firstFail_cons_false])

variable (hrange : ringRange ch val = true)
  (hfree : (ringOf s (s.sel ch (tenantObj t 2) 1)).sameButSignals ((ringOf s (s.sel ch (tenantObj t 2) 1)).with val) = true ∨
    ringLive s (s.sel ch (tenantObj t 2) 1) = false)

include hrange hfree

/-- A record that is taken, by whether it turns the ring on. -/
theorem applyRingRecord_of_free {turnsOn : Bool}
    (hturns : (((ringOf s (s.sel ch (tenantObj t 2) 1)).with val).enabled
      && !(ringOf s (s.sel ch (tenantObj t 2) 1)).enabled) = turnsOn)
    (hon : turnsOn = true → tenantOn s t = true) :
    applyRingRecord ch t val s = .done 0 (setRing s (s.sel ch (tenantObj t 2) 1)
      (if turnsOn then ((ringOf s (s.sel ch (tenantObj t 2) 1)).with val).fresh
        else (ringOf s (s.sel ch (tenantObj t 2) 1)).with val)) := by
  have hopen : ((ringOf s (s.sel ch (tenantObj t 2) 1)).sameButSignals
      ((ringOf s (s.sel ch (tenantObj t 2) 1)).with val) || !ringLive s (s.sel ch (tenantObj t 2) 1)) = true := by
    rcases hfree with h | h
    · rw [h, Bool.true_or]
    · rw [h, Bool.not_false, Bool.or_true]
  have htenant : (!turnsOn || tenantOn s t) = true := by
    cases h : turnsOn with
    | false => rfl
    | true => exact hon h
  unfold applyRingRecord
  dsimp only
  rw [hturns]
  exact guarded_of_passes _ s (by
    simp only [hlength, decide_true, howner, hflags, hzero, hzero', hopen, hrange, htenant, Bool.and_self,
      firstFail_cons_true, firstFail_nil])

end Records

theorem ringRecords : RingRecords := by
  intro ch t val s hlength hflags hzero hzero' hrange r
  refine ⟨fun howner => ⟨fun hfree => ⟨fun hbit hoff hon => ?_, fun hkept => ?_⟩, fun hother hlive => ?_⟩, fun hother => ?_⟩
  · exact accepted_of_done rfl rfl (applyRingRecord_of_free (turnsOn := true) hlength hflags hzero hzero' howner hrange hfree
      (by change (bitOf (fld val 24 1) 0 && !(ringOf s r).enabled) = true; rw [hbit, hoff]; rfl) fun _ => hon)
  · refine accepted_of_done rfl rfl (applyRingRecord_of_free (turnsOn := false) hlength hflags hzero hzero' howner hrange
      hfree ?_ fun h => absurd h Bool.false_ne_true)
    change (bitOf (fld val 24 1) 0 && !(ringOf s r).enabled) = false
    rcases hkept with h | h
    · rw [h, Bool.false_and]
    · rw [h, Bool.not_true, Bool.and_false]
  · exact turnedDown_of_done rfl rfl (applyRingRecord_of_live hlength hflags hzero hzero' howner hother hlive)
  · exact turnedDown_of_done rfl rfl (applyRingRecord_of_other hlength hother)

/-! ### Berths -/

section Berths

variable {s : State}

/-- A berth after a change that keeps its number. -/
theorem berthOf_setBerth_self (n : Nat) {f : Berth → Berth} (hf : ∀ b, (f b).num = b.num) :
    berthOf (setBerth s n f) n = (berthOf s n).map f := by
  have hnum : ∀ b : Berth, (if b.num = n then f b else b).num = b.num := fun b => by split <;> simp only [hf]
  simp only [berthOf, setBerth, State.setServing_serving, List.find?_map]
  have hsame : ((fun b : Berth => decide (b.num = n)) ∘ fun b => if b.num = n then f b else b)
      = fun b => decide (b.num = n) := funext fun b => by simp only [Function.comp_apply, hnum]
  rw [hsame]
  cases h : s.serving.berths.find? (fun b => decide (b.num = n)) with
  | none => rfl
  | some b => exact congrArg some (if_pos (by simpa using List.find?_some h))

theorem berthOf_num {n : Nat} {b : Berth} (h : berthOf s n = some b) : b.num = n := by
  simpa using List.find?_some h

theorem leastFree_notMem (l : List Nat) : leastFree l ∉ l := by
  have hfree : ∃ n ∈ List.range (l.length + 1), (!l.contains n) = true := by
    have hcard : l.toFinset.card < (Finset.range (l.length + 1)).card := by
      rw [Finset.card_range]
      exact Nat.lt_succ_of_le l.toFinset_card_le
    obtain ⟨n, hn, hnot⟩ := Finset.exists_mem_notMem_of_card_lt_card hcard
    exact ⟨n, List.mem_range.2 (Finset.mem_range.1 hn), by simpa using hnot⟩
  obtain ⟨n, hn⟩ := Option.isSome_iff_exists.1 (List.find?_isSome.2 hfree)
  have hfound := List.find?_some hn
  rw [leastFree, hn]
  simpa using hfound

/-- A berth that joins the table under a number that is free is found by it. -/
theorem berthOf_addBerth_of_free {b : Berth} (h : b.num ∉ s.serving.berths.map (·.num)) :
    berthOf (addBerth s b) b.num = some b := by
  have hnone : s.serving.berths.find? (fun x => decide (x.num = b.num)) = none := by
    refine List.find?_eq_none.2 fun x hx hnum => h ?_
    rw [← of_decide_eq_true hnum]
    exact List.mem_map_of_mem hx
  simp only [berthOf, addBerth, State.setServing_serving, List.find?_append, hnone, Option.none_or, List.find?_cons,
    decide_true]

/-! ### Parked berths (R244, R308) -/

theorem unref_keeps (s : State) (slot n : Nat) :
    (unref s slot n).serving = s.serving ∧ (unref s slot n).out = s.out := by
  unfold unref
  split
  · exact ⟨rfl, rfl⟩
  · dsimp only
    split <;> exact ⟨rfl, rfl⟩

/-- A berth that goes is found no more; what is held and what has left the device stay. -/
theorem freeBerth_keeps (s : State) (b : Berth) : berthOf (freeBerth s b) b.num = none ∧
    (freeBerth s b).serving.hold = s.serving.hold ∧ (freeBerth s b).out = s.out := by
  have hserving : ((b.table.filterMap id).foldl (fun s n => unref s b.slot n) s).serving = s.serving :=
    foldl_keeps State.serving (fun s n => (unref_keeps s b.slot n).1) _ _
  have hout : ((b.table.filterMap id).foldl (fun s n => unref s b.slot n) s).out = s.out :=
    foldl_keeps State.out (fun s n => (unref_keeps s b.slot n).2) _ _
  have hhold := congrArg Serving.hold hserving
  refine ⟨?_, hhold, hout⟩
  refine List.find?_eq_none.2 fun x hx => ?_
  have hne := (List.mem_filter.1 hx).2
  simpa using hne

end Berths

theorem parkLimits : ParkLimits := by
  intro n b s hb hparked hrunning
  refine ⟨fun hlimit u hu => ⟨fun hempty => ?_, fun hstaged => ?_⟩, freeBerth_keeps s b, fun hnone => ?_⟩
  · simp only [exec, execParkLimit, hb, hparked, hlimit, hrunning, hempty, ← hu, ne_eq, not_false_eq_true, and_self, if_true,
      List.isEmpty_nil]
  · have hsome : b.staging.isEmpty = false := by
      cases h : b.staging with
      | nil => exact absurd h hstaged
      | cons _ _ => rfl
    simp only [exec, execParkLimit, hb, hparked, hlimit, hrunning, hsome, ← hu, ne_eq, not_false_eq_true, and_self, if_true,
      Bool.false_eq_true, if_false]
  · simp only [exec, execParkLimit, hb, hnone, ne_eq, not_true_eq_false, false_and, and_false, if_false]

/-- Settles O57: by its two parts. -/
theorem ringRecordsAndParkLimits : Obligations.RingRecordsAndParkLimits := ⟨ringRecords, parkLimits⟩

/-! ### Admission (R234, R238, R241, R243) -/

section Admission

variable {ring t : Nat} {e : Bytes} {s : State} {act : Nat → Bytes → State → State}

theorem ringRow_of_next {mine : Nat → Bool} (hfetch : mayFetch s ring = true) (howner : ringTenant s ring = some t)
    (he : nextEntry s ring = some e) (hmine : mine (eOp e) = true) :
    ringRow ring mine act s = .next (act t e (fetched s ring)) := by
  have hmine : mine (fld e 0 1) = true := hmine
  simp only [ringRow, hfetch, howner, he, hmine, Bool.not_true, Bool.false_eq_true, if_false, if_true, Option.getD_some]

theorem submitRow_of_free {mine : Nat → Bool} (hheld : (ringOf s ring).held = none) :
    submitRow ring mine act s = ringRow ring mine (acceptEntry ring act) s := by
  simp only [submitRow, hheld]

/-- What each row of an entry does once the entry has passed steps 1 and 2. -/
def entryAct (op ring : Nat) : Nat → Bytes → State → State :=
  match op with
  | 1 => doGenerate ring
  | 2 => fun t e s => acceptCancel ring t e 0x01 s
  | 3 => doContinue ring
  | 4 => doClose ring
  | 5 => doSignal ring
  | _ => doWait ring

/-- Every row of an entry takes it through admission. -/
theorem exec_of_mem_entryRows (hheld : (ringOf s ring).held = none) (hfetch : mayFetch s ring = true)
    (howner : ringTenant s ring = some t) (he : nextEntry s ring = some e) {r : Nat × (Nat → Instr)} (hr : r ∈ entryRows)
    (hop : eOp e = r.1) :
    exec (r.2 ring) s = .next (acceptEntry ring (entryAct r.1 ring) t e (fetched s ring)) := by
  have hnext : ∀ (mine : Nat → Bool) (act : Nat → Bytes → State → State), mine (eOp e) = true →
      ringRow ring mine (acceptEntry ring act) s = .next (acceptEntry ring act t e (fetched s ring)) :=
    fun mine act hmine => ringRow_of_next hfetch howner he hmine
  simp only [entryRows, List.mem_cons, List.not_mem_nil, or_false] at hr
  obtain rfl | rfl | rfl | rfl | rfl | rfl := hr
  all_goals dsimp only at hop ⊢
  · refine (submitRow_of_free (ring := ring) (mine := fun op => decide (op = 1) || decide (op = 0) || decide (6 < op))
      (act := doGenerate ring) hheld).trans (hnext _ _ (by rw [hop]; rfl))
  · exact hnext (fun op => decide (op = 2)) (fun t e s => acceptCancel ring t e 0x01 s) (by rw [hop]; rfl)
  · refine (submitRow_of_free (ring := ring) (mine := fun op => decide (op = 3)) (act := doContinue ring) hheld).trans
      (hnext _ _ (by rw [hop]; rfl))
  · exact hnext (fun op => decide (op = 4)) (doClose ring) (by rw [hop]; rfl)
  · exact hnext (fun op => decide (op = 5)) (doSignal ring) (by rw [hop]; rfl)
  · exact hnext (fun op => decide (op = 6)) (doWait ring) (by rw [hop]; rfl)

theorem acceptEntry_of_stepOne {d : Nat} (h : stepOne s e = some d) :
    acceptEntry ring act t e s = completeEntry s ring t (eTag e) stBad d 0 0 (!decide (eTag e = 0)) := by
  simp only [acceptEntry, h]

theorem acceptEntry_of_duplicate {d n p : Nat} (hone : stepOne s e = none) (htag : eTag e ≠ 0)
    (h : duplicateOf s t (eTag e) = some (d, n, p)) :
    acceptEntry ring act t e s = completeEntry (s.bump 0x2806 3) ring t (eTag e) stDuplicate d n p false := by
  simp only [acceptEntry, hone, if_neg htag, h]

theorem acceptEntry_of_passes (hone : stepOne s e = none) (htag : eTag e ≠ 0) (h : duplicateOf s t (eTag e) = none) :
    acceptEntry ring act t e s = act t e s := by
  simp only [acceptEntry, hone, if_neg htag, h]

/-- An entry that its ring offers is taken by what its row does. -/
theorem exec_of_offers {r : Nat × (Nat → Instr)} (hr : r ∈ entryRows) (h : offers s ring t r.1 e) :
    exec (r.2 ring) s = .next (entryAct r.1 ring t e (fetched s ring)) := by
  obtain ⟨hheld, hfetch, howner, he, hop, hone, htag, hnew⟩ := h
  rw [exec_of_mem_entryRows hheld hfetch howner he hr hop, acceptEntry_of_passes hone htag hnew]

end Admission

/-- Settles O20. -/
theorem admissionChecks : Obligations.AdmissionChecks := by
  intro ring t e s hheld hfetch howner he r hr hop
  have hexec := exec_of_mem_entryRows hheld hfetch howner he hr hop
  refine ⟨fun hform => ?_, fun hform hlevel hneeds => ?_, fun hone htag d n p hdup => ?_⟩
  · have hone : stepOne (fetched s ring) e = some 1 := by simp only [stepOne, hform, Bool.not_false, if_true]
    rw [hexec, acceptEntry_of_stepOne hone]
  · have hone : stepOne (fetched s ring) e = some 2 := by
      have hlevel' : (fetched s ring).val 0x1002 2 = 1 := hlevel
      simp only [stepOne, hform, hlevel', hneeds, Bool.not_true, Bool.false_eq_true, if_false, and_self, if_true]
    rw [hexec, acceptEntry_of_stepOne hone]
  · rw [hexec, acceptEntry_of_duplicate hone htag hdup]

/-! ### Requests that take berths (R241, R242, R244) -/

section Requests

variable {ring t : Nat} {e : Bytes} {toks : List Nat} {s : State} {b : Berth}

@[simp] theorem fetched_berths : (fetched s ring).serving.berths = s.serving.berths := rfl

/-- The prefix lookup may give a berth its table and its position; every berth keeps its place. -/
theorem exists_lookupPrefix (s : State) (b : Berth) : ∃ f : Berth → Berth,
    (lookupPrefix s b).serving = (setBerth s b.num f).serving ∧
    ∀ x, ∃ l p, f x = { x with table := l, position := p } := by
  unfold lookupPrefix
  split
  · refine ⟨id, ?_, fun x => ⟨x.table, x.position, rfl⟩⟩
    simp only [setBerth, State.setServing_serving, id_eq, ite_self, List.map_id']
  · dsimp only
    have hkeeps : (mapPrefix s b.slot b.shareKey b.publishVersion b.tokens).1.serving = s.serving := by
      unfold mapPrefix
      split <;> rfl
    exact ⟨_, by simp only [setBerth, State.setServing_serving, hkeeps]; rfl, fun x => ⟨_, _, rfl⟩⟩

theorem berthOf_congr {u v : State} (h : u.serving = v.serving) (n : Nat) : berthOf u n = berthOf v n := by
  rw [berthOf, h]
  rfl

/-- A GENERATE that is placed here takes the free berth of the lowest number, ready with its prompt. -/
theorem takeBerth_here {slot : Nat} (hnode : placeNode s = 0) :
    ∃ b, berthOf (takeBerth ring t slot e toks s) (leastFree (s.serving.berths.map (·.num))) = some b ∧
      b.tenant = t ∧ b.tag = eTag e ∧ b.ring = ring ∧ b.slot = slot ∧ b.tokens = toks ∧ b.st = .ready ∧
      b.delivered = 0 ∧ b.maxNew = fld e 40 4 ∧
      (takeBerth ring t slot e toks s).serving.berths.length = s.serving.berths.length + 1 := by
  generalize hb : newBerth s (leastFree (s.serving.berths.map (·.num))) t slot ring (ringOf s ring).cls 0 e toks = b
  have htake : takeBerth ring t slot e toks s = lookupPrefix (addBerth s b) b := by
    simp only [takeBerth, hnode, hb, if_true]
  have hnum : leastFree (s.serving.berths.map (·.num)) = b.num := by rw [← hb]; rfl
  have hfound : berthOf (addBerth s b) b.num = some b := berthOf_addBerth_of_free (hnum ▸ leastFree_notMem _)
  obtain ⟨f, hserving, hf⟩ := exists_lookupPrefix (addBerth s b) b
  obtain ⟨l, p, hfb⟩ := hf b
  have hkeeps : ∀ x : Berth, (f x).num = x.num := fun x => by
    obtain ⟨l, p, h⟩ := hf x
    rw [h]
  have hlength : (takeBerth ring t slot e toks s).serving.berths.length = s.serving.berths.length + 1 := by
    rw [htake, hserving]
    simp only [setBerth, addBerth, State.setServing_serving, List.length_map, List.length_append, List.length_singleton]
  refine ⟨f b, ?_, ?_⟩
  · rw [htake, hnum, berthOf_congr hserving, berthOf_setBerth_self _ hkeeps, hfound, Option.map_some]
  · rw [hfb, ← hb]
    exact ⟨rfl, rfl, rfl, rfl, rfl, rfl, rfl, rfl, hlength⟩

variable (hadmitted : entrance s (fld e 2 1) = .admitted)

include hadmitted

theorem generateFrom_of_refused {st d : Nat} (h : stepFive s t (fld e 2 1) e = some (st, d)) :
    generateFrom ring t e toks s = reply ring t e st d s := by
  simp only [generateFrom, hadmitted, h]

theorem generateFrom_of_noDecks (h : stepFive s t (fld e 2 1) e = none) (hnode : placeNode s = 0)
    (hdecks : noDecks s = true) : generateFrom ring t e toks s = reply ring t e stFault 6 s := by
  simp only [generateFrom, hadmitted, h, hnode, hdecks, decide_true, Bool.and_self, if_true]

theorem generateFrom_of_place (h : stepFive s t (fld e 2 1) e = none) (hplace : placeNode s ≠ 0 ∨ noDecks s = false) :
    generateFrom ring t e toks s = takeBerth ring t (fld e 2 1) e toks s := by
  have hno : (decide (placeNode s = 0) && noDecks s) = false := by
    rcases hplace with h | h
    · rw [decide_eq_false h, Bool.false_and]
    · rw [h, Bool.and_false]
  simp only [generateFrom, hadmitted, h, hno, Bool.false_eq_true, if_false]

omit hadmitted in
theorem doGenerate_of_ok (hslot : fld e 2 1 ≤ 7) (h : stepThree s t (fld e 2 1) e = .ok toks) :
    doGenerate ring t e s = generateFrom ring t e toks s := by
  simp only [doGenerate, Nat.not_lt.2 hslot, if_false, h]

omit hadmitted in
theorem doContinue_of_parked (hparked : parkedBerth s t (eTarget e) = some b) (h : stepThree s t b.slot e = .ok toks)
    (hadmitted : entrance s b.slot = .admitted) (hlimit : b.tokens.length + eCount e < contextLimit s b)
    (hdecks : noDecks s = false) : doContinue ring t e s = continueBerth ring e toks b s := by
  simp only [doContinue, hparked, h, continueFrom, hadmitted, Nat.not_le.2 hlimit, hdecks, Bool.and_false,
    Bool.false_eq_true, if_false]

omit hadmitted in
/-- A parked berth that goes on is ready again with its prompt appended. -/
theorem berthOf_continueBerth (hb : berthOf s b.num = some b) (hnode : b.node = 0) :
    ∃ c, berthOf (continueBerth ring e toks b s) b.num = some c ∧ c.tokens = b.tokens ++ toks ∧ c.st = .ready ∧
      c.tag = eTag e ∧ c.delivered = 0 := by
  generalize hf : (fun b : Berth => { b.asked ring (ringOf s ring).cls e with
    tokens := b.tokens ++ toks, promptEnd := b.tokens.length + toks.length
    st := if b.node = 0 then .ready else .waiting
    admitted := s.serving.nextAdmission }) = f
  have hcontinue : berthOf (continueBerth ring e toks b s) b.num = berthOf (setBerth s b.num f) b.num := by
    simp only [continueBerth, hnode, if_true, ← hf]
    rfl
  refine ⟨f b, ?_, ?_⟩
  · rw [hcontinue, berthOf_setBerth_self _ (fun x => by rw [← hf]; rfl), hb, Option.map_some]
  · rw [← hf]
    exact ⟨rfl, if_pos hnode, rfl, rfl⟩

end Requests

theorem requestsTakeBerths : RequestsTakeBerths := by
  intro ring t e toks s
  refine ⟨fun hoffers hslot hthree hentrance => ⟨fun hfive hnode hdecks => ?_, fun hfive hnode => ?_,
    fun hfive hdecks hnode => ?_, fun st d hfive => ?_⟩, fun b hoffers hparked hthree hentrance hlimit hnode hdecks =>
    ⟨?_, fun hb => berthOf_continueBerth hb hnode⟩⟩
  case refine_5 =>
    exact (exec_of_offers (r := (3, .continueReq)) (by simp only [entryRows, List.mem_cons, true_or, or_true]) hoffers).trans
      (congrArg Host.Outcome.next (doContinue_of_parked hparked hthree hentrance hlimit hdecks))
  all_goals
    have hexec : exec (.generateReq ring) s = .next (generateFrom ring t e toks (fetched s ring)) :=
      (exec_of_offers (r := (1, .generateReq)) (by simp only [entryRows, List.mem_cons, true_or]) hoffers).trans
        (congrArg Host.Outcome.next (doGenerate_of_ok hslot hthree))
  · rw [hexec, generateFrom_of_noDecks hentrance hfive hnode hdecks]
  · rw [hexec, generateFrom_of_place hentrance hfive (.inl hnode)]
  · rw [generateFrom_of_place hentrance hfive (.inr hdecks)] at hexec
    obtain ⟨b, hb⟩ := takeBerth_here (ring := ring) (t := t) (slot := fld e 2 1) (e := e) (toks := toks) hnode
    obtain ⟨hfound, htenant, htag, hring, hslot', htokens, hst, hdelivered, hmax, hlength⟩ := hb
    exact ⟨_, b, hexec, hfound, htenant, htag, hring, hslot', htokens, hst, hdelivered, hmax, hlength⟩
  · rw [hexec, generateFrom_of_refused hentrance hfive]

/-! ### Cancels and closes (R253 to R257, R244) -/

section Cancels

variable {ring t detail : Nat} {e : Bytes} {s : State} {b : Berth}

theorem acceptCancel_of_live (h : liveBerth s t (eTarget e) = some b) :
    acceptCancel ring t e detail s = reply ring t e stCancelled detail (cancelBerth s b detail) := by
  simp only [acceptCancel, h]

theorem acceptCancel_of_unknown (h : liveBerth s t (eTarget e) = none) (hdone : findDone s t (eTarget e) = none) :
    acceptCancel ring t e detail s = reply ring t e stLate 2 (s.bump 0x2806 4) := by
  simp only [acceptCancel, h, hdone]

theorem acceptCancel_of_cancelled {d : DoneEntry} (h : liveBerth s t (eTarget e) = none)
    (hdone : findDone s t (eTarget e) = some d) (hst : d.status = stCancelled) :
    acceptCancel ring t e detail s = reply ring t e stCancelled detail s := by
  simp only [acceptCancel, h, hdone, hst, if_true]

theorem acceptCancel_of_late {d : DoneEntry} (h : liveBerth s t (eTarget e) = none)
    (hdone : findDone s t (eTarget e) = some d) (hst : d.status ≠ stCancelled) :
    acceptCancel ring t e detail s
      = reply ring t e stLate (if d.lateMark then 3 else 1) (markLate (s.bump 0x2806 4) t (eTarget e)) := by
  simp only [acceptCancel, h, hdone, if_neg hst]

theorem doClose_of_live (h : liveBerth s t (eTarget e) = some b) :
    doClose ring t e s = reply ring t e stCancelled 2 (cancelBerth s b 2) := by
  simp only [doClose, h, acceptCancel_of_live h]

theorem doClose_of_parked (h : liveBerth s t (eTarget e) = none) (hparked : parkedBerth s t (eTarget e) = some b)
    (hnode : b.node = 0) : doClose ring t e s = reply ring t e stStop 0
      (setBerth s b.num (fun b => { b with st := .closing, finished := true })) := by
  simp only [doClose, h, hparked, hnode, if_true]

theorem aget_amod_self {α : Type} (l : List (Nat × α)) (k : Nat) (f : α → α) :
    aget (amod l k f) k = (aget l k).map f := by
  simp only [aget, amod, List.find?_map]
  have hsame : ((fun p : Nat × α => decide (p.1 = k)) ∘ fun p => if p.1 = k then (p.1, f p.2) else p)
      = fun p => decide (p.1 = k) := funext fun p => by simp only [Function.comp_apply]; split <;> simp only [*]
  rw [hsame]
  cases h : l.find? (fun p => decide (p.1 = k)) with
  | none => rfl
  | some p => exact congrArg (Option.map Prod.snd ∘ some) (if_pos (by simpa using List.find?_some h))

/-- The mark that an entry of the window takes with its first late cancel. -/
def DoneEntry.markedLate (tag : Nat) (d : DoneEntry) : DoneEntry := if d.tag = tag then { d with lateMark := true } else d

theorem DoneEntry.markedLate_tag (tag : Nat) (d : DoneEntry) : (d.markedLate tag).tag = d.tag := by
  unfold DoneEntry.markedLate
  split <;> rfl

theorem findDone_markLate (tag : Nat) :
    findDone (markLate s t tag) t tag = (findDone s t tag).map (DoneEntry.markedLate tag) := by
  have hrecent : agetD (markLate s t tag).serving.recent t [] = (agetD s.serving.recent t []).map (DoneEntry.markedLate tag) := by
    change agetD (amod s.serving.recent t (List.map (DoneEntry.markedLate tag))) t [] = _
    rw [agetD, aget_amod_self, agetD]
    cases aget s.serving.recent t <;> rfl
  rw [findDone, hrecent, List.find?_map]
  simp only [Function.comp_def, DoneEntry.markedLate_tag]
  rfl

end Cancels

theorem cancelsAndCloses : CancelsAndCloses := by
  intro ring t e s
  refine ⟨fun hoffers => ?_, fun hoffers => ?_, fun d hd => ?_⟩
  · have hexec : exec (.cancelReq ring) s = .next (acceptCancel ring t e 1 (fetched s ring)) :=
      exec_of_offers (r := (2, .cancelReq)) (by simp only [entryRows, List.mem_cons, true_or, or_true]) hoffers
    refine ⟨fun b hb => ?_, fun hnone => ⟨fun hdone => ?_, fun d hd => ⟨fun hst => ?_, fun hst => ?_⟩⟩⟩
    · rw [hexec, acceptCancel_of_live hb]
    · rw [hexec, acceptCancel_of_unknown hnone hdone]
    · rw [hexec, acceptCancel_of_cancelled hnone hd hst]
    · rw [hexec, acceptCancel_of_late hnone hd hst]
  · have hexec : exec (.closeReq ring) s = .next (doClose ring t e (fetched s ring)) :=
      exec_of_offers (r := (4, .closeReq)) (by simp only [entryRows, List.mem_cons, true_or, or_true]) hoffers
    refine ⟨fun b hb => ?_, fun b hnone hb hnode => ?_⟩
    · rw [hexec, doClose_of_live hb]
    · rw [hexec, doClose_of_parked hnone hb hnode]
  · have htag : d.tag = eTarget e := by simpa using List.find?_some hd
    refine ⟨d.markedLate (eTarget e), by rw [findDone_markLate, hd, Option.map_some], ?_⟩
    rw [DoneEntry.markedLate, if_pos htag]
    exact ⟨rfl, rfl, rfl⟩

/-- Settles O56: by its two parts. -/
theorem requestsAndCancels : Obligations.RequestsAndCancels := ⟨requestsTakeBerths, cancelsAndCloses⟩

/-! ### Completions (R239, R240, R251, R252, R262) -/

section Completions

variable {s : State} {c : Completion}

@[simp] theorem ringOf_setRing_self (s : State) (r : Nat) (x : Ring) : ringOf (setRing s r x) r = x := by
  simp only [ringOf, setRing, State.setServing_serving, agetD_aset_self]

theorem ringOf_congr {u v : State} (h : u.serving = v.serving) (r : Nat) : ringOf u r = ringOf v r := by
  rw [ringOf, h]
  rfl

/-- A signal of a ring posts nothing and writes nothing. -/
theorem signalRing_keeps (s : State) (r : Nat) : (ringOf (signalRing s r) r).cqPosted = (ringOf s r).cqPosted ∧
    (signalRing s r).host = s.host ∧ (signalRing s r).mem = s.mem ∧ (signalRing s r).decks = s.decks := by
  refine ⟨?_, (State.msix_host _ _).trans rfl, (State.msix_mem _ _).trans rfl, (State.msix_decks _ _).trans rfl⟩
  rw [signalRing, ringOf_congr (State.msix_serving _ _), ringOf_setRing_self]

/-- What follows a completion's bytes: signals, never another byte. -/
theorem afterPost_keeps (s : State) (r : Nat) : (ringOf (afterPost s r) r).cqPosted = (ringOf s r).cqPosted ∧
    (afterPost s r).host = s.host ∧ (afterPost s r).mem = s.mem ∧ (afterPost s r).decks = s.decks := by
  have hcount : (ringOf (setRing s r { ringOf s r with unsignalled := (ringOf s r).unsignalled + 1 }) r).cqPosted
      = (ringOf s r).cqPosted := by rw [ringOf_setRing_self]
  unfold afterPost
  dsimp only
  split
  · obtain ⟨hring, hhost, hmem, hdecks⟩ := signalRing_keeps
      (setRing s r { ringOf s r with unsignalled := (ringOf s r).unsignalled + 1 }) r
    exact ⟨hring.trans hcount, hhost, hmem, hdecks⟩
  · exact ⟨hcount, rfl, rfl, rfl⟩

theorem length_completionBytes (c : Completion) (phase : Bool) : (c.bytes phase).length = 32 := by
  simp only [Completion.bytes, fields, List.map_cons, List.map_nil, List.flatten_cons, List.flatten_nil,
    List.length_append, length_leBytes, List.length_nil]

theorem HostMem.byte_setBytes (m : HostMem) (a j : Nat) (bs : Bytes) (h : cellsWf (fun _ => 0) m.cells = true) :
    (m.setBytes a bs).byte j = if a ≤ j ∧ j < a + bs.length then bs.getD (j - a) 0 else m.byte j :=
  cellGet_cellPuts _ _ _ _ _ h

theorem HostMem.bytes_setBytes (m : HostMem) (a : Nat) (bs : Bytes) (h : cellsWf (fun _ => 0) m.cells = true) :
    (m.setBytes a bs).bytes a bs.length = bs := by
  refine List.ext_getElem (by simp only [HostMem.bytes, List.length_map, List.length_range]) fun i _ hi => ?_
  simp only [HostMem.bytes, List.getElem_map, List.getElem_range, HostMem.byte_setBytes _ _ _ _ h]
  rw [if_pos (by omega), Nat.add_sub_cancel_left, List.getD_eq_getElem _ _ hi]

/-- A completion that its ring takes: 32 bytes at its place, and one more that the queue has posted. -/
theorem writeCompletion_of_enabled (hon : (ringOf s c.ring).enabled = true)
    (hwritable : s.host.writable ((ringOf s c.ring).cqBase + 32 * ((ringOf s c.ring).cqPosted % (ringOf s c.ring).depth))
      32 = true) :
    (writeCompletion s c).host = s.host.setBytes
        ((ringOf s c.ring).cqBase + 32 * ((ringOf s c.ring).cqPosted % (ringOf s c.ring).depth))
        (c.bytes (ringOf s c.ring).phase) ∧
      (ringOf (writeCompletion s c) c.ring).cqPosted = ((ringOf s c.ring).cqPosted + 1) % 2 ^ 32 ∧
      (writeCompletion s c).mem = s.mem ∧ (writeCompletion s c).decks = s.decks := by
  have hwrite : (hostWrite s ((ringOf s c.ring).cqBase + 32 * ((ringOf s c.ring).cqPosted % (ringOf s c.ring).depth))
      (c.bytes (ringOf s c.ring).phase)).1 = { s with
        host := s.host.setBytes
          ((ringOf s c.ring).cqBase + 32 * ((ringOf s c.ring).cqPosted % (ringOf s c.ring).depth))
          (c.bytes (ringOf s c.ring).phase) } := by
    simp only [hostWrite, length_completionBytes, hwritable, if_true]
  simp only [writeCompletion, hon, Bool.not_true, Bool.false_eq_true, if_false, hwrite]
  obtain ⟨hposted, hhost, hmem, hdecks⟩ := afterPost_keeps _ c.ring
  refine ⟨hhost.trans ?_, hposted.trans ?_, hmem.trans ?_, hdecks.trans ?_⟩
  · rw [State.emit_host, State.bumpBy_host, setRing, State.setServing_host]
  · rw [ringOf_congr (State.emit_serving _ _), ringOf_congr (State.bumpBy_serving _ _ _ _ _), ringOf_setRing_self]
  · rw [State.emit_mem, State.bumpBy_mem, setRing, State.setServing_mem]
  · rw [State.emit_decks, State.bumpBy_decks, setRing, State.setServing_decks]

theorem postCompletion_of_holding (hring : c.ring < 65536) (hholding : holding s = true) :
    postCompletion s c = holdCompletion s c := by
  simp only [postCompletion, Nat.not_le.2 hring, hholding, if_false, if_true]

theorem foldl_flushBerth_of_empty (h : s.serving.berths.all (fun b => b.staging.isEmpty) = true) :
    s.serving.berths.foldl (fun s b => if b.staging.isEmpty then s else flushBerth s b) s = s :=
  foldl_fixed_of_mem fun b hb => if_pos (List.all_eq_true.1 h b hb)

end Completions

/-- Settles O22: its bytes by what a string leaves in host memory, the rest case by case. -/
theorem completionsArePosted : Obligations.CompletionsArePosted := by
  intro s c
  refine ⟨?_, fun hring hholding t ht => ⟨fun hroom => ?_, fun hfull => ?_⟩, fun hup hrunning hempty => ?_,
    fun ring x hx hon hpending htime hvector => ?_⟩
  · rintro x rfl hon hwritable hwf
    obtain ⟨hhost, hposted, hmem, hdecks⟩ := writeCompletion_of_enabled hon hwritable
    have hlength := length_completionBytes c (ringOf s c.ring).phase
    refine ⟨?_, fun a ha => ?_, hposted, hmem, hdecks⟩
    · have hbytes := HostMem.bytes_setBytes s.host
        ((ringOf s c.ring).cqBase + 32 * ((ringOf s c.ring).cqPosted % (ringOf s c.ring).depth))
        (c.bytes (ringOf s c.ring).phase) hwf
      rw [hlength] at hbytes
      rw [hhost]
      exact hbytes
    · rw [hhost, HostMem.byte_setBytes _ _ _ _ hwf, hlength, if_neg ha]
  · have hleft : ¬ 2048 - (s.serving.hold.length + 1) < 512 := by omega
    rw [postCompletion_of_holding hring hholding, holdCompletion]
    simp only [State.setServing_serving, List.length_append, List.length_singleton, hleft, if_false, ht]
  · have hleft : 2048 - (s.serving.hold.length + 1) < 512 := by omega
    rw [postCompletion_of_holding hring hholding, holdCompletion]
    simp only [State.setServing_serving, List.length_append, List.length_singleton, hleft, if_true, ht]
  · simp only [exec, execHeldOutputFlush, hup, hrunning, Bool.not_true, Bool.or_self, Bool.false_eq_true, if_false,
      foldl_flushBerth_of_empty hempty]
  · subst hx
    simp only [exec, execCoalesceTime, hon, hpending, htime, hvector, ne_eq, not_false_eq_true, and_self, if_true,
      signalRing, State.msix, if_false]

end Sys2Proof.Machine
end

section
/-! SUPPORT and PROOFS. Monotonic counters (R102, R103), margin commands, faults, error records and the journal (R105,
R123, R358, R361). -/

namespace Sys2Proof.Machine

open Sys2Proof.Claims

/-! ### Counters (R102, R103) -/

section Counters

variable {c : Counter} {a b : CtrSector} {v n k : Nat} {s : State}

theorem CtrSector.value_eq_some : a.value = some v ↔
    a.indeterminate = false ∧ ∃ n, a.base = .valid n ∧ n + a.consumed + b2n a.partialWord = v := by
  unfold CtrSector.value
  cases a.indeterminate <;> cases a.base <;> simp

/-- One word consumed adds one: in the sector itself, or as the base that its twin takes. -/
theorem Counter.consume_value (h : a.value = some v) :
    ((Counter.consume a b v).1.value = some (v + 1) ∧ (Counter.consume a b v).2 = b) ∨
      ((Counter.consume a b v).1.value = none ∧ (Counter.consume a b v).2.value = some (v + 1)) := by
  obtain ⟨hknown, n, hbase, hsum⟩ := CtrSector.value_eq_some.1 h
  unfold Counter.consume
  split
  · refine .inl ⟨CtrSector.value_eq_some.2 ⟨hknown, n, hbase, ?_⟩, rfl⟩
    change n + (a.consumed + b2n a.partialWord + 1) + b2n false = v + 1
    have hno : b2n false = 0 := rfl
    omega
  · exact .inr ⟨rfl, rfl⟩

/-- A step that consumes a word of the first sector, or of the second, by which of them holds the greater value. -/
theorem Counter.step_value (h : c.value? = some v) : c.step.value? = some (v + 1) := by
  unfold Counter.value? at h
  unfold Counter.step
  cases ha : c.a.value with
  | some x =>
    cases hb : c.b.value with
    | some y =>
      simp only [ha, hb, Option.some.injEq] at h
      dsimp only
      split
      · rcases Counter.consume_value (b := c.b) ha with ⟨h1, h2⟩ | ⟨h1, h2⟩
        · simp only [Counter.value?, h1, h2, hb, Option.some.injEq]; omega
        · simp only [Counter.value?, h1, h2, Option.some.injEq]; omega
      · rcases Counter.consume_value (b := c.a) hb with ⟨h1, h2⟩ | ⟨h1, h2⟩
        · simp only [Counter.value?, h1, h2, ha, Option.some.injEq]; omega
        · simp only [Counter.value?, h1, h2, Option.some.injEq]; omega
    | none =>
      obtain rfl : x = v := by simpa only [ha, hb, Option.some.injEq] using h
      rcases Counter.consume_value (b := c.b) ha with ⟨h1, h2⟩ | ⟨h1, h2⟩
      · simp only [Counter.value?, h1, h2, hb]
      · simp only [Counter.value?, h1, h2]
  | none =>
    cases hb : c.b.value with
    | some y =>
      obtain rfl : y = v := by simpa only [ha, hb, Option.some.injEq] using h
      rcases Counter.consume_value (b := c.a) hb with ⟨h1, h2⟩ | ⟨h1, h2⟩
      · simp only [Counter.value?, h1, h2, ha]
      · simp only [Counter.value?, h1, h2]
    | none => simp only [ha, hb, reduceCtorEq] at h

theorem Counter.advance_value (h : c.value? = some v) : (c.advance n).value? = some (v + n) := by
  induction n generalizing c v with
  | zero => exact h
  | succ n ih =>
    rw [Counter.advance, ih (Counter.step_value h), Nat.add_right_comm, Nat.add_assoc]

theorem counters_advanceCounter_of_free (hfree : s.systemFree = true) (hc : s.custody.counters[n]? = some c) :
    (s.advanceCounter n k).custody.counters[n]? = some (c.advance k) := by
  simp only [State.advanceCounter, hfree, if_true, lmod_eq_modify, List.getElem?_modify_eq, hc]
  rfl

theorem advanceCounter_of_busy (hbusy : s.systemFree = false) :
    (s.advanceCounter n k).custody.counters = s.custody.counters ∧
      (s.advanceCounter n k).flash.advances = s.flash.advances ++ [(n, k)] := by
  simp only [State.advanceCounter, hbusy, Bool.false_eq_true, if_false, and_self]

end Counters

/-- Settles O33: one word by the sector it falls in, n by induction. -/
theorem countersAdvance : Obligations.CountersAdvance := fun _ _ h =>
  ⟨Counter.step_value h, fun _ => Counter.advance_value h, fun _ =>
    ⟨fun _ _ => counters_advanceCounter_of_free, fun _ _ => advanceCounter_of_busy⟩⟩

/-! ### Margin commands and faults (R358, R361) -/

section Margins

variable {ch : Channel} {val : Bytes} {s : State}

theorem command_of_eq {sig : Nat} (act : State → Applied) (h : leNat val = sig) : command val sig act s = act s := if_pos h

theorem applyClearSteps_of_ok (hdeck : s.sel ch 0x2D11 1 < 16) (h : s.lifecycle ≠ .final) :
    applyClearSteps ch s = queueMargin ch .clear s :=
  guarded_of_passes _ s (by
    simp only [marginChecks, decide_eq_true hdeck, decide_eq_false h, Bool.not_false, firstFail_cons_true, firstFail_nil])

theorem applyRetire_of_ok (hdeck : s.sel ch 0x2D11 1 < 16) : applyRetire ch s = queueMargin ch .retire s :=
  guarded_of_passes _ s (by simp only [marginChecks, decide_eq_true hdeck, firstFail_cons_true, firstFail_nil])

theorem applyRestore_of_ok (hdeck : s.sel ch 0x2D11 1 < 16) (h : restoreAllowed s.lifecycle = true) :
    applyRestore ch s = queueMargin ch .restore s :=
  guarded_of_passes _ s (by simp only [marginChecks, decide_eq_true hdeck, h, firstFail_cons_true, firstFail_nil])

theorem applyRestore_of_lifecycle (h : restoreAllowed s.lifecycle = false) : applyRestore ch s = .done abLifecycle s :=
  guarded_of_firstFail _ s (by simp only [h, firstFail_cons_false])

/-- Whether faults may be injected in a lifecycle state (R361). -/
theorem injectChecks_lifecycle (v : Nat) (s : State) : injectChecks v s =
    (decide (s.lifecycle = .blank ∨ s.lifecycle = .factory ∨ s.lifecycle = .development), abLifecycle) ::
      (injectChecks v s).tail := by
  unfold injectChecks
  cases s.lifecycle <;> rfl

theorem applyInject_of_lifecycle (h : s.lifecycle = .deployed ∨ s.lifecycle = .service ∨ s.lifecycle = .final) :
    applyInject val s = .done abLifecycle s := by
  have hno : ¬(s.lifecycle = .blank ∨ s.lifecycle = .factory ∨ s.lifecycle = .development) := by
    rcases h with h | h | h <;> simp [h]
  unfold applyInject
  exact guarded_of_firstFail _ s (by rw [injectChecks_lifecycle, decide_eq_false hno, firstFail_cons_false])

theorem firstFail_injectChecks (hlife : s.lifecycle = .blank ∨ s.lifecycle = .factory ∨ s.lifecycle = .development)
    (hclass : bitsOf (leNat val) 7 0 = 1 ∨ bitsOf (leNat val) 7 0 = 3 ∨
      (bitsOf (leNat val) 7 0 = 4 ∧ bitsOf (leNat val) 11 8 = 15)) : firstFail (injectChecks (leNat val) s) = none := by
  rw [injectChecks_lifecycle, decide_eq_true hlife, firstFail_cons_true]
  simp only [injectChecks, List.tail_cons]
  rcases hclass with h | h | ⟨h, hdeck⟩
  · simp [h]
  · simp [h]
  · simp [h, hdeck]

end Margins

/-! ### The journal (R105, R123) -/

section Records

variable {s : State}

theorem execJournalRecordWritten_of_wait (hup : isDown s = false)
    (hwait : s.systemFree = false ∨ s.custody.journal.erasing = true) :
    execJournalRecordWritten s = .next (journalErase s) := by
  have hno : (s.systemFree && !s.custody.journal.erasing) = false := by
    rcases hwait with h | h <;> simp [h]
  simp only [execJournalRecordWritten, hup, writeRecord, hno, Bool.false_and, Bool.false_eq_true, if_false]

/-- Asking for the erase of a sector of the ring writes no record and no byte. -/
theorem exists_journalErase_eq (s : State) : ∃ f e, journalErase s = { s with
    flash := f, custody := { s.custody with journal := { s.custody.journal with erasing := e } } } := by
  unfold journalErase
  dsimp only
  split
  · exact ⟨_, _, rfl⟩
  · exact ⟨s.flash, s.custody.journal.erasing, rfl⟩

/-- What is reported lost waits behind the other events. -/
theorem exists_reportLost_eq (j : Journal) : ∃ q l, j.reportLost = { j with queue := q, lost := l } := by
  unfold Journal.reportLost
  split
  · exact ⟨_, _, rfl⟩
  · exact ⟨j.queue, j.lost, rfl⟩

theorem exists_writeRecord_eq {e : JEvent} {rest : List JEvent} (hfree : s.systemFree = true)
    (herasing : s.custody.journal.erasing = false) (hslot : s.custody.journal.slotFree s.custody.journal.slot = true)
    (hqueue : s.custody.journal.queue = e :: rest) :
    (writeRecord s).custody.journal.records = s.custody.journal.records
        ++ [⟨s.custody.journal.nextSeq, s.custody.journal.slot, s.counter 6 % 2 ^ 16, e⟩] ∧
      (writeRecord s).custody.journal.nextSeq = (s.custody.journal.nextSeq + 1) % 2 ^ 32 ∧
      (writeRecord s).custody.journal.slot = (s.custody.journal.slot + 1) % 4096 ∧ (writeRecord s).mem = s.mem ∧
      (writeRecord s).out = s.out := by
  have hwrite : writeRecord s = journalErase (s.setJournal (s.custody.journal.write (s.counter 6))) := by
    simp only [writeRecord, hfree, herasing, hslot, Bool.not_false, Bool.and_self, if_true]
  obtain ⟨f, x, herase⟩ := exists_journalErase_eq (s.setJournal (s.custody.journal.write (s.counter 6)))
  obtain ⟨q, l, hreport⟩ := exists_reportLost_eq { s.custody.journal with
    queue := rest
    records := s.custody.journal.records ++ [⟨s.custody.journal.nextSeq, s.custody.journal.slot, s.counter 6 % 2 ^ 16, e⟩]
    slot := (s.custody.journal.slot + 1) % 4096
    nextSeq := (s.custody.journal.nextSeq + 1) % 2 ^ 32 }
  rw [hwrite, herase]
  simp only [Journal.write, hqueue, hreport]
  exact ⟨rfl, rfl, rfl, rfl, rfl⟩

end Records

/-- Settles O31. -/
theorem marginsFaultsAndRecords : Obligations.MarginsFaultsAndRecords := by
  intro ch val s
  refine ⟨fun hdeck => ⟨fun hval hlife => ?_, fun hval => ?_, fun hval hdeployed hfinal => ?_, fun hval hlife => ?_⟩,
    fun hlife hclass => ?_, fun hlife => turnedDown_of_done rfl rfl (applyInject_of_lifecycle hlife),
    fun hwindow hawake => ?_, fun hwindow => ?_, execJournalRecordWritten_of_wait,
    fun e rest hup hfree herasing hslot hqueue => ⟨writeRecord s, ?_,
      exists_writeRecord_eq hfree herasing hslot hqueue⟩, fun hdown => ?_⟩
  · exact accepted_of_done rfl rfl ((command_of_eq _ hval).trans (applyClearSteps_of_ok hdeck hlife))
  · exact accepted_of_done rfl rfl ((command_of_eq _ hval).trans (applyRetire_of_ok hdeck))
  · refine accepted_of_done rfl rfl ((command_of_eq _ hval).trans (applyRestore_of_ok hdeck ?_))
    revert hdeployed hfinal
    cases s.lifecycle <;> simp [restoreAllowed]
  · refine turnedDown_of_done rfl rfl ((command_of_eq _ hval).trans (applyRestore_of_lifecycle ?_))
    rcases hlife with h | h <;> rw [h] <;> rfl
  · refine accepted_of_done rfl rfl ?_
    unfold applyInject
    exact guarded_of_passes _ s (firstFail_injectChecks hlife hclass)
  · simp only [exec, execErrorReportCoalesce, hwindow, Bool.true_and]
    rcases hawake with h | h | h <;> simp only [h, if_true]
  · simp only [exec, execErrorReportCoalesce, hwindow, Bool.false_and, Bool.false_eq_true, if_false]
  · simp only [exec, execJournalRecordWritten, hup, Bool.false_eq_true, if_false]
  · simp only [exec, execJournalRecordWritten, hdown, if_true]

end Sys2Proof.Machine
end

section
/-! SUPPORT and PROOFS. The ferry's links: packets in order, flows, retry, training and slow crossing (R295 to R302). -/

namespace Sys2Proof.Machine

open Sys2Proof.Claims

/-! ### What carrying packets leaves -/

/-- The facts of a port that carrying packets leaves: its state, its lanes, its neighbour, and the sequence that it
expects. -/
def Port.line (p : Port) : PortState × Nat × Nat × Nat := (p.st, p.lanes, p.neighbour, p.rxSeq)

theorem port_setPort (s : State) (n m : Nat) (p : Port) :
    (s.setPort n p).port m = if m = n ∧ n < s.ferry.ports.length then p else s.port m := by
  change ((lmod s.ferry.ports n fun _ => p)[m]?).getD Port.reset = _
  rw [lmod_eq_modify, List.getElem?_modify]
  by_cases hm : n = m
  · subst hm
    by_cases hn : n < s.ferry.ports.length
    · simp [hn]
    · simp [State.port, hn]
  · simp [State.port, hm, Ne.symm hm]

/-- A port that is up is one of the device's. -/
theorem lt_length_ports {s : State} {n : Nat} (h : (s.port n).st ≠ .down) : n < s.ferry.ports.length := by
  by_contra hn
  exact h (by rw [State.port, List.getElem?_eq_none (Nat.not_lt.1 hn)]; rfl)

theorem port_setPort_self {s : State} {n : Nat} (p : Port) (h : n < s.ferry.ports.length) : (s.setPort n p).port n = p := by
  rw [port_setPort, if_pos ⟨rfl, h⟩]

theorem port_setPort_of_ne {s : State} {n m : Nat} (p : Port) (h : m ≠ n) : (s.setPort n p).port m = s.port m := by
  rw [port_setPort, if_neg fun hm => h hm.1]

@[simp] theorem length_ports_setPort (s : State) (n : Nat) (p : Port) :
    (s.setPort n p).ferry.ports.length = s.ferry.ports.length := by
  change (lmod s.ferry.ports n fun _ => p).length = _
  rw [lmod_eq_modify, List.length_modify]

theorem ownNode_setPort (s : State) (n : Nat) (p : Port) : ownNode (s.setPort n p) = ownNode s := rfl

theorem nodeId_setPort (s : State) (n : Nat) (p : Port) : (s.setPort n p).nodeId = s.nodeId := rfl

theorem gaps_setPort (s : State) (n : Nat) (p : Port) : (s.setPort n p).ferry.gaps = s.ferry.gaps := rfl

theorem flowRx_setPort (s : State) (n : Nat) (p : Port) : (s.setPort n p).ferry.flowRx = s.ferry.flowRx := rfl

/-- A step that carries packets: it changes the queues and the counts of the ports, the pieces of broadcasts that wait, and
what has left the device. -/
structure Carries (s t : State) : Prop where
  shape : ∃ p b o, t = { s with ferry := { s.ferry with ports := p, broadcasts := b }, out := o }
  length : t.ferry.ports.length = s.ferry.ports.length
  line : ∀ n, (t.port n).line = (s.port n).line

namespace Carries

theorem refl (s : State) : Carries s s := ⟨⟨_, _, _, rfl⟩, rfl, fun _ => rfl⟩

theorem trans {s t u : State} (h : Carries s t) (h' : Carries t u) : Carries s u := by
  obtain ⟨⟨p, b, o, rfl⟩, hlength, hline⟩ := h
  obtain ⟨⟨q, c, r, rfl⟩, hlength', hline'⟩ := h'
  exact ⟨⟨q, c, r, rfl⟩, hlength'.trans hlength, fun n => (hline' n).trans (hline n)⟩

theorem setPort {s : State} {n : Nat} {p : Port} (h : p.line = (s.port n).line) : Carries s (s.setPort n p) := by
  refine ⟨⟨_, _, _, rfl⟩, length_ports_setPort _ _ _, fun m => ?_⟩
  rw [port_setPort]
  split
  next hm => rw [h, hm.1]
  · rfl

theorem setBroadcasts (s : State) (l : List Packet) : Carries s (s.setFerry { s.ferry with broadcasts := l }) :=
  ⟨⟨_, _, _, rfl⟩, rfl, fun _ => rfl⟩

theorem emit (s : State) (o : Out) : Carries s (s.emit o) := ⟨⟨_, _, _, rfl⟩, rfl, fun _ => rfl⟩

theorem foldl {α : Type} (l : List α) {f : State → α → State} (h : ∀ s a, Carries s (f s a)) (s : State) :
    Carries s (l.foldl f s) := by
  induction l generalizing s with
  | nil => exact refl s
  | cons a l ih => exact (h s a).trans (ih _)

theorem sendBareTo (s : State) (n kind dst seq : Nat) : Carries s (sendBareTo s n kind dst seq) := by
  dsimp only [Machine.sendBareTo]
  split
  · exact (setPort (by rfl)).trans (emit _ _)
  · exact refl s

theorem returnAck (s : State) (n : Nat) : Carries s (returnAck s n) := by
  dsimp only [Machine.returnAck]
  split
  · exact sendBareTo _ _ _ _ _
  · exact refl s

theorem leaveBuffer (s : State) (w : Waiting) : Carries s (leaveBuffer s w) := by
  dsimp only [Machine.leaveBuffer]
  split
  · exact refl s
  · split
    · exact refl s
    · exact (setPort (by rfl)).trans (returnAck _ _)

theorem pumpOne (s : State) (n : Nat) : Carries s (pumpOne s n) := by
  dsimp only [Machine.pumpOne]
  split
  · split
    · exact refl s
    · exact ((setPort (by rfl)).trans (emit _ _)).trans (leaveBuffer _ _)
  · exact refl s

theorem pump (s : State) (n : Nat) : Carries s (pump s n) := foldl _ (fun s _ => pumpOne s n) s

theorem askFullRate (s : State) (n : Nat) : Carries s (askFullRate s n) := by
  dsimp only [Machine.askFullRate]
  split
  · exact (setPort (by rfl)).trans (emit _ _)
  · exact refl s

theorem queueTo (s : State) (ports : List Nat) (p : Packet) (held : Option (Nat × Nat)) :
    Carries s (queueTo s ports p held) :=
  (foldl ports (fun _ _ => setPort (by rfl)) s).trans (foldl ports (fun s q => (pump s q).trans (askFullRate _ q)) _)

theorem sendFlowless (s : State) (node kind : Nat) (payload : Bytes) : Carries s (sendFlowless s node kind payload) := by
  dsimp only [Machine.sendFlowless]
  split
  · exact refl s
  · exact queueTo _ _ _ _

theorem feedBroadcast : ∀ (n : Nat) (s : State), Carries s (feedBroadcast n s)
  | 0, s => refl s
  | n + 1, s => by
    unfold Machine.feedBroadcast
    split
    · exact refl s
    · split
      · exact refl s
      · exact ((setBroadcasts _ _).trans (queueTo _ _ _ _)).trans (feedBroadcast n _)

theorem takeAck (s : State) (n : Nat) (p : Packet) : Carries s (takeAck s n p) :=
  ((setPort (by rfl)).trans (pump _ n)).trans (feedBroadcast _ _)

theorem nakOnce (s : State) (n : Nat) : Carries s (nakOnce s n) := by
  unfold Machine.nakOnce
  split
  · exact refl s
  · exact (setPort (by rfl)).trans (sendBareTo _ _ _ _ _)

theorem cutThrough (s : State) (n : Nat) (p : Packet) : Carries s (cutThrough s n p) := by
  unfold Machine.cutThrough
  split
  · refine foldl _ (fun s q => ?_) s
    dsimp only
    split
    · exact (setPort (by rfl)).trans (emit _ _)
    · exact refl s
  · exact refl s

theorem passOn (s : State) (n : Nat) (p : Packet) : Carries s (passOn s n p) := by
  dsimp only [Machine.passOn]
  split
  · exact foldl _ (fun _ _ => sendBareTo _ _ _ _ _) s
  · split
    · exact setPort (by rfl)
    · exact queueTo _ _ _ _

theorem ackFlow (s : State) (p : Packet) : Carries s (ackFlow s p) := by
  unfold Machine.ackFlow
  split
  · split
    · exact sendBareTo _ _ _ _ _
    · exact refl s
  · exact refl s

section Facts

variable {s t : State} (h : Carries s t)

include h

theorem st_eq (n : Nat) : (t.port n).st = (s.port n).st := congrArg (·.1) (h.line n)

theorem lanes_eq (n : Nat) : (t.port n).lanes = (s.port n).lanes := congrArg (·.2.1) (h.line n)

theorem neighbour_eq (n : Nat) : (t.port n).neighbour = (s.port n).neighbour := congrArg (·.2.2.1) (h.line n)

theorem rxSeq_eq (n : Nat) : (t.port n).rxSeq = (s.port n).rxSeq := congrArg (·.2.2.2) (h.line n)

theorem role_eq : t.ferry.role = s.ferry.role := by
  obtain ⟨p, b, o, rfl⟩ := h.shape
  rfl

theorem ownNode_eq : ownNode t = ownNode s := by
  obtain ⟨p, b, o, rfl⟩ := h.shape
  rfl

theorem gaps_eq : t.ferry.gaps = s.ferry.gaps := by
  obtain ⟨p, b, o, rfl⟩ := h.shape
  rfl

theorem flowRx_eq : t.ferry.flowRx = s.ferry.flowRx := by
  obtain ⟨p, b, o, rfl⟩ := h.shape
  rfl

theorem flowTx_eq : t.ferry.flowTx = s.ferry.flowTx := by
  obtain ⟨p, b, o, rfl⟩ := h.shape
  rfl

theorem sent_eq : t.ferry.sent = s.ferry.sent := by
  obtain ⟨p, b, o, rfl⟩ := h.shape
  rfl

theorem routes_eq : t.ferry.routes = s.ferry.routes := by
  obtain ⟨p, b, o, rfl⟩ := h.shape
  rfl

theorem val_eq (idx sub : Nat) : t.val idx sub = s.val idx sub := by
  obtain ⟨p, b, o, rfl⟩ := h.shape
  rfl

theorem mem_eq : t.mem = s.mem := by
  obtain ⟨p, b, o, rfl⟩ := h.shape
  rfl

theorem decks_eq : t.decks = s.decks := by
  obtain ⟨p, b, o, rfl⟩ := h.shape
  rfl

end Facts

end Carries

/-! ### Packets that arrive (R297, R298, R301) -/

section Arrival

variable {s t : State} {port : Fin 3} {n : Nat} {p : Packet}

theorem exec_of_mem_packetRows {r : Fin 3 → Packet → Instr} (hr : r ∈ packetRows) (port : Fin 3) (p : Packet) (s : State) :
    exec (r port p) s = .next (packetArrives port p s) := by
  revert r
  simp only [packetRows, List.forall_mem_cons, List.not_mem_nil, false_imp_iff, implies_true, and_true]
  and_intros <;> rfl

theorem packetArrives_of_not_delivered (h : arrive s port.val p = (t, false)) : packetArrives port p s = settleGaps t := by
  simp only [packetArrives, h, Bool.false_eq_true, if_false]

theorem packetArrives_of_delivered {kind : Nat} (h : delivered s port p kind t) :
    packetArrives port p s = settleGaps (deliverPacket port.val p t) := by
  simp only [packetArrives, h.2, if_true]

theorem settleGaps_of_settled (h : t.ferry.role ≠ .pilot ∨ t.ferry.gaps = []) : settleGaps t = t := by
  unfold settleGaps
  split
  next hpilot => rw [h.resolve_left (not_not_intro hpilot)]; rfl
  · rfl

/-- Nothing leaves a port that is not at full rate. -/
theorem returnAck_of_not_full (h : (s.port n).st ≠ .full) : returnAck s n = s := by
  unfold returnAck sendBare sendBareTo
  simp only [if_neg h, ite_self]

theorem arrive_of_not_received (h : receive s n p = (t, false)) : arrive s n p = (returnAck t n, false) := by
  simp only [arrive, h, Bool.not_false, if_true]

theorem arrive_of_not_full (h : (s.port n).st ≠ .full) : arrive s n p = (s, false) := by
  have hreceive : receive s n p = (s, false) := if_pos h
  rw [arrive_of_not_received hreceive, returnAck_of_not_full h]

variable (hfull : (s.port n).st = .full)

include hfull

theorem receive_of_corrupt (h : p.wellFormed = false) :
    receive s n p = (nakOnce (cutThrough (s.bumpBy 0x2B04 (n + 1) 64 1) n p) n, false) := by
  simp only [receive, hfull, ne_eq, not_true_eq_false, if_false, h, Bool.not_false, if_true]

/-- A corrupted packet is counted, and the port expects what it expected. -/
theorem arrive_of_corrupt (h : p.wellFormed = false) : (arrive s n p).2 = false ∧
    (arrive s n p).1.val 0x2B04 (n + 1) = (s.count 0x2B04 (n + 1) + 1) % 2 ^ 64 ∧
    ((arrive s n p).1.port n).rxSeq = (s.port n).rxSeq := by
  have hcarries := ((Carries.cutThrough (s.bumpBy 0x2B04 (n + 1) 64 1) n p).trans (Carries.nakOnce _ n)).trans
    (Carries.returnAck _ n)
  have hcount : (s.bumpBy 0x2B04 (n + 1) 64 1).val 0x2B04 (n + 1) = (s.count 0x2B04 (n + 1) + 1) % 2 ^ 64 :=
    val_setVal_self _ _ _ _
  rw [arrive_of_not_received (receive_of_corrupt hfull h)]
  exact ⟨rfl, (hcarries.val_eq _ _).trans hcount, (hcarries.rxSeq_eq n).trans rfl⟩

variable (hgood : p.wellFormed = true) (hkind : 2 ≤ p.kind)

include hgood hkind

/-- A packet of the next sequence is accepted once its acknowledgement has been taken. -/
theorem receive_of_next (hseq : p.linkSeq = (s.port n).rxSeq) :
    receive s n p = ((takeAck s n p).setPort n { (takeAck s n p).port n with
      rxSeq := ((s.port n).rxSeq + 1) % 256, nakked := false, ackOwed := true }, true) := by
  have hrx : ((takeAck s n p).port n).rxSeq = (s.port n).rxSeq := (Carries.takeAck s n p).rxSeq_eq n
  have hbare : p.bare = false := decide_eq_false (by omega)
  simp only [receive, hfull, ne_eq, not_true_eq_false, if_false, hgood, Bool.not_true, Bool.false_eq_true, hbare, hseq, hrx,
    if_true]

theorem receive_of_repeat (hseq : p.linkSeq ≠ (s.port n).rxSeq) (hnear : ((s.port n).rxSeq + 256 - p.linkSeq) % 256 ≤ 64) :
    receive s n p = ((takeAck s n p).setPort n { (takeAck s n p).port n with ackOwed := true }, false) := by
  have hrx : ((takeAck s n p).port n).rxSeq = (s.port n).rxSeq := (Carries.takeAck s n p).rxSeq_eq n
  have hbare : p.bare = false := decide_eq_false (by omega)
  simp only [receive, hfull, ne_eq, not_true_eq_false, if_false, hgood, Bool.not_true, Bool.false_eq_true, hbare, hseq, hrx,
    hnear, if_true]

theorem arrive_of_repeat (hseq : p.linkSeq ≠ (s.port n).rxSeq)
    (hnear : ((s.port n).rxSeq + 256 - p.linkSeq) % 256 ≤ 64) : arrive s n p
      = (sendBare ((takeAck s n p).setPort n { (takeAck s n p).port n with ackOwed := true }) n 0, false) := by
  have hin : n < (takeAck s n p).ferry.ports.length := by
    rw [(Carries.takeAck s n p).length]
    exact lt_length_ports (by rw [hfull]; decide)
  have howed : returnAck ((takeAck s n p).setPort n { (takeAck s n p).port n with ackOwed := true }) n
      = sendBare ((takeAck s n p).setPort n { (takeAck s n p).port n with ackOwed := true }) n 0 :=
    if_pos (by rw [port_setPort_self _ hin])
  rw [arrive_of_not_received (receive_of_repeat hfull hgood hkind hseq hnear), howed]

end Arrival

/-! ### Flows (R301) -/

section Flows

variable {s : State} {p : Packet}

theorem flowCheck_of_gap (h : s.ferry.gaps.contains (flowKey p) = true) : flowCheck s p = (s, false) := if_pos h

variable (hno : s.ferry.gaps.contains (flowKey p) = false)

include hno

theorem flowCheck_of_next (h : p.flowSeq = agetD s.ferry.flowRx (flowKey p) 0) :
    flowCheck s p = (ackFlow (s.setFerry { s.ferry with
      flowRx := aset s.ferry.flowRx (flowKey p) ((agetD s.ferry.flowRx (flowKey p) 0 + 1) % 2 ^ 16) }) p, true) := by
  simp only [flowCheck, hno, Bool.false_eq_true, if_false, h, if_true]

variable (hne : p.flowSeq ≠ agetD s.ferry.flowRx (flowKey p) 0)

include hne

theorem flowCheck_of_late (h : (agetD s.ferry.flowRx (flowKey p) 0 + 2 ^ 16 - p.flowSeq) % 2 ^ 16 < 2 ^ 15) :
    flowCheck s p = (s, false) := by
  simp only [flowCheck, hno, Bool.false_eq_true, if_false, hne, h, if_true]

theorem flowCheck_of_ahead (h : 2 ^ 15 ≤ (agetD s.ferry.flowRx (flowKey p) 0 + 2 ^ 16 - p.flowSeq) % 2 ^ 16) :
    flowCheck s p = (noteGap s (flowKey p), false) := by
  simp only [flowCheck, hno, Bool.false_eq_true, if_false, hne, Nat.not_lt.2 h]

omit hne in
/-- A flow without a gap delivers its next packet, and that one alone. -/
theorem flowCheck_delivers :
    (flowCheck s p).2 = decide (p.flowSeq = agetD s.ferry.flowRx (flowKey p) 0) := by
  by_cases hnext : p.flowSeq = agetD s.ferry.flowRx (flowKey p) 0
  · rw [flowCheck_of_next hno hnext, decide_eq_true hnext]
  · rw [decide_eq_false hnext]
    rcases Nat.lt_or_ge ((agetD s.ferry.flowRx (flowKey p) 0 + 2 ^ 16 - p.flowSeq) % 2 ^ 16) (2 ^ 15) with hlate | hahead
    · rw [flowCheck_of_late hno hnext hlate]
    · rw [flowCheck_of_ahead hno hnext hahead]

omit hno hne in
/-- The check of a flow carries packets, once the flow's own account has been changed. -/
theorem flowCheck_carries (s : State) (p : Packet) :
    ∃ u : State, u.ferry.ports = s.ferry.ports ∧ Carries u (flowCheck s p).1 := by
  unfold flowCheck
  dsimp only
  split
  · exact ⟨s, rfl, .refl s⟩
  · split
    · refine ⟨_, ?_, .ackFlow _ p⟩
      rfl
    · split
      · exact ⟨s, rfl, .refl s⟩
      · unfold noteGap
        dsimp only
        split
        · refine ⟨_, ?_, .sendFlowless _ _ _ _⟩
          rfl
        · refine ⟨_, ?_, .refl _⟩
          rfl

end Flows

section Accepted

variable {s : State} {n : Nat} {p : Packet} (hfull : (s.port n).st = .full) (hgood : p.wellFormed = true)
  (hkind : 2 ≤ p.kind) (hseq : p.linkSeq = (s.port n).rxSeq)

include hfull hgood hkind hseq

/-- The state in which an accepted packet has been passed on. -/
theorem exists_arrive_of_next : ∃ u, ((u.port n).rxSeq = ((s.port n).rxSeq + 1) % 256) ∧ u.ferry.gaps = s.ferry.gaps ∧
    u.ferry.flowRx = s.ferry.flowRx ∧ arrive s n p =
      (let f := if !forHere s p then (u, false) else if p.dst = 0 || p.flowless then (u, true) else flowCheck u p
       (returnAck f.1 n, f.2)) := by
  have hack := Carries.takeAck s n p
  have hin : n < (takeAck s n p).ferry.ports.length := by
    rw [hack.length]
    exact lt_length_ports (by rw [hfull]; decide)
  have hbare : p.bare = false := decide_eq_false (by omega)
  generalize hv : (takeAck s n p).setPort n { (takeAck s n p).port n with
      rxSeq := ((s.port n).rxSeq + 1) % 256, nakked := false, ackOwed := true } = v
  have hreceive : receive s n p = (v, true) := hv ▸ receive_of_next hfull hgood hkind hseq
  have hpass := Carries.passOn v n p
  have hhere : forHere v p = forHere s p := by
    have hown : ownNode v = ownNode s := by rw [← hv, ownNode_setPort, hack.ownNode_eq]
    have hnode : v.nodeId = s.nodeId := by
      obtain ⟨q, b, o, hshape⟩ := hack.shape
      rw [← hv, nodeId_setPort, hshape]
      rfl
    simp only [forHere, hown, hnode]
  refine ⟨passOn v n p, ?_, hpass.gaps_eq.trans ?_, hpass.flowRx_eq.trans ?_, ?_⟩
  · rw [hpass.rxSeq_eq, ← hv, port_setPort_self _ hin]
  · rw [← hv, gaps_setPort, hack.gaps_eq]
  · rw [← hv, flowRx_setPort, hack.flowRx_eq]
  · simp only [arrive, hreceive, Bool.not_true, Bool.false_eq_true, if_false, hbare, Bool.false_and, hhere]

theorem rxSeq_arrive_of_next : ((arrive s n p).1.port n).rxSeq = ((s.port n).rxSeq + 1) % 256 := by
  obtain ⟨u, hrx, -, -, harrive⟩ := exists_arrive_of_next hfull hgood hkind hseq
  rw [harrive]
  dsimp only
  rw [(Carries.returnAck _ n).rxSeq_eq, ← hrx]
  split
  · rfl
  · split
    · rfl
    · obtain ⟨v, hports, hcarries⟩ := flowCheck_carries u p
      rw [hcarries.rxSeq_eq, State.port, State.port, hports]

theorem arrive_delivers (hhere : forHere s p = true) (hflow : (p.dst = 0 || p.flowless) = true) :
    (arrive s n p).2 = true := by
  obtain ⟨u, -, -, -, harrive⟩ := exists_arrive_of_next hfull hgood hkind hseq
  simp only [harrive, hhere, hflow, Bool.not_true, Bool.false_eq_true, if_false, if_true]

theorem arrive_delivers_next (hhere : forHere s p = true) (hflow : (p.dst = 0 || p.flowless) = false) :
    (arrive s n p).2 = (!s.ferry.gaps.contains (flowKey p) && decide (p.flowSeq = agetD s.ferry.flowRx (flowKey p) 0)) := by
  obtain ⟨u, -, hgaps, hrx, harrive⟩ := exists_arrive_of_next hfull hgood hkind hseq
  simp only [harrive, hhere, hflow, Bool.not_true, Bool.false_eq_true, if_false, ← hgaps, ← hrx]
  cases hgap : u.ferry.gaps.contains (flowKey p) with
  | true => rw [flowCheck_of_gap hgap]; rfl
  | false => rw [flowCheck_delivers hgap]; rfl

end Accepted

/-- Settles O23. -/
theorem packetsAreTakenInOrder : Obligations.PacketsAreTakenInOrder := by
  intro port p s
  refine ⟨fun r hr t h => (exec_of_mem_packetRows hr port p s).trans
      (congrArg Host.Outcome.next (packetArrives_of_not_delivered h)), fun t => settleGaps_of_settled, arrive_of_not_full,
    arrive_of_corrupt, fun hfull hgood hkind => ⟨fun hseq => ⟨rxSeq_arrive_of_next hfull hgood hkind hseq, fun hdst => ?_,
      fun _ _ hown hflow => ?_, fun hdst _ hown hflow => ?_⟩, fun hseq hnear t ht => ?_⟩⟩
  · refine arrive_delivers hfull hgood hkind hseq ?_ ?_
    · simp only [forHere, hdst, decide_true, Bool.true_or]
    · rw [decide_eq_true hdst, Bool.true_or]
  · refine arrive_delivers hfull hgood hkind hseq ?_ ?_
    · simp only [forHere, hown, decide_true, Bool.true_or, Bool.or_true]
    · rw [hflow, Bool.or_true]
  · refine arrive_delivers_next hfull hgood hkind hseq ?_ ?_
    · simp only [forHere, hown, decide_true, Bool.true_or, Bool.or_true]
    · rw [hflow, decide_eq_false hdst, Bool.or_self]
  · rw [arrive_of_repeat hfull hgood hkind hseq hnear, ht]

/-! ### Control packets and resets of flows (R301) -/

section Resets

variable {s : State} {node cls q : Nat} {flags context kind : Nat} {payload : Bytes}

theorem sendTo_of_route (h : aget s.ferry.routes node = some q) : ∃ p, p.payload = payload ∧
    sendTo s node kind 0 flags context payload = enqueue (s.setFerry { s.ferry with
      flowTx := aset s.ferry.flowTx (node, 0) ((agetD s.ferry.flowTx (node, 0) 0 + 1) % 2 ^ 16)
      sent := s.ferry.sent ++ [(node, p)] }) q p :=
  ⟨mkPacket kind 0 (ownNode s) node flags (agetD s.ferry.flowTx (node, 0) 0) context payload, rfl, by
    simp only [sendTo, h, if_true]⟩

/-- A control packet to a node with a route is kept until it is acknowledged. -/
theorem sendTo_sent (h : aget s.ferry.routes node = some q) :
    ∃ p, (sendTo s node kind 0 flags context payload).ferry.sent = s.ferry.sent ++ [(node, p)] ∧ p.payload = payload ∧
      (sendTo s node kind 0 flags context payload).ferry.routes = s.ferry.routes ∧
      aget (sendTo s node kind 0 flags context payload).ferry.flowTx (node, 0)
        = some ((agetD s.ferry.flowTx (node, 0) 0 + 1) % 2 ^ 16) := by
  obtain ⟨p, hpayload, hsend⟩ := sendTo_of_route (kind := kind) (flags := flags) (context := context)
    (payload := payload) h
  rw [hsend, enqueue]
  refine ⟨p, (Carries.queueTo _ _ _ _).sent_eq, hpayload, (Carries.queueTo _ _ _ _).routes_eq, ?_⟩
  rw [(Carries.queueTo _ _ _ _).flowTx_eq, State.setFerry_ferry, aget_aset_self]

/-- Packets that go out again are kept again, in order. -/
theorem foldl_sendTo_sent (l : List Packet) (h : aget s.ferry.routes node = some q) :
    ((l.foldl (fun s p => sendTo s node p.kind 0 (fld p.header 6 1) p.context p.payload) s).ferry.sent.filter
      (fun x => decide (x.1 = node))).map (·.2.payload)
    = (s.ferry.sent.filter (fun x => decide (x.1 = node))).map (·.2.payload) ++ l.map (·.payload) := by
  induction l generalizing s with
  | nil => rw [List.foldl_nil, List.map_nil, List.append_nil]
  | cons p l ih =>
    obtain ⟨p', hsent, hpayload, hroutes, -⟩ := sendTo_sent (kind := p.kind) (flags := fld p.header 6 1)
      (context := p.context) (payload := p.payload) h
    rw [List.foldl_cons, ih (by rw [hroutes, h]), hsent, List.filter_append, List.map_append, List.append_assoc]
    simp [hpayload]

theorem resetTx_sent (h : aget s.ferry.routes node = some q) :
    ((resetTx node 0 s).ferry.sent.filter (fun x => decide (x.1 = node))).map (·.2.payload)
      = (s.ferry.sent.filter (fun x => decide (x.1 = node))).map (·.2.payload) := by
  simp only [resetTx, if_true]
  refine (foldl_sendTo_sent (q := q) _ ?_).trans ?_
  · exact h
  simp only [State.setFerry_ferry, List.filter_filter, List.map_map]
  have hnone : s.ferry.sent.filter (fun x => decide (x.1 = node) && !decide (x.1 = node)) = [] :=
    List.filter_eq_nil_iff.2 fun x _ => by simp
  rw [hnone]
  rfl

theorem resetTx_flowTx (h : cls ≠ 0) : aget (resetTx node cls s).ferry.flowTx (node, cls) = none := by
  simp only [resetTx, if_neg h, List.foldl_nil]
  exact (aget_adel _ _ _).trans (if_pos rfl)

theorem sent_dropSent {src seq : Nat} : ∀ x ∈ (dropSent s src seq).ferry.sent, x.1 = src → x.2.flowSeq ≠ seq := by
  intro x hx hsrc hseq
  have hkept := (List.mem_filter.1 hx).2
  have hsame : (seq + 2 ^ 16 - x.2.flowSeq) % 2 ^ 16 < 2 ^ 15 := by omega
  rw [decide_eq_true hsrc, decide_eq_true hsame] at hkept
  exact Bool.false_ne_true hkept

end Resets

/-- Settles O58. -/
theorem flowsAreCheckedAndReset : Obligations.FlowsAreCheckedAndReset := by
  intro s
  refine ⟨fun p hno => ⟨fun hnext => ?_, fun hne => ⟨flowCheck_of_late hno hne, fun hahead => ?_⟩⟩,
    fun key => ⟨?_, ?_, fun k hk => ?_⟩, fun node kind flags context payload q hq => ?_, fun port p t h => ⟨?_, sent_dropSent⟩,
    fun node q hq => resetTx_sent hq, fun node cls hcls => resetTx_flowTx hcls⟩
  · rw [flowCheck_of_next hno hnext]
    refine ⟨rfl, ?_⟩
    rw [(Carries.ackFlow _ p).flowRx_eq]
    exact aget_aset_self _ _ _
  · rw [flowCheck_of_ahead hno hne hahead]
    have hgaps : (noteGap s (flowKey p)).ferry.gaps = s.ferry.gaps ++ [flowKey p] := by
      unfold noteGap
      dsimp only
      split
      · exact (Carries.sendFlowless _ _ _ _).gaps_eq
      · rfl
    refine ⟨rfl, hgaps, fun q hq => flowCheck_of_gap ?_⟩
    rw [hq, hgaps, List.contains_eq_mem]
    simp
  · simp [resetRx]
  · exact (congrArg (Option.getD · 0) ((aget_adel _ _ _).trans (if_pos rfl))).trans rfl
  · exact congrArg (Option.getD · 0) ((aget_adel _ _ _).trans (if_neg hk.symm))
  · obtain ⟨p, hsent, hpayload, -, hflow⟩ := sendTo_sent (kind := kind) (flags := flags) (context := context)
      (payload := payload) hq
    exact ⟨p, hsent, hpayload, hflow⟩
  · refine (exec_of_mem_packetRows (r := .idlePacket) (by simp only [packetRows, List.mem_cons, true_or]) port p s).trans ?_
    rw [packetArrives_of_delivered h]
    simp only [deliverPacket, h.1, takeIdle]

end Sys2Proof.Machine
end

section
/-! SUPPORT and PROOFS. Retry, training, downshift and slow crossing of a ferry link (R295, R296, R298, R302). -/

namespace Sys2Proof.Machine

open Sys2Proof.Claims

/-! ### Acknowledgements and resends (R298) -/

section Retry

variable {s t : State} {port : Fin 3} {n : Nat} {p : Packet}

/-- A port with nothing to send sends nothing. -/
theorem pump_of_empty (h : (s.port n).outbox = []) : pump s n = s := by
  refine foldl_fixed_of_mem fun _ _ => ?_
  simp only [pumpOne, h, firstCredited, ite_self]

theorem feedBranches_of_empty (h : s.ferry.broadcasts = []) : feedBranches s = s := by
  rw [feedBranches, h]
  rfl

/-- An IDLE of the neighbour, at a port with nothing to send: what it acknowledges is dropped, its credits are added. -/
theorem takeAck_of_idle (hempty : (s.port n).outbox = []) (hbroadcasts : s.ferry.broadcasts = [])
    (hin : n < s.ferry.ports.length) (hbare : p.bare = true) :
    ((takeAck s n p).port n).unacked = ackedDrop (s.port n).unacked p.linkAck ∧
      ((takeAck s n p).port n).credits = addCredits (s.port n).credits p := by
  simp only [takeAck, hbare, Bool.true_or, if_true]
  have hfeed : ∀ q, feedBranches (s.setPort n q) = s.setPort n q := fun q => feedBranches_of_empty hbroadcasts
  rw [pump_of_empty (by rw [port_setPort_self _ hin]; exact hempty), hfeed, port_setPort_self _ hin]
  exact ⟨rfl, rfl⟩

/-- An acknowledgement that goes out leaves what a port has unacknowledged, and its credits. -/
theorem returnAck_keeps (s : State) (n : Nat) : ((returnAck s n).port n).unacked = (s.port n).unacked ∧
    ((returnAck s n).port n).credits = (s.port n).credits := by
  unfold returnAck
  split
  · unfold sendBare sendBareTo
    dsimp only
    split
    · change ((s.setPort n (s.port n).afterReturn).port n).unacked = _ ∧
        ((s.setPort n (s.port n).afterReturn).port n).credits = _
      rw [port_setPort]
      split <;> exact ⟨rfl, rfl⟩
    · exact ⟨rfl, rfl⟩
  · exact ⟨rfl, rfl⟩

theorem arrive_of_idle (hfull : (s.port n).st = .full) (hgood : p.wellFormed = true) (hbare : p.bare = true)
    (hdst : p.dst = 0) : arrive s n p = (returnAck (takeAck s n p) n, true) := by
  have hreceive : receive s n p = (takeAck s n p, true) := by
    simp only [receive, hfull, ne_eq, not_true_eq_false, if_false, hgood, Bool.not_true, Bool.false_eq_true, hbare, if_true]
  have hhere : forHere (takeAck s n p) p = true := by simp only [forHere, hdst, decide_true, Bool.true_or]
  simp only [arrive, hreceive, Bool.not_true, Bool.false_eq_true, if_false, hbare, hhere, Bool.and_self, if_true, hdst,
    decide_true, Bool.true_or]

/-- What is resent leaves in order, behind what has left. -/
theorem foldl_emit (l : List Packet) (n : Nat) (s : State) :
    l.foldl (fun s p => s.emit (.packet n p)) s = { s with out := s.out ++ l.map (Out.packet n) } := by
  induction l generalizing s with
  | nil => rw [List.foldl_nil, List.map_nil, List.append_nil]
  | cons p l ih =>
    rw [List.foldl_cons, ih, List.map_cons]
    simp only [State.emit, List.append_assoc, List.singleton_append]

theorem resend_keeps (hin : n < s.ferry.ports.length) (h : (s.port n).unacked.isEmpty = false) :
    (resend s n).out = s.out ++ (s.port n).unacked.map (Out.packet n) ∧
      (resend s n).val 0x2B05 (n + 1) = (s.count 0x2B05 (n + 1) + (s.port n).unacked.length) % 2 ^ 64 ∧
      (resend s n).port n = { s.port n with resends := (s.port n).resends + 1 } ∧ (resend s n).mem = s.mem := by
  have hresend : resend s n = { (s.setPort n { s.port n with resends := (s.port n).resends + 1 }).bumpBy 0x2B05 (n + 1) 64
      (s.port n).unacked.length with out := s.out ++ (s.port n).unacked.map (Out.packet n) } := by
    simp only [resend, h, Bool.false_eq_true, if_false, foldl_emit]
    rfl
  rw [hresend]
  exact ⟨rfl, val_setVal_self _ _ _ _, port_setPort_self _ hin, rfl⟩

/-- A packet of a dead link waits at other ports, or leaves its buffer. -/
theorem Carries.waitAt (l : List Nat) (w : Waiting) (s : State) : Carries s (if l.isEmpty then Machine.leaveBuffer s w
    else l.foldl (fun s q => s.setPort q { s.port q with outbox := w :: (s.port q).outbox }) s) := by
  split
  · exact .leaveBuffer _ _
  · exact Carries.foldl _ (fun _ _ => .setPort (by rfl)) _

/-- What waited for a link that is down goes over the others, whose states stay. -/
theorem Carries.resendOver (l : List Waiting) (s : State) : Carries s (resendOver l s) := by
  unfold Machine.resendOver
  dsimp only
  refine (Carries.foldl _ (fun s w => ?_) s).trans (Carries.foldl _ (fun s q => (Carries.pump s q).trans (.askFullRate _ q)) _)
  exact Carries.waitAt _ w s

/-- A port that starts afresh is down, whatever waits at the others. -/
theorem st_of_afresh {f : Port → Port} (hf : ∀ p, (f p).st = p.st)
    (h : t.ferry.ports = (s.setPort n Port.reset).ferry.ports.map f) : (t.port n).st = .down := by
  rw [State.port, h, List.getElem?_map]
  have hst : ((s.setPort n Port.reset).port n).st = .down := by
    rw [port_setPort]
    split
    · rfl
    next hout =>
      by_contra hup
      exact hout ⟨rfl, lt_length_ports hup⟩
  rw [State.port] at hst
  cases hp : (s.setPort n Port.reset).ferry.ports[n]? with
  | none => rfl
  | some p =>
    rw [hp] at hst
    exact (hf p).trans hst

theorem role_setPort (s : State) (n : Nat) (p : Port) : (s.setPort n p).ferry.role = s.ferry.role := rfl

/-- A link of an unmoored device goes down: the port starts afresh. -/
theorem linkDown_of_unmoored (h : s.ferry.role = .unmoored) : ((linkDown n s).port n).st = .down ∧
    (linkDown n s).mem = s.mem ∧ (linkDown n s).decks = s.decks := by
  unfold linkDown
  simp only [State.setFerry_ferry, role_setPort, h]
  split
  all_goals
    have hcarries := fun l v => Carries.resendOver l v
    refine ⟨?_, ?_, ?_⟩
    · rw [(hcarries _ _).st_eq]
      exact st_of_afresh (s := s) (f := fun p => { p with outbox := p.outbox.map (forgetHeld n) }) (fun _ => rfl) rfl
    · rw [(hcarries _ _).mem_eq]
      rfl
    · rw [(hcarries _ _).decks_eq]
      rfl

end Retry

/-! ### Training (R295, R296) -/

section Training

variable {s t : State} {port : Fin 3} {failed : List (Fin 4)} {k : Nat}

theorem lanesLeft_cases : lanesLeft [] = some 4 ∧ (∀ failed, 0 ∈ failed → lanesLeft failed = none) ∧
    (∀ failed, 0 ∉ failed → 1 ∈ failed → lanesLeft failed = some 1) ∧
    (∀ failed, failed ≠ [] → 0 ∉ failed → 1 ∉ failed → lanesLeft failed = some 2) := by
  have hempty : ∀ failed : List (Fin 4), failed ≠ [] → failed.isEmpty = false := fun failed h => by
    cases failed
    · exact absurd rfl h
    · rfl
  refine ⟨rfl, fun failed h0 => ?_, fun failed h0 h1 => ?_, fun failed hne h0 h1 => ?_⟩
  · simp only [lanesLeft, List.contains_eq_mem, h0, decide_true, if_true]
  · have hne : failed ≠ [] := List.ne_nil_of_mem h1
    simp only [lanesLeft, List.contains_eq_mem, h0, h1, decide_true, decide_false, hempty failed hne, Bool.false_eq_true,
      if_false, if_true]
  · simp only [lanesLeft, List.contains_eq_mem, h0, h1, decide_false, hempty failed hne, Bool.false_eq_true, if_false]

theorem Carries.feedBranches (s : State) : Carries s (feedBranches s) := .feedBroadcast _ s

theorem Carries.sendNeighbour (s : State) (port kind context : Nat) (payload : Bytes) :
    Carries s (sendNeighbour s port kind context payload) := .queueTo _ _ _ _

/-- A link that trains is at full rate with its lanes: afresh from down, and where it was from slow crossing. -/
theorem execLinkTrained_of_lanes (hawake : ferryAwake s = true) (huse : bitOf (s.val 0x2B30 1) port.val = true)
    (hlength : s.ferry.ports.length = 3) (hlanes : lanesLeft failed = some k) (hst : (s.port port.val).st ≠ .full) :
    ∃ t, exec (.linkTrained port failed) s = .next t ∧ (t.port port.val).st = .full ∧ (t.port port.val).lanes = k ∧
      (t.port port.val).rxSeq = (if (s.port port.val).st = .down then 0 else (s.port port.val).rxSeq) := by
  have hin : port.val < s.ferry.ports.length := by rw [hlength]; exact port.isLt
  have hself := fun p => port_setPort_self (s := s) (n := port.val) p hin
  simp only [exec, execLinkTrained, hawake, Bool.not_true, decide_eq_false hst, Bool.or_self, Bool.false_eq_true, if_false,
    hlanes, huse]
  by_cases hdown : (s.port port.val).st = .down
  · simp only [hdown, if_true]
    have hcarries := Carries.sendNeighbour (s.setPort port.val { Port.reset with st := .full, lanes := k }) port.val 2 0
      (helloPayload (s.setPort port.val { Port.reset with st := .full, lanes := k }))
    exact ⟨_, rfl, by rw [hcarries.st_eq, hself], by rw [hcarries.lanes_eq, hself], by rw [hcarries.rxSeq_eq, hself]; rfl⟩
  · simp only [hdown, if_false]
    have hcarries := (Carries.pump (s.setPort port.val { s.port port.val with
      st := .full, lanes := k, silence := 0, wakeSent := false }) port.val).trans (.feedBranches _)
    exact ⟨_, rfl, (hcarries.st_eq _).trans (by rw [hself]), (hcarries.lanes_eq _).trans (by rw [hself]),
      (hcarries.rxSeq_eq _).trans (by rw [hself])⟩

theorem execLinkTrained_of_none (hawake : ferryAwake s = true) (hlanes : lanesLeft failed = none)
    (hst : (s.port port.val).st ≠ .full) :
    exec (.linkTrained port failed) s = .next (if portUp s port.val then linkDown port.val s else s) := by
  simp only [exec, execLinkTrained, hawake, Bool.not_true, decide_eq_false hst, Bool.or_self, Bool.false_eq_true, if_false,
    hlanes]

/-- A link that drops keeps what is unacknowledged and what waits, which asks for full rate. -/
theorem takeDownshift_keeps {n : Nat} (hin : n < t.ferry.ports.length) {u : State} (hu : takeDownshift n t = u) :
    (u.port n).st = .slow ∧ (u.port n).unacked = (t.port n).unacked ∧ (u.port n).outbox = (t.port n).outbox ∧
      ((t.port n).unacked = [] → (t.port n).outbox = [] → u.out = t.out) ∧
      ((t.port n).unacked ≠ [] ∨ (t.port n).outbox ≠ [] → (u.port n).wakeSent = true) := by
  have hslow : (toSlow t n).port n = { t.port n with st := .slow, silence := 0, wakeSent := false } :=
    port_setPort_self _ hin
  have hin' : n < (toSlow t n).ferry.ports.length := by rw [toSlow, length_ports_setPort]; exact hin
  have hnil : (t.port n).unacked ++ (t.port n).outbox.map (·.packet) ≠ []
      ↔ (t.port n).unacked ≠ [] ∨ (t.port n).outbox ≠ [] := by
    rw [ne_eq, List.append_eq_nil_iff, List.map_eq_nil_iff, not_and_or]
  subst hu
  unfold takeDownshift askFullRate
  simp only [hslow, hnil]
  split
  next h =>
    have hport : ∀ o q, (((toSlow t n).setPort n q).emit o).port n = q := fun _ q => port_setPort_self q hin'
    simp only [hport]
    exact ⟨trivial, trivial, trivial, fun h1 h2 => absurd h.2.2 (by simp [h1, h2]), fun _ => trivial⟩
  next h =>
    rw [hslow]
    exact ⟨rfl, rfl, rfl, fun _ _ => rfl, fun h' => absurd ⟨trivial, trivial, h'⟩ h⟩

end Training

/-! ### Slow crossing (R302) -/

section Slow

variable {s : State} {port : Fin 3} {f : Bytes}

theorem exec_of_mem_slowRows {r : Fin 3 → Bytes → Instr} (hr : r ∈ slowRows) (port : Fin 3) (f : Bytes) (s : State) :
    exec (r port f) s = .next (slowArrives port f s) := by
  revert r
  simp only [slowRows, List.forall_mem_cons, List.not_mem_nil, false_imp_iff, implies_true, and_true]
  and_intros <;> rfl

theorem slowArrives_of_discarded (h : (s.port port.val).st = .down ∨ slowValid f = false) : slowArrives port f s = s := by
  have harrive : slowArrive s port.val f = (s, false) := if_pos (h.imp_right fun h => by rw [h]; rfl)
  simp only [slowArrives, harrive, Bool.false_eq_true, if_false]

theorem slowArrives_of_keepalive (hst : (s.port port.val).st ≠ .down) (hvalid : slowValid f = true) (htype : fld f 1 1 = 1)
    (hhere : fld f 2 1 / 16 = 0 ∨ fld f 2 1 / 16 = ownNode s) :
    slowArrives port f s = s.setPort port.val { s.port port.val with silence := 0 } := by
  have harrive : slowArrive s port.val f = (s.setPort port.val { s.port port.val with silence := 0 }, true) := by
    have hno : ¬((s.port port.val).st = .down ∨ (!slowValid f) = true) := by
      rw [hvalid]
      exact not_or_intro hst Bool.false_ne_true
    simp only [slowArrive, if_neg hno, ownNode_setPort, hhere, if_true]
  simp only [slowArrives, harrive, if_true, deliverSlow, htype]

/-- What the keep-alives of some ports leave of the state: each port in slow crossing sends one. -/
theorem foldl_keepaliveOne (l : List Nat) (hl : l.Nodup) (s : State) :
    (l.foldl keepaliveOne s).out = s.out ++ (l.filter (fun n => decide ((s.port n).st = .slow))).map
        (fun n => Out.slowFrame n (slowFrameOf 1 (ownNode s) [])) ∧
      (∀ n, n ∉ l → (l.foldl keepaliveOne s).port n = s.port n) ∧
      ∀ n ∈ l, (s.port n).st = .slow →
        (l.foldl keepaliveOne s).port n = { s.port n with silence := (s.port n).silence + 1 } := by
  induction l generalizing s with
  | nil => exact ⟨(List.append_nil _).symm, fun _ _ => rfl, fun _ h => absurd h List.not_mem_nil⟩
  | cons a l ih =>
    obtain ⟨ha, hl⟩ := List.nodup_cons.1 hl
    obtain ⟨hout, hother, hslow⟩ := ih hl (keepaliveOne s a)
    have hport : ∀ n, n ≠ a → (keepaliveOne s a).port n = s.port n := fun n hn => by
      unfold keepaliveOne
      split
      · exact port_setPort_of_ne _ hn
      · rfl
    have hown : ownNode (keepaliveOne s a) = ownNode s := by
      unfold keepaliveOne
      split <;> rfl
    have hfilter : l.filter (fun n => decide (((keepaliveOne s a).port n).st = .slow))
        = l.filter (fun n => decide ((s.port n).st = .slow)) :=
      List.filter_congr fun n hn => by rw [hport n fun h => ha (h ▸ hn)]
    have hpos : (s.port a).st = .slow → (a :: l).filter (fun n => decide ((s.port n).st = .slow))
        = a :: l.filter (fun n => decide ((s.port n).st = .slow)) := fun h =>
      List.filter_cons_of_pos (p := fun n => decide ((s.port n).st = .slow)) (decide_eq_true h)
    have hneg : (s.port a).st ≠ .slow → (a :: l).filter (fun n => decide ((s.port n).st = .slow))
        = l.filter (fun n => decide ((s.port n).st = .slow)) := fun h =>
      List.filter_cons_of_neg (p := fun n => decide ((s.port n).st = .slow)) (by simpa using h)
    rw [List.foldl_cons]
    refine ⟨?_, fun n hn => ?_, fun n hn hst => ?_⟩
    · rw [hout, hfilter, hown]
      by_cases hst : (s.port a).st = .slow
      · rw [hpos hst, keepaliveOne, if_pos hst, List.map_cons]
        exact List.append_assoc _ _ _
      · rw [hneg hst, keepaliveOne, if_neg hst]
    · rw [hother n fun h => hn (List.mem_cons_of_mem _ h), hport n fun h => hn (h ▸ List.mem_cons_self)]
    · rcases List.mem_cons.1 hn with rfl | hn
      · rw [hother n ha, keepaliveOne, if_pos hst]
        exact port_setPort_self _ (lt_length_ports (by rw [hst]; decide))
      · have hna : n ≠ a := fun h => ha (h ▸ hn)
        rw [hslow n hn (by rw [hport n hna, hst]), hport n hna]

end Slow

/-- Settles O24. -/
theorem linksRetryTrainAndFall : Obligations.LinksRetryTrainAndFall := by
  intro port s
  have hin : ∀ {st : PortState}, (s.port port.val).st = st → st ≠ .down → port.val < s.ferry.ports.length :=
    fun hst hne => lt_length_ports (hst ▸ hne)
  have hrow : ∀ r ∈ packetRows, ∀ {p kind t}, delivered s port p kind t →
      exec (r port p) s = .next (settleGaps (deliverPacket port.val p t)) := fun r hr p kind t h =>
    (exec_of_mem_packetRows hr port p s).trans (congrArg Host.Outcome.next (packetArrives_of_delivered h))
  refine ⟨fun p t hfull hempty hbroadcasts hgood hdst h => ?_, fun p t h hfew => ?_, fun p t h hmany => ?_,
    fun hfull hsome hfew => ?_, fun hfull hsome hmany => ?_, linkDown_of_unmoored, lanesLeft_cases,
    fun failed k => execLinkTrained_of_lanes, fun failed => execLinkTrained_of_none, fun p t u h hlength hu => ⟨?_, ?_⟩,
    fun f hst hvalid htype hhere => ?_, fun f hdiscarded r hr => ?_, ?_, fun hst hsilent => ?_, fun hheard => ?_⟩
  · have hbare : p.bare = true := decide_eq_true (by rw [h.1]; exact Nat.zero_le 1)
    obtain ⟨hunacked, hcredits⟩ := takeAck_of_idle hempty hbroadcasts (hin hfull (by decide)) hbare
    obtain ⟨hkept, hkept'⟩ := returnAck_keeps (takeAck s port.val p) port.val
    obtain ⟨ht, -⟩ := Prod.mk.inj ((arrive_of_idle hfull hgood hbare hdst).symm.trans h.2)
    rw [← ht, hkept, hkept']
    exact ⟨hunacked, hcredits⟩
  · rw [hrow _ (by simp only [packetRows, List.mem_cons, true_or, or_true]) h]
    simp only [deliverPacket, h.1, resendOrDown, Nat.not_le.2 hfew, if_false]
  · rw [hrow _ (by simp only [packetRows, List.mem_cons, true_or, or_true]) h]
    simp only [deliverPacket, h.1, resendOrDown, hmany, if_true]
  · refine ⟨resend s port.val, ?_, resend_keeps (hin hfull (by decide)) hsome⟩
    simp only [exec, execRetryTimeout, hfull, hsome, ne_eq, not_true_eq_false, Bool.false_eq_true, or_self, if_false,
      resendOrDown, Nat.not_le.2 hfew]
  · simp only [exec, execRetryTimeout, hfull, hsome, ne_eq, not_true_eq_false, Bool.false_eq_true, or_self, if_false,
      resendOrDown, hmany, if_true]
  · rw [hrow _ (by simp only [packetRows, List.mem_cons, true_or, or_true]) h]
    simp only [deliverPacket, h.1, hu]
  · exact takeDownshift_keeps (by rw [hlength]; exact port.isLt) hu
  · rw [exec_of_mem_slowRows (r := .keepalive) (by simp only [slowRows, List.mem_cons, true_or]),
      slowArrives_of_keepalive hst hvalid htype hhere]
  · rw [exec_of_mem_slowRows hr, slowArrives_of_discarded hdiscarded]
  · obtain ⟨hout, -, hslow⟩ := foldl_keepaliveOne (List.range 3) List.nodup_range s
    exact ⟨_, rfl, hout, fun n hn => hslow n (List.mem_range.2 hn)⟩
  · simp only [exec, execKeepaliveSilence, hst, hsilent, and_self, if_true]
  · simp only [exec, execKeepaliveSilence, Nat.not_le.2 hheard, and_false, if_false]

end Sys2Proof.Machine
end

section
/-! SUPPORT and PROOFS. Stream contexts and the camera (R320, R321, R332 to R338, R374). -/

namespace Sys2Proof.Machine

open Sys2Proof.Claims

/-! ### The media state -/

section Media

variable (s : State) (c n : Nat) (x : Context)

theorem ctx_setCtx : (s.setCtx c x).ctx n = if c = n then x else s.ctx n := by
  change agetD (aset s.media.contexts c x) n Context.blank = _
  rw [agetD, aget_aset]
  split <;> rfl

@[simp] theorem ctx_setCtx_self : (s.setCtx c x).ctx c = x := by rw [ctx_setCtx, if_pos rfl]

@[simp] theorem ctx_countPosted : (countPosted s).ctx n = s.ctx n := rfl

theorem ctx_congr {s t : State} (h : t.media = s.media) (n : Nat) : t.ctx n = s.ctx n := by rw [State.ctx, h]; rfl

theorem cam_congr {s t : State} (h : t.media = s.media) (n : Nat) : t.cam n = s.cam n := by rw [State.cam, h]; rfl

theorem mediaMsix_media : (mediaMsix s).media = s.media := State.msix_media _ _

theorem mediaMsix_mem : (mediaMsix s).mem = s.mem := State.msix_mem _ _

theorem cam_setCam {s : State} {k : Nat} (x : Camera) (h : k < s.media.cameras.length) : (s.setCam k x).cam k = x := by
  change ((lmod s.media.cameras k fun _ => x)[k]?).getD Camera.reset = x
  rw [lmod_eq_modify, List.getElem?_modify_eq, List.getElem?_eq_getElem h]
  rfl

end Media

/-! ### Completions of jobs (R320, R338) -/

section Jobs

variable (s : State) (c status : Nat)

/-- What a completed job leaves: its completion, with the next order number. -/
theorem jobDone_spec (j : Job) : (jobDone s c status j).ctx c = { s.ctx c with
      completions := (s.ctx c).completions ++ [⟨j.tag, status, 0xFF, 0, 0, (s.ctx c).frames, 0, s.media.posted⟩] } ∧
    (jobDone s c status j).media.posted = s.media.posted + 1 ∧ (jobDone s c status j).mem = s.mem := by
  unfold jobDone ctxPost
  refine ⟨?_, by rw [mediaMsix_media]; rfl, by rw [mediaMsix_mem]; rfl⟩
  rw [ctx_congr (mediaMsix_media _), ctx_countPosted, ctx_setCtx_self]

theorem foldl_jobDone_spec (l : List Job) (k base : Nat) (hbase : s.media.posted = base + k) :
    (l.foldl (fun s j => jobDone s c status j) s).ctx c = { s.ctx c with
        completions := (s.ctx c).completions ++ (l.zipIdx k).map
          (fun p => ⟨p.1.tag, status, 0xFF, 0, 0, (s.ctx c).frames, 0, base + p.2⟩) } ∧
      (l.foldl (fun s j => jobDone s c status j) s).mem = s.mem := by
  induction l generalizing s k with
  | nil => simp
  | cons j l ih =>
    obtain ⟨hctx, hposted, hmem⟩ := jobDone_spec s c status j
    obtain ⟨hrest, hrestMem⟩ := ih (jobDone s c status j) (k + 1) (by omega)
    rw [List.foldl_cons]
    refine ⟨?_, hrestMem.trans hmem⟩
    rw [hrest, hctx, hbase]
    simp only [List.zipIdx_cons, List.map_cons, List.append_assoc, List.singleton_append]

/-- Queued jobs that end leave their ABORTED completions, in order. -/
theorem abortJobs_spec : (abortJobs s c).ctx c = { s.ctx c with
      jobs := [], completions := (s.ctx c).completions ++ endedJobs s c } ∧ (abortJobs s c).mem = s.mem := by
  obtain ⟨hctx, hmem⟩ := foldl_jobDone_spec (s.setCtx c { s.ctx c with jobs := [] }) c 5 (s.ctx c).jobs 0 s.media.posted rfl
  refine ⟨hctx.trans ?_, hmem⟩
  rw [ctx_setCtx_self]
  rfl

theorem clearRefMarks_spec : (clearRefMarks s c).ctx c = { s.ctx c with refs := [], longTerm := false, awaiting := [] } ∧
    (clearRefMarks s c).mem = s.mem :=
  ⟨ctx_setCtx_self _ _ _, rfl⟩

theorem abortJobs_of_empty (h : (s.ctx c).jobs = []) :
    (abortJobs s c).ctx c = { s.ctx c with jobs := [] } ∧ (abortJobs s c).mem = s.mem := by
  obtain ⟨hctx, hmem⟩ := abortJobs_spec s c
  refine ⟨hctx.trans ?_, hmem⟩
  rw [endedJobs, h, List.zipIdx_nil, List.map_nil, List.append_nil]

end Jobs

/-! ### Frame boundaries (R337, R338) -/

section Boundaries

variable {s : State} {c : Nat}

theorem atBoundary_of_running (h : (s.ctx c).running = true) : atBoundary s c = s := by
  rw [atBoundary, if_pos h]

theorem atBoundary_of_atRest (h : atRest (s.ctx c)) : atBoundary s c = s := by
  obtain ⟨hstaged, hflushing, hclosing⟩ := h
  simp only [atBoundary, hstaged, hflushing, hclosing, Bool.false_eq_true, if_false, ite_self]

/-- The record that waits for a boundary. -/
def takeStaged (s : State) (c : Nat) : State :=
  match (s.ctx c).staged with
  | some r => s.setCtx c { s.ctx c with record := r, staged := none }
  | none => s

/-- The flush that waits for a boundary. -/
def takeFlush (s : State) (c : Nat) : State :=
  if (s.ctx c).flushing then
    (clearRefMarks s c).setCtx c { (clearRefMarks s c).ctx c with flushing := false }
  else s

/-- The close that waits for a boundary. -/
def takeClose (s : State) (c : Nat) : State :=
  if (s.ctx c).closing then
    (clearRefMarks (abortJobs s c) c).setCtx c
      { (clearRefMarks (abortJobs s c) c).ctx c with closing := false, st := .closed }
  else s

theorem atBoundary_of_stopped (h : (s.ctx c).running = false) :
    atBoundary s c = takeClose (takeFlush (takeStaged s c) c) c := by
  rw [atBoundary, if_neg (by rw [h]; exact Bool.false_ne_true)]
  rfl

theorem takeStaged_spec (s : State) (c : Nat) :
    (∃ r o, (takeStaged s c).ctx c = { s.ctx c with record := r, staged := o }) ∧
      (takeStaged s c).media.posted = s.media.posted ∧ (takeStaged s c).mem = s.mem := by
  unfold takeStaged
  split
  · exact ⟨⟨_, _, ctx_setCtx_self _ _ _⟩, rfl, rfl⟩
  · exact ⟨⟨(s.ctx c).record, (s.ctx c).staged, rfl⟩, rfl, rfl⟩

theorem takeFlush_spec (s : State) (c : Nat) :
    (∃ r l a, (takeFlush s c).ctx c = { s.ctx c with refs := r, longTerm := l, awaiting := a, flushing := false }) ∧
      (takeFlush s c).media.posted = s.media.posted ∧ (takeFlush s c).mem = s.mem := by
  unfold takeFlush
  split
  · obtain ⟨hctx, hmem⟩ := clearRefMarks_spec s c
    refine ⟨⟨[], false, [], ?_⟩, rfl, hmem⟩
    rw [ctx_setCtx_self, hctx]
  next h =>
    refine ⟨⟨(s.ctx c).refs, (s.ctx c).longTerm, (s.ctx c).awaiting, ?_⟩, rfl, rfl⟩
    rw [← (Bool.not_eq_true _).mp h]

/-- A close ends the queued jobs and the references. -/
theorem takeClose_of_closing (h : (s.ctx c).closing = true) : (takeClose s c).ctx c = { s.ctx c with
      jobs := [], completions := (s.ctx c).completions ++ endedJobs s c, refs := [], longTerm := false, awaiting := []
      closing := false, st := .closed } ∧ (takeClose s c).mem = s.mem := by
  obtain ⟨habort, habortMem⟩ := abortJobs_spec s c
  obtain ⟨hclear, hclearMem⟩ := clearRefMarks_spec (abortJobs s c) c
  rw [takeClose, if_pos h]
  exact ⟨by rw [ctx_setCtx_self, hclear, habort], hclearMem.trans habortMem⟩

/-- With no job queued a close leaves the completions. -/
theorem takeClose_of_empty (h : (s.ctx c).jobs = []) : ((takeClose s c).ctx c).jobs = [] ∧
    ((takeClose s c).ctx c).completions = (s.ctx c).completions ∧
    ((takeClose s c).ctx c).flushing = (s.ctx c).flushing ∧ (takeClose s c).mem = s.mem := by
  by_cases hclosing : (s.ctx c).closing = true
  · obtain ⟨hctx, hmem⟩ := takeClose_of_closing hclosing
    rw [hctx, endedJobs, h, List.zipIdx_nil, List.map_nil, List.append_nil]
    exact ⟨rfl, rfl, rfl, hmem⟩
  · rw [takeClose, if_neg hclosing]
    exact ⟨h, rfl, rfl, rfl⟩

/-- A context that is to close at a boundary ends there. -/
theorem atBoundary_of_closing (hstopped : (s.ctx c).running = false) (hclosing : (s.ctx c).closing = true) :
    ((atBoundary s c).ctx c).st = .closed ∧ ((atBoundary s c).ctx c).jobs = [] ∧ ((atBoundary s c).ctx c).refs = [] ∧
      ((atBoundary s c).ctx c).completions = (s.ctx c).completions ++ endedJobs s c ∧ (atBoundary s c).mem = s.mem := by
  obtain ⟨⟨r, o, hstaged⟩, hposted, hmem⟩ := takeStaged_spec s c
  obtain ⟨⟨f, l, a, hflush⟩, hposted', hmem'⟩ := takeFlush_spec (takeStaged s c) c
  obtain ⟨hclose, hmem''⟩ := takeClose_of_closing (s := takeFlush (takeStaged s c) c) (c := c) (by rw [hflush, hstaged]; exact hclosing)
  rw [atBoundary_of_stopped hstopped, hclose]
  refine ⟨rfl, rfl, rfl, ?_, (hmem''.trans hmem').trans hmem⟩
  rw [endedJobs, endedJobs, hposted', hposted, hflush, hstaged]

/-- A context that is to flush, with no job queued, keeps its completions. -/
theorem atBoundary_of_flushing (hstopped : (s.ctx c).running = false) (hjobs : (s.ctx c).jobs = []) :
    ((atBoundary s c).ctx c).jobs = [] ∧ ((atBoundary s c).ctx c).flushing = false ∧
      ((atBoundary s c).ctx c).completions = (s.ctx c).completions ∧ (atBoundary s c).mem = s.mem := by
  obtain ⟨⟨r, o, hstaged⟩, -, hmem⟩ := takeStaged_spec s c
  obtain ⟨⟨f, l, a, hflush⟩, -, hmem'⟩ := takeFlush_spec (takeStaged s c) c
  obtain ⟨hempty, hcompletions, hflushing, hmem''⟩ := takeClose_of_empty (s := takeFlush (takeStaged s c) c) (c := c)
    (by rw [hflush, hstaged]; exact hjobs)
  rw [atBoundary_of_stopped hstopped]
  refine ⟨hempty, ?_, ?_, (hmem''.trans hmem').trans hmem⟩
  · rw [hflushing, hflush]
  · rw [hcompletions, hflush, hstaged]

end Boundaries

/-- The answer to a write counts it, and posts it on its channel. -/
theorem answered_keeps (s : State) (ch : Channel) (idx sub status : Nat) :
    (answered s ch idx sub status).media = s.media ∧ (answered s ch idx sub status).mem = s.mem := by
  simp [answered]

/-! ### Context commands (R321, R337, R338) -/

section Commands

variable {ch : Channel} {val : Bytes} {s : State} {c : Nat}

theorem onCtx_of_selected (act : Nat → State → Applied) (h : selCtx ch s = some c) : onCtx ch act s = act c s := by
  simp only [onCtx, h]

theorem commandCtx (act : Nat → State → Applied) {sig : Nat} (hval : leNat val = sig) (h : selCtx ch s = some c) :
    command val sig (onCtx ch act) s = act c s :=
  (command_of_eq _ hval).trans (onCtx_of_selected act h)

/-- A record that passes the checks of R321. -/
theorem firstFail_recChecks {r : Bytes} (hformed : recFormed r = true) (hranges : recRanges r = true)
    (hfits : recFits s c r = true) : firstFail (recChecks s c r) = none := by
  simp only [recChecks, hformed, hranges, hfits, firstFail_cons_true, firstFail_nil]

theorem openCtx_of_closed (hst : (s.ctx c).st = .closed) (h : firstFail (recChecks s c (s.ctx c).record) = none) :
    openCtx c s = .done 0 (s.setCtx c { s.ctx c with st := .opened, waited := 0, skipping := false }) :=
  guarded_of_passes _ s (by rw [decide_eq_true hst, firstFail_cons_true, h])

theorem openCtx_of_open (hst : (s.ctx c).st ≠ .closed) : openCtx c s = .done abNotIdle s :=
  guarded_of_firstFail _ s (by rw [decide_eq_false hst, firstFail_cons_false])

theorem pauseCtx_of_opened (hst : (s.ctx c).st = .opened) :
    pauseCtx c s = .done 0 (s.setCtx c { s.ctx c with st := .paused }) :=
  guarded_of_passes _ s (by rw [decide_eq_true hst, firstFail_cons_true, firstFail_nil])

theorem resumeCtx_of_paused (hst : (s.ctx c).st = .paused) :
    resumeCtx c s = .done 0 (s.setCtx c { s.ctx c with st := .opened }) :=
  guarded_of_passes _ s (by rw [decide_eq_true hst, firstFail_cons_true, firstFail_nil])

theorem closeCtx_of_open (hst : (s.ctx c).st ≠ .closed) :
    closeCtx c s = .done 0 (atBoundary (s.setCtx c { s.ctx c with closing := true }) c) :=
  guarded_of_passes _ s (by rw [decide_eq_false hst, Bool.not_false, firstFail_cons_true, firstFail_nil])

theorem flushCtx_of_open (hst : (s.ctx c).st ≠ .closed) : flushCtx c s
    = .done 0 (atBoundary ((abortJobs s c).setCtx c { (abortJobs s c).ctx c with flushing := true }) c) :=
  guarded_of_passes _ s (by rw [decide_eq_false hst, Bool.not_false, firstFail_cons_true, firstFail_nil])

theorem applyContextRecord_of_selected (hlength : val.length = 32) (h : selCtx ch s = some c) :
    applyContextRecord ch val s = writeContextRecord val c s :=
  (guarded_of_passes _ s (by rw [decide_eq_true hlength, firstFail_cons_true, firstFail_nil])).trans (onCtx_of_selected _ h)

theorem writeContextRecord_of_closed (hst : (s.ctx c).st = .closed) :
    writeContextRecord val c s = .done 0 (s.setCtx c { s.ctx c with record := val }) := by
  simp only [writeContextRecord, hst]
  rfl

/-- A record of an open context is checked, first against what may not change. -/
theorem writeContextRecord_of_open (hst : (s.ctx c).st ≠ .closed) : writeContextRecord val c s
    = guarded ((sameFixed val (s.ctx c).record, abNotIdle) :: recChecks s c val)
      (fun s => accept (atBoundary (s.setCtx c { s.ctx c with staged := some val }) c)) s := by
  unfold writeContextRecord
  split
  next h => exact absurd h hst
  · rfl

end Commands

/-- Settles O28. -/
theorem streamContexts : Obligations.StreamContexts := by
  intro ch val c s hsel
  refine ⟨fun hval hst hformed hranges hfits => ?_, fun hval hst => ?_, fun hval hst => ?_, fun hval hst => ?_,
    fun hval hst => ⟨fun hrunning => ?_, fun hstopped htaken => ?_⟩, fun hval hst htaken => ?_, fun hlength hst => ?_,
    fun hlength hst hchanged => ?_, fun hlength hst hsame hformed hranges hfits hrunning => ?_⟩
  · exact accepted_of_done rfl rfl ((commandCtx openCtx hval hsel).trans
      (openCtx_of_closed hst (firstFail_recChecks hformed hranges hfits)))
  · exact turnedDown_of_done rfl rfl ((commandCtx openCtx hval hsel).trans (openCtx_of_open hst))
  · exact accepted_of_done rfl rfl ((commandCtx pauseCtx hval hsel).trans (pauseCtx_of_opened hst))
  · exact accepted_of_done rfl rfl ((commandCtx resumeCtx hval hsel).trans (resumeCtx_of_paused hst))
  · refine accepted_of_done rfl rfl ((commandCtx closeCtx hval hsel).trans ((closeCtx_of_open hst).trans ?_))
    rw [atBoundary_of_running (by rw [ctx_setCtx_self]; exact hrunning)]
  · obtain ⟨hclosed, hjobs, hrefs, hcompletions, hmem⟩ := atBoundary_of_closing
      (s := s.setCtx c { s.ctx c with closing := true }) (c := c) (by rw [ctx_setCtx_self]; exact hstopped)
      (by rw [ctx_setCtx_self])
    have hended : endedJobs (s.setCtx c { s.ctx c with closing := true }) c = endedJobs s c := by
      simp only [endedJobs, ctx_setCtx_self]
      rfl
    have hexec := objectWrite_of_done htaken ((commandCtx closeCtx hval hsel).trans (closeCtx_of_open hst))
    refine ⟨_, hexec, ?_⟩
    obtain ⟨hmedia, hkept⟩ := answered_keeps (atBoundary (s.setCtx c { s.ctx c with closing := true }) c) ch 0x2C10 3 0
    rw [ctx_congr hmedia, hkept]
    refine ⟨hclosed, hjobs, hrefs, ?_, hmem⟩
    rw [hcompletions, hended, ctx_setCtx_self]
  · obtain ⟨habort, habortMem⟩ := abortJobs_spec s c
    have hexec := objectWrite_of_done htaken ((commandCtx flushCtx hval hsel).trans (flushCtx_of_open hst))
    refine ⟨_, hexec, ?_⟩
    generalize hu : (abortJobs s c).setCtx c { (abortJobs s c).ctx c with flushing := true } = u
    have hctx : u.ctx c = { (abortJobs s c).ctx c with flushing := true } := by rw [← hu, ctx_setCtx_self]
    have hmem : u.mem = s.mem := by rw [← hu]; exact habortMem
    obtain ⟨hmedia, hkept⟩ := answered_keeps (atBoundary u c) ch 0x2C10 3 0
    rw [ctx_congr hmedia, hkept]
    cases hrunning : (s.ctx c).running with
    | true =>
      rw [atBoundary_of_running (by rw [hctx, habort]; exact hrunning), hctx, habort]
      exact ⟨rfl, rfl, rfl, hmem⟩
    | false =>
      obtain ⟨hjobs, hflushing, hcompletions, hkept⟩ := atBoundary_of_flushing (s := u) (c := c)
        (by rw [hctx, habort]; exact hrunning) (by rw [hctx, habort])
      refine ⟨hjobs, hflushing, ?_, hkept.trans hmem⟩
      rw [hcompletions, hctx, habort]
  · exact accepted_of_done rfl rfl ((applyContextRecord_of_selected hlength hsel).trans (writeContextRecord_of_closed hst))
  · refine turnedDown_of_done rfl rfl ((applyContextRecord_of_selected hlength hsel).trans
      ((writeContextRecord_of_open hst).trans (guarded_of_firstFail _ s ?_)))
    rw [hchanged, firstFail_cons_false]
  · refine accepted_of_done rfl rfl ((applyContextRecord_of_selected hlength hsel).trans
      ((writeContextRecord_of_open hst).trans ((guarded_of_passes _ s ?_).trans ?_)))
    · rw [hsame, firstFail_cons_true, firstFail_recChecks hformed hranges hfits]
    · rw [atBoundary_of_running (by rw [ctx_setCtx_self]; exact hrunning)]
      rfl

end Sys2Proof.Machine
end

section
/-! SUPPORT and PROOFS. The camera port: records and receiver settings, packets, lines and frames (R325, R332 to R336,
R374). -/

namespace Sys2Proof.Machine

open Sys2Proof.Claims

/-! ### Settings (R336, R374) -/

section Settings

variable {ch : Channel} {val : Bytes} {s : State} {k : Nat}

theorem applyReceiver_of_ok (hlow : 80 ≤ leNat val % 2 ^ 16) (hhigh : leNat val % 2 ^ 16 ≤ 2500)
    (hlanes : leNat val / 2 ^ 16 % 4 ≤ 2) : applyReceiver val s
      = .done 0 ((s.setVal 0x2C32 1 (leNat val % 2 ^ 18)).setMedia { s.media with staged := some (leNat val % 2 ^ 18) }) := by
  have hrate : leNat val % 2 ^ 18 % 2 ^ 16 = leNat val % 2 ^ 16 := by omega
  have hcount : leNat val % 2 ^ 18 / 2 ^ 16 = leNat val / 2 ^ 16 % 4 := by omega
  unfold applyReceiver
  dsimp only
  refine guarded_of_passes _ s ?_
  rw [hrate, hcount, decide_eq_true hlanes, decide_eq_true hlow, decide_eq_true hhigh, Bool.and_self, firstFail_cons_true,
    firstFail_cons_true, firstFail_nil]

theorem applyReceiver_of_reserved (hlanes : leNat val / 2 ^ 16 % 4 = 3) : applyReceiver val s = .done abMalformed s := by
  have hcount : ¬ leNat val % 2 ^ 18 / 2 ^ 16 ≤ 2 := by omega
  unfold applyReceiver
  dsimp only
  exact guarded_of_firstFail _ s (by rw [decide_eq_false hcount, firstFail_cons_false])

theorem applyReceiver_of_range (hlanes : leNat val / 2 ^ 16 % 4 ≤ 2)
    (hrate : leNat val % 2 ^ 16 < 80 ∨ 2500 < leNat val % 2 ^ 16) : applyReceiver val s = .done abRange s := by
  have hcount : leNat val % 2 ^ 18 / 2 ^ 16 ≤ 2 := by omega
  have hout : (decide (80 ≤ leNat val % 2 ^ 18 % 2 ^ 16) && decide (leNat val % 2 ^ 18 % 2 ^ 16 ≤ 2500)) = false := by
    rw [Bool.and_eq_false_iff, decide_eq_false_iff_not, decide_eq_false_iff_not]
    omega
  unfold applyReceiver
  dsimp only
  exact guarded_of_firstFail _ s (by rw [decide_eq_true hcount, hout, firstFail_cons_true, firstFail_cons_false])

variable (hlength : val.length = 32) (hflags : fld val 3 1 < 8) (hzero : zeroAt val 30 2 = true)

include hlength hflags hzero

theorem applyCameraRecord_of_ok (hranges : camRanges val = true) : applyCameraRecord k val s
    = .done 0 ((s.setVal 0x2C30 (k + 1) (leNat val)).setCam k
      (if camEnabled (s.cam k).record then { s.cam k with staged := some val } else { s.cam k with record := val })) := by
  unfold applyCameraRecord
  refine guarded_of_passes _ s ?_
  rw [decide_eq_true hlength, decide_eq_true hflags, hzero, hranges, Bool.and_self, firstFail_cons_true,
    firstFail_cons_true, firstFail_cons_true, firstFail_nil]

theorem applyCameraRecord_of_range (hranges : camRanges val = false) : applyCameraRecord k val s = .done abRange s := by
  unfold applyCameraRecord
  refine guarded_of_firstFail _ s ?_
  rw [decide_eq_true hlength, decide_eq_true hflags, hzero, hranges, Bool.and_self, firstFail_cons_true,
    firstFail_cons_true, firstFail_cons_false]

end Settings

theorem receiverSetting_of_receiver (ch : Channel) (val : Bytes) (s : State) :
    exec (.receiverSetting ch 0x2C32 1 val) s = objectWrite ch 0x2C32 1 val (applyReceiver val) s := by
  change execReceiverSetting _ _ _ _ _ = _
  rw [execReceiverSetting, if_pos ⟨rfl, rfl⟩]

theorem receiverSetting_of_record (ch : Channel) (k : Fin 2) (val : Bytes) (s : State) :
    exec (.receiverSetting ch 0x2C30 (k.val + 1) val) s = objectWrite ch 0x2C30 (k.val + 1) val (applyCameraRecord k.val val) s := by
  have hsub : k.val + 1 = 1 ∨ k.val + 1 = 2 := by omega
  have hidx : ¬((0x2C30 : Nat) = 0x2C32 ∧ k.val + 1 = 1) := by omega
  change execReceiverSetting _ _ _ _ _ = _
  rw [execReceiverSetting, if_neg hidx, if_pos ⟨rfl, hsub⟩, Nat.add_sub_cancel]

/-! ### Packets (R333, R335) -/

section Packets

variable {s : State} {h : ShortPacket} {p : LongPacket} {k vc : Nat}

theorem shortPacketRow_of_bad (act : State → Nat → State) (hrunning : s.running = true) (hbad : h.ecc = .bad) :
    shortPacketRow h act s = .next (s.bump 0x2C40 5) := by
  simp only [shortPacketRow, hrunning, Bool.not_true, Bool.false_eq_true, if_false, hbad, if_true]
  rfl

theorem exec_shortRow_of_bad (hrunning : s.running = true) (hbad : h.ecc = .bad) {r : ShortPacket → Instr}
    (hr : r ∈ shortRows) : exec (r h) s = .next (s.bump 0x2C40 5) := by
  revert r
  simp only [shortRows, List.forall_mem_cons, List.not_mem_nil, false_imp_iff, implies_true, and_true]
  exact ⟨shortPacketRow_of_bad _ hrunning hbad, shortPacketRow_of_bad _ hrunning hbad, shortPacketRow_of_bad _ hrunning hbad,
    shortPacketRow_of_bad _ hrunning hbad⟩

/-- A short packet that one channel hears acts on that channel. -/
theorem shortPacketRow_of_hears (act : State → Nat → State) (hhears : hears s h.vc.val k) (hgood : h.ecc ≠ .bad) :
    shortPacketRow h act s = .next (act s k) := by
  obtain ⟨hrunning, hcams⟩ := hhears
  simp only [shortPacketRow, hrunning, Bool.not_true, Bool.false_eq_true, if_false, if_neg hgood, hcams, List.foldl_cons,
    List.foldl_nil]

theorem execLongPacket_of_bad (hrunning : s.running = true) (hbad : p.ecc = .bad) :
    exec (.longPacket p) s = .next (s.bump 0x2C40 5) := by
  simp only [exec, execLongPacket, hrunning, Bool.not_true, Bool.false_eq_true, if_false, hbad, if_true]
  rfl

theorem execLongPacket_of_hears (hhears : hears s p.vc.val k) (hgood : p.ecc ≠ .bad) : exec (.longPacket p) s
    = .next (if p.dataType = fld (s.cam k).record 1 1 ∧ (s.cam k).inFrame = true then s.setCam k ((s.cam k).lineData p)
      else s.bump 0x2C40 5) := by
  obtain ⟨hrunning, hcams⟩ := hhears
  simp only [exec, execLongPacket, hrunning, Bool.not_true, Bool.false_eq_true, if_false, if_neg hgood, hcams,
    List.foldl_cons, List.foldl_nil]
  rfl

/-- A channel that hears is one of the device's, and enabled. -/
theorem enabled_of_hears (hhears : hears s vc k) :
    camEnabled (s.cam k).record = true ∧ k < s.media.cameras.length := by
  have hk : k ∈ camsOf s vc := by rw [hhears.2]; exact List.mem_singleton_self k
  have hon := (Bool.and_eq_true _ _ ▸ (List.mem_filter.1 hk).2 : _ ∧ _).1
  refine ⟨hon, ?_⟩
  by_contra hout
  have hreset : s.cam k = Camera.reset := by rw [State.cam, List.getElem?_eq_none (Nat.not_lt.1 hout)]; rfl
  rw [hreset] at hon
  exact absurd hon (by decide)

/-- A frame that opens under the settings in force. -/
theorem camFrameStart_of_idle (hhears : hears s vc k) (hidle : (s.cam k).inFrame = false) (hstaged : (s.cam k).staged = none)
    (hroom : (s.cam k).completions.length < 64) :
    ((camFrameStart s k).cam k).inFrame = true ∧ ((camFrameStart s k).cam k).lines = [] ∧
      ((camFrameStart s k).cam k).buffer = freeBuffer s (0x20 + k) (fun f =>
        decide (fld (s.cam k).record 8 2 ≤ f.width) && decide (fld (s.cam k).record 10 2 ≤ f.height)) ∧
      (camFrameStart s k).mem = s.mem := by
  obtain ⟨hon, hin⟩ := enabled_of_hears hhears
  simp only [camFrameStart, hidle, Bool.false_eq_true, if_false, hstaged, hon, hroom, and_self, if_true]
  split
  all_goals
    refine ⟨?_, ?_, ?_, rfl⟩
    · exact congrArg Camera.inFrame (cam_setCam _ hin)
    · exact congrArg Camera.lines (cam_setCam _ hin)
    · exact congrArg Camera.buffer (cam_setCam _ hin)

theorem receiverStart_of_none (lp11 : Bool) (hstaged : s.media.staged = none) : receiverStart lp11 s = s := by
  simp only [receiverStart, hstaged]

/-- Closing a line keeps what the frame is. -/
theorem closeLine_keeps (c : Camera) : c.closeLine.buffer = c.buffer ∧ c.closeLine.frames = c.frames ∧
    c.closeLine.completions = c.completions := by
  unfold Camera.closeLine
  split
  · dsimp only
    split <;> exact ⟨rfl, rfl, rfl⟩
  · exact ⟨rfl, rfl, rfl⟩

/-- A camera completion joins its channel's queue. -/
theorem camPost_spec (status buffer flags : Nat) (hin : k < s.media.cameras.length) :
    (camPost s k status buffer flags).cam k = { s.cam k with
      frames := ((s.cam k).frames + 1) % 2 ^ 32
      completions := (s.cam k).completions ++
        [⟨(s.cam k).frames % 2 ^ 16, status, buffer, flags, 0, (s.cam k).frames, 0, s.media.posted⟩] } ∧
    (camPost s k status buffer flags).mem = s.mem ∧ (camPost s k status buffer flags).obj = s.obj := by
  unfold camPost
  dsimp only
  refine ⟨?_, (mediaMsix_mem _).trans rfl, (State.msix_obj _ _).trans rfl⟩
  rw [cam_congr (mediaMsix_media _)]
  exact cam_setCam _ hin

/-- A frame without a buffer completes DROPPED. -/
theorem camFrameEnd_of_noBuffer (hin : k < s.media.cameras.length) (hbuffer : (s.cam k).buffer = none) :
    ∃ x, ((camFrameEnd s k).cam k).completions = (s.cam k).completions ++ [x] ∧ x.status = 4 ∧ x.buffer = 0xFF ∧
      x.frame = (s.cam k).frames ∧ ((camFrameEnd s k).cam k).inFrame = false ∧
      (camFrameEnd s k).val 0x2C40 3 = (s.count 0x2C40 3 + 1) % 2 ^ 32 ∧ (camFrameEnd s k).mem = s.mem := by
  obtain ⟨hbuffer', hframes, hcompletions⟩ := closeLine_keeps (s.cam k)
  generalize hflags : (if decide ((s.cam k).closeLine.lines.length < fld (s.cam k).closeLine.record 6 2)
    then (s.cam k).closeLine.flags ||| 1 else (s.cam k).closeLine.flags) = flags
  generalize hu : s.setCam k { (s.cam k).closeLine with inFrame := false, buffer := none, lines := [], flags := 0 } = u
  have hend : camFrameEnd s k = (camPost u k 4 0xFF flags).bump 0x2C40 3 := by
    simp only [camFrameEnd, hbuffer', hbuffer, camDrop, hflags, hu]
  have hcam : u.cam k = { (s.cam k).closeLine with inFrame := false, buffer := none, lines := [], flags := 0 } := by
    rw [← hu, cam_setCam _ hin]
  have hlength : k < u.media.cameras.length := by
    rw [← hu]
    change k < (lmod s.media.cameras k _).length
    rwa [lmod_eq_modify, List.length_modify]
  obtain ⟨hpost, hmem, hobj⟩ := camPost_spec (s := u) 4 0xFF flags hlength
  have hcam' : (camFrameEnd s k).cam k = (camPost u k 4 0xFF flags).cam k := by rw [hend]; rfl
  rw [hcam', hpost]
  refine ⟨_, congrArg (· ++ _) ((congrArg Camera.completions hcam).trans hcompletions), rfl, rfl, ?_, ?_, ?_, ?_⟩
  · exact (congrArg Camera.frames hcam).trans hframes
  · exact congrArg Camera.inFrame hcam
  · have hcount : (camPost u k 4 0xFF flags).count 0x2C40 3 = s.count 0x2C40 3 := by
      rw [State.count, hobj, ← hu]
      rfl
    rw [hend, State.bump, State.bumpBy, hcount, val_setVal_self]
  · rw [hend]
    exact hmem.trans (by rw [← hu]; rfl)

end Packets

/-- Settles O30. -/
theorem cameraFrames : Obligations.CameraFrames := by
  intro s
  refine ⟨fun ch val hlow hhigh hlanes => accepted_of_done rfl (receiverSetting_of_receiver ch val s)
      (applyReceiver_of_ok hlow hhigh hlanes),
    fun ch val hlanes => turnedDown_of_done rfl (receiverSetting_of_receiver ch val s) (applyReceiver_of_reserved hlanes),
    fun ch val hlanes hrate => turnedDown_of_done rfl (receiverSetting_of_receiver ch val s)
      (applyReceiver_of_range hlanes hrate),
    fun ch val k hlength hflags hzero hranges => accepted_of_done rfl (receiverSetting_of_record ch k val s)
      (applyCameraRecord_of_ok hlength hflags hzero hranges),
    fun ch val k hlength hflags hzero hranges => turnedDown_of_done rfl (receiverSetting_of_record ch k val s)
      (applyCameraRecord_of_range hlength hflags hzero hranges),
    fun h hrunning hbad r hr => exec_shortRow_of_bad hrunning hbad hr,
    fun p hrunning hbad => execLongPacket_of_bad hrunning hbad,
    fun h k hhears hgood hidle => ?_, fun h k hhears hgood hidle hstaged hreceiver hroom => ?_,
    fun h k hhears hgood hframe => ?_, fun p k hhears hgood htype hframe => ?_, fun p k hhears hgood hother => ?_,
    fun k hin hbuffer => camFrameEnd_of_noBuffer hin hbuffer⟩
  · have hdiscard : ∀ act : State → Nat → State, (∀ s k, (s.cam k).inFrame = false → act s k = s.bump 0x2C40 5) →
        shortPacketRow h act s = .next (s.bump 0x2C40 5) := fun act hact => by
      rw [shortPacketRow_of_hears act hhears hgood, hact s k hidle]
    exact ⟨hdiscard _ fun s k h => if_neg (by rw [h]; exact Bool.false_ne_true),
      hdiscard _ fun s k h => if_neg (by rw [h]; exact Bool.false_ne_true),
      hdiscard _ fun s k h => if_neg (by rw [h]; exact Bool.false_ne_true)⟩
  · obtain ⟨hframe, hlines, hbuffer, hmem⟩ := camFrameStart_of_idle hhears hidle hstaged hroom
    refine ⟨camFrameStart s k, ?_, hframe, hlines, hbuffer, hmem⟩
    refine (shortPacketRow_of_hears _ hhears hgood).trans ?_
    rw [receiverStart_of_none _ hreceiver]
  · exact ⟨(shortPacketRow_of_hears _ hhears hgood).trans (congrArg Host.Outcome.next (if_pos hframe)),
      (shortPacketRow_of_hears _ hhears hgood).trans (congrArg Host.Outcome.next (if_pos hframe)),
      (shortPacketRow_of_hears _ hhears hgood).trans (congrArg Host.Outcome.next (if_pos hframe))⟩
  · rw [execLongPacket_of_hears hhears hgood, if_pos ⟨htype, hframe⟩]
  · rw [execLongPacket_of_hears hhears hgood, if_neg]
    rintro ⟨htype, hframe⟩
    rcases hother with hother | hother
    · exact hother htype
    · exact Bool.false_ne_true (hother.symm.trans hframe)

end Sys2Proof.Machine
end

section
/-! SUPPORT and PROOFS. Joining: HELLOs, the join decision, JOINs and losses (R49, R94, R303, R304, R316). -/

namespace Sys2Proof.Machine

open Sys2Proof.Claims

/-! ### What messages leave -/

/-- A step that sends messages: the queues of the ports, the flows, what has left and the free values change. -/
structure Mails (s t : State) : Prop where
  shape : ∃ p b x n o d, t = { s with
    ferry := { s.ferry with ports := p, broadcasts := b, flowTx := x, sent := n }, out := o, draws := d }

namespace Mails

theorem refl (s : State) : Mails s s := ⟨_, _, _, _, _, _, rfl⟩

theorem trans {s t u : State} (h : Mails s t) (h' : Mails t u) : Mails s u := by
  obtain ⟨p, b, x, n, o, d, rfl⟩ := h
  obtain ⟨p', b', x', n', o', d', rfl⟩ := h'
  exact ⟨p', b', x', n', o', d', rfl⟩

theorem foldl {α : Type} (l : List α) {f : State → α → State} (h : ∀ s a, Mails s (f s a)) (s : State) :
    Mails s (l.foldl f s) := by
  induction l generalizing s with
  | nil => exact refl s
  | cons a l ih => exact (h s a).trans (ih _)

theorem of_carries {s t : State} (h : Carries s t) : Mails s t := by
  obtain ⟨p, b, o, rfl⟩ := h.shape
  exact ⟨p, b, _, _, o, _, rfl⟩

theorem draw (s : State) : Mails s s.draw := ⟨_, _, _, _, _, _, rfl⟩

theorem emit (s : State) (o : Out) : Mails s (s.emit o) := ⟨_, _, _, _, _, _, rfl⟩

theorem sendTo (s : State) (node kind cls flags context : Nat) (payload : Bytes) :
    Mails s (sendTo s node kind cls flags context payload) := by
  dsimp only [Machine.sendTo]
  split
  · exact refl s
  · refine trans ?_ (of_carries (.queueTo _ _ _ _))
    exact ⟨_, _, _, _, _, _, rfl⟩

theorem sendSlow (s : State) (n : Nat) (f : Bytes) : Mails s (sendSlow s n f) := by
  unfold Machine.sendSlow
  split
  · exact refl s
  · exact emit _ _

theorem sendDict (s : State) (node : Nat) (frame : Bytes) : Mails s (sendDict s node frame) := by
  unfold Machine.sendDict
  split
  · exact refl s
  · refine trans ?_ (draw _)
    split
    · exact sendSlow _ _ _
    · exact sendTo _ _ _ _ _ _ _

theorem memberWrite (s : State) (node idx sub : Nat) (domain : Bool) (val : Bytes) :
    Mails s (memberWrite s node idx sub domain val) := by
  unfold Machine.memberWrite
  dsimp only
  split
  · exact foldl _ (fun _ _ => sendDict _ _ _) s
  · exact sendDict _ _ _

theorem copySem (node : Nat) (s : State) (n : Nat) : Mails s (copySem node s n) := by
  unfold Machine.copySem
  exact foldl _ (fun _ _ => memberWrite _ _ _ _ _ _) s

theorem copyAll (s : State) (node : Nat) : Mails s (copyAll s node) := by
  unfold Machine.copyAll
  dsimp only
  refine trans (trans (foldl _ (fun s o => ?_) s) (foldl _ (fun s n => copySem node s n) _)) (memberWrite _ _ _ _ _ _)
  exact foldl _ (fun _ _ => memberWrite _ _ _ _ _ _) s

theorem sendJoins (s : State) : Mails s (sendJoins s) := by
  unfold Machine.sendJoins
  dsimp only
  refine trans ?_ (draw _)
  refine trans ⟨_, _, s.ferry.flowTx.filter (fun p => !decide (p.1.1 = 15)), _, _, _, rfl⟩ (foldl _ (fun s n => ?_) _)
  split
  · exact of_carries (.queueTo _ _ _ _)
  · exact refl s

/-- Messages leave what the device is in its cascade. -/
theorem place_eq {s t : State} (h : Mails s t) : t.ferry.role = s.ferry.role ∧ t.ferry.reason = s.ferry.reason ∧
    t.ferry.proto = s.ferry.proto ∧ t.ferry.pilotNode = s.ferry.pilotNode ∧ t.ferry.joined = s.ferry.joined := by
  obtain ⟨p, b, x, n, o, d, rfl⟩ := h.shape
  exact ⟨rfl, rfl, rfl, rfl, rfl⟩

end Mails

/-! ### HELLOs (R303) -/

section Hellos

variable {s t : State} {port : Nat} {p : Packet} {h : Hello}

theorem Carries.relayHello (p : Packet) (port : Nat) (s : State) : Carries s (relayHello p port s) := by
  unfold Machine.relayHello
  split
  · exact .queueTo _ _ _ _
  · exact .refl s

theorem helloOf_port (hh : helloOf p port = some h) : h.port = port := by
  unfold helloOf at hh
  dsimp only at hh
  split at hh
  · obtain rfl := Option.some.inj hh
    rfl
  · cases hh

theorem keepHello_hellos (h : Hello) (s : State) : (keepHello h s).ferry.hellos
    = s.ferry.hellos.filter (fun x => !(decide (x.uniqueId = h.uniqueId) && decide (x.port = h.port))) ++ [h] := by
  unfold keepHello
  dsimp only
  split <;> rfl

theorem takeHello_of_own (hh : helloOf p port = some h) (hown : h.uniqueId = t.part.uniqueId) : takeHello port p t = t := by
  simp only [takeHello, hh, hown, if_true]

theorem takeHello_of_other (hh : helloOf p port = some h) (hother : h.uniqueId ≠ t.part.uniqueId) :
    takeHello port p t = keepHello h (relayHello p port t) := by
  simp only [takeHello, hh, if_neg hother]

/-- A HELLO of another device is kept as the only one of its device by its port; of a neighbour it names the node. -/
theorem keepHello_spec (h : Hello) (s : State) : h ∈ (keepHello h s).ferry.hellos ∧
    (∀ x ∈ (keepHello h s).ferry.hellos, x.uniqueId = h.uniqueId → x.port = h.port → x = h) ∧
    (h.hops = 0 → h.port < s.ferry.ports.length → ((keepHello h s).port h.port).neighbour = h.node) := by
  rw [keepHello_hellos]
  refine ⟨List.mem_append_right _ (List.mem_singleton_self h), fun x hx hid hport => ?_, fun hhops hin => ?_⟩
  · rcases List.mem_append.1 hx with hx | hx
    · have hkept := (List.mem_filter.1 hx).2
      rw [decide_eq_true hid, decide_eq_true hport] at hkept
      exact absurd hkept Bool.false_ne_true
    · exact List.mem_singleton.1 hx
  · simp only [keepHello, hhops, if_true]
    exact congrArg Port.neighbour (port_setPort_self _ hin)

end Hellos

/-! ### The join decision (R303) -/

section Decision

variable {s : State} {reason : Nat}

/-- A device that is unmoored is of no cascade. -/
theorem disband_place (reason : Nat) (s : State) : (disband reason s).ferry.role = .unmoored ∧
    (disband reason s).ferry.reason = reason ∧ (disband reason s).ferry.joined = 0 := ⟨rfl, rfl, rfl⟩

theorem place_event (s : State) (c l f : Nat) (d : List Nat) : (s.event c l f d).ferry = s.ferry := State.event_ferry _ _ _ _ _

variable (hserves : s.serves = true) (hheard : s.ferry.hellos.isEmpty = false)

include hserves hheard

theorem joinDecision_of_noPilot (hothers : (othersHeard s).all (fun h => !h.pilot) = true) (hstrap : pilotStrap s = false) :
    exec .joinDecision s = .next (disband 2 s) := by
  have hnone : (othersHeard s).filter (·.pilot) = [] :=
    List.filter_eq_nil_iff.2 fun h hh => by simpa using List.all_eq_true.1 hothers h hh
  simp only [exec, execJoinDecision, hserves, hheard, hnone, hstrap, Bool.not_true, Bool.false_eq_true, if_false,
    List.length_nil, b2n, if_true, Nat.add_zero]

theorem joinDecision_of_several (hstrap : pilotStrap s = true) (hothers : (othersHeard s).any (·.pilot) = true) :
    exec .joinDecision s = .next ((disband 3 s).event 13 0 3 []) := by
  obtain ⟨h, hh, hpilot⟩ := List.any_eq_true.1 hothers
  have hsome : 1 ≤ ((othersHeard s).filter (·.pilot)).length :=
    List.length_pos_of_mem (List.mem_filter.2 ⟨hh, hpilot⟩)
  have hzero : ¬ ((othersHeard s).filter (·.pilot)).length + 1 = 0 := by omega
  have htwo : 2 ≤ ((othersHeard s).filter (·.pilot)).length + 1 := by omega
  simp only [exec, execJoinDecision, hserves, hheard, hstrap, Bool.not_true, Bool.false_eq_true, if_false, b2n, if_true,
    hzero, htwo]

variable (hstrap : pilotStrap s = true) (hothers : (othersHeard s).any (·.pilot) = false)

include hstrap hothers

/-- With the strap the one pilot, its own harbour mode decides. -/
theorem joinDecision_of_pilot :
    exec .joinDecision s = .next (if s.inHarbour = true then disband 7 s else pilotDecides s) := by
  have hnone : (othersHeard s).filter (·.pilot) = [] := List.filter_eq_nil_iff.2 fun h hh => by
    have hno := List.any_eq_false.1 hothers h hh
    exact hno
  simp only [exec, execJoinDecision, hserves, hheard, hnone, hstrap, Bool.not_true, Bool.false_eq_true, if_false,
    List.length_nil, b2n, if_true, Bool.or_self]
  cases s.inHarbour <;> rfl

end Decision

/-- A first cascade whose devices all fit: the pilot joins them. -/
theorem pilotDecides_of_first {s : State} (hjoined : s.ferry.joined = 0) (hsome : othersHeard s ≠ [])
    (hfit : (othersHeard s).all (fun h => decide (memberReason s (othersHeard s) h = 0)) = true) :
    (pilotDecides s).ferry.role = .pilot ∧ (pilotDecides s).ferry.reason = 0 ∧ (pilotDecides s).ferry.proto = 1 ∧
      (pilotDecides s).ferry.pilotNode = s.nodeId ∧
      (pilotDecides s).ferry.joined = (othersHeard s).foldl (fun m h => m ||| (1#8 <<< (h.node - 1)))
        (1#8 <<< (s.nodeId - 1)) := by
  have hgood : (othersHeard s).filter (fun h => decide (memberReason s (othersHeard s) h = 0)) = othersHeard s :=
    List.filter_eq_self.2 (List.all_eq_true.1 hfit)
  have hbad : (othersHeard s).filter (fun h => !decide (memberReason s (othersHeard s) h = 0)) = [] :=
    List.filter_eq_nil_iff.2 fun h hh => by rw [List.all_eq_true.1 hfit h hh]; exact Bool.false_ne_true
  have hmembers : joinedNodes s = [] := by
    simp only [joinedNodes, hjoined]
    rfl
  have hempty : (othersHeard s).isEmpty = false := by
    cases h : othersHeard s with
    | nil => exact absurd h hsome
    | cons _ _ => rfl
  have hdecides : pilotDecides s = acceptMembers (othersHeard s) s := by
    simp only [pilotDecides, hgood, hbad, hempty, Bool.not_false, if_true, List.foldl_nil]
  rw [hdecides]
  simp only [acceptMembers, hmembers, List.filter_nil, List.foldl_nil]
  exact (((Mails.sendJoins _).trans (Mails.foldl _ (fun _ _ => .copyAll _ _) _)).place_eq).imp id id

/-! ### JOINs and losses (R49, R304, R316) -/

section Joins

variable {s : State} {b : Bytes} {n reason : Nat}

/-- The entry of a number in a table of the numbers that pass a test. -/
theorem aget_filterMap_succ {α : Type} (c : Nat → Prop) [DecidablePred c] (v : Nat → α) {l : List Nat} {i : Nat} (hi : i ∈ l)
    (h : c i) : aget (l.filterMap (fun j => if c j then some (j + 1, v j) else none)) (i + 1) = some (v i) := by
  induction l with
  | nil => cases hi
  | cons j l ih =>
    by_cases hj : j = i
    · subst hj
      rw [List.filterMap_cons, if_pos h, aget_cons, if_pos rfl]
    · have hl : i ∈ l := (List.mem_cons.1 hi).resolve_left fun heq => hj heq.symm
      by_cases hc : c j
      · rw [List.filterMap_cons, if_pos hc, aget_cons, if_neg (by simpa using hj), ih hl]
      · rw [List.filterMap_cons, if_neg hc, ih hl]

theorem takeJoin_of_accepted (h : fld b 0 1 = 1) : (takeJoin b s).ferry.role = .member ∧
    (takeJoin b s).ferry.joined = BitVec.ofNat 8 (fld b 2 1) ∧ (takeJoin b s).ferry.proto = fld b 4 2 ∧
    (takeJoin b s).ferry.pilotNode = fld b 3 1 ∧ (s.ferry.role = .unmoored → (takeJoin b s).val 0x1002 2 = 0) ∧
    ∀ i < 8, fld b (8 + i) 1 < 3 → aget (takeJoin b s).ferry.routes (i + 1) = some (fld b (8 + i) 1) := by
  simp only [takeJoin, h, if_true]
  refine ⟨rfl, rfl, rfl, rfl, fun hrole => ?_, fun i hi hport => ?_⟩
  · simp only [hrole, decide_true, if_true]
    exact val_setVal_self _ _ _ _
  · exact aget_filterMap_succ (fun i => fld b (8 + i) 1 < 3) (fun i => fld b (8 + i) 1) (List.mem_range.2 hi) hport

theorem takeJoin_of_refused (h : fld b 0 1 ≠ 1) : (takeJoin b s).ferry.role = .unmoored ∧
    (takeJoin b s).ferry.reason = fld b 1 1 := by
  simp only [takeJoin, if_neg h]
  split
  next hrole => exact ⟨(congrArg Ferry.role (State.event_ferry _ _ _ _ _)).trans hrole, congrArg Ferry.reason (State.event_ferry _ _ _ _ _)⟩
  · exact ⟨congrArg Ferry.role (State.event_ferry _ _ _ _ _), congrArg Ferry.reason (State.event_ferry _ _ _ _ _)⟩

/-- A node that is lost leaves the mask, and reads of its memory end. -/
theorem nodeLost_spec (hlow : 1 ≤ n) (hhigh : n ≤ 8) (hturn : s.turn = none) (hjob : s.images.job = none)
    (hask : s.images.ask = none) (hswap : s.images.swap = none) :
    (nodeLost n reason s).ferry.joined = s.ferry.joined &&& ~~~ (1#8 <<< (n - 1)) ∧ (nodeLost n reason s).mem = s.mem ∧
      ∀ r ∈ (nodeLost n reason s).ferry.reads, r.node = n → r.whole = true := by
  have huses : turnUses s n = false := by simp only [turnUses, hturn]
  have hlose : commandsLose (fun m => decide (m = n)) (failReads s n) = failReads s n := by
    have hjob' : (failReads s n).images.job = none := hjob
    have hask' : (failReads s n).images.ask = none := hask
    have hswap' : (failReads s n).images.swap = none := hswap
    simp only [commandsLose, jobLoses, hjob', swapLoses, hask', hswap']
  simp only [nodeLost, hlow, hhigh, and_self, if_true, huses, Bool.false_eq_true, if_false, hlose, State.event_ferry,
    State.event_mem]
  refine ⟨rfl, rfl, fun r hr hnode => ?_⟩
  obtain ⟨q, -, rfl⟩ := List.mem_map.1 hr
  by_cases hq : q.node = n ∧ q.whole = false
  · rw [if_pos hq]
  · rw [if_neg hq] at hnode ⊢
    cases hwhole : q.whole with
    | true => rfl
    | false => exact absurd ⟨hnode, hwhole⟩ hq

end Joins

/-- Settles O25. -/
theorem devicesJoin : Obligations.DevicesJoin := by
  intro s
  have hrow : ∀ r ∈ packetRows, ∀ {port : Fin 3} {p kind t}, delivered s port p kind t →
      exec (r port p) s = .next (settleGaps (deliverPacket port.val p t)) := fun r hr port p kind t h =>
    (exec_of_mem_packetRows hr port p s).trans (congrArg Host.Outcome.next (packetArrives_of_delivered h))
  refine ⟨fun port p t u h hdelivered hh hother hu => ?_, fun port p t h hdelivered hh hown => ?_,
    fun hheard hserves => ⟨fun hnone hstrap => ?_, fun hstrap hsome => ?_, fun hstrap hnone hharbour => ?_,
      fun hstrap hnone hharbour hrole hjoined hsome hfit => ?_⟩,
    fun port p t u hdelivered hu => ?_, fun port p t hdelivered hdst hrole hsrc hlow hhigh hreason => ?_,
    fun n reason hlow hhigh hturn hjob hask hswap => nodeLost_spec hlow hhigh hturn hjob hask hswap⟩
  · rw [takeHello_of_other hh hother] at hu
    obtain ⟨hmem, honly, hneighbour⟩ := keepHello_spec h (relayHello p port.val t)
    have hport := helloOf_port hh
    refine ⟨?_, hu ▸ hmem, fun x hx => honly x (hu ▸ hx), fun hhops hlength => ?_⟩
    · rw [hrow _ (by simp only [packetRows, List.mem_cons, true_or, or_true]) hdelivered]
      simp only [deliverPacket, hdelivered.1, takeHello_of_other hh hother, hu]
    · have hin : h.port < (relayHello p port.val t).ferry.ports.length := by
        rw [(Carries.relayHello p port.val t).length, hlength, hport]
        exact port.isLt
      have hnode := hneighbour hhops hin
      rw [hport, hu] at hnode
      exact hnode
  · rw [hrow _ (by simp only [packetRows, List.mem_cons, true_or, or_true]) hdelivered]
    simp only [deliverPacket, hdelivered.1, takeHello_of_own hh hown]
  · exact ⟨_, joinDecision_of_noPilot hserves hheard hnone hstrap, disband_place 2 s⟩
  · refine ⟨_, joinDecision_of_several hserves hheard hstrap hsome, ?_⟩
    rw [place_event]
    exact disband_place 3 s
  · refine ⟨_, joinDecision_of_pilot hserves hheard hstrap hnone, ?_⟩
    rw [if_pos hharbour]
    exact disband_place 7 s
  · refine ⟨_, joinDecision_of_pilot hserves hheard hstrap hnone, ?_⟩
    rw [if_neg (by rw [hharbour]; exact Bool.false_ne_true)]
    exact pilotDecides_of_first hjoined hsome hfit
  · refine ⟨?_, fun hkept => ?_, fun hstrap hharbour => ?_⟩
    · rw [hrow _ (by simp only [packetRows, List.mem_cons, true_or, or_true]) hdelivered]
      simp only [deliverPacket, hdelivered.1, hu]
    · rw [← hu, takeJoinPacket, if_pos (by rwa [Bool.or_eq_true])]
    · have htake : u = takeJoin p.payload t := by
        rw [← hu, takeJoinPacket, hstrap, hharbour]
        rfl
      rw [htake]
      exact ⟨takeJoin_of_accepted, takeJoin_of_refused⟩
  · rw [hrow _ (by simp only [packetRows, List.mem_cons, true_or, or_true]) hdelivered]
    simp only [deliverPacket, hdelivered.1, takeLoss, if_neg hdst, hrole, hsrc, ne_eq, not_true_eq_false, if_false,
      Nat.not_le.2 hreason]

end Sys2Proof.Machine
end

section
/-! SUPPORT and PROOFS. What crosses devices: dictionary frames, requests, turns, semaphores, remote memory, the layout and
the stage maps (R17, R46, R47, R294, R306 to R315). -/

namespace Sys2Proof.Machine

open Sys2Proof.Claims

/-! ### Dictionary frames (R46, R47, R314) -/

section Frames

variable {way : Way} {src : Nat} {f : Bytes} {s t : State}

theorem dictArrive_of_length (h : f.length ≠ 64) : dictArrive way src f s = s := if_pos h

theorem dictArrive_of_request (hlength : f.length = 64) (hop : frOp f < 128) : dictArrive way src f s
    = if s.ferry.role = .member ∧ src = s.ferry.pilotNode then arriveFrame .fwd f way s else s := by
  simp only [dictArrive, hlength, ne_eq, not_true_eq_false, if_false, Nat.not_le.2 hop]

theorem dictArrive_of_response (hlength : f.length = 64) (hop : 128 ≤ frOp f) :
    dictArrive way src f s = takeResponse src f s := by
  simp only [dictArrive, hlength, ne_eq, not_true_eq_false, if_false, hop, if_true]

theorem takeResponse_of_forward {g : Forward} (hfind : s.ferry.forwards.find? (fun x => x.answeredBy src f) = some g)
    (horigin : g.origin ≠ .fwd) : takeResponse src f s = respond g.origin g.frame f (dropForward g s) := by
  simp only [takeResponse, hfind]

theorem takeResponse_of_none (h : s.ferry.forwards.all (fun x => !x.answeredBy src f) = true) :
    takeResponse src f s = s := by
  have hnone : s.ferry.forwards.find? (fun x => x.answeredBy src f) = none :=
    List.find?_eq_none.2 fun x hx => by simpa using List.all_eq_true.1 h x hx
  simp only [takeResponse, hnone]

theorem slowArrives_of_crossed {port : Fin 3} {type : Nat} (h : crossed s port f type t) :
    slowArrives port f s = deliverSlow f t := by
  simp only [slowArrives, h.2, if_true]

end Frames

/-! ### Messages -/

section Messages

variable {s t : State} {p : Packet} {act : Bytes → State → State}

/-- A whole message acts at once. -/
theorem onMessage_of_whole (h : wholeMessage t p) : onMessage p act t = act p.payload (gathered t p) := by
  have hall : agetD t.ferry.messages (p.src, p.kind) [] ++ p.payload = p.payload := by
    rw [agetD, h.2]
    rfl
  simp only [onMessage, gather, hall, h.1, if_true]
  rfl

end Messages

/-! ### Berths of another node (R294, R308) -/

section Berths

variable {s : State} {num : Nat} {m : Bytes} {b : Berth}

theorem berthOf_closeHere (hb : berthOf s num = some b) :
    berthOf (closeHere num s) num = some { b with st := .closing, finished := true } := by
  rw [closeHere, berthOf_setBerth_self num (by intro; rfl), hb, Option.map_some]

theorem takeBerthMessage_of_place (h : fld m 0 1 = 1) : takeBerthMessage num m s = placeHere num m s := by
  simp only [takeBerthMessage, h]

theorem takeBerthMessage_of_cancel (h : fld m 0 1 = 2) : takeBerthMessage num m s = cancelHere num s := by
  simp only [takeBerthMessage, h]

theorem berthOf_takeBerthMessage_of_close (hb : berthOf s num = some b) (h : fld m 0 1 = 4) :
    berthOf (takeBerthMessage num m s) num = some { b with st := .closing, finished := true } := by
  simp only [takeBerthMessage, h]
  exact berthOf_closeHere hb

theorem berthOf_takeBerthMessage_of_finish (hb : berthOf s num = some b) (h : fld m 0 1 = 5) :
    berthOf (takeBerthMessage num m s) num = some { b with finished := true } := by
  simp only [takeBerthMessage, h]
  rw [berthOf_setBerth_self num (by intro; rfl), hb, Option.map_some]

/-- What a berth that continues takes from its message. -/
def continued (num : Nat) (m : Bytes) (admission : Nat) (b : Berth) : Berth :=
  { b.asked (placedRing num) (fld m 2 1) (slice m 4 64) with
    signal := false, tokens := b.tokens ++ tokensOf m 68, promptEnd := b.tokens.length + (tokensOf m 68).length
    st := .ready, admitted := admission }

theorem berthOf_placeHere_of_some (hb : berthOf s num = some b) :
    berthOf (placeHere num m s) num = some (continued num m s.serving.nextAdmission b) := by
  have hplace : berthOf (placeHere num m s) num
      = berthOf (setBerth s num (continued num m s.serving.nextAdmission)) num := by
    simp only [placeHere, hb]
    rfl
  rw [hplace, berthOf_setBerth_self num (by intro; rfl), hb, Option.map_some]

/-- A request that is placed here takes a berth of its own. -/
theorem berthOf_placeHere_of_none (hb : berthOf s num = none)
    (henter : ∀ status detail, entrance s (fld (slice m 4 64) 2 1) ≠ .refused status detail) :
    ∃ c, berthOf (placeHere num m s) num = some c ∧ c.st = .ready ∧ c.tokens = tokensOf m 68 ∧ c.tenant = fld m 1 1 ∧
      c.ring = 0x10000 + num := by
  generalize hnew : ({ newBerth s num (fld m 1 1) (fld (slice m 4 64) 2 1) (placedRing num) (fld m 2 1) 0 (slice m 4 64)
    (tokensOf m 68) with signal := false } : Berth) = b
  have hplace : placeHere num m s = lookupPrefix (addBerth s b) b := by
    unfold placeHere
    dsimp only
    split
    next h => exact absurd (h.symm.trans hb) (by simp)
    · split
      next status detail h => exact absurd h (henter status detail)
      · rw [← hnew]
  have hnum : b.num = num := by rw [← hnew]; rfl
  have hfree : b.num ∉ s.serving.berths.map (·.num) := by
    rw [hnum]
    rintro hmem
    obtain ⟨x, hx, hxnum⟩ := List.mem_map.1 hmem
    exact List.find?_eq_none.1 hb x hx (decide_eq_true hxnum)
  obtain ⟨f, hserving, hf⟩ := exists_lookupPrefix (addBerth s b) b
  have hkeeps : ∀ x : Berth, (f x).num = x.num := fun x => by
    obtain ⟨l, p, h⟩ := hf x
    rw [h]
  obtain ⟨l, p, hfb⟩ := hf b
  refine ⟨f b, ?_, ?_⟩
  · rw [hplace, ← hnum, berthOf_congr hserving, berthOf_setBerth_self _ hkeeps, berthOf_addBerth_of_free hfree,
      Option.map_some]
  · rw [hfb, ← hnew]
    exact ⟨rfl, rfl, rfl, rfl⟩

theorem berthOf_cancelHere (hb : berthOf s num = some b) (hlayout : inPipeline s = false) :
    berthOf (cancelHere num s) num = some { b with st := .closing, finished := true } := by
  simp only [cancelHere, hlayout, Bool.false_eq_true, if_false]
  exact berthOf_closeHere hb

/-- A cancel masks the berth's rows in the turn in progress. -/
theorem turn_cancelHere {t : Turn} (ht : s.turn = some t) : (cancelHere num s).turn = some { t with
    batch := t.batch.map (fun x => if x.berth = num then { x with cancelled := true } else x) } := by
  unfold cancelHere
  split
  · exact congrArg (Option.map _) ht
  · exact congrArg (Option.map _) ht

end Berths

/-! ### Turns of a cascade (R17, R307, R311) -/

section Turns

variable {s : State} {m : Bytes} {cancels : List Nat}

theorem takeTable_of_idle (hturn : s.turn = none) (hfree : s.custody.transition = none) : takeTable m s
    = if atBarrier s = true then meetBarrier (s.setFerry { s.ferry with batch := some (m, []) })
      else s.setFerry { s.ferry with batch := some (m, []) } := by
  have hdrop : dropTurn s = s := by simp only [dropTurn, hturn]
  have hmeet : ((s.setFerry { s.ferry with batch := some (m, []) }).custody.transition.isNone
      && atBarrier (s.setFerry { s.ferry with batch := some (m, []) })) = atBarrier s := by
    change (s.custody.transition.isNone && atBarrier s) = _
    rw [hfree, Option.isNone_none, Bool.true_and]
  simp only [takeTable, hdrop, hmeet]

/-- A stage whose slot can run starts the turn of its table. -/
theorem startStage_of_admitted (henter : ∀ status detail, entrance s (fld m 4 1) ≠ .refused status detail) :
    ∃ t, (startStage m cancels s).turn = some t ∧ t.number = fld m 0 4 ∧ t.slot = fld m 4 1 ∧ t.cascade = true := by
  unfold startStage
  dsimp only
  split
  next status detail h => exact absurd h (henter status detail)
  · exact ⟨_, rfl, rfl, rfl, rfl⟩

theorem takeCommit_of_other (h : ∀ t, s.turn = some t → t.cascade = false ∨ t.reported = false ∨ t.number ≠ fld m 0 4) :
    takeCommit m s = s := by
  unfold takeCommit
  split
  · rfl
  next t ht => exact if_pos (h t ht)

end Turns

/-! ### Semaphores across devices (R312) -/

section Signals

variable {s : State} {p : Packet} {n : Nat}

theorem takeSignal_of_stranger (h : (joinedNodes s).contains p.src = false) : takeSignal p s = s := by
  simp only [takeSignal, h, Bool.not_false, if_true]

theorem takeSignal_of_joined (h : (joinedNodes s).contains p.src = true) (hn : fld p.payload 0 2 < 1024) : takeSignal p s
    = if bitOf (nodesAllowed s (fld p.payload 0 2)) (p.src - 1) = true
      then signalNow (wake 16 s) (fld p.payload 0 2) (fld p.payload 2 8) else (wake 16 s).bump 0x2B10 3 := by
  simp only [takeSignal, h, Bool.not_true, Bool.false_eq_true, if_false, hn, true_and]

theorem signalNow_of_none_stalled (h : ∀ k : Fin 16, (s.decks.get k).stalled = false) (v : Nat) :
    signalNow s n v = signalSem s n v :=
  foldl_fixed_of_mem fun k _ => retryDeck_of_not_stalled (h k)

end Signals

/-- Settles O26. -/
theorem devicesExchange : Obligations.DevicesExchange := by
  intro port s
  have hrow : ∀ r ∈ packetRows, ∀ {p kind t}, delivered s port p kind t →
      exec (r port p) s = .next (settleGaps (deliverPacket port.val p t)) := fun r hr p kind t h =>
    (exec_of_mem_packetRows hr port p s).trans (congrArg Host.Outcome.next (packetArrives_of_delivered h))
  have hslow : ∀ r ∈ slowRows, ∀ {f type t}, crossed s port f type t → exec (r port f) s = .next (deliverSlow f t) :=
    fun r hr f type t h => (exec_of_mem_slowRows hr port f s).trans (congrArg Host.Outcome.next (slowArrives_of_crossed h))
  refine ⟨fun p t h => ?_, fun f t h => ?_, fun f t h => ?_, fun way src f => ⟨dictArrive_of_length, fun hlength =>
      ⟨fun hop hrole hsrc => ?_, fun hop hrole => ?_, fun hop g hfind horigin => ?_, fun hop hnone => ?_⟩⟩,
    fun p t h hpilot hwhole => ?_, fun p t h hother => ?_,
    fun num m b hb => ⟨berthOf_takeBerthMessage_of_close hb, berthOf_takeBerthMessage_of_finish hb, fun hop => ?_,
      fun hop => ⟨fun hlayout => ?_, fun t ht => ?_⟩⟩,
    fun num m hb hop henter => ?_, fun p t h hcontext hpilot hrunning hwhole => ?_, fun m u hturn hfree hu => ?_,
    fun m cancels => startStage_of_admitted, fun p t h hcontext hmember hwhole => ?_, fun p t h hcontext hother => ?_,
    fun p t h hcontext hpilot hwhole => ?_, fun m => takeCommit_of_other, fun p t h => ?_,
    fun p => takeSignal_of_stranger, fun p hjoined hn => ⟨fun hallowed => ?_, fun hbarred => ?_⟩,
    wake_of_awake 16, serveLatched_of_inbox_nil, fun n v h => signalNow_of_none_stalled h v⟩
  · rw [hrow _ (by simp only [packetRows, List.mem_cons, true_or, or_true]) h]
    simp only [deliverPacket, h.1]
  · rw [hslow _ (by simp only [slowRows, List.mem_cons, true_or, or_true]) h]
    simp only [deliverSlow, h.1]
  · rw [hslow _ (by simp only [slowRows, List.mem_cons, true_or, or_true]) h]
    simp only [deliverSlow, h.1]
  · rw [dictArrive_of_request hlength hop, if_pos ⟨hrole, hsrc⟩]
  · rw [dictArrive_of_request hlength hop, if_neg fun h => hrole h.1]
  · rw [dictArrive_of_response hlength hop, takeResponse_of_forward hfind horigin]
  · rw [dictArrive_of_response hlength hop, takeResponse_of_none hnone]
  · rw [hrow _ (by simp only [packetRows, List.mem_cons, true_or, or_true]) h]
    simp only [deliverPacket, h.1, takeBerthPacket, hpilot, if_true, onMessage_of_whole hwhole]
  · rw [hrow _ (by simp only [packetRows, List.mem_cons, true_or, or_true]) h]
    simp only [deliverPacket, h.1, takeBerthPacket, hother, Bool.false_eq_true, if_false]
  · rw [takeBerthMessage_of_place hop, berthOf_placeHere_of_some hb]
    exact ⟨_, rfl, rfl, rfl, rfl⟩
  · rw [takeBerthMessage_of_cancel hop, berthOf_cancelHere hb hlayout]
  · rw [takeBerthMessage_of_cancel hop, turn_cancelHere ht]
  · rw [takeBerthMessage_of_place hop]
    exact berthOf_placeHere_of_none hb henter
  · rw [hrow _ (by simp only [packetRows, List.mem_cons, true_or, or_true]) h]
    simp only [deliverPacket, h.1, takeTurnPacket, hcontext, hpilot, hrunning, Bool.and_self, if_true,
      onMessage_of_whole hwhole]
  · rw [takeTable_of_idle hturn hfree, hu]
    exact ⟨fun hbarrier => if_pos hbarrier, fun hbarrier => if_neg (by rw [hbarrier]; exact Bool.false_ne_true)⟩
  · rw [hrow _ (by simp only [packetRows, List.mem_cons, true_or, or_true]) h]
    simp only [deliverPacket, h.1, takeTurnPacket, hcontext, hmember, if_true, onMessage_of_whole hwhole]
  · rw [hrow _ (by simp only [packetRows, List.mem_cons, true_or, or_true]) h]
    simp only [deliverPacket, h.1, takeTurnPacket, hcontext, hother, Bool.false_eq_true, if_false]
  · rw [hrow _ (by simp only [packetRows, List.mem_cons, true_or, or_true]) h]
    simp only [deliverPacket, h.1, takeTurnPacket, hcontext, hpilot, if_true, onMessage_of_whole hwhole]
  · rw [hrow _ (by simp only [packetRows, List.mem_cons, true_or, or_true]) h]
    simp only [deliverPacket, h.1]
  · rw [takeSignal_of_joined hjoined hn, if_pos hallowed]
  · rw [takeSignal_of_joined hjoined hn, if_neg (by rw [hbarred]; exact Bool.false_ne_true)]

/-! ### Remote memory (R313, R315) -/

section Remote

variable {s t : State} {port : Nat} {p : Packet}

theorem inputsArrive_of_none (h : s.turn = none ∨ endsMessage p = false) : inputsArrive p s = s := by
  unfold inputsArrive
  split
  next t ht =>
    rcases h with h | h
    · exact absurd (h.symm.trans ht) (by simp)
    · refine if_neg ?_
      rintro ⟨-, -, -, hends, -⟩
      exact Bool.false_ne_true (h.symm.trans hends)
  · rfl

/-- A write of another device's activations or KV is a write by the port's inbound master. -/
theorem takeWrite_of_data (hcls : p.cls ≠ 1) (h : t.turn = none ∨ endsMessage p = false) : takeWrite port p t
    = (memWrite (query t (21 + port) .write) t (fld p.payload 0 8) ((p.payload.drop 8).map (⟨·, false⟩))).1 := by
  simp only [takeWrite, if_neg hcls]
  refine inputsArrive_of_none (h.imp_left fun h => ?_)
  obtain ⟨met, noted, hturn⟩ := (Accesses.memWrite (query t (21 + port) .write) t (fld p.payload 0 8)
    ((p.payload.drop 8).map (⟨·, false⟩))).turn
  rw [hturn, h, Option.map_none]

theorem takeWrite_of_weights (hcls : p.cls = 1) : takeWrite port p t
    = if p.dst ≠ 15 ∨ bitOf (p.context / 256) (t.nodeId - 1) = true
      then takeBroadcast (p.context % 8) (fld p.payload 0 8) ((p.payload.drop 8).map (⟨·, false⟩)) t else t := by
  simp only [takeWrite, if_pos hcls]

theorem takeRead_of_range (hlow : 1 ≤ fld p.payload 8 4) (hhigh : fld p.payload 8 4 ≤ 512) (hsrc : 1 ≤ p.src) :
    takeRead port p t
      = sendReadData (memRead (query t (21 + port) .read) t (fld p.payload 0 8) (fld p.payload 8 4)).1 p.src p.cls
        (((memRead (query t (21 + port) .read) t (fld p.payload 0 8) (fld p.payload 8 4)).2.1
          ++ poison (fld p.payload 8 4)).take (fld p.payload 8 4)) := by
  have hno : ¬(fld p.payload 8 4 = 0 ∨ 512 < fld p.payload 8 4 ∨ p.src = 0) := by omega
  simp only [takeRead, if_neg hno]

theorem takeReadData_of_head {r : RemoteRead} {l : List RemoteRead} (hreads : t.ferry.reads = r :: l) (hnode : r.node = p.src)
    (hwhole : r.whole = false) (hcls : readClass r = p.cls) : takeReadData p t
      = retryStalled (retryPrograms (retryReads (t.setFerry { t.ferry with
        reads := { r with
          got := r.got ++ p.payload.map (⟨·, bitOf p.context 0⟩)
          whole := decide (r.len ≤ r.got.length + p.payload.length) } :: l }))) := by
  simp only [takeReadData, hreads, fillRead, hnode, hwhole, hcls, and_self, if_true, List.length_append, List.length_map]

end Remote

/-! ### Layout and stage maps (R306, R310) -/

section Layout

variable {s : State} {val : Bytes} {slot : Nat}

theorem turn_toMembers (idx sub : Nat) (domain : Bool) (val : Bytes) (s : State) :
    (toMembers idx sub domain val s).turn = s.turn := by
  unfold toMembers
  split
  · obtain ⟨p, b, x, n, o, d, hshape⟩ := (Mails.foldl
      ((joinedNodes s).filter (fun n => !decide (n = s.nodeId))) (fun s n => Mails.memberWrite s n idx sub domain val) s).shape
    rw [hshape]
  · rfl

theorem applyLayout_of_busy (h : cascadeIdle s = false) : applyLayout val s = .done abNotIdle s := by
  unfold applyLayout
  exact guarded_of_firstFail _ s (by rw [h, firstFail_cons_false])

theorem applyLayout_of_idle (h : cascadeIdle s = true) (hval : leNat val ≤ 1) : applyLayout val s = .done 0
    (if s.turn.isNone then layoutAtBarrier (toMembers 0x2B01 0 false val (s.setVal 0x2B01 0 (leNat val)))
      else toMembers 0x2B01 0 false val (s.setVal 0x2B01 0 (leNat val))) := by
  unfold applyLayout
  exact guarded_of_passes _ s (by rw [h, decide_eq_true hval, firstFail_cons_true, firstFail_cons_true, firstFail_nil])

theorem layoutAtBarrier_layout (s : State) : (layoutAtBarrier s).ferry.layout = s.val 0x2B01 0 := by
  unfold layoutAtBarrier
  split
  next h => exact h
  · rfl

theorem applyStageMap_of_fits (hlength : val.length = 256) (hidle : cascadeIdle s = true)
    (hfits : mapFits s (mappedLayers s slot val) = true) : applyStageMap slot val s = .done 0
      (toMembers 0x2B02 (slot + 1) true val (s.setFerry { s.ferry with
        stageMaps := aset s.ferry.stageMaps slot val
        told := s.ferry.told.filter (fun p => !decide (p.1.2 = slot))
        orphaned := s.ferry.orphaned.filter (fun i => !decide (i = slot)) })) :=
  guarded_of_passes _ s (by rw [decide_eq_true hlength, hidle, hfits, firstFail_cons_true, firstFail_cons_true,
    firstFail_cons_true, firstFail_nil])

theorem applyStageMap_of_unfit (hlength : val.length = 256) (hidle : cascadeIdle s = true)
    (hfits : mapFits s (mappedLayers s slot val) = false) : applyStageMap slot val s = .done abInconsistent s :=
  guarded_of_firstFail _ s (by rw [decide_eq_true hlength, hidle, hfits, firstFail_cons_true, firstFail_cons_true,
    firstFail_cons_false])

end Layout

/-- Settles O27. -/
theorem remoteMemoryAndLayout : Obligations.RemoteMemoryAndLayout := by
  intro s
  have hrow : ∀ r ∈ packetRows, ∀ {port : Fin 3} {p kind t}, delivered s port p kind t →
      exec (r port p) s = .next (settleGaps (deliverPacket port.val p t)) := fun r hr port p kind t h =>
    (exec_of_mem_packetRows hr port p s).trans (congrArg Host.Outcome.next (packetArrives_of_delivered h))
  refine ⟨fun port p t h hcls hends => ?_, fun port p t h hcls => ⟨fun hmine => ?_, fun hdst hbit => ?_⟩,
    fun port p t h hlow hhigh hsrc => ?_, fun port p t r l h hreads hnode hwhole hcls => ?_,
    fun ch val u hidle hval hu => ⟨fun hturn => ?_, fun hturn => ?_⟩, layoutAtBarrier_layout s,
    fun ch val hbusy => turnedDown_of_done rfl rfl (applyLayout_of_busy hbusy),
    fun ch slot val hlength hidle hfits => accepted_of_done rfl rfl (applyStageMap_of_fits hlength hidle hfits),
    fun ch slot val hlength hidle hfits => turnedDown_of_done rfl rfl (applyStageMap_of_unfit hlength hidle hfits)⟩
  · rw [hrow _ (by simp only [packetRows, List.mem_cons, true_or, or_true]) h]
    simp only [deliverPacket, h.1, takeWrite_of_data hcls hends]
  · rw [hrow _ (by simp only [packetRows, List.mem_cons, true_or, or_true]) h]
    simp only [deliverPacket, h.1, takeWrite_of_weights hcls, if_pos hmine]
  · rw [hrow _ (by simp only [packetRows, List.mem_cons, true_or, or_true]) h]
    have hno : ¬(p.dst ≠ 15 ∨ bitOf (p.context / 256) (t.nodeId - 1) = true) := by
      rw [hdst, hbit]
      simp
    simp only [deliverPacket, h.1, takeWrite_of_weights hcls, if_neg hno]
  · refine ⟨_, ?_, rfl, ?_⟩
    · simp [poison]
    · rw [hrow _ (by simp only [packetRows, List.mem_cons, true_or, or_true]) h]
      simp only [deliverPacket, h.1, takeRead_of_range hlow hhigh hsrc]
  · rw [hrow _ (by simp only [packetRows, List.mem_cons, true_or, or_true]) h]
    simp only [deliverPacket, h.1, takeReadData_of_head hreads hnode hwhole hcls]
  · refine accepted_of_done rfl rfl ((applyLayout_of_idle hidle hval).trans ?_)
    rw [hturn, hu]
    rfl
  · have hsome : s.turn.isNone = false := by
      cases ht : s.turn with
      | none => exact absurd ht hturn
      | some _ => rfl
    refine accepted_of_done rfl rfl ((applyLayout_of_idle hidle hval).trans ?_)
    rw [hsome, hu]
    rfl

end Sys2Proof.Machine
end

section
/-! SUPPORT and PROOFS. What every step keeps: the canonical form of the memories and of the accumulators. -/

namespace Sys2Proof.Machine
open Sys2Proof.Claims

/-! ## The kept form -/

/-- The canonical form, said of the three parts of a state that it speaks of. -/
def Orderly (m : Mem) (h : HostMem) (d : Vector Deck 16) : Prop :=
  m.wf = true ∧ cellsWf (fun _ => 0) h.cells = true ∧ ∀ k : Fin 16, rising (d.get k).acc = true

/-- A state whose media satisfy q, and which is in canonical form where p holds. What a function keeps is said of it
once: with a given q it keeps the media, and with `anyMedia` the canonical form alone. -/
def Held (p : Prop) (q : Media → Prop) (s : State) : Prop := q s.media ∧ (p → Orderly s.mem s.host s.decks)

/-- Nothing is asked of the media. -/
def anyMedia : Media → Prop := fun _ => True

theorem canonical_iff (s : State) : s.canonical = true ↔ Held True anyMedia s := by
  simp only [State.canonical, State.memWf, Bool.and_eq_true, List.all_eq_true, List.mem_finRange, Held, anyMedia,
    Orderly, true_and, forall_const, and_assoc]

/-- The state that a write of an object leaves. -/
def Applied.state : Applied → State
  | .done _ s => s
  | .later s => s

/-- The state that a write of an object leaves is held. -/
def AppliedHeld (p : Prop) (q : Media → Prop) (a : Applied) : Prop := Held p q a.state

/-- The state that the service of a frame leaves. -/
def Served.state : Served → State
  | .answer _ _ _ _ s => s
  | .later s => s
  | .forwarded s => s

/-- The state that the service of a frame leaves is held. -/
def ServedHeld (p : Prop) (q : Media → Prop) (r : Served) : Prop := Held p q r.state

/-- The next state of an outcome is held. -/
def NextHeld (p : Prop) (q : Media → Prop) (o : Host.Outcome State Fault Refusal) : Prop :=
  ∀ t, o = .next t → Held p q t

/-- A state that may be answered is held. -/
def OptionHeld (p : Prop) (q : Media → Prop) {α : Type} (f : α → State) (o : Option α) : Prop :=
  ∀ x, o = some x → Held p q (f x)

theorem OptionHeld.some {p : Prop} {q : Media → Prop} {α : Type} {f : α → State} {x : α} (h : Held p q (f x)) :
    OptionHeld p q f (some x) := fun _ e => Option.some.inj e ▸ h

theorem OptionHeld.none {p : Prop} {q : Media → Prop} {α : Type} {f : α → State} : OptionHeld p q f none := nofun

/-- The effect of a slot's result keeps a held state held. -/
def SlotHeld (p : Prop) (q : Media → Prop) : SlotResult → Prop
  | .ok _ act => ∀ s, Held p q s → Held p q (act s)
  | _ => True

/-- The effects of a bundle keep a held state held. -/
def BundleHeld (p : Prop) (q : Media → Prop) : BundleResult → Prop
  | .ok _ acts => ∀ act ∈ acts, ∀ s, Held p q s → Held p q (act s)
  | _ => True

theorem AppliedHeld.ite {p : Prop} {q : Media → Prop} {c : Prop} {_ : Decidable c} {a b : Applied}
    (ha : AppliedHeld p q a) (hb : AppliedHeld p q b) : AppliedHeld p q (if c then a else b) := by
  split
  · exact ha
  · exact hb

namespace Held

variable {p : Prop} {q : Media → Prop} {s t : State}

theorem next (h : Held p q s) : NextHeld p q (.next s) := fun _ e => Host.Outcome.next.inj e ▸ h

theorem any (h : Held p q s) : Held p anyMedia s := ⟨trivial, h.2⟩

/-- What agrees in the media, the memories and the decks. -/
theorem frame (h : Held p q s) (hsame : (t.media, t.mem, t.host, t.decks) = (s.media, s.mem, s.host, s.decks)) :
    Held p q t := by
  obtain ⟨hmedia, hmem, hhost, hdecks⟩ := by simpa only [Prod.mk.injEq] using hsame
  rw [Held, hmedia, hmem, hhost, hdecks]
  exact h

theorem ite {c : Prop} {_ : Decidable c} (hs : Held p q s) (ht : Held p q t) : Held p q (if c then s else t) := by
  split
  · exact hs
  · exact ht

theorem fst_ite {β : Type} {c : Prop} {_ : Decidable c} {a b : State × β} (ha : Held p q a.1) (hb : Held p q b.1) :
    Held p q (if c then a else b).1 := by
  split
  · exact ha
  · exact hb

theorem fst_mk {β : Type} {b : β} (h : Held p q s) : Held p q (s, b).1 := h

theorem setTurn {o : Option Turn} (h : Held p q s) : Held p q { s with turn := o } := h

theorem foldl {α : Type} {f : State → α → State} {l : List α} (h : Held p q s)
    (hf : ∀ s a, Held p q s → Held p q (f s a)) : Held p q (l.foldl f s) := by
  induction l generalizing s with
  | nil => exact h
  | cons a l ih => exact ih (hf s a h)

/-- A fold whose accumulator has the state as its first part. -/
theorem foldl_fst {α β : Type} {f : State × β → α → State × β} {l : List α} {b : β} (h : Held p q s)
    (hf : ∀ s b a, Held p q s → Held p q (f (s, b) a).1) : Held p q (l.foldl f (s, b)).1 := by
  induction l generalizing s b with
  | nil => exact h
  | cons a l ih => exact ih (hf s b a h)

theorem fst_of {β : Type} {x : State × β} {b : β} (h : Held p q x.1) (e : x = (s, b)) : Held p q s := by
  rw [e] at h
  exact h

/-! ## The memories -/

theorem setMem {m : Mem} (h : Held p q s) (hm : s.mem.wf = true → m.wf = true) : Held p q (s.setMem m) :=
  ⟨h.1, fun hp => ⟨hm (h.2 hp).1, (h.2 hp).2⟩⟩

theorem programmed_wf {m : Mem} {a b n : Nat} {bs : Bytes} (h : m.wf = true) :
    (clearMarks (m.setBytes a bs) b n).wf = true := clearMarks_wf (Mem.setBytes_wf _ _ _ h) _ _

theorem hostWrite {a : Nat} {bs : Bytes} (h : Held p q s) : Held p q (hostWrite s a bs).1 := by
  unfold Machine.hostWrite
  split
  · exact ⟨h.1, fun hp => ⟨(h.2 hp).1, cellPuts_wf _ _ _ _ (h.2 hp).2.1, (h.2 hp).2.2⟩⟩
  · exact h

/-! ## The decks -/

theorem setDeck_of {k : Fin 16} {d : Deck} (h : Held p q s)
    (hd : rising (s.decks.get k).acc = true → rising d.acc = true) : Held p q (s.setDeck k d) := by
  refine ⟨h.1, fun hp => ⟨(h.2 hp).1, (h.2 hp).2.1, fun j => ?_⟩⟩
  rcases eq_or_ne j k with rfl | hj
  · rw [decks_get_setDeck_self]
    exact hd ((h.2 hp).2.2 _)
  · rw [decks_get_setDeck_of_ne _ hj]
    exact (h.2 hp).2.2 j

theorem setDeck {k : Fin 16} {d : Deck} (h : Held p q s) (hd : d.acc = (s.decks.get k).acc) :
    Held p q (s.setDeck k d) := h.setDeck_of fun hr => hd.symm ▸ hr

theorem modDeck_of {k : Fin 16} {f : Deck → Deck} (h : Held p q s)
    (hf : ∀ d, rising d.acc = true → rising (f d).acc = true) : Held p q (modDeck s k f) := h.setDeck_of (hf _)

/-- A change of a deck that leaves its accumulators. -/
theorem modDeck {k : Fin 16} {f : Deck → Deck} (h : Held p q s) (hf : ∀ d, (f d).acc = d.acc) :
    Held p q (Machine.modDeck s k f) := h.modDeck_of fun d hd => (hf d).symm ▸ hd

/-- A change of every deck. -/
theorem mapDecks {f : Deck → Deck} (h : Held p q s) (hf : ∀ d, rising d.acc = true → rising (f d).acc = true) :
    Held p q { s with decks := s.decks.map f } := by
  refine ⟨h.1, fun hp => ⟨(h.2 hp).1, (h.2 hp).2.1, fun j => ?_⟩⟩
  have hg : (s.decks.map f).get j = f (s.decks.get j) := by simp [Vector.get_eq_getElem]
  rw [hg]
  exact hf _ ((h.2 hp).2.2 j)

/-! ## Shared operations -/

theorem setVal {idx sub v} (h : Held p q s) : Held p q (State.setVal s idx sub v) := h

theorem bumpBy {idx sub bits n} (h : Held p q s) : Held p q (State.bumpBy s idx sub bits n) := h.setVal

theorem bump {idx sub} (h : Held p q s) : Held p q (State.bump s idx sub) := h.bumpBy

theorem bumpSat {idx sub} (h : Held p q s) : Held p q (State.bumpSat s idx sub) := h.setVal

theorem emit {o} (h : Held p q s) : Held p q (State.emit s o) := h

theorem draw (h : Held p q s) : Held p q (State.draw s) := h

theorem setJournal {j} (h : Held p q s) : Held p q (State.setJournal s j) := h

theorem pushEvent {cls flags code data} (h : Held p q s) : Held p q (State.pushEvent s cls flags code data) :=
  Held.ite h h.setJournal.draw

theorem event {cls flags kind facts} (h : Held p q s) : Held p q (State.event s cls flags kind facts) := h.pushEvent

theorem setIntegrity {i} (h : Held p q s) : Held p q (State.setIntegrity s i) := h

theorem markJournalled {cls} (h : Held p q s) : Held p q (State.markJournalled s cls) := h

theorem logError {e} (h : Held p q s) : Held p q (State.logError s e) := h.setIntegrity

theorem record {e} (h : Held p q s) : Held p q (State.record s e) := Held.ite h.logError.event.markJournalled h.logError

theorem error {e} (h : Held p q s) : Held p q (State.error s e) := Held.ite h.bumpSat h.bumpSat.record

/-! ## Margins and the supplies of the decks -/

theorem setMargin {d m} (h : Held p q s) : Held p q (State.setMargin s d m) := h.setIntegrity

theorem silentError {d} (h : Held p q s) : Held p q (silentError s d) := h.setMargin

/-! ## Accesses to the address space -/

theorem setTiers {t'} (h : Held p q s) : Held p q (State.setTiers s t') := h

theorem setFlash {f} (h : Held p q s) : Held p q (State.setFlash s f) := h

theorem accessError {cls m a} (h : Held p q s) : Held p q (accessError cls m a s) := h.error

theorem noteSource {a} (h : Held p q s) : Held p q (noteSource a s) := h

theorem sourceError {cls m a} (h : Held p q s) : Held p q (sourceError cls m a s) := h.accessError.noteSource

theorem checkHoldWord {master p'} (h : Held p q s) : Held p q (checkHoldWord master s p') := by
  unfold Machine.checkHoldWord
  split
  · exact (h.setMem fun hm => Mem.setMark_wf _ _ _ hm).bumpBy.error
  · exact h.bumpBy.sourceError
  · exact h.noteSource

theorem readHold {q' a n} (h : Held p q s) : Held p q (readHold q' s a n).1 := by
  unfold Machine.readHold
  split
  · exact h
  · exact h.foldl fun _ _ h1 => h1.checkHoldWord

theorem writeHoldWord {master a octs} (h : Held p q s) : Held p q (writeHoldWord master s a octs) := by
  unfold Machine.writeHoldWord
  dsimp only
  split
  · exact h.setMem fun hm => Mem.setMark_wf _ _ _ (Mem.setBytes_wf _ _ _ hm)
  · split
    · exact h.accessError
    · exact (h.setMem fun hm => Mem.setMark_wf _ _ _ hm).bumpBy.accessError
    · exact (h.setMem fun hm => Mem.setMark_wf _ _ _ (Mem.setBytes_wf _ _ _ hm)).bumpBy.error
    · exact h.setMem fun hm => Mem.setMark_wf _ _ _ (Mem.setBytes_wf _ _ _ hm)

theorem writeHold {q' a octs} (h : Held p q s) : Held p q (writeHold q' s a octs) :=
  Held.ite h (h.foldl fun _ _ h => h.writeHoldWord)

theorem countBursts {c n} (h : Held p q s) : Held p q (countBursts c n s) := h.bumpBy

theorem countDecoded {c} (h : Held p q s) : Held p q (countDecoded c s) := h.bumpBy

theorem damaged {c m block code} (h : Held p q s) : Held p q (damaged c m block code s) :=
  h.bump.setVal.setVal.setVal.sourceError

theorem closeBlock {b} (h : Held p q s) : Held p q (closeBlock s b) := by
  unfold Machine.closeBlock
  dsimp only
  split
  · exact h.setTiers.bumpBy
  · exact h.setTiers.bumpBy
  · exact h.setTiers.bumpBy

theorem openBlock {b} (h : Held p q s) : Held p q (openBlock s b) := by
  unfold Machine.openBlock
  dsimp only
  refine Held.setTiers ?_
  split
  · exact h
  · split
    · exact h.closeBlock
    · exact h

theorem fetchLpddr {b a n} (h : Held p q s) : Held p q (fetchLpddr s b a n) :=
  Held.ite h.countBursts h.countBursts.countDecoded.setTiers

theorem linkOf {q'} (h : Held p q s) : Held p q (linkOf q' s).2 := by
  unfold Machine.linkOf
  split
  · exact h
  · exact h.setTiers
  · exact h

theorem linkCheck {q' a} (h : Held p q s) : Held p q (linkCheck q' s a).2 := by
  unfold Machine.linkCheck
  dsimp only
  split
  · exact h.linkOf
  · exact h.linkOf
  · exact h.linkOf.bumpBy.error
  · exact h.linkOf.bumpBy.sourceError

theorem readLpddr {q' a n} (h : Held p q s) : Held p q (readLpddr q' s a n).1 := by
  unfold Machine.readLpddr
  dsimp only
  split
  · split
    · exact h.linkCheck
    · exact h.linkCheck.draw
  · split
    · exact h
    · split
      · exact h.noteSource
      · split
        · exact h.setTiers
        · split
          · exact h.linkCheck
          · exact h.linkCheck.fetchLpddr

theorem writeLpddr {a octs} (h : Held p q s) : Held p q (writeLpddr s a octs) :=
  Held.ite (h.setMem fun hm => Mem.setBytes_wf _ _ _ hm) (Held.ite ((h.openBlock.setMem fun hm => Mem.setBytes_wf _ _ _
    hm).setMem fun hm => Mem.setMark_wf _ _ _ hm).closeBlock (h.openBlock.setMem fun hm => Mem.setBytes_wf _ _ _ hm))

theorem suspendErase {bank} (h : Held p q s) : Held p q (suspendErase s bank) := by
  unfold Machine.suspendErase
  split
  · exact h
  · exact h.setFlash

theorem checkFlashWord {master p'} (h : Held p q s) : Held p q (checkFlashWord master s p') := by
  unfold Machine.checkFlashWord
  split
  · exact h.bumpBy.error
  · exact h.bumpBy.sourceError

theorem checkFlash {master a n} (h : Held p q s) : Held p q (checkFlash master s a n) :=
  h.foldl fun _ _ h => h.checkFlashWord

theorem expandFlash {q' block lta a n} (h : Held p q s) : Held p q (expandFlash q' s block lta a n).1 := by
  unfold Machine.expandFlash
  split
  · exact h.setTiers
  · split
    · exact h.checkFlash
    · dsimp only
      split
      · exact h.checkFlash.countBursts
      · split
        · exact h.damaged
        · split
          · exact h.checkFlash.countBursts
          · split
            · exact h.checkFlash.countBursts.damaged
            · exact h.checkFlash.countBursts.countDecoded.setTiers

theorem serveFlash {q' a n} (h : Held p q s) : Held p q (serveFlash q' s a n).1 := by
  unfold Machine.serveFlash
  dsimp only
  split
  · exact h.expandFlash
  · exact h.checkFlash.countBursts

theorem suspendNeeds {q' needs} (h : Held p q s) : Held p q (suspendNeeds q' needs s) := by
  unfold Machine.suspendNeeds
  refine h.foldl fun s1 a1 h1 => ?_
  split
  · exact h1.suspendErase
  · exact h1

theorem readFlash {q' a n} (h : Held p q s) : Held p q (readFlash q' s a n).1 := by
  unfold Machine.readFlash
  dsimp only
  split
  · exact h.bump.accessError
  · split
    · exact h.noteSource
    · split
      · exact h
      · exact h
      · exact h.suspendNeeds.serveFlash

theorem expandWindow {q' e entryIndex a n} (h : Held p q s) : Held p q (expandWindow q' s e entryIndex a n).1 := by
  unfold Machine.expandWindow
  dsimp only
  split
  · exact h.setTiers
  · split
    · exact h.sourceError
    · split
      · split
        · exact h.countBursts
        · exact h.countBursts.sourceError
      · split
        · exact h.damaged
        · split
          · exact h.countBursts.sourceError
          · split
            · exact h.countBursts.damaged
            · exact h.countBursts.countDecoded.setTiers

theorem readWindow {q' i a n} (h : Held p q s) : Held p q (readWindow q' s i a n).1 := by
  unfold Machine.readWindow
  split
  · exact h
  · split
    · exact h.expandWindow
    · dsimp only
      split
      · exact h
      · exact h.sourceError

theorem refuseLine {q' a} (h : Held p q s) : Held p q (refuseLine q' s a) := h.bump.accessError

theorem readLine {q' a n} (h : Held p q s) : Held p q (readLine q' s a n).1 := by
  unfold Machine.readLine
  split
  · exact h.accessError
  · split
    · exact h.refuseLine
    · split
      · split
        · exact h.readLpddr
        · exact h.refuseLine
      · exact h.readFlash
      · exact h.readWindow
      · exact h
      · exact h.readHold

theorem storeLine {q' a octs} (h : Held p q s) : Held p q (storeLine q' s a octs) := by
  unfold Machine.storeLine
  split
  · exact h.writeLpddr
  · exact h.writeHold

theorem storeBoth {q' a octs} (h : Held p q s) : Held p q (storeBoth q' s a octs) := by
  unfold Machine.storeBoth
  split
  · exact h.storeLine.storeLine
  · exact h.storeLine

theorem writeLine {q' a octs} (h : Held p q s) : Held p q (writeLine q' s a octs).1 := by
  unfold Machine.writeLine
  split
  · exact h.accessError
  · split
    · exact h.refuseLine
    · split
      · exact h.accessError
      · exact h.accessError
      · exact h
      · split
        · exact h.storeBoth
        · exact h.refuseLine

theorem clearBlock {b} (h : Held p q s) : Held p q (clearBlock s b) :=
  Held.ite (h.setMem fun hm => Mem.setMark_wf _ _ _ hm) h

theorem clearFullBlocks {a octs} (h : Held p q s) : Held p q (clearFullBlocks s a octs) :=
  h.foldl fun _ _ h => Held.ite (h.foldl fun _ _ h1 => h1.clearBlock) h

theorem memRead {q' a n} (h : Held p q s) : Held p q (memRead q' s a n).1 := h.foldl_fst fun _ _ _ h => h.readLine

theorem memWrite {q' a octs} (h : Held p q s) : Held p q (memWrite q' s a octs).1 := by
  unfold Machine.memWrite
  dsimp only
  split
  · exact (h.foldl_fst fun _ _ _ h1 => h1.writeLine).clearFullBlocks
  · exact h.foldl_fst fun _ _ _ h1 => h1.writeLine

/-! ## Wakes and sleep -/

theorem setFerry {f} (h : Held p q s) : Held p q (State.setFerry s f) := h

/-! ## The links of the ferry -/

theorem setPort {n p'} (h : Held p q s) : Held p q (State.setPort s n p') := h.setFerry

theorem sendBareTo {n kind dst seq} (h : Held p q s) : Held p q (sendBareTo s n kind dst seq) :=
  Held.ite h.setPort.emit h

theorem sendBare {n kind} (h : Held p q s) : Held p q (sendBare s n kind) := h.sendBareTo

theorem returnAck {n} (h : Held p q s) : Held p q (returnAck s n) := Held.ite h.sendBare h

theorem releaseBuffer {n cls} (h : Held p q s) : Held p q (releaseBuffer s n cls) := h.setPort

theorem leaveBuffer {w} (h : Held p q s) : Held p q (leaveBuffer s w) := by
  unfold Machine.leaveBuffer
  split
  · exact h
  · exact Held.ite h h.releaseBuffer.returnAck

theorem pumpOne {n} (h : Held p q s) : Held p q (pumpOne s n) := by
  unfold Machine.pumpOne
  dsimp only
  split
  · split
    · exact h
    · exact h.setPort.emit.leaveBuffer
  · exact h

theorem pump {n} (h : Held p q s) : Held p q (pump s n) := h.foldl fun _ _ h => h.pumpOne

theorem askFullRate {n} (h : Held p q s) : Held p q (askFullRate s n) := Held.ite h.setPort.emit h

theorem queueTo {ports p' held} (h : Held p q s) : Held p q (queueTo s ports p' held) :=
  (h.foldl fun _ _ h => h.setPort).foldl fun _ _ h => h.pump.askFullRate

theorem enqueue {n p'} (h : Held p q s) : Held p q (enqueue s n p') := h.queueTo

theorem sendTo {node kind cls flags context payload} (h : Held p q s) :
    Held p q (sendTo s node kind cls flags context payload) := by
  unfold Machine.sendTo
  split
  · exact h
  · exact h.setFerry.enqueue

theorem remoteRead {a n} (h : Held p q s) : Held p q (remoteRead s a n) :=
  Held.ite h (h.setFerry.foldl fun _ _ h => h.sendTo)

theorem remoteData {a n} (h : Held p q s) : Held p q (remoteData s a n).1 := by
  unfold Machine.remoteData
  dsimp only
  split
  · split
    · exact h.setFerry
    · exact h
  · exact h

/-! ## Tensors and tiers -/

theorem dropRange {a n} (h : Held p q s) : Held p q (dropRange s a n) := h.setTiers

theorem zeroRange {a n} (h : Held p q s) : Held p q (zeroRange s a n) :=
  (h.setMem fun hm => Mem.clear_wf _ _ _ hm).dropRange

theorem touchTensor {a} (h : Held p q s) : Held p q (touchTensor s a) := Held.ite h h.setTiers

/-! ## Pages of the key-value cache -/

theorem setKv {k} (h : Held p q s) : Held p q (State.setKv s k) := h

theorem setServing {x1} (h : Held p q s) : Held p q (State.setServing s x1) := h

theorem setBerth {n f} (h : Held p q s) : Held p q (setBerth s n f) := h.setServing

theorem freeSet {slot n} (h : Held p q s) : Held p q (freeSet s slot n) := h.setKv.zeroRange

theorem dropNodes {l} (h : Held p q s) : Held p q (dropNodes s l) := h.setKv

theorem evictSet {k} (h : Held p q s) : Held p q (evictSet s k) := h.dropNodes.freeSet.bumpBy

theorem evictForQuota {a b n} (h : Held p q s) : Held p q (evictForQuota a b n s) := by
  induction n generalizing s with
  | zero => exact h
  | succ n ih =>
    unfold Machine.evictForQuota
    split
    · exact h
    · split
      · exact ih h.evictSet
      · exact h

theorem roomForSet {slot t'} (h : Held p q s) : Held p q (roomForSet s slot t') := by
  unfold Machine.roomForSet
  dsimp only
  split
  · exact h.evictForQuota
  · split
    · exact h.evictForQuota.evictSet
    · exact h.evictForQuota

theorem takeSet {slot t'} (h : Held p q s) : Held p q (takeSet s slot t').1 := by
  unfold Machine.takeSet
  dsimp only
  split
  · split
    · exact h.roomForSet.setKv
    · exact h.roomForSet
  · exact h.roomForSet

theorem setFor {b i} (h : Held p q s) : Held p q (setFor s b i).1 := by
  unfold Machine.setFor
  split
  · exact h
  · dsimp only
    split
    · exact h.takeSet.setBerth
    · exact h.takeSet

theorem markFull {num detail} (h : Held p q s) : Held p q (markFull s num detail) := h.setBerth

theorem resolveRow {num layerIndex q'} (h : Held p q s) : Held p q (resolveRow s num layerIndex q').1 := by
  unfold Machine.resolveRow
  split
  · exact h
  · split
    · exact h
    · split
      · exact h.markFull
      · dsimp only
        split
        · exact h.setFor.markFull
        · split
          · exact h.setFor
          · exact h.setFor.bump

/-! ## Decks -/

theorem deckRead {k d a n} (h : Held p q s) : Held p q (deckRead k d s a n).1 := by
  unfold Machine.deckRead
  dsimp only
  split
  · exact h.memRead
  · exact h.memRead
  · exact h.memRead
  · exact h.memRead
  · split
    · split
      · exact h.memRead.remoteData
      · exact h.memRead.remoteData
    · exact h.memRead.remoteData.remoteRead
  · split
    · exact h.memRead.touchTensor
    · exact h.memRead.touchTensor

theorem writePermitted {k a n} (h : Held p q s) : Held p q (writePermitted k s a n).1 := by
  unfold Machine.writePermitted
  refine h.foldl_fst fun s1 b1 a1 h1 => ?_
  split
  · exact h1
  · dsimp only
    split
    · exact h1.accessError
    · split
      · exact h1.refuseLine
      · exact h1

theorem drainBytes {k l} (h : Held p q s) : Held p q (drainBytes k s l) := h.foldl fun _ _ h => h.memWrite.touchTensor

theorem drainOne {k} (h : Held p q s) : Held p q (drainOne k s) := by
  unfold Machine.drainOne
  split
  · exact h
  · exact h.drainBytes.modDeck fun _ => by rfl

theorem drainAll {k} (h : Held p q s) : Held p q (drainAll k s) := h.foldl fun _ _ h => h.drainOne

theorem faultSharers {k} (h : Held p q s) : Held p q (faultSharers s k) := h.foldl fun _ _ h => h.modDeck fun _ => by rfl

theorem modTurn {f} (h : Held p q s) : Held p q (modTurn s f) := h

theorem failAttempt {r} (h : Held p q s) : Held p q (failAttempt r s) := h.modTurn

theorem suspect {d} (h : Held p q s) : Held p q (suspect d s) := h.silentError.modTurn

theorem deckFree {k} (h : Held p q s) : Held p q (deckFree k s) := h.modTurn

theorem resetDeck {k} (h : Held p q s) : Held p q (resetDeck s k) := (h.setDeck_of fun _ => rfl).setVal

theorem pairMismatch {k} (h : Held p q s) : Held p q (pairMismatch k s) :=
  h.error.suspect.suspect.failAttempt.faultSharers.resetDeck.resetDeck.deckFree

theorem programError {k cause address} (h : Held p q s) : Held p q (programError k cause address s) :=
  Held.ite h.error h

theorem excOutcome {k cause address} (h : Held p q s) : Held p q (excOutcome k cause address s) :=
  Held.ite h.failAttempt (Held.ite h.failAttempt h.failAttempt.bump)

theorem raiseDeck {k slot cause address} (h : Held p q s) : Held p q (raiseDeck k slot cause address s) :=
  (h.drainAll.faultSharers.modDeck fun _ => by rfl).bump.programError.excOutcome.deckFree

/-! ## QROW -/

theorem qrowRead {k src stride bytes} (h : Held p q s) : Held p q (qrowRead k s src stride bytes).1 :=
  h.foldl_fst fun _ _ _ h => h.memRead

/-! ## Streams and KVPUT -/

theorem startStream {k n mask} (h : Held p q s) : Held p q (startStream s k n mask) :=
  h.foldl fun _ _ h => h.modDeck fun _ => setStream_acc _ _ _

theorem setStream {k n x} (h : Held p q s) : Held p q (Machine.modDeck s k fun d => d.setStream n x) :=
  h.modDeck fun _ => setStream_acc _ _ _

theorem faultStream {k n} (h : Held p q s) : Held p q (Machine.modDeck s k (faultStream n)) :=
  h.modDeck fun _ => setStream_acc _ _ _

theorem loadStream {k n b} (h : Held p q s) : Held p q (loadStream k n b s) :=
  Held.ite (h.setStream.foldl fun _ _ h => h.faultStream) (Held.ite h.setStream.startStream h.setStream)

/-! ## The residue check -/

theorem residueMismatch {k array} (h : Held p q s) : Held p q (residueMismatch k array s) :=
  (h.error.modDeck fun _ => by rfl).suspect.failAttempt

theorem setInjected {k o} (h : Held p q s) : Held p q (Machine.modDeck s k fun d => { d with injected := o }) :=
  h.modDeck fun _ => rfl

theorem residueCheck {k} (h : Held p q s) : Held p q (residueCheck k s) := by
  unfold Machine.residueCheck
  split
  · exact Held.ite h.setInjected (Held.ite (Held.ite h.setInjected.modTurn h.setInjected).pairMismatch
      (Held.ite h.setInjected.modTurn h.setInjected).residueMismatch)
  · exact h

/-! ## Bundles and the deck's own events -/

theorem acc_sSet (d : Deck) (n : Nat) (v : BitVec 64) (bad : Bool) : (d.sSet n v bad).acc = d.acc := by
  unfold Deck.sSet
  split
  · split
    · rfl
    · rfl
  · rfl

theorem acc_vSet (d : Deck) (n : Nat) (v : BitVec 512) (bad : BitVec 64) : (d.vSet n v bad).acc = d.acc := by
  unfold Deck.vSet
  split
  · rfl
  · rfl

theorem acc_pSet (d : Deck) (n : Nat) (v : BitVec 64) (bad : Bool) : (d.pSet n v bad).acc = d.acc := by
  unfold Deck.pSet
  split
  · split
    · rfl
    · rfl
  · rfl

theorem acc_poisonReg (d : Deck) : ∀ r : RegName, (poisonReg d r).acc = d.acc
  | .s _ => acc_sSet _ _ _ _
  | .v _ => acc_vSet _ _ _ _
  | .p _ => acc_pSet _ _ _ _
  | .map _ => rfl

theorem parityError {k r} (h : Held p q s) : Held p q (parityError k r s) :=
  (h.error.modDeck (acc_poisonReg · r)).suspect.failAttempt

theorem parityCheck {k b} (h : Held p q s) : Held p q (parityCheck k b s) := by
  unfold Machine.parityCheck
  split
  · split
    · exact (Held.ite h.setInjected.modTurn h.setInjected).parityError
    · exact h
  · exact h

end Held
end Sys2Proof.Machine
end

section
/-! SUPPORT and PROOFS. What every step keeps: the operations of the slots, and the bundle that a deck issues. -/

namespace Sys2Proof.Machine
open Sys2Proof.Claims

variable {p : Prop} {q : Media → Prop}

/-! ## Accesses of the decks -/

/-- The check of several ranges that a store writes. -/
theorem Held.permittedAll {s : State} {k : Fin 16} {α : Type} {l : List α} {f g : α → Nat}
    {o : Option (Nat × Nat)} (h : Held p q s) :
    Held p q (l.foldl (fun acc r => match acc.2 with
      | some _ => acc
      | none =>
        let x := Machine.writePermitted k acc.1 (f r) (g r)
        (x.1, x.2.map (fun c => (c, f r)))) (s, o)).1 := by
  refine h.foldl_fst fun s b a h => ?_
  dsimp only
  split
  · exact h
  · exact h.writePermitted

/-! ## What a slot comes to -/

/-- A slot's evaluation keeps a held state held, and so does the effect it answers. -/
def PairHeld (p : Prop) (q : Media → Prop) (r : State × SlotResult) : Prop := Held p q r.1 ∧ SlotHeld p q r.2

/-- An operation of a slot keeps a held state held. -/
def OpHeld (p : Prop) (q : Media → Prop) (op : SlotOp) : Prop := ∀ k d w s, Held p q s → PairHeld p q (op k d w s)

namespace SlotHeld

theorem raise {c a : Nat} : SlotHeld p q (.raise c a) := trivial

theorem stall : SlotHeld p q .stall := trivial

theorem nothing : SlotHeld p q .nothing := fun _ h => h

theorem writeS {k n v bad} : SlotHeld p q (writeS k n v bad) := fun _ h => h.modDeck fun _ => Held.acc_sSet _ _ _ _

theorem writeV {k n v bad} : SlotHeld p q (writeV k n v bad) := fun _ h => h.modDeck fun _ => Held.acc_vSet _ _ _ _

theorem ite {c : Prop} {_ : Decidable c} {r t : SlotResult} (hr : SlotHeld p q r) (ht : SlotHeld p q t) :
    SlotHeld p q (if c then r else t) := by
  split
  · exact hr
  · exact ht

theorem writeP {k n v bad} : SlotHeld p q (writeP k n v bad) :=
  ite raise fun _ h => h.modDeck fun _ => Held.acc_pSet _ _ _ _

theorem writeElems {k d w n vals bads} : SlotHeld p q (writeElems k d w n vals bads) := writeV

theorem goTo {k n} : SlotHeld p q (goTo k n) := fun _ h => h.modDeck fun _ => by rfl

theorem dataOn {d w legal mk} (h : ∀ b, SlotHeld p q (mk b)) : SlotHeld p q (dataOn d w legal mk) :=
  ite (ite (h true) raise) (ite nothing (ite (h false) raise))

theorem ctlOn {d w legal r} (h : SlotHeld p q r) : SlotHeld p q (ctlOn d w legal r) :=
  ite (ite raise raise) (ite nothing (ite h raise))

end SlotHeld

namespace PairHeld

variable {s : State}

theorem raise {c a : Nat} (h : Held p q s) : PairHeld p q (s, .raise c a) := ⟨h, .raise⟩

theorem pureSlot {r} (h : Held p q s) (hr : SlotHeld p q r) : PairHeld p q (pureSlot r s) := ⟨h, hr⟩

theorem stall (h : Held p q s) : PairHeld p q (s, .stall) := ⟨h, .stall⟩

theorem ite {c : Prop} {_ : Decidable c} {r t : State × SlotResult} (hr : PairHeld p q r) (ht : PairHeld p q t) :
    PairHeld p q (if c then r else t) := by
  split
  · exact hr
  · exact ht

theorem memOn {d w legal go} (h : Held p q s) (hgo : PairHeld p q go) : PairHeld p q (memOn d w legal s go) := by
  unfold Machine.memOn
  split
  · exact raise h
  · exact stall h
  · exact ite ⟨h, .nothing⟩ hgo

theorem atAddress {bad a align go} (h : Held p q s) (hgo : PairHeld p q go) :
    PairHeld p q (atAddress bad a align s go) := ite (raise h) (ite (raise h) hgo)

theorem loadThen {k d a n mk} (h : Held p q s) (hmk : ∀ l, SlotHeld p q (mk l)) :
    PairHeld p q (loadThen k d a n mk s) := by
  unfold Machine.loadThen
  dsimp only
  split
  · exact ⟨h.deckRead, hmk _⟩
  · exact raise h.deckRead
  · exact stall h.deckRead

theorem acc_placeStore (span : Option Nat) (bytes : List StoreByte) (sets : List (Nat × Nat)) (kv : Bool) (d : Deck) :
    (placeStore span bytes sets kv d).acc = d.acc := by
  unfold placeStore
  split
  · rfl
  · rfl

theorem storeThen {k d ranges span bytes} (h : Held p q s) : PairHeld p q (storeThen k d ranges span bytes s) := by
  have hr := h.permittedAll (k := k) (l := ranges) (f := Prod.fst) (g := Prod.snd) (o := none)
  unfold Machine.storeThen
  dsimp only
  split
  · exact raise hr
  · exact ite ⟨hr, fun _ h => h.modDeck (acc_placeStore _ _ _ _)⟩ (stall hr)

theorem loadRows {k d w mk} (hmk : ∀ l, SlotHeld p q (mk l)) :
    ∀ (l : List Nat) {s : State} (acc : List Octet), Held p q s → PairHeld p q (loadRows k d w mk l s acc)
  | [], _, _, h => ⟨h, hmk _⟩
  | r :: l, s, acc, h => by
    unfold Machine.loadRows
    dsimp only
    split
    · exact loadRows hmk l _ h.deckRead
    · exact raise h.deckRead
    · exact stall h.deckRead

theorem protection {k a} (h : Held p q s) : PairHeld p q (protection k a s) := raise h.accessError

end PairHeld

/-! ## The effects -/

namespace Held

variable {s : State}

theorem kvRow {d m c w src i acc r} (h : Held p q (KvPut.st acc)) :
    Held p q (kvRow d m c w src i acc r).st := by
  unfold Machine.kvRow
  dsimp only
  split
  · exact h
  · split
    · exact h.resolveRow
    · exact Held.ite h.resolveRow.modTurn.failAttempt h.resolveRow

theorem foldl_kvRow {d m c w src i} (l : List Nat) :
    ∀ {acc : KvPut}, Held p q acc.st → Held p q (l.foldl (Machine.kvRow d m c w src i) acc).st := by
  induction l with
  | nil => exact id
  | cons _ _ ih => exact fun h => ih h.kvRow

theorem kvputAct {k d w m c rows i} (h : Held p q s) : Held p q (kvputAct k d w m c rows i s) :=
  (foldl_kvRow rows (acc := ⟨s, [], []⟩) h).modDeck (PairHeld.acc_placeStore _ _ _ _)

theorem qrowAct {k d w f width src dst stride n} (h : Held p q s) :
    Held p q (qrowAct k d w f width src dst stride n s) := by
  unfold Machine.qrowAct Machine.writeElems Machine.writeV
  exact (h.drainAll.qrowRead.memWrite.modDeck fun _ => acc_vSet _ _ _ _).bumpBy.bumpBy.modDeck fun _ => by rfl

theorem rising_mmaCells {mode bank col close a masked src step} {d : Deck} (h : rising d.acc = true) :
    rising (mmaCells mode bank col close a masked src step d).acc = true := by
  rw [mmaCells_eq]
  exact rising_foldl_update _ h

theorem mmaAct {k d w step} (h : Held p q s) : Held p q (mmaAct k d w step s) := by
  refine Held.ite (Held.residueCheck ?_) ?_
  all_goals
    refine (h.modDeck_of fun d hd => ?_).bumpBy.bumpBy.draw
    have hd' : rising (d.setStream (fB w) ((d.stream (fB w)).map (fun z => { z with buffer := z.buffer.drop 1 }))).acc
        = true := (setStream_acc d _ _).symm ▸ hd
    dsimp only
    split
    · exact rising_mmaCells hd'
    · exact rising_mmaCells hd'

theorem rising_zeroBank {bank : Nat} {d : Deck} (h : rising d.acc = true) : rising (zeroBank bank d).acc = true :=
  rising_filter _ _ h

theorem accstAct {k d w rows} (h : Held p q s) : Held p q (accstAct k d w rows s) := by
  refine (h.drainAll.residueCheck.foldl fun _ _ h => h.memWrite.touchTensor).modDeck_of fun d hd => ?_
  dsimp only
  split
  · exact rising_zeroBank hd
  · exact hd

end Held

/-! ## The operations -/

namespace OpHeld

theorem opNop : OpHeld p q opNop := fun _ _ _ _ h => ⟨h, .ctlOn .nothing⟩

theorem scalarR {f} : OpHeld p q (scalarR f) := fun _ _ _ _ h => .pureSlot h (.dataOn fun _ => .writeS)

theorem scalarI {f} : OpHeld p q (scalarI f) := fun _ _ _ _ h => .pureSlot h (.dataOn fun _ => .writeS)

theorem opBr : OpHeld p q opBr := fun _ _ _ _ h => ⟨h, .ctlOn (.ite .raise (.ite .goTo .nothing))⟩

theorem opJmp : OpHeld p q opJmp := fun _ _ _ _ h => ⟨h, .ctlOn .goTo⟩

theorem opCall : OpHeld p q opCall := fun _ _ _ _ h => ⟨h, .ctlOn fun _ h => h.modDeck fun _ => Held.acc_sSet _ _ _ _⟩

theorem opJr : OpHeld p q opJr := fun _ _ _ _ h => ⟨h, .ctlOn (.ite .raise (.ite .goTo .raise))⟩

theorem opPset : OpHeld p q opPset := fun _ _ _ _ h => .pureSlot h (.dataOn fun _ => .writeP)

theorem predR {f two} : OpHeld p q (predR f two) := fun _ _ _ _ h => .pureSlot h (.dataOn fun _ => .writeP)

theorem opPget : OpHeld p q opPget := fun _ _ _ _ h => .pureSlot h (.dataOn fun _ => .writeS)

theorem opPput : OpHeld p q opPput := fun _ _ _ _ h => .pureSlot h (.dataOn fun _ => .writeP)

theorem opGets : OpHeld p q opGets := fun _ _ _ _ h => .pureSlot h (.dataOn fun _ => .writeS)

theorem opDone : OpHeld p q opDone := fun _ _ _ _ h => ⟨h, .ctlOn fun _ h => (h.modDeck fun _ => by rfl)⟩

theorem opLd : OpHeld p q opLd := fun _ _ _ _ h => .memOn h (.atAddress h (.loadThen h fun _ => .writeS))

theorem opSt : OpHeld p q opSt := fun _ _ _ _ h => .memOn h (.atAddress h (.storeThen h))

theorem opVld : OpHeld p q opVld := fun _ _ _ _ h => .ite (.raise h) (.atAddress h (.loadThen h fun _ => .writeElems))

theorem opVst : OpHeld p q opVst := fun _ _ _ _ h => .ite (.raise h) (.atAddress h (.storeThen h))

theorem opVldr : OpHeld p q opVldr := by
  intro k d w s h
  refine .ite (.raise h) (.ite (.raise h) ?_)
  split
  · exact .raise h
  · exact .loadRows (fun _ => .writeElems) _ _ h

theorem opVstr : OpHeld p q opVstr := by
  intro k d w s h
  refine .ite (.raise h) (.ite (.raise h) ?_)
  split
  · exact .raise h
  · exact .storeThen h

theorem opWsld : OpHeld p q opWsld := fun _ _ _ _ h =>
  .memOn h (.atAddress h (.loadThen h fun _ => .ite (fun _ h => h.loadStream) .raise))

theorem opWsend : OpHeld p q opWsend := fun _ _ _ _ h => .memOn h ⟨h, fun _ h => h.setStream⟩

theorem opRmld : OpHeld p q opRmld := fun _ _ _ _ h =>
  .memOn h (.atAddress h (.loadThen h fun _ => .ite (fun _ h => (h.modDeck fun _ => by rfl)) .raise))

theorem opKvput : OpHeld p q opKvput := by
  intro k d w s h
  refine .ite (.raise h) (.ite (.raise h) ?_)
  split
  · exact .raise h
  · exact .ite (.raise h) (.ite (.stall h) ⟨h, fun _ h => h.kvputAct⟩)

theorem opFence : OpHeld p q opFence := fun _ _ _ _ h => .memOn h ⟨h, .ite .nothing .stall⟩

theorem opSemsig : OpHeld p q opSemsig := fun _ _ _ _ h =>
  .memOn h (.ite (.raise h) (.ite (.protection h) ⟨h, fun _ h => h.modTurn⟩))

theorem opSemwait : OpHeld p q opSemwait := fun _ _ _ _ h =>
  .memOn h (.ite (.raise h) (.ite (.protection h) ⟨h, .ite .nothing .stall⟩))

theorem vector2 {types f} : OpHeld p q (vector2 types f) := fun _ _ _ _ h => ⟨h, .ite .writeElems .raise⟩

theorem vector1 {types f} : OpHeld p q (vector1 types f) := fun _ _ _ _ h => ⟨h, .ite .writeElems .raise⟩

theorem vcompare {fi ff} : OpHeld p q (vcompare fi ff) := fun _ _ _ _ h => ⟨h, .ite .writeP .raise⟩

theorem opVfma : OpHeld p q opVfma := fun _ _ _ _ h => ⟨h, .ite .writeElems .raise⟩

theorem opVcvt : OpHeld p q opVcvt := fun _ _ _ _ h =>
  ⟨h, .ite (fun _ h => (h.modDeck fun _ => Held.acc_vSet _ _ _ _).bumpBy) .raise⟩

theorem opVsel : OpHeld p q opVsel := fun _ _ _ _ h => ⟨h, .ite .writeElems .raise⟩

theorem opVbcast : OpHeld p q opVbcast := fun _ _ _ _ h => ⟨h, .ite .writeElems .raise⟩

theorem opVextr : OpHeld p q opVextr := fun _ _ _ _ h => .pureSlot h (.dataOn fun _ => .writeS)

theorem opVperm : OpHeld p q opVperm := fun _ _ _ _ h => ⟨h, .ite .writeElems .raise⟩

theorem opVred : OpHeld p q opVred := fun _ _ _ _ h => ⟨h, .ite .writeV .raise⟩

theorem opQrow : OpHeld p q opQrow := fun _ _ _ _ h =>
  .ite (.raise h) <| .ite (.raise h) <| .ite (.raise h) <| .ite (.raise h) <| .ite (.raise h) <| .ite (.raise h) <|
    .ite (.protection h) <| .ite (.protection h) <| .ite (.raise h) <| .ite (.stall h) ⟨h, fun _ h => h.qrowAct⟩

theorem opMma : OpHeld p q opMma := by
  intro k d w s h
  refine .memOn h ?_
  split
  · exact .raise h
  · refine .ite (.raise h) (.ite (.raise h) ?_)
    split
    · exact .ite (.raise h) (.stall h)
    · split
      · exact .raise h
      · exact .ite (.raise h) ⟨h, fun _ h => h.mmaAct⟩

theorem opAccz : OpHeld p q opAccz := fun _ _ _ _ h =>
  .memOn h ⟨h, fun _ h => h.residueCheck.modDeck_of fun _ => Held.rising_zeroBank⟩

theorem opAccst : OpHeld p q opAccst := by
  intro k d w s h
  refine .memOn h (.ite (.raise h) (.ite (.raise h) ?_))
  dsimp only
  split
  · exact .raise h.permittedAll
  · exact .ite (.stall h.permittedAll) ⟨h.permittedAll, fun _ h => h.accstAct⟩

end OpHeld

theorem opHeld_of_mem_slotTable : ∀ (slot : Slot), ∀ x ∈ slotTable slot, OpHeld p q x.2 := by
  intro slot
  cases slot with
  | c =>
    simp only [slotTable, cTable, List.forall_mem_cons, List.not_mem_nil, false_implies, implies_true, and_true]
    exact ⟨.opNop, .scalarR, .scalarR, .scalarR, .scalarR, .scalarR, .scalarR, .scalarR, .scalarR, .scalarR, .scalarR,
      .scalarR, .scalarR, .scalarR, .scalarI, .scalarI, .scalarI, .scalarI, .opBr, .opJmp, .opCall, .opJr, .opPset,
      .predR, .predR, .predR, .opPget, .opPput, .opGets, .opDone⟩
  | m =>
    simp only [slotTable, mTable, List.forall_mem_cons, List.not_mem_nil, false_implies, implies_true, and_true]
    exact ⟨.opNop, .opLd, .opSt, .opVld, .opVst, .opVldr, .opVstr, .opWsld, .opWsend, .opRmld, .opKvput, .opFence,
      .opSemsig, .opSemwait⟩
  | v =>
    simp only [slotTable, vTable, List.forall_mem_cons, List.not_mem_nil, false_implies, implies_true, and_true]
    exact ⟨.opNop, .vector2, .vector2, .vector2, .vector2, .vector2, .vector2, .vector2, .vector2, .opVfma, .vector1,
      .vector1, .opVcvt, .vcompare, .vcompare, .opVsel, .opVbcast, .opVextr, .opVperm, .vector1, .vector1, .vector1,
      .opVred, .opQrow⟩
  | x =>
    simp only [slotTable, xTable, List.forall_mem_cons, List.not_mem_nil, false_implies, implies_true, and_true]
    exact ⟨.opNop, .opMma, .opAccz, .opAccst⟩

theorem opHeld_of_opOf {slot : Slot} {code : Nat} {op : SlotOp} (h : opOf slot code = some op) : OpHeld p q op := by
  obtain ⟨x, hx, rfl⟩ := Option.map_eq_some_iff.1 h
  exact opHeld_of_mem_slotTable slot x (List.mem_of_find?_eq_some hx)

/-! ## The bundle that issues -/

/-- Every effect of a list keeps a held state held. -/
def ActsHeld (p : Prop) (q : Media → Prop) (acts : List (State → State)) : Prop :=
  ∀ act ∈ acts, ∀ s, Held p q s → Held p q (act s)

theorem ActsHeld.actOrder {acts : List (State → State)} (h : ActsHeld p q acts) : ActsHeld p q (actOrder acts) := by
  cases acts with
  | nil => exact h
  | cons a l =>
    intro act ha
    rcases List.mem_append.1 ha with hl | hl
    · exact h act (List.mem_cons_of_mem _ hl)
    · exact h act (List.mem_singleton.1 hl ▸ List.mem_cons_self)

theorem ActsHeld.foldl {acts : List (State → State)} (h : ActsHeld p q acts) :
    ∀ {s : State}, Held p q s → Held p q (acts.foldl (fun s f => f s) s) := by
  induction acts with
  | nil => exact id
  | cons a l ih => exact fun hs => ih (fun act ha => h act (List.mem_cons_of_mem _ ha)) (h a List.mem_cons_self _ hs)

/-- What the slots of a bundle come to. -/
theorem Held.evalSlots {k d b} : ∀ {s : State}, Held p q s → ∀ l : List Slot,
    Held p q (evalSlots k d b l s).1 ∧ ∀ ws acts, (evalSlots k d b l s).2 = .ok ws acts → ActsHeld p q acts
  | s, h, [] => ⟨h, fun _ _ e => by cases e; exact nofun⟩
  | s, h, slot :: l => by
    unfold Machine.evalSlots
    dsimp only
    split
    · exact ⟨h, nofun⟩
    · rename_i op hop
      obtain ⟨h1, h2⟩ := opHeld_of_opOf hop k d (slotWord b slot) s h
      split
      · exact ⟨h1, nofun⟩
      · exact ⟨h1, nofun⟩
      · rename_i ws act hact
        rw [hact] at h2
        obtain ⟨h3, h4⟩ := evalSlots h1 l
        split
        · rename_i ws' acts hacts
          split
          · exact ⟨h3, nofun⟩
          · refine ⟨h3, fun _ _ e => ?_⟩
            cases e
            intro a ha
            rcases List.mem_cons.1 ha with rfl | ha
            · exact h2
            · exact h4 _ _ hacts a ha
        · next hno => exact ⟨h3, fun _ _ e => absurd e (hno _ _)⟩

theorem Held.issue {k s} (h : Held p q s) : Held p q (issue k s) := by
  unfold Machine.issue
  dsimp only
  split
  · exact h.raiseDeck
  · split
    · exact h.modDeck fun _ => by rfl
    · have hs := fun b d => (h.parityCheck (k := k) (b := (s.decks.get k).bundle)).evalSlots (k := k) (d := d) (b := b)
        [.c, .m, .v, .x]
      split
      · exact (hs _ _).1.modDeck fun _ => by rfl
      · exact (hs _ _).1.raiseDeck
      · next hacts => exact ((hs _ _).2 _ _ hacts).actOrder.foldl ((hs _ _).1.modDeck fun _ => by rfl).bumpBy

theorem Held.retryDeck {k s} (h : Held p q s) : Held p q (retryDeck s k) := Held.ite h.issue h

theorem Held.retryStalled {s} (h : Held p q s) : Held p q (retryStalled s) := h.foldl fun _ _ h => h.retryDeck

end Sys2Proof.Machine
end

section
/-! SUPPORT and PROOFS. What every step keeps: margins, sleep, custody, links, tiers, pages and decks. -/

namespace Sys2Proof.Machine.Held

open Sys2Proof.Claims

variable {p : Prop} {q : Media → Prop} {s t : State}

/-! ## Shared operations -/

theorem setChan {ch c} (h : Held p q s) : Held p q (State.setChan s ch c) := h

theorem setSel {ch idx sub v} (h : Held p q s) : Held p q (State.setSel s ch idx sub v) := h.setChan

theorem msix {v} (h : Held p q s) : Held p q (State.msix s v) := Held.ite h h.emit

theorem ibi {b} (h : Held p q s) : Held p q (State.ibi s b) := Held.ite h.emit h

theorem advanceCounter {n k} (h : Held p q s) : Held p q (State.advanceCounter s n k) := h

theorem keepTable (h : Held p q s) : Held p q (State.keepTable s) := h

theorem ownOperations (h : Held p q s) : Held p q (State.ownOperations s) :=
  Held.ite (Held.ite ((h.frame (by rfl)).foldl fun _ _ h => h.advanceCounter).keepTable
    ((h.frame (by rfl)).foldl fun _ _ h => h.advanceCounter)) h

theorem serveWrite {ch idx sub val apply} (h : Held p q s) (hf : ∀ s, Held p q s → AppliedHeld p q (apply s)) :
    AppliedHeld p q (serveWrite ch idx sub val apply s) := by
  unfold Machine.serveWrite
  split
  · exact h
  · split
    · exact h
    · exact hf _ h

theorem countServed {status} (h : Held p q s) : Held p q (State.countServed s status) := Held.ite h.bump h.bump.bump

theorem answerWrite {ch idx sub} : ∀ {a : Applied}, AppliedHeld p q a → Held p q (answerWrite ch idx sub a)
  | .done _ _, h => Held.emit (Held.countServed h)
  | .later _, h => Held.setChan (Held.bump h)

theorem objectWrite {ch idx sub val apply} (h : Held p q s) (hf : ∀ s, Held p q s → AppliedHeld p q (apply s)) :
    NextHeld p q (objectWrite ch idx sub val apply s) := by
  unfold Machine.objectWrite
  split
  · exact (Held.answerWrite (h.serveWrite hf)).next
  · exact h.next

theorem command {val sig act} (h : Held p q s) (hf : ∀ s, Held p q s → AppliedHeld p q (act s)) :
    AppliedHeld p q (command val sig act s) := by
  unfold Machine.command
  split
  · exact hf _ h
  · exact h

theorem refuse {code} (h : Held p q s) : AppliedHeld p q (refuse code s) := h

theorem accept (h : Held p q s) : AppliedHeld p q (accept s) := h

theorem guarded {checks act} (h : Held p q s) (hf : ∀ s, Held p q s → AppliedHeld p q (act s)) :
    AppliedHeld p q (guarded checks act s) := by
  unfold Machine.guarded
  split
  · exact h
  · exact hf _ h

/-! ## Margins and the supplies of the decks -/

theorem keepMargin {d m} (h : Held p q s) : Held p q (State.keepMargin s d m) := h.setMargin.keepTable

theorem powerDeck {k} (h : Held p q s) : Held p q (powerDeck s k) := h.setMargin.setDeck (by rfl)

theorem powerDecks (h : Held p q s) : Held p q (powerDecks s) := h.foldl fun _ _ h => h.powerDeck

theorem reloadDividers (h : Held p q s) : Held p q (reloadDividers s) := h.foldl fun _ _ h => h.setDeck (by rfl)

theorem unpowerDecks (h : Held p q s) : Held p q (unpowerDecks s) := h.mapDecks fun _ _ => rfl

theorem clearDeckStores (h : Held p q s) : Held p q (clearDeckStores s) := h.setMem (Mem.clear_wf _ _ _)

theorem retireRecord {d} (h : Held p q s) : Held p q (retireRecord s d) := h.error

theorem retire {d} (h : Held p q s) : Held p q (retire s d) := h.keepMargin.retireRecord

theorem flagRecord {d bit} (h : Held p q s) : Held p q (flagRecord s d bit) := by
  unfold Machine.flagRecord
  dsimp only
  split
  · exact h
  · exact h.setIntegrity

theorem stepDeck {d} (h : Held p q s) : Held p q (stepDeck s d) :=
  Held.ite h (Held.ite h.keepMargin.flagRecord (Held.ite h.keepMargin.flagRecord h.retire))

theorem applyMargin {p'} (h : Held p q s) : Held p q (applyMargin s p') := by
  unfold Machine.applyMargin
  dsimp only
  split
  · exact h.keepMargin
  · exact Held.ite h h.retire
  · exact Held.ite h.keepMargin h

theorem queueMargin {ch c} (h : Held p q s) : AppliedHeld p q (queueMargin ch c s) := h.setIntegrity.accept

theorem applyClearSteps {ch} (h : Held p q s) : AppliedHeld p q (applyClearSteps ch s) :=
  h.guarded (fun _ h => h.queueMargin)

theorem applyRetire {ch} (h : Held p q s) : AppliedHeld p q (applyRetire ch s) := h.guarded (fun _ h => h.queueMargin)

theorem applyRestore {ch} (h : Held p q s) : AppliedHeld p q (applyRestore ch s) := h.guarded (fun _ h => h.queueMargin)

theorem applyMarginCommand {ch val} (h : Held p q s) : AppliedHeld p q (applyMarginCommand ch val s) := by
  unfold Machine.applyMarginCommand
  split
  · exact h.applyClearSteps
  · exact h.applyRetire
  · exact h.applyRestore
  · exact h.refuse

theorem applyInject {val} (h : Held p q s) : AppliedHeld p q (applyInject val s) :=
  h.guarded (fun _ h => h.setIntegrity.accept)

/-! ## Accesses to the address space -/

theorem closeAllBlocks (h : Held p q s) : Held p q (closeAllBlocks s) := h.foldl fun _ _ h => h.closeBlock

theorem poke {a bs} (h : Held p q s) : Held p q (poke s a bs) := h.memWrite

theorem dropBuffers (h : Held p q s) : Held p q (dropBuffers s) := h.setTiers

theorem dropSector {sector} (h : Held p q s) : Held p q (dropSector s sector) := h.setTiers

theorem execScrubRead {addr} (h : Held p q s) : NextHeld p q (execScrubRead addr s) := by
  unfold Machine.execScrubRead
  split
  · split
    · exact (h.setMem fun hm => Mem.setMark_wf _ _ _ hm).bumpBy.error.next
    · exact h.bumpBy.error.next
    · exact h.next
  · exact h.next

/-! ## Wakes and sleep -/

theorem setPower {p'} (h : Held p q s) : Held p q (State.setPower s p') := h

theorem ferryRetrain (h : Held p q s) : Held p q (ferryRetrain s) := h.setFerry

theorem latchWake {bits} (h : Held p q s) : Held p q (latchWake s bits) := h.setPower

theorem recordWake {bits} (h : Held p q s) : Held p q (recordWake s bits) := h.setVal

theorem raiseRails (h : Held p q s) : Held p q (raiseRails s) := h.setPower.emit

theorem abortEntry (h : Held p q s) : Held p q (abortEntry s) := h.setPower.powerDecks

theorem actWake {bits} (h : Held p q s) : Held p q (actWake s bits) := by
  unfold Machine.actWake
  split
  · exact h.recordWake.abortEntry
  · exact h.recordWake.abortEntry.ferryRetrain
  · exact h
  · split
    · exact h
    · split
      · exact h.setPower.recordWake
      · exact h.setPower.recordWake.raiseRails
      · exact h

theorem wake {bits} (h : Held p q s) : Held p q (wake bits s) := Held.ite (Held.ite h.latchWake h.latchWake.actWake) h

theorem execSwPgoodTimeout (h : Held p q s) : NextHeld p q (execSwPgoodTimeout s) := by
  unfold Machine.execSwPgoodTimeout
  split
  · exact h.setPower.emit.event.next
  · exact h.next

theorem execRailRetry (h : Held p q s) : NextHeld p q (execRailRetry s) := by
  unfold Machine.execRailRetry
  split
  · split
    · exact h.next
    · exact h.raiseRails.next
  · exact h.next

theorem execLinkL12Entry (h : Held p q s) : NextHeld p q (execLinkL12Entry s) := by
  unfold Machine.execLinkL12Entry
  split
  · split
    · exact h.setPower.draw.next
    · exact h.next
  · split
    · exact h.setPower.next
    · exact h.next

theorem linkActive (h : Held p q s) : Held p q (linkActive s) := by
  unfold Machine.linkActive
  split
  · exact h.setPower
  · exact h

theorem execPcieLinkUp (h : Held p q s) : NextHeld p q (execPcieLinkUp s) := by
  unfold Machine.execPcieLinkUp
  split
  · exact h.next
  · exact (Held.ite h.setPower.emit h.setPower).next

theorem execWatchFllLock (h : Held p q s) : NextHeld p q (execWatchFllLock s) := by
  unfold Machine.execWatchFllLock
  split
  · exact h.next
  · exact h.setPower.next

theorem execDynamicAddressAssignment {addr} (h : Held p q s) : NextHeld p q (execDynamicAddressAssignment addr s) := by
  unfold Machine.execDynamicAddressAssignment
  split
  · exact h.next
  · exact h.setVal.next

theorem execReadyTimeout (h : Held p q s) : NextHeld p q (execReadyTimeout s) := by
  unfold Machine.execReadyTimeout
  split
  · split
    · exact h.next
    · exact h.setPower.next
  · exact h.next

theorem execDozeTimeout (h : Held p q s) : NextHeld p q (execDozeTimeout s) := by
  unfold Machine.execDozeTimeout
  split
  · split
    · exact h.setPower.next
    · exact h.next
  · exact h.next

theorem execWatchTimeout (h : Held p q s) : NextHeld p q (execWatchTimeout s) := by
  unfold Machine.execWatchTimeout
  split
  · split
    · exact h.setPower.next
    · exact h.next
  · exact h.next

theorem replaceCommand {c} (h : Held p q s) : Held p q (replaceCommand c s) := by
  unfold Machine.replaceCommand
  split
  · exact h
  · exact h.frame (by rfl)
  · exact h.setPower

theorem applyDozeNow (h : Held p q s) : AppliedHeld p q (applyDozeNow s) :=
  h.guarded (fun _ h => h.replaceCommand.accept)

theorem applyWatchNow (h : Held p q s) : AppliedHeld p q (applyWatchNow s) :=
  h.guarded (fun _ h => h.replaceCommand.accept)

theorem applyOffPrepare (h : Held p q s) : AppliedHeld p q (applyOffPrepare s) := by
  unfold Machine.applyOffPrepare
  refine h.guarded fun s1 h1 => ?_
  refine Held.accept ?_
  split
  · exact h1
  · exact h1.frame (by rfl)

theorem applyStateCommand {val} (h : Held p q s) : AppliedHeld p q (applyStateCommand val s) := by
  unfold Machine.applyStateCommand
  split
  · exact h.applyDozeNow
  · exact h.applyWatchNow
  · exact h.applyOffPrepare
  · split
    · exact h.refuse
    · exact h.refuse

theorem execDozeNow {ch val} (h : Held p q s) : NextHeld p q (execDozeNow ch val s) := by
  unfold Machine.execDozeNow
  refine h.objectWrite fun s1 h1 => ?_
  split
  · exact h1.applyDozeNow
  · exact h1.refuse

theorem execWatchNow {ch val} (h : Held p q s) : NextHeld p q (execWatchNow ch val s) := by
  unfold Machine.execWatchNow
  refine h.objectWrite fun s1 h1 => ?_
  split
  · exact h1.applyWatchNow
  · exact h1.refuse

theorem execOffPrepare {ch val} (h : Held p q s) : NextHeld p q (execOffPrepare ch val s) := by
  unfold Machine.execOffPrepare
  refine h.objectWrite fun s1 h1 => ?_
  split
  · exact h1.applyOffPrepare
  · exact h1.refuse

theorem emergencyEntry (h : Held p q s) : Held p q (emergencyEntry s) := Held.ite h h.setPower.reloadDividers.ibi

theorem tripEntry (h : Held p q s) : Held p q (tripEntry s) := Held.ite h h.setPower.emit

theorem fullSample {readings avg1s avg10ms} (h : Held p q s) : Held p q (fullSample readings avg1s avg10ms s) :=
  Held.ite h.setPower.emergencyEntry h.setPower

theorem execThermalSample {readings avg1s avg10ms} (h : Held p q s) :
    NextHeld p q (execThermalSample readings avg1s avg10ms s) := by
  unfold Machine.execThermalSample
  dsimp only
  split
  · exact h.next
  · exact h.next
  · exact (Held.ite h.setPower.tripEntry h.setPower).next
  · exact (Held.ite h.setPower.tripEntry h.setPower).next
  · exact (Held.ite h.fullSample.tripEntry h.fullSample).next

theorem throttleStep (h : Held p q s) : Held p q (throttleStep s) := h.setPower.bumpBy

theorem emergencyExit (h : Held p q s) : Held p q (emergencyExit s) := Held.ite h.setPower.reloadDividers h

theorem setPoint {p'} (h : Held p q s) : Held p q (setPoint s p') := h.setPower.powerDecks

theorem pointAtBarrier (h : Held p q s) : Held p q (pointAtBarrier s) := Held.ite h (Held.ite h.setPower h.setPoint)

theorem execPointChangeDone (h : Held p q s) : NextHeld p q (execPointChangeDone s) := by
  unfold Machine.execPointChangeDone
  split
  · exact h.setPoint.next
  · exact h.next

/-! ## Reset commands, lifecycle, journal and counters -/

theorem setCustody {c} (h : Held p q s) : Held p q (State.setCustody s c) := h

theorem applyReset {c val sig} (h : Held p q s) : AppliedHeld p q (applyReset c val sig s) :=
  h.guarded (fun _ h => h.setCustody.accept)

theorem applyResetCommand {val} (h : Held p q s) : AppliedHeld p q (applyResetCommand val s) := by
  unfold Machine.applyResetCommand
  split
  · exact h.applyReset
  · exact h.applyReset
  · exact h.applyReset

theorem applyCommit {val} (h : Held p q s) : AppliedHeld p q (applyCommit val s) :=
  h.guarded (fun _ h => h.advanceCounter.advanceCounter.event.accept)

theorem applyTransition {t' val} (h : Held p q s) : AppliedHeld p q (applyTransition t' val s) :=
  h.guarded (fun _ h => (h.frame (by rfl)).accept)

theorem applyTransitionCommand {val} (h : Held p q s) : AppliedHeld p q (applyTransitionCommand val s) := by
  unfold Machine.applyTransitionCommand
  split
  · exact h.applyTransition
  · exact h.applyTransition
  · exact h.applyTransition
  · exact h.applyTransition
  · exact h.applyTransition
  · exact h.applyTransition

theorem applyAuthorisation {val} (h : Held p q s) : AppliedHeld p q (applyAuthorisation val s) :=
  h.guarded (fun _ h => h.setCustody.accept)

theorem applyTamperHarbour {val} (h : Held p q s) : AppliedHeld p q (applyTamperHarbour val s) :=
  h.guarded (fun _ h => h.setCustody.keepTable.accept)

theorem wipeSecure (h : Held p q s) : Held p q (wipeSecure s) := h.setMem (Mem.clear_wf _ _ _)

theorem journalErase (h : Held p q s) : Held p q (journalErase s) := Held.ite (h.frame (by rfl)) h

theorem scanJournal (h : Held p q s) : Held p q (scanJournal s) := h.setJournal

theorem writeRecord (h : Held p q s) : Held p q (writeRecord s) := Held.ite h.setJournal.journalErase h.journalErase

theorem execJournalRecordWritten (h : Held p q s) : NextHeld p q (execJournalRecordWritten s) := by
  unfold Machine.execJournalRecordWritten
  split
  · exact h.next
  · exact h.writeRecord.next

theorem flushJournal {n} (h : Held p q s) : Held p q (flushJournal n s) := by
  induction n generalizing s with
  | zero => exact h
  | succ n ih => exact Held.ite h (ih h.writeRecord)

theorem startRecord (h : Held p q s) : Held p q (startRecord s) := h.pushEvent

theorem applyStore {ch val} (h : Held p q s) : AppliedHeld p q (applyStore ch val s) :=
  h.guarded (fun _ h => h.setCustody)

theorem applyRestoreDefaults {val} (h : Held p q s) : AppliedHeld p q (applyRestoreDefaults val s) :=
  h.guarded (fun _ h => h.setCustody.setVal.accept)

theorem finishStore {c programmed} (h : Held p q s) : Held p q (finishStore s c programmed) :=
  Held.ite (h.frame (by rfl)).setCustody.setVal h.setCustody.setVal

theorem loadParameters (h : Held p q s) : Held p q (loadParameters s) := h

theorem applyHostRange {val} (h : Held p q s) : AppliedHeld p q (applyHostRange val s) := by
  unfold Machine.applyHostRange
  dsimp only
  refine h.guarded fun s1 h1 => ?_
  split
  · exact h1.setVal.accept
  · exact h1.setVal

/-! ## The links of the ferry -/

theorem sendFlowless {node kind payload} (h : Held p q s) : Held p q (sendFlowless s node kind payload) := by
  unfold Machine.sendFlowless
  split
  · exact h
  · exact h.enqueue

theorem sendNeighbour {port kind context payload} (h : Held p q s) :
    Held p q (sendNeighbour s port kind context payload) :=
  h.enqueue

theorem feedBroadcast {n} (h : Held p q s) : Held p q (feedBroadcast n s) := by
  induction n generalizing s with
  | zero => exact h
  | succ n ih =>
    unfold Machine.feedBroadcast
    split
    · exact h
    · exact Held.ite h (ih h.setFerry.queueTo)

theorem feedBranches (h : Held p q s) : Held p q (feedBranches s) := h.feedBroadcast

theorem sendBroadcast {kind cls flags context payload} (h : Held p q s) :
    Held p q (sendBroadcast s kind cls flags context payload) :=
  h.setFerry.feedBranches

theorem takeAck {n p'} (h : Held p q s) : Held p q (takeAck s n p') := h.setPort.pump.feedBranches

theorem nakOnce {n} (h : Held p q s) : Held p q (nakOnce s n) := Held.ite h h.setPort.sendBare

theorem cutThrough {n p'} (h : Held p q s) : Held p q (cutThrough s n p') :=
  Held.ite (h.foldl fun _ _ h => Held.ite h.setPort.emit h) h

theorem receive {n p'} (h : Held p q s) : Held p q (receive s n p').1 := by
  have h1 := h.takeAck (n := n) (p' := p')
  unfold Machine.receive
  refine .fst_ite h.fst_mk (.fst_ite h.bumpBy.cutThrough.nakOnce.fst_mk (.fst_ite h1.fst_mk ?_))
  dsimp only
  exact .fst_ite h1.setPort.fst_mk (.fst_ite h1.setPort.fst_mk h1.nakOnce.fst_mk)

theorem passOn {n p'} (h : Held p q s) : Held p q (passOn s n p') :=
  Held.ite (h.foldl fun _ _ h => h.sendBareTo) (Held.ite h.releaseBuffer h.queueTo)

theorem ackFlow {p'} (h : Held p q s) : Held p q (ackFlow s p') := by
  unfold Machine.ackFlow
  split
  · split
    · exact h.sendBareTo
    · exact h
  · exact h

theorem noteGap {key} (h : Held p q s) : Held p q (noteGap s key) := Held.ite h.setFerry.sendFlowless h.setFerry

theorem flowCheck {p'} (h : Held p q s) : Held p q (flowCheck s p').1 := by
  unfold Machine.flowCheck
  dsimp only
  split
  · exact h
  · split
    · exact h.setFerry.ackFlow
    · split
      · exact h
      · exact h.noteGap

theorem arrive {n p'} (h : Held p q s) : Held p q (arrive s n p').1 := by
  unfold Machine.arrive
  dsimp only
  split
  · exact h.receive.returnAck
  · dsimp only
    refine Held.returnAck ?_
    split
    · exact Held.ite h.receive h.receive.passOn
    · split
      · exact Held.ite h.receive h.receive.passOn
      · exact (Held.ite h.receive h.receive.passOn).flowCheck

theorem dropSent {node seq} (h : Held p q s) : Held p q (dropSent s node seq) := h.setFerry

theorem takeIdle {p'} (h : Held p q s) : Held p q (takeIdle p' s) := Held.ite h h.dropSent

theorem resend {n} (h : Held p q s) : Held p q (resend s n) := Held.ite h (h.setPort.bumpBy.foldl fun _ _ h => h.emit)

theorem sendSlow {n f} (h : Held p q s) : Held p q (sendSlow s n f) := Held.ite h h.emit

theorem slowArrive {n f} (h : Held p q s) : Held p q (slowArrive s n f).1 := by
  unfold Machine.slowArrive
  split
  · exact h
  · dsimp only
    split
    · exact h.setPort
    · split
      · exact h.setPort.sendSlow
      · exact h.setPort

theorem sendDict {node frame} (h : Held p q s) : Held p q (sendDict s node frame) := by
  unfold Machine.sendDict
  split
  · exact h
  · exact (Held.ite h.sendSlow h.sendTo).draw

theorem answerDict {node slow frame} (h : Held p q s) : Held p q (answerDict s node slow frame) := by
  unfold Machine.answerDict
  split
  · exact h
  · exact Held.ite h.sendSlow h.sendTo

theorem memberWrite {node idx sub domain val} (h : Held p q s) : Held p q (memberWrite s node idx sub domain val) :=
  Held.ite (h.foldl fun _ _ h => h.sendDict) h.sendDict

theorem copyToMembers {idx sub val} (h : Held p q s) : Held p q (copyToMembers idx sub val s) :=
  Held.ite (h.foldl fun _ _ h => h.memberWrite) h

theorem keepaliveOne {n} (h : Held p q s) : Held p q (keepaliveOne s n) := Held.ite h.setPort.emit h

theorem toSlow {n} (h : Held p q s) : Held p q (toSlow s n) := h.setPort

theorem ferryToSlow (h : Held p q s) : Held p q (ferryToSlow s) :=
  h.foldl fun _ _ h => Held.ite h.sendNeighbour.toSlow h

theorem takeDownshift {n} (h : Held p q s) : Held p q (takeDownshift n s) := h.toSlow.askFullRate

/-! ## Channels -/

theorem postResponse {ch resp} (h : Held p q s) : Held p q (postResponse ch resp s) := by
  unfold Machine.postResponse
  dsimp only
  split
  · exact h.setChan.emit.answerDict
  · exact h.setChan.emit.setChan.ibi
  · exact Held.ite h.setChan.emit.setChan.msix h.setChan.emit.setChan

theorem respond {ch f resp} (h : Held p q s) : Held p q (respond ch f resp s) := h.setChan.postResponse

theorem lateAnswer {ch idx sub code} (h : Held p q s) : Held p q (lateAnswer ch idx sub code s) := by
  unfold Machine.lateAnswer
  dsimp only
  split
  · exact (Held.ite h h.bump).respond
  · exact Held.ite (Held.ite h h.bump).setChan.emit h

theorem dropForward {f} (h : Held p q s) : Held p q (dropForward f s) := h.setFerry

theorem execForwardTimeout {origin} (h : Held p q s) : NextHeld p q (execForwardTimeout origin s) := by
  unfold Machine.execForwardTimeout
  split
  · exact h.next
  · dsimp only
    split
    · exact h.dropForward.next
    · exact h.dropForward.countServed.respond.next

/-! ## Tensors and tiers -/

theorem applyRegionBase {m e val} (h : Held p q s) : AppliedHeld p q (applyRegionBase m e val s) := by
  unfold Machine.applyRegionBase
  exact Held.guarded h fun _ h => h.setTiers.accept

theorem applyRegionLimit {m e val} (h : Held p q s) : AppliedHeld p q (applyRegionLimit m e val s) :=
  h.guarded (fun _ h => h.setTiers.setVal.setVal.accept)

theorem applyWindowUpdate {val} (h : Held p q s) : AppliedHeld p q (applyWindowUpdate val s) :=
  h.guarded (fun _ h => h.setTiers.accept)

theorem execHostReadTimeout {m addr} (h : Held p q s) : NextHeld p q (execHostReadTimeout m addr s) := by
  unfold Machine.execHostReadTimeout
  split
  · exact h.sourceError.emit.next
  · exact h.next

theorem setTensor {h' f} (h : Held p q s) : Held p q (setTensor s h' f) := h.setTiers

theorem takePlace {tier a size} (h : Held p q s) : Held p q (takePlace s tier a size) := h.setTiers

theorem freeLater {tier a size} (h : Held p q s) : Held p q (freeLater s tier a size) := h.setTiers

theorem sealRange {i a n} (h : Held p q s) : Held p q (sealRange s i a n) := h.dropRange.setTiers

theorem releaseSealed {i} (h : Held p q s) : Held p q (releaseSealed s i) := by
  unfold Machine.releaseSealed
  split
  · exact h
  · exact h.zeroRange.setTiers

theorem freePlace {p'} (h : Held p q s) : Held p q (freePlace s p') := by
  unfold Machine.freePlace
  dsimp only
  split
  · exact Held.ite h.setTiers.releaseSealed h.setTiers
  · exact h.setTiers

theorem queueMoves {l} (h : Held p q s) : Held p q (queueMoves s l) := h.setTiers

theorem makeRoom {tier owner need cls} (h : Held p q s) : Held p q (makeRoom s tier owner need cls) := h.queueMoves

theorem pinPlace {t'} (h : Held p q s) : Held p q (pinPlace s t') := by
  unfold Machine.pinPlace
  split
  · exact h
  · exact h.makeRoom.queueMoves

theorem askHint {barrier h'} (h : Held p q s) : Held p q (askHint barrier s h') := by
  unfold Machine.askHint
  split
  · exact h
  · exact h.queueMoves

theorem addTensor {t'} (h : Held p q s) : Held p q (addTensor s t') := Held.ite h.setTiers.pinPlace h.setTiers.askHint

theorem applyCreate {ch val} (h : Held p q s) : AppliedHeld p q (applyCreate ch val s) := by
  unfold Machine.applyCreate
  dsimp only
  refine h.guarded fun s1 h1 => ?_
  split
  · exact h1.zeroRange.takePlace.addTensor.accept
  · exact h1.addTensor.accept

theorem freeTensor {t'} (h : Held p q s) : Held p q (freeTensor s t') := by
  unfold Machine.freeTensor
  dsimp only
  split
  · refine Held.freeLater ?_
    split
    · exact (Held.ite h.freeLater h).freeLater
    · exact Held.ite h.freeLater h
  · split
    · exact (Held.ite h.freeLater h).freeLater
    · exact Held.ite h.freeLater h

theorem applyDestroy {ch val} (h : Held p q s) : AppliedHeld p q (applyDestroy ch val s) :=
  h.guarded (fun _ h => h.freeTensor.setTiers.accept)

theorem applySetHint {ch val} (h : Held p q s) : AppliedHeld p q (applySetHint ch val s) := by
  unfold Machine.applySetHint
  dsimp only
  refine h.guarded fun s1 h1 => ?_
  split
  · split
    · exact h1.accept
    · exact h1.pinPlace.setTensor.accept
  · exact h1.setTensor.askHint.accept

theorem applyPin {ch val} (h : Held p q s) : AppliedHeld p q (applyPin ch val s) :=
  h.guarded (fun _ h => h.setTensor.accept)

theorem applyUnpin {ch val} (h : Held p q s) : AppliedHeld p q (applyUnpin ch val s) :=
  h.guarded (fun _ h => h.setTensor.accept)

theorem applyTensorCommand {ch val} (h : Held p q s) : AppliedHeld p q (applyTensorCommand ch val s) := by
  unfold Machine.applyTensorCommand
  split
  · split
    · exact h.applyCreate
    · exact h.applyDestroy
    · exact h.applySetHint
    · exact h.applyPin
    · exact h.applyUnpin
    · exact h.refuse
  · exact h.refuse

theorem shrinkToQuota {tier owner} (h : Held p q s) : Held p q (shrinkToQuota s tier owner) := h.queueMoves

theorem applyTierQuota {idx sub val} (h : Held p q s) : AppliedHeld p q (applyTierQuota idx sub val s) :=
  h.guarded (fun _ h => h.setVal.shrinkToQuota.accept)

theorem startMove {asked m} (h : Held p q s) : Held p q (startMove s asked m) := by
  unfold Machine.startMove
  dsimp only
  split
  · exact h.setTiers
  · split
    · exact h.setTiers
    · exact Held.ite h.setTiers.takePlace.setTensor.sealRange h.setTiers.takePlace.setTensor
    · exact h.setTiers.takePlace.setTensor
    · exact h.setTiers.takePlace.setTensor

theorem execTierMoveStart (h : Held p q s) : NextHeld p q (execTierMoveStart s) := by
  unfold Machine.execTierMoveStart
  split
  · exact h.next
  · dsimp only
    split
    · exact h.setTiers.startMove.next
    · exact h.setTiers.next

theorem moveBytes {t' src dst} (h : Held p q s) : Held p q (moveBytes s t' src dst).1 := by
  unfold Machine.moveBytes
  dsimp only
  split
  · exact h
  · split
    · exact h.memRead
    · exact h.memRead.memWrite

theorem abandonMove {m tier size} (h : Held p q s) : Held p q (abandonMove s m tier size) := h.setTensor.freeLater

theorem landMove {m} (h : Held p q s) : Held p q (landMove s m) := h.setTiers

theorem endCopy {m t' src} (h : Held p q s) : Held p q (endCopy s m t' src) := by
  unfold Machine.endCopy
  dsimp only
  split
  · exact h.moveBytes.landMove
  · exact h
  · exact h.moveBytes.setTiers.abandonMove

theorem execTierMoveDone (h : Held p q s) : NextHeld p q (execTierMoveDone s) := by
  unfold Machine.execTierMoveDone
  split
  · exact h.next
  · split
    · exact h.next
    · split
      · exact h.endCopy.next
      · exact h.endCopy.next
      · exact h.endCopy.next
      · exact h.landMove.next

theorem applyLanded {m} (h : Held p q s) : Held p q (applyLanded s m) := by
  unfold Machine.applyLanded
  split
  · split
    · exact h
    · exact h.freeLater
  · dsimp only
    split
    · exact h.setTensor
    · exact h.setTensor.freeLater
    · exact Held.ite h.abandonMove h.setTensor.freeLater
    · split
      · exact h
      · exact h
      · exact h.setTensor.freeLater

theorem landAll (h : Held p q s) : Held p q (landAll s) := (h.foldl fun _ _ h => h.applyLanded).setTiers

theorem tierBarrier (h : Held p q s) : Held p q (tierBarrier s) :=
  (h.landAll.foldl fun _ _ h => h.freePlace).setTiers.foldl fun _ _ h => h.askHint

theorem rehome {h' tier} (h : Held p q s) : Held p q (rehome s h' tier).1 := by
  unfold Machine.rehome
  split
  · exact h
  · split
    · exact h
    · split
      · exact h
      · dsimp only
        split
        · exact h.takePlace.moveBytes.setTensor.freePlace
        · exact h.takePlace.moveBytes.freePlace

theorem refetchCopy {h'} (h : Held p q s) : Held p q (refetchCopy s h').1 := by
  unfold Machine.refetchCopy
  split
  · exact h
  · split
    · exact h
    · split
      · exact h
      · dsimp only
        split
        · exact h.takePlace.moveBytes.setTensor
        · exact h.takePlace.moveBytes.freePlace

/-! ## Pages of the key-value cache -/

theorem setKvSet {slot n f} (h : Held p q s) : Held p q (setKvSet s slot n f) := h.setKv

theorem orphanSets {sets} (h : Held p q s) : Held p q (orphanSets s sets) := by
  unfold Machine.orphanSets
  refine h.foldl fun s1 a1 h1 => ?_
  split
  · exact Held.ite h1.freeSet h1.setKvSet
  · exact h1

theorem withdraw {p'} (h : Held p q s) : Held p q (withdraw s p') := h.dropNodes.orphanSets

theorem unref {slot n} (h : Held p q s) : Held p q (unref s slot n) := by
  unfold Machine.unref
  split
  · exact h
  · exact Held.ite h.setKvSet.freeSet h.setKvSet

theorem dropSets {b} (h : Held p q s) : Held p q (dropSets s b) := (h.foldl fun _ _ h => h.unref).setBerth

theorem mapPrefix {slot key version toks} (h : Held p q s) : Held p q (mapPrefix s slot key version toks).1 := by
  unfold Machine.mapPrefix
  split
  · exact h
  · exact h.setKv.bumpBy.bumpBy

theorem insertNodes {slot set key version tenant} : ∀ {l : List Nat} {j : Nat} {o : Option Nat} {s : State},
    Held p q s → Held p q (insertNodes slot set key version tenant l j o s).1
  | [], _, _, _, h => h
  | _ :: _, _, _, s, h => by
    unfold Machine.insertNodes
    split
    · exact insertNodes h
    · exact insertNodes h.setKv.bumpBy

theorem publishSet {b m hashes i} (h : Held p q s) : Held p q (publishSet s b m hashes i) := by
  unfold Machine.publishSet
  split
  · exact h
  · exact Held.ite h (Held.ite h (Held.ite h (Held.ite h.bumpBy h.insertNodes.setKvSet)))

theorem publishBerth {num} (h : Held p q s) : Held p q (publishBerth s num) := by
  unfold Machine.publishBerth
  split
  · exact h
  · split
    · exact h
    · exact Held.ite h (h.foldl fun _ _ h2 => h2.publishSet)

theorem damageSet {slot n} (h : Held p q s) : Held p q (damageSet s slot n) := Held.ite h h.withdraw.setKvSet.bump.event

theorem damageRead {a octs} (h : Held p q s) : Held p q (damageRead a octs s) := h.foldl fun _ _ h => h.damageSet

theorem withdrawSlot {slot} (h : Held p q s) : Held p q (withdrawSlot s slot) := h.withdraw

theorem placePartition {slot sets} (h : Held p q s) : Held p q (placePartition s slot sets) := by
  unfold Machine.placePartition
  dsimp only
  split
  · exact Held.ite h.withdrawSlot.setKv.setVal h.withdrawSlot.setKv.setVal.setKv.setVal.zeroRange
  · exact h.withdrawSlot.setKv.setVal

theorem copyToStages {slot idx sub val} (h : Held p q s) : Held p q (copyToStages slot idx sub val s) :=
  Held.ite (h.foldl fun _ _ h => h.memberWrite) h

theorem applyPartitionSets {slot val} (h : Held p q s) : AppliedHeld p q (applyPartitionSets slot val s) :=
  h.guarded (fun _ h => h.placePartition.copyToStages.accept)

theorem applyKvQuota {t val} (h : Held p q s) : AppliedHeld p q (applyKvQuota t val s) := by
  unfold Machine.applyKvQuota
  refine Held.guarded h fun _ _ => Held.accept (Held.copyToMembers (Held.evictForQuota ?_))
  exact h.setVal

theorem tellTables {node slot} (h : Held p q s) : Held p q (tellTables s node slot).1 := h.setFerry

theorem takeSetRecord {slot r} (h : Held p q s) : Held p q (takeSetRecord slot r s) := by
  unfold Machine.takeSetRecord
  dsimp only
  split
  · exact Held.ite h.freeSet h
  · exact h.setKv

theorem takeNodeRecord {slot r} (h : Held p q s) : Held p q (takeNodeRecord slot r s) :=
  Held.ite h.setKv (Held.ite h.setKv h.setKv)

theorem clearTables {slot} (h : Held p q s) : Held p q (clearTables slot s) := (h.foldl fun _ _ h => h.freeSet).setKv

theorem takeTables {slot b} (h : Held p q s) : Held p q (takeTables slot b s) :=
  ((Held.ite h.clearTables h).foldl fun _ _ h => h.takeSetRecord).foldl fun _ _ h => h.takeNodeRecord

theorem accessRead {a} (h : Held p q s) : Held p q (accessRead a s) := by
  unfold Machine.accessRead
  dsimp only
  split
  · exact h.memRead.setFlash
  · split
    · exact h.memRead.remoteData.emit
    · exact h.memRead.remoteData.remoteRead.setFlash
  · exact h.memRead.damageRead.emit
  · exact h.memRead.emit

theorem accessWrite {a} (h : Held p q s) : Held p q (accessWrite a s) := by
  unfold Machine.accessWrite
  dsimp only
  split
  · exact h.memWrite.sendTo
  · exact h.memWrite

theorem execMemoryAccess {a} (h : Held p q s) : NextHeld p q (execMemoryAccess a s) := by
  unfold Machine.execMemoryAccess
  split
  · exact h.next
  · split
    · exact h.accessWrite.next
    · exact h.accessRead.next

/-! ## Decks -/

theorem setSem {n v} (h : Held p q s) : Held p q (setSem s n v) := h.setServing

theorem signalSem {n amount} (h : Held p q s) : Held p q (signalSem s n amount) := h.setSem

/-! ## Streams and KVPUT -/

theorem streamBytes {k x1 a n} (h : Held p q s) : Held p q (streamBytes k x1 s a n).1 :=
  h.foldl_fst fun _ _ _ h => h.memRead

theorem rowStep {k x1 closing n kk} (h : Held p q s) : Held p q (rowStep k x1 closing s n kk).1 := by
  unfold Machine.rowStep
  split
  · exact h
  · dsimp only
    split
    · exact h.streamBytes
    · split
      · exact h.streamBytes.streamBytes.streamBytes
      · exact h.streamBytes

theorem laneStep {k x1 kk c lane} (h : Held p q s) : Held p q (laneStep k x1 kk c s lane).1 := by
  unfold Machine.laneStep
  dsimp only
  split
  · exact h.rowStep.rowStep
  · exact h.rowStep

theorem fetchStep {k x1} (h : Held p q s) : Held p q (fetchStep k x1 s).1 := by
  unfold Machine.fetchStep
  exact h.foldl_fst fun _ _ _ h => h.laneStep

theorem waitStream {k n b} (h : Held p q s) : Held p q (Machine.modDeck s k (waitStream n b)) :=
  h.modDeck fun _ => setStream_acc _ _ _

theorem deliverStep {k n st} (h : Held p q s) : Held p q (Machine.modDeck s k (deliverStep n st)) :=
  h.modDeck fun _ => setStream_acc _ _ _

theorem advanceStream {k n} (h : Held p q s) : Held p q (advanceStream k n s) := by
  unfold Machine.advanceStream
  dsimp only
  split
  · exact h
  · split
    · exact h
    · split
      · exact h.waitStream
      · exact h.fetchStep.touchTensor.foldl fun _ _ h => h.deliverStep

theorem serveStreams (h : Held p q s) : Held p q (serveStreams s) := by
  refine h.foldl fun s k h => h.foldl fun s n h => ?_
  split
  · exact Held.ite h.waitStream.advanceStream h
  · exact h

/-! ## Bundles and the deck's own events -/

theorem slotRow {k slot w last} (h : Held p q s) : NextHeld p q (slotRow k slot w last s) := by
  unfold Machine.slotRow
  dsimp only
  split
  · exact h.next
  · exact (Held.ite (h.setDeck (by rfl)).issue (h.setDeck (by rfl))).next

theorem execDeckCompletion {k} (h : Held p q s) : NextHeld p q (execDeckCompletion k s) := by
  unfold Machine.execDeckCompletion
  dsimp only
  split
  · exact (h.residueCheck.modDeck fun _ => by rfl).deckFree.next
  · exact h.next

theorem execStoreDrain {k} (h : Held p q s) : NextHeld p q (execStoreDrain k s) := by
  unfold Machine.execStoreDrain
  split
  · exact h.drainOne.retryDeck.next
  · exact h.next

theorem execStreamStep {k ws} (h : Held p q s) : NextHeld p q (execStreamStep k ws s) := by
  unfold Machine.execStreamStep
  split
  · exact h.advanceStream.retryStalled.next
  · exact h.next

theorem execTimeLimit {k} (h : Held p q s) : NextHeld p q (execTimeLimit k s) := by
  unfold Machine.execTimeLimit
  dsimp only
  split
  · exact h.raiseDeck.next
  · exact h.next

theorem applyDeckReset {k} (h : Held p q s) : AppliedHeld p q (applyDeckReset k s) := (h.modDeck fun _ => by rfl).accept

theorem deckResets (h : Held p q s) : Held p q (deckResets s) := h.foldl fun _ _ h => Held.ite h.resetDeck h

theorem rising_foldl_sSet {α : Type} {f : α → Nat} {g : α → BitVec 64} {l : List α} {d : Deck}
    (h : rising d.acc = true) : rising (l.foldl (fun d a => d.sSet (f a) (g a) false) d).acc = true :=
  List.foldlRecOn (motive := fun d : Deck => rising d.acc = true) l _ h fun d hd _ _ => (acc_sSet d _ _ _).symm ▸ hd

theorem startProgram {k logical layer dispatched entry slot args} (h : Held p q s) :
    Held p q (startProgram k logical layer dispatched entry slot args s) :=
  h.setDeck_of fun _ => rising_foldl_sSet rfl

end Sys2Proof.Machine.Held
end

section
/-! SUPPORT and PROOFS. What every step keeps: the weight flash, images, rings and turns. -/

namespace Sys2Proof.Machine.Held

open Sys2Proof.Claims

variable {p : Prop} {q : Media → Prop} {s t : State}

/-! ## The weight flash -/

theorem pushPriv {d} (h : Held p q s) : Held p q (pushPriv d s) := h.setFlash

theorem applySubmit {val} (h : Held p q s) : AppliedHeld p q (applySubmit val s) :=
  h.guarded (fun _ h => h.pushPriv.accept)

theorem submitOp {op val} (h : Held p q s) : AppliedHeld p q (submitOp op val s) := by
  unfold Machine.submitOp
  split
  · exact h.refuse
  · exact h.applySubmit

theorem helmErase {offset length tag owner} (h : Held p q s) : Held p q (helmErase offset length tag owner s) :=
  h.setFlash

theorem helmErases {runs tag owner} (h : Held p q s) : Held p q (helmErases runs tag owner s) :=
  h.foldl fun _ _ h => h.helmErase

theorem setQueue {q' l} (h : Held p q s) : Held p q (setQueue s q' l) := by
  unfold Machine.setQueue
  split
  · exact h.setFlash
  · exact h.setFlash

theorem setDesc {q' seq f} (h : Held p q s) : Held p q (setDesc s q' seq f) := h.setQueue

theorem countFailure {status} (h : Held p q s) : Held p q (countFailure s status) := Held.ite h.bump (Held.ite h.bump h)

theorem clearingEnded {d n c} (h : Held p q s) : Held p q (clearingEnded s d n c) :=
  Held.ite h (Held.ite h.helmErase h.setFlash.event)

theorem removalEnded {slot c} (h : Held p q s) : Held p q (removalEnded s slot c) :=
  Held.ite (h.frame (by rfl)) (Held.ite h (h.frame (by rfl)))

theorem dropJournalSector {sector} (h : Held p q s) : Held p q (dropJournalSector s sector) := h.setJournal

theorem helmEnded {d c} (h : Held p q s) : Held p q (helmEnded s d c) := by
  unfold Machine.helmEnded
  split
  · exact Held.ite h.setJournal.dropJournalSector h.helmErase
  · exact h.clearingEnded
  · exact h.removalEnded
  · exact h

theorem retireHelm (h : Held p q s) : Held p q (retireHelm s) := h.setFlash.bumpBy

theorem beginClearing {n} (h : Held p q s) : Held p q (beginClearing s n) := by
  unfold Machine.beginClearing
  split
  · exact h
  · exact Held.ite h h.setFlash.helmErases

theorem beginAllClearing (h : Held p q s) : Held p q (beginAllClearing s) := h.foldl fun _ _ h => h.beginClearing

theorem finishDesc {q' d status done result} (h : Held p q s) : Held p q (finishDesc s q' d status done result) := by
  unfold Machine.finishDesc
  dsimp only
  refine Held.beginAllClearing ?_
  split
  · exact h.countFailure.setDesc.helmEnded.retireHelm
  · exact h.countFailure.setDesc

theorem refusedByKind {q' d} (h : Held p q s) : Held p q (refusedByKind s q' d) := by
  unfold Machine.refusedByKind
  split
  · exact h
  · exact Held.ite h.bump h.bump.accessError

theorem readBuffer {q' a n} (h : Held p q s) : Held p q (readBuffer s q' a n).1 := by
  unfold Machine.readBuffer
  dsimp only
  split
  · split
    · exact h.memRead.remoteData
    · exact h.memRead.remoteData.remoteRead
  · exact h
  · exact h.memRead

theorem writeLines {q' base octs} :
    ∀ {l : List (Nat × Nat)} {s : State}, Held p q s → Held p q (writeLines q' base octs l s).1
  | [], _, h => h
  | _ :: _, s, h => by
    unfold Machine.writeLines
    dsimp only
    split
    · exact writeLines h.memWrite
    · exact writeLines h.memWrite.sendTo
    · exact h.memWrite

theorem writeBuffer {q' a octs} (h : Held p q s) : Held p q (writeBuffer s q' a octs).1 := by
  unfold Machine.writeBuffer
  split
  · exact h.writeLines
  · exact h.setTiers.writeLines.setTiers

theorem bankGate {q'} : ∀ {l : List Nat} {s : State}, Held p q s → Held p q (bankGate q' l s).1
  | [], _, h => h
  | _ :: _, s, h => by
    unfold Machine.bankGate
    split
    · exact bankGate h
    · exact bankGate h.suspendErase
    · exact h

theorem countWords {q' a n} (h : Held p q s) : Held p q (countWords q' s a n) := by
  refine h.foldl fun s a h => ?_
  split
  · exact h.bumpBy.error
  · exact h.bumpBy.accessError

theorem readEndAt {status off} (h : Held p q s) : Held p q (ReadEnd.at s status off).s := h

theorem runRead {q' d} (h : Held p q s) : Held p q (runRead s q' d).s := by
  unfold Machine.runRead
  dsimp only
  split
  · split
    · exact h.countWords.writeBuffer.readEndAt
    · exact h.countWords.writeBuffer.readEndAt
  · split
    · exact h.countWords.writeBuffer.readEndAt
    · exact h.countWords.writeBuffer

theorem runBlankCheck {q' d} (h : Held p q s) : Held p q (runBlankCheck s q' d).s := by
  unfold Machine.runBlankCheck
  dsimp only
  split
  · exact h.countWords.readEndAt
  · split
    · exact h.countWords.readEndAt
    · exact h.countWords

theorem runCrc32 {q' d} (h : Held p q s) : Held p q (runCrc32 s q' d).s := by
  unfold Machine.runCrc32
  dsimp only
  split
  · exact h.countWords.readEndAt
  · exact h.countWords

theorem runVerify {q' d octs} (h : Held p q s) : Held p q (runVerify s q' d octs).s := by
  unfold Machine.runVerify
  dsimp only
  split
  · exact h.countWords.readEndAt
  · split
    · exact h.countWords.readEndAt
    · split
      · exact h.countWords.readEndAt
      · exact h.countWords

theorem attemptRead {q' d} (h : Held p q s) : Held p q (attemptRead s q' d) := by
  unfold Machine.attemptRead
  dsimp only
  split
  · exact h.bankGate
  · exact h.bankGate.finishDesc
  · split
    · exact h.bankGate.runRead.finishDesc
    · split
      · exact h.bankGate.runBlankCheck.finishDesc
      · split
        · exact h.bankGate.runCrc32.finishDesc
        · split
          · exact h.bankGate.readBuffer
          · exact h.bankGate.readBuffer.runVerify.finishDesc

theorem placeOp {q' d} (h : Held p q s) : Held p q (placeOp s q' d) := by
  unfold Machine.placeOp
  split
  · exact h
  · exact h.setFlash.draw.dropSector

theorem attemptProgram {q' d} (h : Held p q s) : Held p q (attemptProgram s q' d) := by
  unfold Machine.attemptProgram
  dsimp only
  split
  · split
    · exact h
    · exact h.readBuffer
  · split
    · refine Held.finishDesc ?_
      split
      · exact h
      · exact h.readBuffer
    · split
      · refine Held.finishDesc ?_
        split
        · exact h
        · exact h.readBuffer
      · refine Held.placeOp ?_
        refine Held.setDesc ?_
        split
        · exact h
        · exact h.readBuffer

theorem attempt {q' d} (h : Held p q s) : Held p q (attempt s q' d) :=
  Held.ite h.attemptProgram (Held.ite h.placeOp h.attemptRead)

theorem execDescriptorStart {q' seq} (h : Held p q s) : NextHeld p q (execDescriptorStart q' seq s) := by
  unfold Machine.execDescriptorStart
  split
  · exact h.next
  · split
    · dsimp only
      split
      · exact (Held.ite h.setDesc.refusedByKind h.setDesc).finishDesc.next
      · exact h.setDesc.attempt.next
    · exact h.next

theorem serveWaiting (h : Held p q s) : Held p q (serveWaiting s) := h.setFlash.foldl fun _ _ h => h.accessRead

theorem retryQueue {q' which} (h : Held p q s) : Held p q (retryQueue s q' which) := h.foldl fun _ _ h => h.attempt

theorem retryReads (h : Held p q s) : Held p q (retryReads s) := h.retryQueue.retryQueue

theorem retryPrograms (h : Held p q s) : Held p q (retryPrograms s) := h.retryQueue.retryQueue

theorem servePending (h : Held p q s) : Held p q (servePending s) := h.serveWaiting.serveStreams.retryStalled.retryReads

theorem claimBank {bank} (h : Held p q s) : Held p q (claimBank s bank) := by
  unfold Machine.claimBank
  dsimp only
  split
  · exact (Held.ite h.ownOperations h).placeOp
  · exact (Held.ite h.ownOperations h).placeOp
  · exact Held.ite h.ownOperations h

theorem goOn {q' d bank} (h : Held p q s) : Held p q (goOn s q' d bank) :=
  Held.ite h.servePending.finishDesc.claimBank.retryPrograms (Held.ite h.servePending.placeOp.retryPrograms
    h.servePending.claimBank.placeOp.retryPrograms)

theorem endHere {q' d status bank} (h : Held p q s) : Held p q (endHere s q' d status bank) :=
  h.servePending.finishDesc.claimBank.retryPrograms

theorem failWords_wf {l : List Nat} {f : Nat → Nat} {g : Nat → Option Mark} {m : Mem} (h : m.wf = true) :
    (l.foldl (fun m i => m.setMark (f i) (g i)) m).wf = true :=
  List.foldlRecOn (motive := fun m : Mem => m.wf = true) l _ h fun _ hm _ _ => Mem.setMark_wf _ _ _ hm

theorem failWords {a n} (h : Held p q s) : Held p q (failWords s a n) :=
  (h.setMem fun hm => failWords_wf (Mem.setBytes_wf _ _ _ hm)).draw

theorem execProgramPulseDone {bank verified} (h : Held p q s) :
    NextHeld p q (execProgramPulseDone bank verified s) := by
  unfold Machine.execProgramPulseDone
  split
  · exact h.next
  · split
    · exact h.next
    · split
      · exact h.next
      · dsimp only
        split
        · split
          · exact (h.setFlash.setMem programmed_wf).draw.failWords.endHere.next
          · exact (h.setFlash.setMem programmed_wf).draw.setDesc.goOn.next
        · exact h.setFlash.failWords.endHere.next

theorem eraseSector {sector} (h : Held p q s) : Held p q (eraseSector s sector) := by
  refine (h.setMem fun hm => ?_).setFlash
  split
  · exact Mem.setBytes_wf _ _ _ (Mem.clear_wf _ _ _ hm)
  · exact Mem.clear_wf _ _ _ hm

theorem execEraseDone {bank completed} (h : Held p q s) : NextHeld p q (execEraseDone bank completed s) := by
  unfold Machine.execEraseDone
  split
  · exact h.next
  · split
    · exact h.next
    · split
      · exact h.next
      · dsimp only
        split
        · exact h.setFlash.eraseSector.setDesc.goOn.next
        · exact h.setFlash.setFlash.endHere.next

theorem passProgress (h : Held p q s) : Held p q (passProgress s) := Held.ite h.setFlash.servePending h

theorem admitBacklog (h : Held p q s) : Held p q (admitBacklog s) := h.setFlash

theorem noteFlow {status} (h : Held p q s) : Held p q (noteFlow s status) := h

theorem postOldest (h : Held p q s) : Held p q (postOldest s) := by
  unfold Machine.postOldest
  split
  · exact h
  · split
    · split
      · exact Held.ite (Held.ite h.setFlash.admitBacklog.msix.ibi h.setFlash.admitBacklog) h
      · exact h.setFlash.noteFlow.admitBacklog
    · exact h

theorem applyFlush {val} (h : Held p q s) : AppliedHeld p q (applyFlush val s) :=
  h.command (fun _ h => h.setQueue.beginAllClearing.accept)

theorem applyRegion {n val} (h : Held p q s) : AppliedHeld p q (applyRegion n val s) :=
  h.guarded (fun _ h => h.setFlash.beginClearing.accept)

theorem execRegionChangeEffect {n} (h : Held p q s) : NextHeld p q (execRegionChangeEffect n s) := by
  unfold Machine.execRegionChangeEffect
  split
  · exact h.next
  · split
    · exact h.setFlash.keepTable.next
    · exact h.next

/-! ## Images -/

theorem setImages {i} (h : Held p q s) : Held p q (State.setImages s i) := h

theorem setImage {slot f} (h : Held p q s) : Held p q (setImage s slot f) := h.setImages

theorem setJob {f} (h : Held p q s) : Held p q (setJob s f) := h.setImages

theorem windowRead {a n} (h : Held p q s) : Held p q (windowRead s a n).1 := by
  unfold Machine.windowRead
  refine h.foldl_fst fun s1 b1 a1 h1 => ?_
  split
  · exact h1.readLine
  · exact h1.accessError

theorem containerRead {source address pieces off n} (h : Held p q s) :
    Held p q (containerRead s source address pieces off n).1 := by
  unfold Machine.containerRead
  split
  · exact h.windowRead
  · exact h

theorem readHead {source address pieces} (h : Held p q s) : Held p q (readHead s source address pieces).1 := by
  unfold Machine.readHead
  dsimp only
  split
  · exact h.containerRead
  · split
    · exact h.containerRead.containerRead
    · exact h.containerRead

theorem addImageTensors {slot} (h : Held p q s) : Held p q (addImageTensors s slot) := by
  unfold Machine.addImageTensors
  dsimp only
  split
  · exact h
  · exact h.foldl fun _ _ h1 => Held.ite h1 (Held.ite (Held.ite h1.setTiers.pinPlace h1.setTiers) h1.setTiers.askHint)

theorem freeCopies {t'} (h : Held p q s) : Held p q (freeCopies s t') := by
  unfold Machine.freeCopies
  dsimp only
  split
  · refine Held.freeLater ?_
    split
    · exact h.freeLater
    · exact h
  · split
    · exact h.freeLater
    · exact h

theorem dropImageTensors {slot} (h : Held p q s) : Held p q (dropImageTensors s slot) :=
  (h.foldl fun _ _ h => h.freeCopies).setTiers

theorem resetExperts {slot} (h : Held p q s) : Held p q (resetExperts s slot) := h

theorem dropExperts {slot} (h : Held p q s) : Held p q (dropExperts s slot) := h

theorem forgetCode {slot : Nat} (h : Held p q s) :
    Held p q { s with decks := s.decks.map (fun d => if d.code = some slot then { d with code := none } else d) } :=
  h.mapDecks fun d hd => by
    split
    · exact hd
    · exact hd

theorem makeReady {slot} (h : Held p q s) : Held p q (makeReady s slot) :=
  h.forgetCode.setImage.addImageTensors.resetExperts

theorem pushFlow {l} (h : Held p q s) : Held p q (pushFlow l s) := h.setFlash.admitBacklog

theorem flowErases {slot bankFirst h'} (h : Held p q s) : Held p q (flowErases s slot bankFirst h') := h.pushFlow

theorem fetchTensor {j h' t'} (h : Held p q s) : Held p q (fetchTensor s j h' t').1 := by
  unfold Machine.fetchTensor
  dsimp only
  refine h.containerRead.foldl_fst fun s1 b1 a1 h1 => ?_
  split
  · exact h1
  · exact h1.containerRead

theorem fetchContainer {j h'} (h : Held p q s) : Held p q (fetchContainer s j h').1 :=
  h.foldl_fst fun _ _ _ h => h.fetchTensor

theorem castPart {slot last c} (h : Held p q s) : Held p q (castPart slot last s c) :=
  Held.ite h (h.foldl fun _ _ h => h.sendBroadcast)

theorem castParts {slot l} (h : Held p q s) : Held p q (castParts slot l s) := h.foldl fun _ _ h => h.castPart

theorem broadcastContainer {j h'} (h : Held p q s) : Held p q (broadcastContainer s j h').1 := by
  unfold Machine.broadcastContainer
  split
  · exact h
  · split
    · exact h.fetchContainer.castParts
    · exact h.castParts

theorem commandMembers {j} (h : Held p q s) : Held p q (commandMembers s j) := h.foldl fun _ _ h => h.memberWrite

theorem beginJob {j phase h'} (h : Held p q s) : Held p q (beginJob s j phase h') := by
  unfold Machine.beginJob
  dsimp only
  split
  · exact h.setImages.commandMembers.broadcastContainer.setJob
  · exact h.setImages

theorem placeTensors : ∀ {l : List TensorEntry} {a : Nat} {s : State}, Held p q s →
    OptionHeld p q Prod.fst (placeTensors l a s)
  | [], _, _, h => .some h
  | _ :: _, _, s, h => by
    unfold Machine.placeTensors
    split
    · intro x e
      obtain ⟨y, hy, rfl⟩ := Option.map_eq_some_iff.1 e
      exact placeTensors h y hy
    · split
      · exact .none
      · intro x e
        obtain ⟨y, hy, rfl⟩ := Option.map_eq_some_iff.1 e
        exact placeTensors h.takePlace y hy

theorem placeImage {h'} (h : Held p q s) : OptionHeld p q Prod.fst (placeImage s h') := by
  unfold Machine.placeImage
  dsimp only
  split
  · exact .none
  · next s1 _ _ hstart =>
    have h1 : Held p q s1 := by
      split at hstart
      · cases hstart
        exact h
      · split at hstart
        · cases hstart
          exact h.takePlace.sealRange
        · cases hstart
    split
    · exact .none
    · next htensors =>
      split
      · exact .none
      · exact .some (Held.takePlace (h1.placeTensors _ htensors))

theorem freeImagePlaces {slot} (h : Held p q s) : Held p q (freeImagePlaces s slot) := by
  unfold Machine.freeImagePlaces
  dsimp only
  split
  · exact h
  · split
    · refine (Held.foldl ?_ fun _ _ h => Held.ite h h.freePlace).freePlace
      split
      · split
        · exact h.freePlace
        · exact h
      · exact h
    · refine Held.foldl ?_ fun _ _ h => Held.ite h h.freePlace
      split
      · split
        · exact h.freePlace
        · exact h
      · exact h

theorem vacate {slot} (h : Held p q s) : Held p q (vacate s slot) :=
  Held.ite h (Held.ite h.dropImageTensors.placePartition.dropExperts.freeImagePlaces
    h.dropImageTensors.placePartition.dropExperts).setImage

theorem beginInstall {j h'} (h : Held p q s) : Held p q (beginInstall s j h') :=
  h.vacate.setImage.keepTable.beginJob.flowErases

theorem beginLoad {j h'} (h : Held p q s) : Held p q (beginLoad s j h') := by
  unfold Machine.beginLoad
  split
  · exact h
  · next hplaced =>
    have h1 : Held p q _ := h.vacate.placeImage _ hplaced
    exact h1.setImage.beginJob

theorem startImage {j} (h : Held p q s) : AppliedHeld p q (startImage j s) := by
  unfold Machine.startImage
  dsimp only
  split
  · exact h.readHead.refuse
  · split
    · exact h.readHead.guarded (fun _ h2 => h2.beginInstall.accept)
    · exact h.readHead.guarded (fun _ h2 => h2.beginLoad.accept)

theorem applySource {ch val} (h : Held p q s) : AppliedHeld p q (applySource ch val s) := by
  unfold Machine.applySource
  dsimp only
  split
  · exact h.startImage
  · split
    · exact h.setImages
    · exact h.refuse

theorem freeStaging {j} (h : Held p q s) : Held p q (freeStaging s j) := by
  unfold Machine.freeStaging
  dsimp only
  split
  · split
    · exact h.releaseSealed
    · exact h
  · refine Held.freePlace ?_
    split
    · exact h.releaseSealed
    · exact h

theorem applyRemove {ch val} (h : Held p q s) : AppliedHeld p q (applyRemove ch val s) := by
  unfold Machine.applyRemove
  dsimp only
  refine h.guarded fun s1 h1 => ?_
  split
  · exact h1.beginJob.accept
  · split
    · refine Held.accept ?_
      split
      · refine Held.helmErases ?_
        refine Held.beginJob ?_
        refine Held.dropExperts ?_
        refine Held.setImage ?_
        split
        · exact Held.ite h1.dropImageTensors.placePartition.setImages.freeStaging h1.dropImageTensors.placePartition
        · exact h1.dropImageTensors.placePartition
      · refine Held.beginJob ?_
        refine Held.dropExperts ?_
        refine Held.setImage ?_
        split
        · exact Held.ite h1.dropImageTensors.placePartition.setImages.freeStaging h1.dropImageTensors.placePartition
        · exact h1.dropImageTensors.placePartition
    · refine Held.accept ?_
      refine Held.beginJob ?_
      refine Held.dropExperts ?_
      refine Held.setImage ?_
      split
      · exact Held.ite h1.dropImageTensors.placePartition.setImages.freeStaging h1.dropImageTensors.placePartition
      · exact h1.dropImageTensors.placePartition

theorem applyVerify {ch val} (h : Held p q s) : AppliedHeld p q (applyVerify ch val s) :=
  h.guarded (fun _ h => h.setImage.beginJob.accept)

theorem applyCommitVersion {ch val} (h : Held p q s) : AppliedHeld p q (applyCommitVersion ch val s) := by
  unfold Machine.applyCommitVersion
  dsimp only
  split
  · exact h.refuse
  · exact h.guarded (fun _ h1 => h1.advanceCounter.beginJob.accept)

theorem applyImageCommand {ch val} (h : Held p q s) : AppliedHeld p q (applyImageCommand ch val s) := by
  unfold Machine.applyImageCommand
  refine h.guarded fun s1 h1 => ?_
  split
  · exact h1.applySource
  · exact h1.applySource
  · exact h1.applyRemove
  · exact h1.applyVerify
  · exact h1.applyCommitVersion

theorem imageOp {op ch val} (h : Held p q s) : AppliedHeld p q (imageOp op ch val s) := by
  unfold Machine.imageOp
  split
  · exact h.refuse
  · exact h.applyImageCommand

theorem applyAuthorKey {sub val} (h : Held p q s) : AppliedHeld p q (applyAuthorKey sub val s) :=
  h.guarded (fun _ h => h.setImages.keepTable.accept)

theorem arriveTensor {source address pieces h' t'} (h : Held p q s) :
    Held p q (arriveTensor s source address pieces h' t').1 :=
  h.containerRead.containerRead

theorem gatherRanges {source address pieces h'} : ∀ {l : List TensorEntry} {s : State}, Held p q s →
    Held p q (gatherRanges source address pieces h' l s).1
  | [], _, h => h
  | _ :: _, s, h => by
    unfold Machine.gatherRanges
    dsimp only
    split
    · exact gatherRanges h.arriveTensor
    · exact h.arriveTensor

theorem flowPrograms {j h'} (h : Held p q s) : Held p q (flowPrograms s j h') := by
  unfold Machine.flowPrograms
  dsimp only
  split
  · exact h.gatherRanges.setJob.flowErases
  · exact h.gatherRanges.setJob.pushFlow

theorem advanceInstall (h : Held p q s) : Held p q (advanceInstall s) := by
  unfold Machine.advanceInstall
  split
  · exact h
  · split
    · exact h
    · split
      · exact h
      · split
        · exact Held.ite h.setJob.flowErases (Held.ite h.flowPrograms h)
        · exact Held.ite h.setJob.flowErases h.setJob
        · exact h.setJob
        · exact h

theorem endCommand {code} (h : Held p q s) : Held p q (endCommand s code) := h.setImages.setVal.msix.ibi

theorem loadWrite {a data} (h : Held p q s) : Held p q (loadWrite s a data) := h.setTiers.memWrite.setTiers

theorem loadTensors {j h'} : ∀ {l : List (TensorEntry × Nat)} {s : State}, Held p q s →
    Held p q (loadTensors j h' l s).1
  | [], _, h => h
  | _ :: _, s, h => by
    unfold Machine.loadTensors
    dsimp only
    split
    · exact loadTensors h.arriveTensor.loadWrite
    · exact h.arriveTensor

theorem endLoad {j h'} (h : Held p q s) : Held p q (endLoad s j h') :=
  Held.ite h.freeImagePlaces.setImage.endCommand (Held.ite h.loadTensors.loadWrite.makeReady.endCommand
    h.loadTensors.freeImagePlaces.setImage.endCommand)

theorem endInstall {j} (h : Held p q s) : Held p q (endInstall s j) :=
  Held.ite h.makeReady.bump.endCommand h.setImage.endCommand

theorem endRemove {j} (h : Held p q s) : Held p q (endRemove s j) := (Held.ite h.freeImagePlaces h).setImage.endCommand

theorem flashStored {a n} (h : Held p q s) : Held p q (flashStored s a n).1 := by
  unfold Machine.flashStored
  dsimp only
  split
  · exact h.checkFlash
  · exact h.checkFlash

theorem homeForm {slot i t'} (h : Held p q s) : Held p q (homeForm s slot i t').1 := by
  unfold Machine.homeForm
  dsimp only
  split
  · split
    · exact h.flashStored.flashStored
    · exact h.flashStored.flashStored
  · split
    · exact h
    · exact h

theorem homesPass {slot} : ∀ {l : List (Nat × TensorEntry)} {s : State}, Held p q s → Held p q (homesPass slot l s).1
  | [], _, h => h
  | _ :: _, s, h => by
    unfold Machine.homesPass
    dsimp only
    split
    · split
      · exact homesPass h.homeForm
      · exact h.homeForm
    · exact h.homeForm

theorem headPart {slot off n} (h : Held p q s) : Held p q (headPart s slot off n).1 := by
  unfold Machine.headPart
  dsimp only
  split
  · exact h.checkFlash
  · exact h.memRead

theorem keptHead {slot} (h : Held p q s) : Held p q (keptHead s slot).1 := h.headPart

theorem endVerify {j h'} (h : Held p q s) : Held p q (endVerify s j h') := by
  unfold Machine.endVerify
  dsimp only
  split
  · exact h.keptHead.setImage.endCommand
  · exact Held.ite h.keptHead.homesPass.setImage.endCommand h.keptHead.homesPass.setImage.endCommand

theorem pollMembers {j} (h : Held p q s) : Held p q (pollMembers s j) :=
  h.foldl fun _ _ h => Held.ite h h.setFerry.sendDict

theorem memberAnswered {n state} (h : Held p q s) : Held p q (memberAnswered s n state) := h.setJob

theorem execImageCommandDone (h : Held p q s) : NextHeld p q (execImageCommandDone s) := by
  unfold Machine.execImageCommandDone
  split
  · exact h.next
  · split
    · exact h.next
    · split
      · exact h.pollMembers.next
      · split
        · exact h.endInstall.next
        · exact h.endLoad.next
        · exact h.endRemove.next
        · exact h.endVerify.next
        · exact h.endCommand.next

theorem takePiece {slot off data} (h : Held p q s) : Held p q (takePiece s slot off data).1 := by
  have h1 := fun j i => (h.setImages (i := i)).startImage (j := j)
  unfold Machine.takePiece
  split
  · exact h
  · split
    · exact h
    · dsimp only
      split
      · split
        · split
          · next hstart => exact (hstart ▸ h1 _ _ : AppliedHeld p q (.done _ _))
          · next hstart => exact (hstart ▸ h1 _ _ : AppliedHeld p q (.later _))
        · exact h.setImages
      · exact (Held.ite h.setImages h.setImages.castPart).advanceInstall

theorem jobLoses {gone} (h : Held p q s) : Held p q (jobLoses gone s) := by
  unfold Machine.jobLoses
  split
  · exact h
  · dsimp only
    split
    · exact h.setJob
    · split
      · exact h.setJob.setImages.lateAnswer
      · exact h.setJob.setJob.advanceInstall
      · exact h.setJob.setJob.advanceInstall
      · exact h.setJob.setJob
      · exact h.setJob

theorem countFault {slot} (h : Held p q s) : Held p q (countFault s slot) := h.setImage

theorem markSuspect {slot address} (h : Held p q s) : Held p q (markSuspect s slot address) := by
  unfold Machine.markSuspect
  split
  · exact h.setImage.bump.event
  · exact h.setImage.bump.event
  · exact h

theorem revokeImages (h : Held p q s) : Held p q (revokeImages s) := by
  unfold Machine.revokeImages
  refine h.foldl fun s1 a1 h1 => ?_
  split
  · exact h1
  · exact h1
  · exact h1
  · exact h1
  · exact Held.ite h1.setImage h1
  · exact h1

/-! ## Swaps -/

theorem setSwap {f} (h : Held p q s) : Held p q (setSwap s f) := h.setImages

theorem beginSwap {slot source address mask pieces h'} (h : Held p q s) :
    Held p q (beginSwap s slot source address mask pieces h') := by
  refine (Held.broadcastContainer (Held.foldl (Held.setImage ?_) fun _ _ h => h.memberWrite)).setImages
  split
  · exact (Held.ite h h.takePlace).sealRange
  · exact Held.ite h h.takePlace

theorem startSwap {val pieces} (h : Held p q s) : AppliedHeld p q (startSwap val pieces s) := by
  unfold Machine.startSwap
  dsimp only
  split
  · exact h.readHead.refuse
  · split
    · exact h.readHead.setImages.setSwap.accept
    · exact h.readHead.guarded (fun _ h2 => h2.beginSwap.accept)

theorem applySwapRequest {ch val} (h : Held p q s) : AppliedHeld p q (applySwapRequest ch val s) := by
  unfold Machine.applySwapRequest
  refine h.guarded fun s1 h1 => ?_
  split
  · exact h1.startSwap
  · exact h1.setImages

theorem stageTensors {j} : ∀ {l : List (Nat × TensorEntry)} {a : Nat} {s : State}, Held p q s →
    Held p q (stageTensors j l a s).1
  | [], _, _, h => h
  | _ :: _, _, s, h => by
    unfold Machine.stageTensors
    dsimp only
    split
    · exact stageTensors h.arriveTensor.loadWrite
    · exact h.arriveTensor

theorem cancelSwap {j} (h : Held p q s) : Held p q (cancelSwap s j) := h.freeStaging.setImage.setImages

theorem stagingFailed {j} (h : Held p q s) : Held p q (stagingFailed s j) := Held.ite h.cancelSwap h.setImage.setSwap

theorem sealStaging {j l} (h : Held p q s) : Held p q (sealStaging s j l) := by
  unfold Machine.sealStaging
  split
  · exact h
  · exact h.releaseSealed.sealRange

theorem execSwapLayerStaged (h : Held p q s) : NextHeld p q (execSwapLayerStaged s) := by
  unfold Machine.execSwapLayerStaged
  split
  · exact h.next
  · split
    · split
      · exact h.next
      · dsimp only
        split
        · exact h.sealStaging.stageTensors.setSwap.next
        · exact h.sealStaging.stageTensors.stagingFailed.next
    · exact h.next

theorem dropCopies {h'} (h : Held p q s) : Held p q (dropCopies s h') := by
  unfold Machine.dropCopies
  split
  · exact h
  · dsimp only
    refine Held.setTensor ?_
    split
    · refine Held.freeLater ?_
      refine Held.setTiers ?_
      refine h.foldl fun s3 a3 h3 => ?_
      split
      · exact h3
      · exact h3.freeLater
    · refine Held.setTiers ?_
      refine h.foldl fun s3 a3 h3 => ?_
      split
      · exact h3
      · exact h3.freeLater

theorem copyStaged {j} : ∀ {l : List (Nat × TensorEntry)} {a : Nat} {s : State}, Held p q s →
    Held p q (copyStaged j l a s)
  | [], _, _, h => h
  | _ :: _, _, _, h => by
    unfold Machine.copyStaged
    exact copyStaged h.memRead.memWrite.dropCopies

theorem swapExperts {j l} (h : Held p q s) : Held p q (swapExperts s j l) := h

theorem withdrawVersion {slot version} (h : Held p q s) : Held p q (withdrawVersion s slot version) := h.withdraw

theorem replaceHead {j} (h : Held p q s) : Held p q (replaceHead s j) := h.freePlace.takePlace.loadWrite.setImage

theorem swapHints {j} (h : Held p q s) : Held p q (swapHints s j) := by
  unfold Machine.swapHints
  refine h.foldl fun s1 a1 h1 => ?_
  split
  · exact h1
  · exact Held.ite h1 (Held.ite (Held.ite h1.pinPlace.setTensor h1.setTensor) h1.setTensor.askHint)

theorem finishSwap {j} (h : Held p q s) : Held p q (finishSwap s j) :=
  h.freeStaging.replaceHead.swapHints.setImage.setImages.forgetCode.withdrawVersion.bump

theorem layerReplaced {j l rest} (h : Held p q s) : Held p q (layerReplaced s j l rest) :=
  Held.ite h.setImage.swapExperts.finishSwap h.setImage.swapExperts.setImages

theorem execSwapCopyDone (h : Held p q s) : NextHeld p q (execSwapCopyDone s) := by
  unfold Machine.execSwapCopyDone
  split
  · exact h.next
  · split
    · exact h.copyStaged.setVal.draw.layerReplaced.next
    · exact h.finishSwap.next
    · exact h.next

theorem swapAtBarrier (h : Held p q s) : Held p q (swapAtBarrier s).1 := by
  unfold Machine.swapAtBarrier
  split
  · exact h
  · split
    · exact h.setSwap
    · exact h
    · exact h

theorem applySwapAbort (h : Held p q s) : AppliedHeld p q (applySwapAbort s) := by
  unfold Machine.applySwapAbort
  split
  · exact h.refuse
  · split
    · exact h.cancelSwap.accept
    · exact h.refuse

theorem applySwapResume (h : Held p q s) : AppliedHeld p q (applySwapResume s) := by
  unfold Machine.applySwapResume
  split
  · split
    · exact h.setImage.setImages.accept
    · exact h.refuse
  · exact h.refuse

theorem applySwapCommand {val} (h : Held p q s) : AppliedHeld p q (applySwapCommand val s) := by
  unfold Machine.applySwapCommand
  split
  · exact h.applySwapAbort
  · split
    · exact h.applySwapResume
    · exact h.refuse

theorem takeSwapPiece {slot off data} (h : Held p q s) : Held p q (takeSwapPiece s slot off data).1 := by
  have h1 := fun val l i => (h.setImages (i := i)).startSwap (val := val) (pieces := l)
  unfold Machine.takeSwapPiece
  split
  · split
    · exact h
    · dsimp only
      split
      · split
        · next hstart => exact (hstart ▸ h1 _ _ _ : AppliedHeld p q (.done _ _))
        · next hstart => exact (hstart ▸ h1 _ _ _ : AppliedHeld p q (.later _))
      · exact h.setImages
  · split
    · exact h
    · split
      · exact h
      · exact (Held.ite h h.castPart).setSwap

theorem swapLoses {gone} (h : Held p q s) : Held p q (swapLoses gone s) := by
  unfold Machine.swapLoses
  split
  · exact Held.ite h.setImages.lateAnswer h
  · split
    · exact h
    · split
      · exact h
      · split
        · exact h.stagingFailed
        · exact h

/-! ## Rings -/

theorem setRing {r x2} (h : Held p q s) : Held p q (setRing s r x2) := h.setServing

theorem applyRingRecord {ch t' val} (h : Held p q s) : AppliedHeld p q (applyRingRecord ch t' val s) :=
  h.guarded (fun _ h => h.setRing.accept)

theorem applyTenantEnabled {t' val} (h : Held p q s) : AppliedHeld p q (applyTenantEnabled t' val s) :=
  h.guarded (fun _ h => (Held.ite h.setVal h.setVal.setServing).copyToMembers.accept)

theorem applyBlockOwner {b val} (h : Held p q s) : AppliedHeld p q (applyBlockOwner b val s) :=
  h.guarded (fun _ h => h.setVal.copyToMembers.accept)

theorem applyBerthQuota {t' val} (h : Held p q s) : AppliedHeld p q (applyBerthQuota t' val s) :=
  h.guarded (fun _ h => h.setVal.copyToMembers.accept)

theorem ringBell {ring tail head} (h : Held p q s) : Held p q (ringBell s ring tail head) := Held.ite h.setRing h.bump

theorem hostWake {b why} (h : Held p q s) : Held p q (hostWake s b why) := h.setBerth.setPower

theorem showWakes (h : Held p q s) : Held p q (showWakes s) := h.setServing

theorem wakeByPcie {vector} (h : Held p q s) : Held p q (wakeByPcie s vector) := by
  unfold Machine.wakeByPcie
  split
  · exact h.emit.setPower.msix
  · exact h.emit.setPower
  · exact h.emit.setPower
  · exact h
  · exact h.msix

theorem execHostWakeCoalesce (h : Held p q s) : NextHeld p q (execHostWakeCoalesce s) := by
  unfold Machine.execHostWakeCoalesce
  split
  · exact h.next
  · exact (Held.ite (Held.ite h.showWakes h.showWakes.wakeByPcie).ibi (Held.ite h.showWakes
        h.showWakes.wakeByPcie)).setPower.next

theorem execWatchDeadlineTimer (h : Held p q s) : NextHeld p q (execWatchDeadlineTimer s) := by
  unfold Machine.execWatchDeadlineTimer
  split
  · exact h.hostWake.setPower.wake.next
  · exact h.next

theorem execHostSleepIdle (h : Held p q s) : NextHeld p q (execHostSleepIdle s) := by
  unfold Machine.execHostSleepIdle
  split
  · exact h.emit.setPower.next
  · exact h.next

theorem signalRing {r} (h : Held p q s) : Held p q (signalRing s r) := h.setRing.msix

theorem afterPost {r} (h : Held p q s) : Held p q (afterPost s r) :=
  (Held.ite h.setRing.signalRing h.setRing).setServing

theorem execCoalesceTime {ring} (h : Held p q s) : NextHeld p q (execCoalesceTime ring s) := by
  unfold Machine.execCoalesceTime
  dsimp only
  split
  · exact h.signalRing.next
  · exact h.next

theorem writeCompletion {c} (h : Held p q s) : Held p q (writeCompletion s c) :=
  Held.ite h h.hostWrite.setRing.bumpBy.emit.afterPost

theorem holdCompletion {c} (h : Held p q s) : Held p q (holdCompletion s c) :=
  Held.ite h.setServing.hostWake h.setServing

theorem postCompletion {c} (h : Held p q s) : Held p q (postCompletion s c) :=
  Held.ite h (Held.ite h.holdCompletion h.writeCompletion)

theorem stageToken {b token position last stop} (h : Held p q s) : Held p q (stageToken s b token position last stop) :=
  Held.ite h.setBerth.hostWake (Held.ite h.setBerth.hostWake h.setBerth)

theorem deliverToken {b token position last stop} (h : Held p q s) :
    Held p q (deliverToken s b token position last stop) :=
  Held.ite h.stageToken (Held.ite h.hostWrite.setBerth.emit h.hostWrite.setBerth)

theorem flushBerth {b} (h : Held p q s) : Held p q (flushBerth s b) :=
  (h.foldl_fst fun _ _ _ h => Held.ite h.hostWrite.emit h.hostWrite).setBerth

theorem execHeldOutputFlush (h : Held p q s) : NextHeld p q (execHeldOutputFlush s) := by
  unfold Machine.execHeldOutputFlush
  split
  · exact h.next
  · exact ((h.foldl fun _ _ h1 => Held.ite h1 h1.flushBerth).setServing.foldl fun _ _ h1 => h1.writeCompletion).next

/-! ## Admission -/

theorem pushDone {t' d} (h : Held p q s) : Held p q (pushDone s t' d) := h.setServing

theorem completeEntry {ring t' tag status detail delivered position inWindow} (h : Held p q s) :
    Held p q (completeEntry s ring t' tag status detail delivered position inWindow) :=
  Held.ite h.postCompletion.pushDone h.postCompletion

theorem reply {ring t' e status detail} (h : Held p q s) : Held p q (reply ring t' e status detail s) := h.completeEntry

theorem finishBerth {b status detail turn} (h : Held p q s) : Held p q (finishBerth s b status detail turn) :=
  Held.ite h.postCompletion.pushDone.setBerth h.postCompletion.pushDone.setBerth.hostWake

theorem signalNow {n amount} (h : Held p q s) : Held p q (signalNow s n amount) := h.signalSem.retryStalled

theorem signalRequest {b} (h : Held p q s) : Held p q (signalRequest b s) := Held.ite h.signalNow h

theorem finishNow {b status detail turn} (h : Held p q s) : Held p q (finishNow s b status detail turn) :=
  h.finishBerth.signalRequest

theorem freeBerth {b} (h : Held p q s) : Held p q (freeBerth s b) := h.dropSets.setServing

theorem sendMessage {node kind context bytes} (h : Held p q s) : Held p q (sendMessage s node kind context bytes) :=
  h.foldl fun _ _ h => h.sendTo

theorem sendPlace {node b e toks} (h : Held p q s) : Held p q (sendPlace s node b e toks) := h.sendMessage

theorem sendCancel {node num} (h : Held p q s) : Held p q (sendCancel s node num) := h.sendMessage

theorem sendFree {node num} (h : Held p q s) : Held p q (sendFree s node num) := h.sendMessage

theorem sendClear {node} (h : Held p q s) : Held p q (sendClear s node) := h.sendMessage

theorem fetched {ring} (h : Held p q s) : Held p q (fetched s ring) := h.setRing

theorem hostReadError (h : Held p q s) : Held p q (hostReadError s) := h.error

theorem ringRow {ring mine act} (h : Held p q s) (hf : ∀ t e s, Held p q s → Held p q (act t e s)) :
    NextHeld p q (ringRow ring mine act s) := by
  unfold Machine.ringRow
  split
  · exact h.next
  · dsimp only
    split
    · exact h.fetched.hostReadError.completeEntry.next
    · split
      · exact (hf _ _ _ h.fetched).next
      · exact h.next

theorem acceptEntry {ring act t e} (h : Held p q s) (hf : ∀ t e s, Held p q s → Held p q (act t e s)) :
    Held p q (acceptEntry ring act t e s) := by
  unfold Machine.acceptEntry
  split
  · exact h.completeEntry
  · split
    · exact h.completeEntry
    · split
      · exact h.bump.completeEntry
      · exact hf _ _ _ h

theorem addBerth {b} (h : Held p q s) : Held p q (addBerth s b) := h.setServing

theorem lookupPrefix {b} (h : Held p q s) : Held p q (lookupPrefix s b) := Held.ite h h.mapPrefix.setBerth

theorem takeBerth {ring t' slot e toks} (h : Held p q s) : Held p q (takeBerth ring t' slot e toks s) :=
  Held.ite h.addBerth.lookupPrefix h.addBerth.sendPlace

theorem holdEntry {ring e} (h : Held p q s) : Held p q (holdEntry ring e s) := h.setRing

theorem generateFrom {ring t' e toks} (h : Held p q s) : Held p q (generateFrom ring t' e toks s) := by
  unfold Machine.generateFrom
  dsimp only
  split
  · exact h.reply
  · exact h.holdEntry
  · split
    · exact h.reply
    · exact Held.ite h.reply h.takeBerth

theorem doGenerate {ring t' e} (h : Held p q s) : Held p q (doGenerate ring t' e s) := by
  unfold Machine.doGenerate
  dsimp only
  split
  · exact h.reply
  · split
    · exact h.hostReadError.reply
    · exact h.reply
    · exact h.generateFrom

theorem releaseHeld {ring act e} (h : Held p q s) (hf : ∀ t e s, Held p q s → Held p q (act t e s)) :
    Held p q (releaseHeld ring act e s) := hf _ _ _ h.setRing

theorem submitRow {ring mine act} (h : Held p q s) (hf : ∀ t e s, Held p q s → Held p q (act t e s)) :
    NextHeld p q (submitRow ring mine act s) := by
  unfold Machine.submitRow
  split
  · split
    · exact (h.releaseHeld hf).next
    · exact h.next
  · exact h.ringRow fun _ _ _ h => h.acceptEntry hf

theorem execGenerateReq {ring} (h : Held p q s) : NextHeld p q (execGenerateReq ring s) :=
  h.submitRow (fun _ _ _ h => h.doGenerate)

theorem continueBerth {ring e toks b} (h : Held p q s) : Held p q (continueBerth ring e toks b s) :=
  Held.ite h.setBerth.setServing h.setBerth.setServing.sendPlace

theorem continueFrom {ring t' e toks b} (h : Held p q s) : Held p q (continueFrom ring t' e toks b s) := by
  unfold Machine.continueFrom
  split
  · exact h.reply
  · exact h.holdEntry
  · exact Held.ite h.reply (Held.ite h.reply h.continueBerth)

theorem doContinue {ring t' e} (h : Held p q s) : Held p q (doContinue ring t' e s) := by
  unfold Machine.doContinue
  split
  · exact h.reply
  · split
    · exact h.hostReadError.reply
    · exact h.reply
    · exact h.continueFrom

theorem execContinueReq {ring} (h : Held p q s) : NextHeld p q (execContinueReq ring s) :=
  h.submitRow (fun _ _ _ h => h.doContinue)

theorem maskRows {num} (h : Held p q s) : Held p q (maskRows s num) := h.modTurn

theorem cancelBerth {b detail} (h : Held p q s) : Held p q (cancelBerth s b detail) :=
  (h.maskRows.foldl fun _ _ h => h.sendCancel).finishNow

theorem markLate {t' tag} (h : Held p q s) : Held p q (markLate s t' tag) := h.setServing

theorem acceptCancel {ring t' e detail} (h : Held p q s) : Held p q (acceptCancel ring t' e detail s) := by
  unfold Machine.acceptCancel
  split
  · exact h.cancelBerth.reply
  · split
    · exact h.bump.reply
    · exact Held.ite h.reply h.bump.markLate.reply

theorem execCancelReq {ring} (h : Held p q s) : NextHeld p q (execCancelReq ring s) :=
  h.ringRow (fun _ _ _ h => h.acceptEntry (fun _ _ _ h1 => h1.acceptCancel))

theorem doClose {ring t' e} (h : Held p q s) : Held p q (doClose ring t' e s) := by
  unfold Machine.doClose
  split
  · exact h.acceptCancel
  · split
    · exact (Held.ite h.setBerth h.setBerth.sendFree).reply
    · exact h.reply

theorem execCloseReq {ring} (h : Held p q s) : NextHeld p q (execCloseReq ring s) :=
  h.ringRow (fun _ _ _ h => h.acceptEntry (fun _ _ _ h1 => h1.doClose))

theorem execParkLimit {b} (h : Held p q s) : NextHeld p q (execParkLimit b s) := by
  unfold Machine.execParkLimit
  split
  · split
    · exact (Held.ite (Held.ite h h.sendFree).freeBerth (Held.ite h h.sendFree).setBerth).next
    · exact h.next
  · exact h.next

theorem doSignal {ring t' e} (h : Held p q s) : Held p q (doSignal ring t' e s) := Held.ite h.signalNow.reply h.reply

theorem execSemSignal {ring} (h : Held p q s) : NextHeld p q (execSemSignal ring s) :=
  h.ringRow (fun _ _ _ h => h.acceptEntry (fun _ _ _ h1 => h1.doSignal))

theorem doWait {ring t' e} (h : Held p q s) : Held p q (doWait ring t' e s) :=
  Held.ite h.reply (Held.ite h.reply h.setRing)

theorem execSemWait {ring} (h : Held p q s) : NextHeld p q (execSemWait ring s) :=
  h.ringRow (fun _ _ _ h => h.acceptEntry (fun _ _ _ h1 => h1.doWait))

theorem execSemWaitSatisfied {ring} (h : Held p q s) : NextHeld p q (execSemWaitSatisfied ring s) := by
  unfold Machine.execSemWaitSatisfied
  dsimp only
  split
  · split
    · exact h.setRing.completeEntry.next
    · exact h.next
  · exact h.next

/-! ## Experts -/

theorem planeRead {a n} (h : Held p q s) : Held p q (planeRead s a n).1 := h.readHold

theorem planeWrite {a octs} (h : Held p q s) : Held p q (planeWrite s a octs) := h.writeHold

theorem chooseRow {e bias r} (h : Held p q s) : Held p q (chooseRow e bias s r).1 := by
  unfold Machine.chooseRow
  dsimp only
  split
  · exact h.planeRead.draw
  · exact h.planeRead

theorem failPoisoned {bad} (h : Held p q s) : Held p q (failPoisoned bad s) := Held.ite h.failAttempt h

theorem routeLayer {e t'} (h : Held p q s) : Held p q (routeLayer e t' s) :=
  (h.foldl_fst fun _ _ _ h => h.chooseRow).planeWrite.modTurn.failPoisoned

theorem execRoutingStep (h : Held p q s) : NextHeld p q (execRoutingStep s) := by
  unfold Machine.execRoutingStep
  split
  · exact h.next
  · split
    · split
      · exact h.routeLayer.next
      · exact h.modTurn.next
    · exact h.next

theorem appendRecord {r} (h : Held p q s) : Held p q (appendRecord s r) := Held.ite h (h.frame (by rfl)).bumpBy

theorem countRouting {slot r} (h : Held p q s) : Held p q (countRouting slot s r) := by
  unfold Machine.countRouting
  dsimp only
  split
  · exact h.bumpBy
  · exact Held.ite h.bumpBy (h.frame (by rfl)).appendRecord

theorem countRoutings {slot l} (h : Held p q s) : Held p q (countRoutings slot l s) :=
  h.foldl fun _ _ h => h.countRouting

theorem applyRingSize {val} (h : Held p q s) : AppliedHeld p q (applyRingSize val s) := by
  unfold Machine.applyRingSize
  dsimp only
  refine h.guarded fun s1 h1 => ?_
  exact (h.frame (by rfl)).accept

theorem applyExpert {ch idx sub val} (h : Held p q s) : AppliedHeld p q (applyExpert ch idx sub val s) := by
  unfold Machine.applyExpert
  dsimp only
  split
  · exact h.refuse
  · exact h.guarded (fun _ h1 => (h1.frame (by rfl)).accept)

theorem expertsBarrier (h : Held p q s) : Held p q (expertsBarrier s) := h

/-! ## Turns -/

theorem keepSlot {b} (h : Held p q s) : Held p q (keepSlot b s).1 := by
  unfold Machine.keepSlot
  split
  · exact h.setRing
  · exact h

theorem offerBerth {slot m f b} (h : Held p q (Forming.st f)) : Held p q (offerBerth slot m f b).st := by
  unfold Machine.offerBerth
  dsimp only
  split
  · exact h
  · split
    · exact h
    · exact h.keepSlot

theorem takeAhead {m e} (h : Held p q s) : Held p q (takeAhead m s e) := by
  unfold Machine.takeAhead
  dsimp only
  refine h.foldl fun s1 a1 h1 => ?_
  split
  · exact h1
  · exact Held.ite h1.setFor h1.setFor.markFull

theorem markLimit {e} (h : Held p q s) : Held p q (markLimit s e) := by
  unfold Machine.markLimit
  split
  · exact Held.ite h.markFull h
  · exact h

theorem goActive (h : Held p q s) : Held p q (goActive s) := h.setPower

theorem takePart {batch} (h : Held p q s) : Held p q (takePart batch s) := h.foldl fun _ _ h => h.setBerth

theorem foldl_offerBerth {slot m} (l : List Berth) :
    ∀ {f : Forming}, Held p q f.st → Held p q (l.foldl (Machine.offerBerth slot m) f).st := by
  induction l with
  | nil => exact id
  | cons _ _ ih => exact fun h => ih h.offerBerth

theorem formBatch (h : Held p q s) : OptionHeld p q (fun x => x.2.st) (formBatch s) := by
  unfold Machine.formBatch
  split
  · exact .none
  · split
    · exact .none
    · dsimp only
      split
      · exact .none
      · split
        · exact .none
        · split
          · exact .none
          · exact .some (foldl_offerBerth _ (f := ⟨s, [], 0, 0⟩) h)

theorem writeTables {t'} (h : Held p q s) : Held p q (writeTables t' s) := by
  unfold Machine.writeTables
  split
  · exact h
  · exact h.poke.foldl fun _ _ h1 => h1.poke

theorem loadCode {k slot} (h : Held p q s) : Held p q (loadCode k slot s).1 := by
  unfold Machine.loadCode
  split
  · exact h
  · split
    · exact h
    · dsimp only
      split
      · exact h.headPart
      · exact h.headPart.poke

theorem armDeck {k} (h : Held p q s) : Held p q (armDeck k s) := by
  unfold Machine.armDeck
  dsimp only
  split
  · split
    · exact h
    · split
      · exact (h.modDeck fun _ => by rfl).setIntegrity
      · exact h
  · exact h

theorem startLogical {t' e p'} (h : Held p q s) : Held p q (startLogical t' e s p') := by
  unfold Machine.startLogical
  split
  · exact Held.ite h.loadCode.failAttempt.modTurn h.loadCode.armDeck.startProgram.modTurn
  · exact h

theorem startQueued (h : Held p q s) : Held p q (startQueued s) := by
  unfold Machine.startQueued
  split
  · exact h
  · split
    · exact h
    · exact h.foldl fun _ _ h2 => h2.startLogical

theorem dispatchEntry {t' p'} (h : Held p q s) : Held p q (dispatchEntry t' p' s) :=
  Held.ite (Held.ite h.writeTables h).failAttempt (Held.ite h.writeTables h).modTurn.startQueued

theorem execLayerDispatch (h : Held p q s) : NextHeld p q (execLayerDispatch s) := by
  unfold Machine.execLayerDispatch
  split
  · exact h.next
  · split
    · exact h.next
    · split
      · exact h.startQueued.next
      · split
        · exact h.next
        · split
          · exact h.dispatchEntry.next
          · exact h.next

theorem planeLpddr {a n} (h : Held p q s) : Held p q (planeLpddr s a n).1 := by
  unfold Machine.planeLpddr
  dsimp only
  split
  · exact h.accessError
  · split
    · exact h.refuseLine
    · exact h.readLpddr

theorem readLogits {a n} (h : Held p q s) : Held p q (readLogits s a n).1 := by
  unfold Machine.readLogits
  split
  · exact h.planeRead
  · exact h.planeRead
  · exact h.foldl_fst fun _ _ _ h1 => h1.planeLpddr
  · exact h.memRead

theorem takeMismatch {n} (h : Held p q s) : Held p q (takeMismatch s n).1 := by
  unfold Machine.takeMismatch
  split
  · split
    · exact h.setIntegrity
    · exact h
  · exact h

theorem sampleErrors {n last} (h : Held p q s) : Held p q (sampleErrors n last s) :=
  Held.ite (h.foldl fun _ _ h => h.error).error (h.foldl fun _ _ h => h.error)

theorem sampleBerth {tag addr mismatches vocab b e} (h : Held p q s) :
    Held p q (sampleBerth tag addr mismatches vocab b e s) :=
  Held.ite h.readLogits.failAttempt (Held.ite h.readLogits.takeMismatch.sampleErrors.modTurn.failAttempt
    h.readLogits.takeMismatch.sampleErrors.modTurn.modTurn)

theorem execSampling {tag logits mismatches} (h : Held p q s) :
    NextHeld p q (execSampling tag logits mismatches s) := by
  unfold Machine.execSampling
  split
  · exact h.next
  · split
    · exact h.next
    · split
      · exact h.next
      · split
        · exact h.sampleBerth.next
        · exact h.next

/-! ## The commit point -/

theorem releaseSlot {ring} (h : Held p q s) : Held p q (releaseSlot ring s) := h.setRing

theorem dropTaken {b} (h : Held p q s) : Held p q (dropTaken b s) := (h.foldl fun _ _ h => h.unref).setBerth

theorem finishAt {b status detail a} (h : Held p q (Tally.st a)) : Held p q (finishAt b status detail a).st := by
  unfold Machine.finishAt
  split
  · exact h.finishBerth
  · exact h

theorem postTokens {num} (h : Held p q s) : Held p q (postTokens num s) := by
  unfold Machine.postTokens
  split
  · exact h.postCompletion
  · exact h

theorem progressOf {b slotHeld a} (h : Held p q (Tally.st a)) : Held p q (progressOf b slotHeld a).st := by
  unfold Machine.progressOf
  split
  · exact h.postTokens
  · exact h

theorem settleToken {b token slotHeld a} (h : Held p q (Tally.st a)) :
    Held p q (settleToken b token slotHeld a).st := by
  unfold Machine.settleToken
  dsimp only
  split
  · exact h.deliverToken
  · split
    · exact Held.finishAt h.deliverToken
    · split
      · exact Held.finishAt h.deliverToken
      · split
        · exact Held.finishAt h.deliverToken
        · exact Held.progressOf h.deliverToken

theorem released {b : Berth} {keep : Bool} {a : Tally} (h : Held p q a.st) :
    Held p q (if keep then { a with st := Machine.releaseSlot b.ring a.st } else a).st := by
  split
  · exact h.releaseSlot
  · exact h

theorem commitBerth {num rows keep cancelled token full a} (h : Held p q (Tally.st a)) :
    Held p q (commitBerth num rows keep cancelled token full a).st := by
  unfold Machine.commitBerth
  split
  · exact h
  · dsimp only
    split
    · exact h.released
    · split
      · exact Held.finishAt h.released.dropTaken
      · split
        · exact Held.settleToken h.released.setBerth
        · exact Held.progressOf h.released.setBerth
        · exact h.released.setBerth

theorem turnRecords {p' f} (h : Held p q s) : Held p q (turnRecords s p' f) := h.setIntegrity

theorem countRecovery {t'} (h : Held p q s) : Held p q (countRecovery t' s) :=
  Held.ite (Held.ite h h.turnRecords) (Held.ite h h.turnRecords).bumpBy.setVal.draw

theorem settleProgram {t'} (h : Held p q s) : Held p q (settleProgram t' s) := by
  unfold Machine.settleProgram
  split
  · exact h.silentError
  · exact h

theorem clearInjected (h : Held p q s) :
    Held p q { s with decks := s.decks.map (fun d => { d with injected := none, mismatch := none }) } :=
  h.mapDecks fun _ hd => hd

theorem endTurn {t} (h : Held p q s) : Held p q (endTurn t s) := (h.setIntegrity.clearInjected).frame (by rfl)

theorem turnSignals {l} (h : Held p q s) : Held p q (turnSignals l s) :=
  h.foldl fun _ _ h => Held.ite h.signalNow h.sendTo

theorem publishBatch {batch} (h : Held p q s) : Held p q (publishBatch batch s) :=
  h.foldl fun _ _ h => Held.ite h h.publishBerth

theorem foldl_commitBerth {α : Type} {l : List α} {f : Tally → α → Tally}
    (hf : ∀ a x, Held p q a.st → Held p q (f a x).st) : ∀ {a : Tally}, Held p q a.st → Held p q (l.foldl f a).st := by
  induction l with
  | nil => exact id
  | cons _ _ ih => exact fun h => ih (hf _ _ h)

theorem commitTurn {t drawn} (h : Held p q s) : Held p q (commitTurn t drawn s) := by
  have h1 := fun f hf => foldl_commitBerth (l := t.batch.zipIdx) (f := f) hf (a := ⟨s, [], 0⟩) h
  exact (((h1 _ fun _ _ h => h.commitBerth).publishBatch.countRoutings.foldl fun _ _ h => h.signalRequest
    ).turnSignals.bumpBy.countRecovery.settleProgram).endTurn

theorem sendReport {number outside l} (h : Held p q s) : Held p q (sendReport number outside l s) := h.sendMessage

theorem sendCommit {node slot number discards} (h : Held p q s) :
    Held p q (sendCommit node slot number discards s) := by
  unfold Machine.sendCommit
  dsimp only
  refine Held.sendMessage ?_
  split
  · exact h.tellTables
  · exact h

theorem sendActivations {node a number bs} (h : Held p q s) : Held p q (sendActivations node a number bs s) :=
  h.foldl fun _ _ h => h.sendTo

theorem handOn {t'} (h : Held p q s) : Held p q (handOn t' s) := by
  unfold Machine.handOn
  split
  · exact Held.ite h.planeRead.failAttempt h.planeRead.sendActivations.modTurn
  · exact h.modTurn

theorem commitHere {t'} (h : Held p q s) : Held p q (commitHere t' s) :=
  Held.ite h.commitTurn (Held.ite h.handOn (Held.ite h.sendReport.modTurn (h.commitTurn.foldl fun _ _ h =>
    h.sendCommit)))

theorem execCommitPoint (h : Held p q s) : NextHeld p q (execCommitPoint s) := by
  unfold Machine.execCommitPoint
  split
  · exact h.next
  · split
    · exact h.commitHere.retryStalled.next
    · exact h.next

theorem maskBatch {p' detail} (h : Held p q s) : Held p q (maskBatch p' detail s) := by
  unfold Machine.maskBatch
  split
  · exact h
  · refine h.foldl fun s2 a2 h2 => ?_
    split
    · exact Held.ite (Held.ite h2.maskRows h2.maskRows.setBerth) h2
    · exact h2

theorem dropCachedAt {a} (h : Held p q s) : OptionHeld p q id (dropCachedAt s a) := by
  intro x e
  obtain ⟨t, -, rfl⟩ := Option.map_eq_some_iff.1 e
  dsimp only [id]
  split
  · split
    · exact h.setTensor.freeLater
    · split
      · exact h.setTensor.freeLater
      · exact h
  · split
    · exact h.setTensor.freeLater
    · exact h

theorem suspectImage {slot a} (h : Held p q s) : Held p q (suspectImage slot a s) :=
  h.error.markSuspect.countFault.maskBatch

theorem handleSource {slot a} (h : Held p q s) : Held p q (handleSource slot s a) := by
  unfold Machine.handleSource
  split
  · next hd => exact h.dropCachedAt _ hd
  · split
    · exact h.suspectImage
    · split
      · exact h.error.damageSet.maskBatch
      · split
        · exact h.maskBatch
        · exact Held.ite h.setTiers h

theorem releaseSlots {t} (h : Held p q s) : Held p q (releaseSlots t s) := by
  refine h.foldl fun s a h => ?_
  split
  · split
    · exact h.releaseSlot
    · exact h
  · exact h

theorem stopBusy {t'} (h : Held p q s) : Held p q (stopBusy t' s) := h.foldl fun _ _ h => Held.ite h.resetDeck h

theorem dropTurn (h : Held p q s) : Held p q (dropTurn s) := by
  unfold Machine.dropTurn
  split
  · exact h.stopBusy.releaseSlots.settleProgram.endTurn
  · exact h

theorem replayLimit {t'} (h : Held p q s) : Held p q (replayLimit t' s) :=
  (Held.ite h.turnRecords.bump.countFault.maskBatch.sendReport h.turnRecords.bump.countFault.maskBatch).dropTurn

theorem restart {replay} (h : Held p q s) : Held p q (restart replay s) := by
  unfold Machine.restart
  split
  · exact h
  · exact (h.foldl fun _ _ h => h.setBerth).clearInjected.bumpBy.modTurn

theorem replayOrEnd (h : Held p q s) : Held p q (replayOrEnd s) := by
  unfold Machine.replayOrEnd
  split
  · exact h
  · exact Held.ite h.dropTurn (Held.ite h.replayLimit h.restart)

theorem programFailed {t' d pc cause} (h : Held p q s) : Held p q (programFailed t' d pc cause s) := by
  unfold Machine.programFailed
  dsimp only
  split
  · exact h.modTurn.replayOrEnd
  · exact Held.ite h.suspectImage.modTurn.dropTurn h.silentError.modTurn.replayOrEnd

theorem execAttemptAbandon (h : Held p q s) : NextHeld p q (execAttemptAbandon s) := by
  unfold Machine.execAttemptAbandon
  split
  · exact h.next
  · split
    · exact h.next
    · split
      · exact h.next
      · split
        · exact h.next
        · exact h.restart.next
      · exact h.programFailed.next
      · exact (h.foldl fun _ _ h3 => h3.handleSource).replayOrEnd.next

theorem execErrorReportCoalesce (h : Held p q s) : NextHeld p q (execErrorReportCoalesce s) := by
  unfold Machine.execErrorReportCoalesce
  dsimp only
  split
  · split
    · exact h.setIntegrity.msix.ibi.next
    · exact h.next
  · split
    · exact h.setIntegrity.msix.ibi.next
    · exact h.next
  · split
    · exact h.setIntegrity.msix.ibi.next
    · exact h.next
  · split
    · exact h.setIntegrity.msix.ibi.next
    · exact h.next

end Sys2Proof.Machine.Held
end

section
/-! SUPPORT and PROOFS. What every step keeps: resets, the barrier, media and the cascade. -/

namespace Sys2Proof.Machine.Held

open Sys2Proof.Claims

variable {p : Prop} {q : Media → Prop} {s t : State}

/-! ## Resets, start-up and power -/

theorem drainDecks (h : Held p q s) : Held p q (drainDecks s) := h.foldl fun _ _ h => h.drainAll

theorem stopBank {p'} (h : Held p q s) : Held p q (stopBank s p') := by
  unfold Machine.stopBank
  split
  · exact h.setFlash
  · split
    · exact h
    · exact h.setMem programmed_wf

theorem stopFlash (h : Held p q s) : Held p q (stopFlash s) := (h.foldl fun _ _ h => h.stopBank).setFlash.ownOperations

theorem clearPlanes (h : Held p anyMedia s) : Held p anyMedia (clearPlanes s) := by
  refine ⟨trivial, fun hp => ⟨(h.2 hp).1, (h.2 hp).2.1, fun k => ?_⟩⟩
  simp [Machine.clearPlanes, Vector.get_eq_getElem, Deck.reset, rising]

theorem resetMem_wf {m : Mem} {b : Bool} (h : m.wf = true) : (resetMem m b).wf = true :=
  Mem.clear_wf _ _ _ (Mem.clear_wf _ _ _ (Mem.clear_wf _ _ _ (Mem.clear_wf _ _ _ h)))

theorem clearForReset {cause} (h : Held p anyMedia s) : Held p anyMedia (clearForReset cause s) :=
  ((Held.ite h.drainDecks.closeAllBlocks h).stopFlash.clearPlanes.setMem resetMem_wf).setCustody

theorem counterRecords {old new} (h : Held p q s) : Held p q (counterRecords old new s) :=
  h.foldl fun _ _ h => Held.ite h h.event

theorem mendCounters (h : Held p q s) : Held p q (mendCounters s) := h.setFlash.setCustody.counterRecords

theorem runSlot {slot} (h : Held p q s) : Held p q (runSlot slot s) := h.setCustody

theorem runHarbour {cause} (h : Held p q s) : Held p q (runHarbour cause s) := h.setCustody

theorem chooseFirmware (h : Held p q s) : Held p q (chooseFirmware s) :=
  Held.ite h.setCustody.runSlot (Held.ite h.setCustody.runSlot h.setCustody.runHarbour)

theorem selectFirmware {cause} (h : Held p q s) : Held p q (selectFirmware cause s) :=
  (Held.ite h.setCustody.chooseFirmware h.setCustody.runHarbour).advanceCounter

theorem untrained {reason} (h : Held p q s) : Held p q (untrained reason s) := h.setTiers

theorem train (h : Held p q s) : Held p q (train s) := by
  unfold Machine.train
  split
  · exact h.untrained.event
  · split
    · exact h.untrained.event
    · exact h.setTiers

theorem trainStep {cause} (h : Held p q s) : Held p q (trainStep cause s) := Held.ite h.untrained (Held.ite h h.train)

theorem countIndeterminate (h : Held p q s) : Held p q (countIndeterminate s) := h.foldl fun _ _ h => h.bump.event

theorem mendSystemArea (h : Held p q s) : Held p q (mendSystemArea s) :=
  h.foldl fun _ _ h => h.eraseSector.dropJournalSector

theorem reeraseOthers (h : Held p q s) : Held p q (reeraseOthers s) := h.helmErases

theorem resumeClearing (h : Held p q s) : Held p q (resumeClearing s) := h.setFlash.beginAllClearing

theorem eraseSlot {slot} (h : Held p q s) : Held p q (eraseSlot slot s) := by
  unfold Machine.eraseSlot
  dsimp only
  split
  · exact h.setImage
  · exact h.helmErases

theorem recheckHead {slot} (h : Held p q s) : Held p q (recheckHead slot s) := by
  unfold Machine.recheckHead
  dsimp only
  split
  · exact h.keptHead.setImage.makeReady.setImage.event
  · exact h.keptHead.setImage.event

theorem restartSlot {slot} (h : Held p q s) : Held p q (restartSlot s slot) := by
  unfold Machine.restartSlot
  dsimp only
  split
  · exact h.setImage
  · split
    · exact h
    · exact h.eraseSlot
    · exact h.eraseSlot
    · exact h.recheckHead

theorem restartImages (h : Held p q s) : Held p q (restartImages s) :=
  Held.ite (h.foldl fun _ _ h => Held.ite h.setImage h) (h.foldl fun _ _ h => h.restartSlot)

theorem lateLifecycle (h : Held p q s) : Held p q (lateLifecycle s) := by
  unfold Machine.lateLifecycle
  split
  · exact h
  · exact Held.ite h h.event

theorem lateRecords (h : Held p q s) : Held p q (lateRecords s) :=
  Held.ite (Held.ite h.event h).event (Held.ite h.event h)

theorem loadMode (h : Held p q s) : Held p q (loadMode s) := Held.ite h.setVal.setIntegrity.event h.setIntegrity

theorem powerUp {cause} (h : Held p q s) : Held p q (powerUp cause s) := h.setPower

theorem startDecks (h : Held p q s) : Held p q (startDecks s) := Held.ite h.unpowerDecks h.powerDecks

theorem startPins {old} (h : Held p q s) : Held p q (startPins old s) := Held.ite h h.emit

theorem afterReady (h : Held p q s) : Held p q (afterReady s) :=
  (Held.ite h.restartImages h.restartImages.reeraseOthers).resumeClearing

theorem startUp {cause note} (h : Held p anyMedia s) (hf : ∀ s, Held p anyMedia s → Held p anyMedia (note s)) :
    Held p anyMedia (startUp cause note s) := by
  refine Held.afterReady <| Held.startPins <| Held.startDecks <| Held.powerUp <| Held.loadMode <| Held.setCustody <|
    Held.startRecord <| Held.lateRecords <| Held.lateLifecycle <| hf _ <| Held.scanJournal ?_
  exact h.loadParameters.setFerry.setFlash.countIndeterminate.mendSystemArea.mendCounters.selectFirmware.trainStep

theorem resetStart {cause note} (h : Held p anyMedia s) (hf : ∀ s, Held p anyMedia s → Held p anyMedia (note s)) :
    Held p anyMedia (resetStart cause note s) := h.clearForReset.startUp hf

theorem holdReset {cause} (h : Held p anyMedia s) : Held p anyMedia (holdReset cause s) :=
  (h.clearForReset.frame (by rfl)).setPower

theorem execPowerOnReset (h : Held p anyMedia s) : NextHeld p anyMedia (execPowerOnReset s) := by
  unfold Machine.execPowerOnReset
  split
  · exact (h.holdReset.frame (by rfl)).next
  · exact h.next

theorem execRstNAssert (h : Held p anyMedia s) : NextHeld p anyMedia (execRstNAssert s) := by
  unfold Machine.execRstNAssert
  split
  · exact (h.frame (by rfl)).next
  · exact (h.frame (by rfl)).next
  · exact (Held.ite h.holdReset.emit h.holdReset).next

theorem leaveReset (h : Held p anyMedia s) : Held p anyMedia (leaveReset s) :=
  Held.startUp (h.frame (by rfl)) fun _ h => h

theorem execResetDelay (h : Held p anyMedia s) : NextHeld p anyMedia (execResetDelay s) := by
  unfold Machine.execResetDelay
  split
  · split
    · exact (h.resetStart fun _ h => h).next
    · exact h.next
  · exact h.next

theorem execHelmWatchdog (h : Held p anyMedia s) : NextHeld p anyMedia (execHelmWatchdog s) := by
  unfold Machine.execHelmWatchdog
  split
  · exact h.next
  · exact (h.resetStart (fun _ h1 => h1.error)).next

theorem clearPlans {x y z w} (h : Held p anyMedia s) :
    Held p anyMedia { s with serving := x, media := y, ferry := z, tiers := w } := ⟨trivial, h.2⟩

theorem clearServing (h : Held p anyMedia s) : Held p anyMedia (clearServing s) := by
  have h1 : Held p anyMedia (s.serving.berths.foldl Machine.freeBerth s) := h.foldl fun _ _ h => h.freeBerth
  exact (Held.ite (h1.foldl fun _ _ h => h.sendClear) h1).closeAllBlocks.clearPlans.dropBuffers.setVal.event

theorem tamperPin {src} (h : Held p q s) : Held p q (tamperPin src s) := by
  unfold Machine.tamperPin
  split
  · exact h.frame (by rfl)
  · exact h

theorem tamperRecord {src} (h : Held p q s) : Held p q (tamperRecord src s) := h.event

theorem tamperMark {src} (h : Held p q s) : Held p q (tamperMark src s) := h.wipeSecure.advanceCounter.setCustody

theorem reportOffReady (h : Held p q s) : Held p q (reportOffReady s) := h.setPower.ibi.emit

theorem execOffPrepareDone (h : Held p q s) : NextHeld p q (execOffPrepareDone s) := by
  unfold Machine.execOffPrepareDone
  split
  · split
    · exact h.next
    · dsimp only
      split
      · split
        · exact h.drainDecks.closeAllBlocks.ferryToSlow.flushJournal.reportOffReady.dropBuffers.next
        · exact h.drainDecks.closeAllBlocks.ferryToSlow.flushJournal.next
      · split
        · exact h.drainDecks.closeAllBlocks.ferryToSlow.event.setCustody.flushJournal.reportOffReady.dropBuffers.next
        · exact h.drainDecks.closeAllBlocks.ferryToSlow.event.setCustody.flushJournal.next
  · exact h.next

theorem cutRecord (h : Held p q s) : Held p q (cutRecord s) := by
  unfold Machine.cutRecord
  dsimp only
  split
  · exact h
  · split
    · exact h.draw
    · exact h.setJournal.draw
    · exact h.setJournal.draw

theorem settleStore (h : Held p q s) : Held p q (settleStore s) := by
  unfold Machine.settleStore
  split
  · exact h
  · exact Held.ite h.finishStore.draw h.draw

theorem cutWord_wf {old m : Mem} {draw a i : Nat} (h : m.wf = true) : (cutWord old draw a i m).wf = true := by
  unfold cutWord
  dsimp only
  split
  · exact Mem.setMark_wf _ _ _ (Mem.setBytes_wf _ _ _ h)
  · exact h
  · exact Mem.setMark_wf _ _ _ h

theorem cutPulse {old p'} (h : Held p q s) : Held p q (cutPulse old s p') := by
  unfold Machine.cutPulse
  split
  · exact h
  · split
    · exact h
    · exact (h.setMem fun hm => List.foldlRecOn (motive := fun m : Mem => m.wf = true) _ _ hm
        fun _ hm _ _ => cutWord_wf hm).draw

theorem powerOff (h : Held p anyMedia s) : Held p anyMedia (powerOff s) :=
  (h.clearForReset.frame (by rfl)).unpowerDecks.setPower

theorem execPowerLoss (h : Held p anyMedia s) : NextHeld p anyMedia (execPowerLoss s) := by
  unfold Machine.execPowerLoss
  split
  · exact h.next
  · exact ((h.settleStore.cutRecord.powerOff.frame (by rfl)).foldl fun _ _ h1 => h1.cutPulse).setFlash.setCustody.next

theorem execRailsRemoved (h : Held p anyMedia s) : NextHeld p anyMedia (execRailsRemoved s) := by
  unfold Machine.execRailsRemoved
  split
  · exact h.powerOff.next
  · exact h.next

theorem execDozeEntry (h : Held p q s) : NextHeld p q (execDozeEntry s) := by
  unfold Machine.execDozeEntry
  split
  · exact h.closeAllBlocks.dropBuffers.setPower.next
  · exact h.next

theorem askL1 (h : Held p q s) : Held p q (askL1 s) := Held.ite h.setPower.emit h

theorem execDozeEntryDone (h : Held p q s) : NextHeld p q (execDozeEntryDone s) := by
  unfold Machine.execDozeEntryDone
  split
  · exact h.unpowerDecks.clearDeckStores.ferryToSlow.setPower.askL1.next
  · exact h.next

theorem enterReady (h : Held p q s) : Held p q (enterReady s) := h.ferryRetrain.setPower.powerDecks

theorem moveDownAll : ∀ {l : List Tensor} {s : State}, Held p q s → OptionHeld p q id (moveDownAll l s)
  | [], _, h => .some h
  | _ :: _, s, h => by
    unfold Machine.moveDownAll
    split
    · exact .none
    · dsimp only
      split
      · exact moveDownAll h.rehome.setPower
      · exact .none

theorem dropNearCopies (h : Held p q s) : Held p q (dropNearCopies s) :=
  (h.foldl fun _ _ h => h.freePlace).setTiers.setPower

theorem execWatchEntry (h : Held p q s) : NextHeld p q (execWatchEntry s) := by
  unfold Machine.execWatchEntry
  split
  · dsimp only
    split
    · exact h.next
    · next s1 hmoved =>
      have h1 : Held p q s1 := h.landAll.moveDownAll _ hmoved
      exact h1.dropNearCopies.closeAllBlocks.dropBuffers.setPower.next
  · exact h.next

theorem setBoard {b : Board} (h : Held p q s) : Held p q { s with board := b } := h

theorem execWatchEntryDone (h : Held p q s) : NextHeld p q (execWatchEntryDone s) := by
  unfold Machine.execWatchEntryDone
  split
  · exact (h.setMem (Mem.clear_wf _ _ _)).setPower.setBoard.emit.next
  · exact h.next

theorem silentFault {cls} (h : Held p q s) : Held p q (silentFault cls s) := Held.ite (h.setDeck (by rfl)) h

theorem mishap (h : Held p q s) : Held p q (mishap s) := by
  unfold Machine.mishap
  split
  · exact h.setCustody.draw
  · exact h.setPower.draw
  · exact h.setTiers.draw
  · exact h.setTiers.draw
  · exact h.silentFault.draw
  · exact h.silentFault.draw
  · exact h.draw

theorem tick (h : Held p q s) : Held p q (tick s) := Held.ite h.passProgress.mishap h

/-! ## The turn barrier -/

theorem endAtBarrier {status detail b} (h : Held p q s) : Held p q (endAtBarrier status detail s b) :=
  Held.ite h.finishNow h.finishNow.sendReport

theorem endAll {p' status detail} (h : Held p q s) : Held p q (endAll p' status detail s) :=
  h.foldl fun _ _ h => h.endAtBarrier

theorem refill {b} (h : Held p q s) : Held p q (refill s b) := h.dropSets.setBerth

theorem resettle {p'} (h : Held p q s) : Held p q (resettle p' s) := h.foldl fun _ _ h => Held.ite h.refill h.freeBerth

theorem endLost (h : Held p q s) : Held p q (endLost s) := by
  unfold Machine.endLost
  dsimp only
  refine Held.setFerry ?_
  refine h.foldl fun s1 a1 h1 => ?_
  split
  · exact Held.ite h1.finishNow h1
  · exact h1

theorem endImage {slot} (h : Held p q s) : Held p q (endImage s slot) := by
  unfold Machine.endImage
  split
  · exact h
  · exact h.endAll.setImage

theorem endImages (h : Held p q s) : Held p q (endImages s) := h.foldl fun _ _ h => h.endImage

theorem endFailing (h : Held p q s) : Held p q (endFailing s) := h.endAll

theorem settleDamaged (h : Held p q s) : Held p q (settleDamaged s) := h.endAll.resettle.foldl fun _ _ h => h.refill

theorem firstSwapBarrier (h : Held p q s) : Held p q (firstSwapBarrier s) := by
  unfold Machine.firstSwapBarrier
  split
  · exact h
  · exact Held.ite (h.endAll.resettle.foldl fun _ _ h1 => h1.refill).withdrawSlot h

theorem endWithoutDecks (h : Held p q s) : Held p q (endWithoutDecks s) := Held.ite h.endAll h

theorem reclaim (h : Held p q s) : Held p q (reclaim s) := h.foldl fun _ _ h => Held.ite h.freeBerth h.dropSets

theorem marginsAtBarrier (h : Held p q s) : Held p q (marginsAtBarrier s) :=
  Held.ite ((h.foldl fun _ _ h => h.stepDeck).foldl fun _ _ h => h.applyMargin).setIntegrity ((h.foldl fun _ _ h =>
    h.stepDeck).foldl fun _ _ h => h.applyMargin).setIntegrity.drainDecks.powerDecks

theorem powerAtBarrier (h : Held p q s) : Held p q (powerAtBarrier s) := h.throttleStep.emergencyExit.pointAtBarrier

theorem tryEach {act l} (h : Held p q s) (hf : ∀ s n, Held p q s → Held p q (act s n).1) :
    Held p q (tryEach act l s).1 := h.foldl_fst fun _ _ _ h => hf _ _ h

theorem copiesBack (h : Held p q s) : Held p q (copiesBack s) := (h.tryEach (fun _ _ h => h.refetchCopy)).setPower

theorem tensorsBack (h : Held p q s) : Held p q (tensorsBack s) :=
  (h.tryEach (fun _ _ h => h.rehome)).setPower.copiesBack

theorem layoutAtBarrier (h : Held p q s) : Held p q (layoutAtBarrier s) := Held.ite h h.setFerry

theorem barrierEffects (h : Held p anyMedia s) : Held p anyMedia (barrierEffects s) := by
  have h1 : Held p anyMedia (if s.serving.clearDue then Machine.clearServing s else s) := Held.ite h.clearServing h
  have h2 := h1.layoutAtBarrier.endLost.revokeImages.endImages.endFailing.settleDamaged.firstSwapBarrier.reclaim
  have h3 := h2.marginsAtBarrier.powerAtBarrier.tierBarrier.tensorsBack.expertsBarrier.deckResets.endWithoutDecks
  exact h3.swapAtBarrier.setServing

theorem pipelineStart {m t'} (h : Held p q s) : Held p q (pipelineStart m t' s) :=
  (((h.foldl fun _ _ h => h.takeAhead).foldl fun _ _ h => h.markLimit).foldl fun _ _ h => h.tellTables.sendMessage)

theorem takeWord {slot w} (h : Held p q s) : Held p q (takeWord slot s w) := Held.ite h.zeroRange h

theorem startStage {m cancels} (h : Held p q s) : Held p q (startStage m cancels s) := by
  unfold Machine.startStage
  dsimp only
  split
  · exact h.setServing.sendReport
  · exact (h.setServing.takeTables.foldl fun _ _ h => h.foldl fun _ _ h =>
        h.takeWord).setServing.bumpBy.goActive.setTurn

theorem startWaiting (h : Held p q s) : Held p q (startWaiting s) := by
  unfold Machine.startWaiting
  split
  · exact h.setFerry.startStage
  · exact h

theorem startTurn {slot f} (h : Held p q (Forming.st f)) : Held p q (startTurn slot f) := by
  unfold Machine.startTurn
  dsimp only
  split
  · exact h.bumpBy.takePart.goActive.pipelineStart
  · exact h.bumpBy.takePart.goActive.setTurn

theorem readyAtBarrier (h : Held p q s) : Held p q (readyAtBarrier s) := by
  unfold Machine.readyAtBarrier
  dsimp only
  split
  · exact Held.ite h.setPower h
  · exact h

theorem formNext (h : Held p q s) : Held p q (formNext s) := by
  unfold Machine.formNext
  split
  · exact h.startWaiting
  · split
    · next hf => exact Held.startTurn (h.formBatch _ hf)
    · exact h.readyAtBarrier

theorem runTransition {counter leaves enters} (h : Held p anyMedia s) :
    Held p anyMedia (runTransition counter leaves enters s) := by
  have h1 : Held p anyMedia (s.serving.berths.foldl Machine.freeBerth s) := h.foldl fun _ _ h => h.freeBerth
  exact h1.wipeSecure.advanceCounter.event.flushJournal.resetStart fun _ h => h

theorem meetBarrier (h : Held p anyMedia s) : Held p anyMedia (meetBarrier s) :=
  Held.ite (Held.ite h.copiesBack h.copiesBack.setServing.formNext) (Held.ite h.barrierEffects
    h.barrierEffects.formNext)

theorem idleBarrier (h : Held p anyMedia s) : Held p anyMedia (idleBarrier s) := Held.ite h.clearServing h

theorem execTurnBarrier (h : Held p anyMedia s) : NextHeld p anyMedia (execTurnBarrier s) := by
  unfold Machine.execTurnBarrier
  split
  · split
    · exact h.runTransition.next
    · exact h.next
  · split
    · exact h.meetBarrier.next
    · exact h.idleBarrier.next

/-! ## The video engine -/

theorem setMedia {m} (h : Held p anyMedia s) : Held p anyMedia (s.setMedia m) := ⟨trivial, h.2⟩

theorem setCtx {c x2} (h : Held p anyMedia s) : Held p anyMedia (State.setCtx s c x2) := h.setMedia

theorem setCam {k x2} (h : Held p anyMedia s) : Held p anyMedia (State.setCam s k x2) := h.setMedia

theorem modBuffer {b f} (h : Held p anyMedia s) : Held p anyMedia (State.modBuffer s b f) := h.setMedia

theorem mediaMsix (h : Held p q s) : Held p q (mediaMsix s) := h.msix

theorem countPosted (h : Held p anyMedia s) : Held p anyMedia (countPosted s) := h.setMedia

theorem ctxPost {c x2} (h : Held p anyMedia s) : Held p anyMedia (ctxPost s c x2) := h.setCtx.countPosted.mediaMsix

theorem deliver {b} (h : Held p anyMedia s) : Held p anyMedia (deliver s b) := h.modBuffer

theorem ctxSignal {c} (h : Held p q s) : Held p q (ctxSignal s c) := Held.ite h.signalNow h

theorem postFrame {c w} (h : Held p anyMedia s) : Held p anyMedia (postFrame s c w) :=
  Held.ite (Held.ite h.deliver h.modBuffer).setCtx.ctxPost.ctxSignal (Held.ite h.deliver h.modBuffer).setCtx.ctxPost

theorem outputFrames {c k} (h : Held p anyMedia s) : Held p anyMedia (outputFrames s c k) :=
  h.setCtx.foldl fun _ _ h => h.postFrame

theorem jobDone {c status j} (h : Held p anyMedia s) : Held p anyMedia (jobDone s c status j) := h.ctxPost

theorem abortJobs {c} (h : Held p anyMedia s) : Held p anyMedia (abortJobs s c) := h.setCtx.foldl fun _ _ h => h.jobDone

theorem clearRefMarks {c} (h : Held p anyMedia s) : Held p anyMedia (clearRefMarks s c) := h.setMedia.setCtx

theorem atBoundary {c} (h : Held p anyMedia s) : Held p anyMedia (atBoundary s c) := by
  refine Held.ite h (Held.ite (Held.setCtx (Held.clearRefMarks (Held.abortJobs (Held.ite (Held.setCtx
    (Held.clearRefMarks ?_)) ?_)))) (Held.ite (Held.setCtx (Held.clearRefMarks ?_)) ?_))
  all_goals
    split
    · exact h.setCtx
    · exact h

theorem onCtx {ch act} (h : Held p q s) (hf : ∀ c s, Held p q s → AppliedHeld p q (act c s)) :
    AppliedHeld p q (onCtx ch act s) := by
  unfold Machine.onCtx
  split
  · exact hf _ _ h
  · exact h

theorem openCtx {c} (h : Held p anyMedia s) : AppliedHeld p anyMedia (openCtx c s) :=
  h.guarded (fun _ h => h.setCtx.accept)

theorem pauseCtx {c} (h : Held p anyMedia s) : AppliedHeld p anyMedia (pauseCtx c s) :=
  h.guarded (fun _ h => h.setCtx.accept)

theorem resumeCtx {c} (h : Held p anyMedia s) : AppliedHeld p anyMedia (resumeCtx c s) :=
  h.guarded (fun _ h => h.setCtx.accept)

theorem closeCtx {c} (h : Held p anyMedia s) : AppliedHeld p anyMedia (closeCtx c s) :=
  h.guarded (fun _ h => h.setCtx.atBoundary.accept)

theorem flushCtx {c} (h : Held p anyMedia s) : AppliedHeld p anyMedia (flushCtx c s) :=
  h.guarded (fun _ h => h.abortJobs.setCtx.atBoundary.accept)

theorem applyContextCommand {ch val} (h : Held p anyMedia s) :
    AppliedHeld p anyMedia (applyContextCommand ch val s) := by
  unfold Machine.applyContextCommand
  split
  · exact h.onCtx (fun _ _ h1 => h1.openCtx)
  · exact h.onCtx (fun _ _ h1 => h1.pauseCtx)
  · exact h.onCtx (fun _ _ h1 => h1.resumeCtx)
  · exact h.onCtx (fun _ _ h1 => h1.closeCtx)
  · exact h.onCtx (fun _ _ h1 => h1.flushCtx)
  · exact h.refuse

theorem writeContextRecord {val c} (h : Held p anyMedia s) : AppliedHeld p anyMedia (writeContextRecord val c s) := by
  unfold Machine.writeContextRecord
  split
  · exact h.setCtx.accept
  · exact h.guarded (fun _ h1 => h1.setCtx.atBoundary.accept)

theorem applyContextRecord {ch val} (h : Held p anyMedia s) : AppliedHeld p anyMedia (applyContextRecord ch val s) :=
  h.guarded (fun _ h => h.onCtx (fun _ _ h1 => h1.writeContextRecord))

theorem applyJob {val} (h : Held p anyMedia s) : AppliedHeld p anyMedia (applyJob val s) :=
  h.guarded (fun _ h => h.setCtx.accept)

theorem execJobConsumed {c} (h : Held p anyMedia s) : NextHeld p anyMedia (execJobConsumed c s) := by
  unfold Machine.execJobConsumed
  dsimp only
  split
  · exact h.next
  · split
    · exact (Held.ite h.setCtx.jobDone.outputFrames h.setCtx.jobDone).next
    · exact h.next

theorem applyRegister {val} (h : Held p anyMedia s) : AppliedHeld p anyMedia (applyRegister val s) :=
  h.guarded (fun _ h => h.setMedia.accept)

theorem applyRelease {val} (h : Held p anyMedia s) : AppliedHeld p anyMedia (applyRelease val s) :=
  h.guarded (fun _ h => h.modBuffer.accept)

theorem startFrame {c} (h : Held p anyMedia s) : Held p anyMedia (startFrame s c) := by
  unfold Machine.startFrame
  dsimp only
  split
  · exact h.setCtx.modBuffer
  · exact h.setCtx

theorem execNextFrameStart {pipe} (h : Held p anyMedia s) : NextHeld p anyMedia (execNextFrameStart pipe s) := by
  unfold Machine.execNextFrameStart
  dsimp only
  split
  · exact h.next
  · split
    · exact h.next
    · exact (Held.ite (h.foldl fun _ _ h2 => h2.setCtx).startFrame (h.foldl fun _ _ h2 =>
          h2.setCtx).startFrame.setMedia).next

theorem engineRead {a n} (h : Held p q s) : Held p q (engineRead s a n).1 := h.memRead

theorem writePlaneLine {m base pitch rows p'} (h : Held p q s) : Held p q (writePlaneLine m base pitch rows s p') :=
  Held.ite h.bump (Held.ite h.memWrite h.memWrite.bump)

theorem writePlane {m base pitch rows lines} (h : Held p q s) : Held p q (writePlane m base pitch rows lines s) :=
  h.foldl fun _ _ h => h.writePlaneLine

theorem refLines {base pitch rows width n} (h : Held p q s) : Held p q (refLines s base pitch rows width n).1 :=
  h.foldl_fst fun _ _ _ h => h.engineRead

theorem writePicture {c b facts} (h : Held p q s) : Held p q (writePicture s c b facts) := by
  unfold Machine.writePicture
  split
  · exact h
  · dsimp only
    refine Held.writePlane ?_
    refine Held.writePlane ?_
    split
    · refine Held.refLines ?_
      split
      · exact h.refLines
      · exact h
    · dsimp only
      exact h

theorem dropRefs {c bs} (h : Held p anyMedia s) : Held p anyMedia (dropRefs s c bs) :=
  (h.foldl fun _ _ h => h.modBuffer).setCtx

theorem frameOver {c} (h : Held p anyMedia s) : Held p anyMedia (frameOver s c) := h.setCtx.atBoundary

theorem notDecoded {c b facts} (h : Held p anyMedia s) : Held p anyMedia (notDecoded s c b facts) :=
  h.modBuffer.setCtx.outputFrames

theorem decodeDone {c b facts timeout} (h : Held p anyMedia s) : Held p anyMedia (decodeDone s c b facts timeout) :=
  Held.ite h.notDecoded (Held.ite (Held.ite (Held.ite h.setCtx.writePicture.dropRefs
    h.setCtx.writePicture.dropRefs.bump.event).bumpBy.modBuffer.setCtx (Held.ite h.setCtx.writePicture.dropRefs
    h.setCtx.writePicture.dropRefs.bump.event).bumpBy).setCtx (Held.ite (Held.ite h.setCtx.writePicture.dropRefs
    h.setCtx.writePicture.dropRefs.bump.event).bumpBy.modBuffer.setCtx (Held.ite h.setCtx.writePicture.dropRefs
    h.setCtx.writePicture.dropRefs.bump.event).bumpBy).modBuffer).outputFrames

theorem inputPoison {b} (h : Held p q s) : Held p q (inputPoison s b).1 := by
  unfold Machine.inputPoison
  split
  · exact h
  · exact h.refLines.refLines

theorem encodeRefs {c facts long} (h : Held p anyMedia s) : Held p anyMedia (encodeRefs s c facts long) := by
  unfold Machine.encodeRefs
  dsimp only
  refine Held.setCtx ?_
  split
  · exact h.dropRefs.writePicture.modBuffer.setCtx
  · exact h.dropRefs

theorem encodeDone {c j facts} (h : Held p anyMedia s) : Held p anyMedia (encodeDone s c j facts) := by
  unfold Machine.encodeDone
  dsimp only
  split
  · refine Held.ctxPost ?_
    split
    · exact h.inputPoison.setCtx.modBuffer
    · exact h.inputPoison.setCtx
  · exact h.inputPoison.setCtx.hostWrite.encodeRefs.modBuffer.ctxPost.ctxSignal

theorem execFrameDone {c facts} (h : Held p anyMedia s) : NextHeld p anyMedia (execFrameDone c facts s) := by
  unfold Machine.execFrameDone
  dsimp only
  split
  · exact h.next
  · split
    · split
      · exact h.decodeDone.frameOver.next
      · exact h.next
    · split
      · exact h.encodeDone.frameOver.next
      · exact h.next

theorem execFrameBudget {c facts} (h : Held p anyMedia s) : NextHeld p anyMedia (execFrameBudget c facts s) := by
  unfold Machine.execFrameBudget
  dsimp only
  split
  · exact h.next
  · split
    · exact h.decodeDone.frameOver.next
    · exact h.next

theorem consumeMedia {k n} (h : Held p anyMedia s) : Held p anyMedia (consumeMedia k n s) := Held.ite h.setCtx h.setCam

/-! ## The camera -/

theorem applyCameraRecord {k val} (h : Held p anyMedia s) : AppliedHeld p anyMedia (applyCameraRecord k val s) :=
  h.guarded (fun _ h => h.setVal.setCam.accept)

theorem applyReceiver {val} (h : Held p anyMedia s) : AppliedHeld p anyMedia (applyReceiver val s) :=
  h.guarded (fun _ h => h.setVal.setMedia.accept)

theorem csiDiscard (h : Held p q s) : Held p q (csiDiscard s) := h.bump

theorem camPost {k status buffer flags} (h : Held p anyMedia s) : Held p anyMedia (camPost s k status buffer flags) :=
  h.setCam.countPosted.mediaMsix

theorem camDrop {k buffer flags} (h : Held p anyMedia s) : Held p anyMedia (camDrop s k buffer flags) := by
  unfold Machine.camDrop
  dsimp only
  refine Held.bump ?_
  refine Held.camPost ?_
  split
  · exact h.modBuffer
  · exact h

theorem camDeliver {k b r lines flags} (h : Held p anyMedia s) : Held p anyMedia (camDeliver s k b r lines flags) := by
  unfold Machine.camDeliver
  split
  · exact h.camDrop
  · exact Held.ite h.writePlane.writePlane.deliver.camPost.signalNow h.writePlane.writePlane.deliver.camPost

theorem camFrameEnd {k} (h : Held p anyMedia s) : Held p anyMedia (camFrameEnd s k) := by
  unfold Machine.camFrameEnd
  dsimp only
  split
  · exact Held.ite h.setCam.camDrop h.setCam.camDeliver
  · exact h.setCam.camDrop

theorem receiverStart {lp11} (h : Held p anyMedia s) : Held p anyMedia (receiverStart lp11 s) := by
  unfold Machine.receiverStart
  split
  · exact Held.ite h.setMedia h
  · exact h

theorem camFrameStart {k} (h : Held p anyMedia s) : Held p anyMedia (camFrameStart s k) := by
  unfold Machine.camFrameStart
  dsimp only
  split
  · split
    · split
      · split
        · exact h.camFrameEnd.setCam.setCam.modBuffer
        · exact h.camFrameEnd.setCam.setCam
      · exact h.camFrameEnd.setCam
    · split
      · split
        · exact h.setCam.setCam.modBuffer
        · exact h.setCam.setCam
      · exact h.setCam
  · split
    · split
      · split
        · exact h.camFrameEnd.setCam.modBuffer
        · exact h.camFrameEnd.setCam
      · exact h.camFrameEnd
    · split
      · split
        · exact h.setCam.modBuffer
        · exact h.setCam
      · exact h

theorem shortPacketRow {h' act} (h : Held p anyMedia s) (hf : ∀ s k, Held p anyMedia s → Held p anyMedia (act s k)) :
    NextHeld p anyMedia (shortPacketRow h' act s) := by
  unfold Machine.shortPacketRow
  split
  · exact h.next
  · split
    · exact h.csiDiscard.next
    · exact (h.foldl hf).next

theorem execLongPacket {p'} (h : Held p anyMedia s) : NextHeld p anyMedia (execLongPacket p' s) := by
  unfold Machine.execLongPacket
  split
  · exact h.next
  · split
    · exact h.csiDiscard.next
    · exact (h.foldl fun _ _ h2 => Held.ite h2.setCam h2.csiDiscard).next

/-! ## Joining -/

theorem pilotRoutes (h : Held p q s) : Held p q (pilotRoutes s) := h.setFerry.setFerry

theorem sendJoin {h' payload} (h : Held p q s) : Held p q (sendJoin s h' payload) := h.enqueue

theorem sendJoins (h : Held p q s) : Held p q (sendJoins s) := by
  unfold Machine.sendJoins
  dsimp only
  refine Held.draw ?_
  refine h.setFerry.foldl fun s1 a1 h1 => ?_
  split
  · exact h1.sendJoin
  · exact h1

theorem failReads {n} (h : Held p q s) : Held p q (failReads s n) := h.setFerry

theorem commandsLose {gone} (h : Held p q s) : Held p q (commandsLose gone s) := h.jobLoses.swapLoses

theorem loseNode {reason n} (h : Held p q s) : Held p q (loseNode reason s n) :=
  (((Held.ite h.dropTurn h).setFerry.foldl fun _ _ h => h.freeBerth).failReads.commandsLose.foldl fun _ _ h =>
    h.sendFlowless).bump.event

theorem dropTables (h : Held p q s) : Held p q (dropTables s) := Held.ite (h.foldl fun _ _ h => h.freeSet).setKv h

theorem unmoor {reason} (h : Held p q s) : Held p q (unmoor reason s) := by
  refine (((Held.foldl ?_ fun _ _ h => h.freeBerth).dropTables.foldl fun _ _ h => h.failReads).commandsLose).setFerry
  split
  · exact Held.ite h.dropTurn h
  · exact h

theorem disband {reason} (h : Held p q s) : Held p q (disband reason s) :=
  (Held.ite (h.foldl fun _ _ h => h.loseNode) h).unmoor

theorem pilotSettles {reason} (h : Held p q s) : Held p q (pilotSettles reason s) :=
  Held.ite (h.pilotRoutes.foldl fun _ _ h => h.loseNode).unmoor (h.pilotRoutes.foldl fun _ _ h =>
    h.loseNode).pilotRoutes.sendJoins

theorem cutOff (h : Held p q s) : Held p q (cutOff s) := h.unmoor.event.foldl fun _ _ h => Held.ite h.sendNeighbour h

theorem memberSettles {dead neighbour} (h : Held p q s) : Held p q (memberSettles dead neighbour s) :=
  Held.ite h.setFerry.cutOff h.setFerry.sendFlowless

theorem wayLost {port} (h : Held p q s) : Held p q (wayLost port s) := by
  unfold Machine.wayLost
  dsimp only
  split
  · split
    · exact h.setFerry.setFerry
    · exact h.setFerry.cutOff
  · exact h

theorem innerLinkDown (h : Held p q s) : Held p q (innerLinkDown s) := h.setFerry.draw.pilotSettles

theorem resendOver {l} (h : Held p q s) : Held p q (resendOver l s) :=
  (h.foldl fun _ _ h => Held.ite h.leaveBuffer (h.foldl fun _ _ h1 => h1.setPort)).foldl fun _ _ h => h.pump.askFullRate

theorem linkDown {n} (h : Held p q s) : Held p q (linkDown n s) := by
  unfold Machine.linkDown
  dsimp only
  refine Held.resendOver ?_
  split
  · exact h.setPort.setFerry.pilotSettles
  · exact h.setPort.setFerry.memberSettles
  · exact Held.ite h.setPort.setFerry.setFerry h.setPort.setFerry

theorem resetTx {node cls} (h : Held p q s) : Held p q (resetTx node cls s) := h.setFerry.foldl fun _ _ h => h.sendTo

theorem resetRx {key} (h : Held p q s) : Held p q (resetRx key s) := h.setFerry

theorem resetEnds {src tag dst} (h : Held p q s) : Held p q (resetEnds src tag dst s) :=
  Held.ite (Held.ite (Held.ite h.resetTx h).resetRx (Held.ite h.resetTx h)) (Held.ite (Held.ite (Held.ite h.resetTx
    h).resetRx (Held.ite h.resetTx h)).failReads (Held.ite (Held.ite (Held.ite h.resetTx h).resetRx (Held.ite h.resetTx
    h)).failReads (Held.ite (Held.ite h.resetTx h).resetRx (Held.ite h.resetTx h))))

theorem recast (h : Held p q s) : Held p q (recast s) := by
  unfold Machine.recast
  split
  · exact h.castParts
  · exact h

theorem rerunTurn (h : Held p q s) : Held p q (rerunTurn s) := by
  unfold Machine.rerunTurn
  split
  · exact h
  · split
    · exact h.dropTurn
    · exact (h.stopBusy.settleProgram.endTurn.foldl fun _ _ h2 => h2.setBerth).pipelineStart

theorem resetFlow {src tag dst} (h : Held p q s) : Held p q (resetFlow src tag dst s) :=
  Held.ite (Held.ite (h.foldl fun _ _ h => h.sendFlowless).resetEnds.recast (h.foldl fun _ _ h =>
    h.sendFlowless).resetEnds).rerunTurn (Held.ite (h.foldl fun _ _ h => h.sendFlowless).resetEnds.recast (h.foldl fun
    _ _ h => h.sendFlowless).resetEnds)

theorem settleGaps (h : Held p q s) : Held p q (settleGaps s) := Held.ite (h.foldl fun _ _ h => h.resetFlow) h

theorem execLinkTrained {port failed} (h : Held p q s) : NextHeld p q (execLinkTrained port failed s) := by
  unfold Machine.execLinkTrained
  dsimp only
  split
  · exact h.next
  · split
    · split
      · exact h.setPort.sendNeighbour.next
      · exact h.setPort.pump.feedBranches.next
    · exact (Held.ite h.linkDown h).next

theorem resendOrDown {n} (h : Held p q s) : Held p q (resendOrDown n s) := Held.ite h.linkDown h.resend

theorem execRetryTimeout {port} (h : Held p q s) : NextHeld p q (execRetryTimeout port s) := by
  unfold Machine.execRetryTimeout
  dsimp only
  split
  · exact h.next
  · exact h.resendOrDown.next

theorem execKeepaliveSilence {port} (h : Held p q s) : NextHeld p q (execKeepaliveSilence port s) := by
  unfold Machine.execKeepaliveSilence
  dsimp only
  split
  · exact h.linkDown.next
  · exact h.next

theorem keepHello {h'} (h : Held p q s) : Held p q (keepHello h' s) := Held.ite h.setFerry.setPort h.setFerry

theorem relayHello {p' port} (h : Held p q s) : Held p q (relayHello p' port s) := Held.ite h.queueTo h

theorem takeHello {port p'} (h : Held p q s) : Held p q (takeHello port p' s) := by
  unfold Machine.takeHello
  split
  · exact h
  · exact Held.ite h h.relayHello.keepHello

theorem refuseMember {h' reason} (h : Held p q s) : Held p q (refuseMember s h' reason) := h.bump.event.sendJoin

theorem copySem {node n} (h : Held p q s) : Held p q (copySem node s n) := h.foldl fun _ _ h => h.memberWrite

theorem copyAll {node} (h : Held p q s) : Held p q (copyAll s node) := by
  unfold Machine.copyAll
  refine Held.memberWrite (Held.foldl (Held.foldl h ?_) ?_)
  · exact fun _ _ h => h.foldl fun _ _ h => h.memberWrite
  · exact fun _ _ h => h.copySem

theorem readopt {fresh} (h : Held p q s) : Held p q (readopt fresh s) := h.setFerry.draw

theorem acceptMembers {good} (h : Held p q s) : Held p q (acceptMembers good s) :=
  (h.foldl fun _ _ h => h.loseNode).setFerry.readopt.pilotRoutes.sendJoins.foldl fun _ _ h => h.copyAll

theorem pilotDecides (h : Held p q s) : Held p q (pilotDecides s) :=
  (Held.ite h.acceptMembers (Held.ite h.disband h)).foldl fun _ _ h => h.refuseMember

theorem execJoinDecision (h : Held p q s) : NextHeld p q (execJoinDecision s) := by
  unfold Machine.execJoinDecision
  split
  · exact h.next
  · split
    · refine Held.next ?_
      split
      · exact h.setFerry
      · exact h
    · dsimp only
      split
      · exact h.disband.next
      · split
        · exact h.disband.event.next
        · split
          · split
            · exact h.disband.next
            · exact h.pilotDecides.next
          · split
            · exact h.disband.next
            · exact h.next

theorem takeJoin {b} (h : Held p q s) : Held p q (takeJoin b s) :=
  Held.ite (Held.ite h.setVal h).setFerry (Held.ite h.setFerry.event h.unmoor.event)

theorem takeJoinPacket {p'} (h : Held p q s) : Held p q (takeJoinPacket p' s) := Held.ite h h.takeJoin

theorem nodeLost {n reason} (h : Held p q s) : Held p q (nodeLost n reason s) :=
  Held.ite (Held.ite h.dropTurn h).failReads.commandsLose.setFerry.event h

theorem takeLoss {port p'} (h : Held p q s) : Held p q (takeLoss port p' s) := by
  unfold Machine.takeLoss
  dsimp only
  split
  · exact h.wayLost
  · split
    · exact Held.ite h (Held.ite h.innerLinkDown (Held.ite h.resetFlow h))
    · exact Held.ite h (Held.ite h.resetEnds h.nodeLost)
    · exact h

/-! ## Turns that cross devices -/

theorem gather {p'} (h : Held p q s) : Held p q (gather s p').1 := by
  unfold Machine.gather
  dsimp only
  split
  · exact h.setFerry
  · exact h.setFerry

theorem onMessage {p' act} (h : Held p q s) (hf : ∀ m s, Held p q s → Held p q (act m s)) :
    Held p q (onMessage p' act s) := by
  unfold Machine.onMessage
  dsimp only
  split
  · exact hf _ _ h.gather
  · exact h.gather

theorem placeHere {num m} (h : Held p q s) : Held p q (placeHere num m s) := by
  unfold Machine.placeHere
  dsimp only
  split
  · exact h.setBerth.setServing
  · split
    · exact h.sendReport
    · exact h.addBerth.lookupPrefix

theorem closeHere {num} (h : Held p q s) : Held p q (closeHere num s) := h.setBerth

theorem cancelHere {num} (h : Held p q s) : Held p q (cancelHere num s) :=
  Held.ite h.setFerry.maskRows h.maskRows.closeHere

theorem takeBerthMessage {num m} (h : Held p q s) : Held p q (takeBerthMessage num m s) := by
  unfold Machine.takeBerthMessage
  split
  · exact h.placeHere
  · exact h.cancelHere
  · exact h.foldl fun _ _ h1 => h1.closeHere
  · exact h.closeHere
  · exact h.setBerth
  · exact h

theorem takeBerthPacket {p'} (h : Held p q s) : Held p q (takeBerthPacket p' s) :=
  Held.ite (h.onMessage (fun _ _ h => h.takeBerthMessage)) h

theorem takeTable {m} (h : Held p anyMedia s) : Held p anyMedia (takeTable m s) :=
  Held.ite h.dropTurn.setFerry.meetBarrier h.dropTurn.setFerry

theorem endedAway {src l} (h : Held p q s) : Held p q (endedAway src s l) := by
  unfold Machine.endedAway
  split
  · exact Held.ite h.finishNow.sendFree h
  · exact h

theorem acceptPipeline {number l} (h : Held p q s) : Held p q (acceptPipeline number l s) := by
  unfold Machine.acceptPipeline
  split
  · exact h
  · exact Held.ite h (Held.ite h.countFault.maskBatch.dropTurn ((h.foldl fun _ _ h1 => Held.ite h1.setBerth
        h1).commitTurn.foldl fun _ _ h1 => h1.sendCommit))

theorem acceptLine {src a l} (h : Held p q (Tally.st a)) : Held p q (acceptLine src a l).st := by
  unfold Machine.acceptLine
  split
  · split
    · exact Held.commitBerth h.setBerth
    · exact h
  · exact h

theorem tellMember {src l} (h : Held p q s) : Held p q (tellMember src s l) := by
  unfold Machine.tellMember
  split
  · split
    · split
      · exact h.sendMessage
      · exact h.sendFree
    · exact h
  · exact h

theorem acceptReplica {src number l} (h : Held p q s) : Held p q (acceptReplica src number l s) := by
  have h1 := foldl_commitBerth (l := l) (f := Machine.acceptLine src) (fun _ _ h => h.acceptLine) (a := ⟨s, [], 0⟩) h
  exact ((h1.foldl fun _ _ h => h.signalRequest).bumpBy.foldl fun _ _ h => h.tellMember).sendCommit

theorem takeReport {src m} (h : Held p q s) : Held p q (takeReport src m s) :=
  Held.ite (h.foldl fun _ _ h => h.endedAway) (Held.ite h.setFerry.acceptPipeline h.setFerry.acceptReplica).retryStalled

theorem commitEntry {t' map p'} (h : Held p q s) : Held p q (commitEntry t' map s p') := by
  unfold Machine.commitEntry
  split
  · exact h
  · exact Held.ite (Held.ite h h.dropTaken) h.setBerth

theorem takeCommit {m} (h : Held p q s) : Held p q (takeCommit m s) := by
  unfold Machine.takeCommit
  split
  · exact h
  · exact Held.ite h (Held.ite (h.foldl fun _ _ h1 => h1.commitEntry).takeTables (h.foldl fun _ _ h1 =>
        h1.commitEntry).publishBatch).countRoutings.turnSignals.countRecovery.settleProgram.endTurn.retryStalled

theorem takeTurnPacket {p'} (h : Held p anyMedia s) : Held p anyMedia (takeTurnPacket p' s) := by
  unfold Machine.takeTurnPacket
  split
  · exact Held.ite (h.onMessage (fun _ _ h1 => h1.takeTable)) h
  · exact Held.ite (h.onMessage (fun _ _ h1 => h1.takeReport)) h
  · exact Held.ite (h.onMessage (fun _ _ h1 => h1.takeCommit)) h
  · exact h

/-! ## What crosses devices besides turns -/

theorem takeSignal {p'} (h : Held p q s) : Held p q (takeSignal p' s) :=
  Held.ite h (Held.ite h.wake.signalNow h.wake.bump)

theorem takeBroadcast {slot off data} (h : Held p q s) : Held p q (takeBroadcast slot off data s) := by
  have h1 : ∀ b : Bool, Held p q (if b = true then Machine.takePiece s slot off data
      else Machine.takeSwapPiece s slot off data).1 := by
    intro b
    cases b with
    | true => exact h.takePiece
    | false => exact h.takeSwapPiece
  unfold Machine.takeBroadcast
  dsimp only
  split
  · exact Held.ite (h1 _).lateAnswer (h1 _).lateAnswer
  · exact h1 _

theorem inputsArrive {p'} (h : Held p q s) : Held p q (inputsArrive p' s) := by
  unfold Machine.inputsArrive
  split
  · exact Held.ite (h.frame (by rfl)) h
  · exact h

theorem takeWrite {port p'} (h : Held p q s) : Held p q (takeWrite port p' s) :=
  Held.ite (Held.ite h.takeBroadcast h) h.memWrite.inputsArrive

theorem sendReadData {node cls octs} (h : Held p q s) : Held p q (sendReadData s node cls octs) :=
  h.foldl fun _ _ h => h.sendTo

theorem takeRead {port p'} (h : Held p q s) : Held p q (takeRead port p' s) := Held.ite h h.memRead.sendReadData

theorem takeReadData {p'} (h : Held p q s) : Held p q (takeReadData p' s) :=
  h.setFerry.retryReads.retryPrograms.retryStalled

theorem toMembers {idx sub domain val} (h : Held p q s) : Held p q (toMembers idx sub domain val s) :=
  Held.ite (h.foldl fun _ _ h => h.memberWrite) h

theorem applyLayout {val} (h : Held p q s) : AppliedHeld p q (applyLayout val s) :=
  h.guarded (fun _ h => (Held.ite h.setVal.toMembers.layoutAtBarrier h.setVal.toMembers).accept)

theorem applyStageMap {slot val} (h : Held p q s) : AppliedHeld p q (applyStageMap slot val s) :=
  h.guarded (fun _ h => h.setFerry.toMembers.accept)

end Sys2Proof.Machine.Held
end

section
/-! SUPPORT and PROOFS. What every step keeps: the dictionary, arrivals, and the step. -/

namespace Sys2Proof.Machine.Held

open Sys2Proof.Claims

variable {p : Prop} {q : Media → Prop} {s t : State}

/-! ## Writes of objects -/

theorem keep {ch idx sub v} (h : Held p q s) : Held p q (keep ch idx sub v s) := Held.ite h.setSel h.setVal

theorem applyKept {ch d idx sub val} (h : Held p q s) : AppliedHeld p q (applyKept ch d idx sub val s) :=
  h.guarded (fun _ h => h.keep.accept)

theorem applyPoint {val} (h : Held p q s) : AppliedHeld p q (applyPoint val s) := h.guarded (fun _ h => h.setVal.accept)

theorem applyPowerLimit {sub val} (h : Held p q s) : AppliedHeld p q (applyPowerLimit sub val s) :=
  h.guarded (fun _ h => h.setVal.accept)

theorem applyHoldSize {d sub val} (h : Held p q s) : AppliedHeld p q (applyHoldSize d sub val s) :=
  h.guarded (fun _ h => h.setVal.accept)

theorem applyCheckMode {val} (h : Held p q s) : AppliedHeld p q (applyCheckMode val s) :=
  h.guarded (fun _ h => h.setVal.accept)

theorem applyShareGroup {t' val} (h : Held p q s) : AppliedHeld p q (applyShareGroup t' val s) :=
  h.guarded (fun _ h => h.setVal.copyToMembers.accept)

theorem applyChunk {d val} (h : Held p q s) : AppliedHeld p q (applyChunk d val s) :=
  h.guarded (fun _ h => h.setVal.copyToMembers.accept)

theorem copySemWrite {n sub val} (h : Held p q s) : Held p q (copySemWrite n sub val s) := h.copyToMembers.copyToMembers

theorem applySem {ch sub val} (h : Held p q s) : AppliedHeld p q (applySem ch sub val s) := by
  unfold Machine.applySem
  dsimp only
  split
  · exact h.guarded (fun _ h1 => h1.setVal.copySemWrite.accept)
  · exact h.guarded (fun _ h1 => h1.setSem.copySemWrite.accept)
  · exact h.guarded (fun _ h1 => h1.setVal.copySemWrite.accept)

theorem applyNodesAllowed {ch val} (h : Held p q s) : AppliedHeld p q (applyNodesAllowed ch val s) := h.setVal.accept

theorem applyRingSelect {ch t' val} (h : Held p q s) : AppliedHeld p q (applyRingSelect ch t' val s) :=
  h.guarded (fun _ h => h.setSel.accept)

theorem applyOwnSelect {ch t' val} (h : Held p q s) : AppliedHeld p q (applyOwnSelect ch t' val s) :=
  h.guarded (fun _ h => h.setSel.accept)

theorem applyOwnValue {ch t' val} (h : Held p q s) : AppliedHeld p q (applyOwnValue ch t' val s) :=
  h.guarded (fun _ h => h.setSem.accept)

theorem applyTenantObject {ch d idx sub val} (h : Held p q s) :
    AppliedHeld p q (applyTenantObject ch d idx sub val s) := by
  unfold Machine.applyTenantObject
  dsimp only
  split
  · exact h.applyRingSelect
  · exact h.applyRingRecord
  · exact h.applyOwnSelect
  · exact h.applyOwnValue
  · exact h.applyKept

theorem applyRegionWord {idx sub val} (h : Held p q s) : AppliedHeld p q (applyRegionWord idx sub val s) := by
  unfold Machine.applyRegionWord
  split
  · exact h.applyRegionBase
  · exact h.applyRegionLimit

theorem applyRow {ch d idx sub val} (h : Held p anyMedia s) : AppliedHeld p anyMedia (applyRow ch d idx sub val s) := by
  refine .ite h.applyRegion (.ite h.applyRegionWord (.ite h.applyTierQuota (.ite h.applyExpert (.ite h.applyTenantObject
    (.ite (h.command fun _ h => h.applyDeckReset) ?_)))))
  split
  · exact h.applyPowerLimit
  · exact h.applyAuthorKey
  · exact h.applyTenantEnabled
  · exact h.applyBlockOwner
  · exact h.applyBerthQuota
  · exact h.applyPartitionSets
  · exact h.applyKvQuota
  · exact h.applyShareGroup
  · exact h.applyStageMap
  · exact h.applyCameraRecord
  · exact h.applyKept

theorem applyCursor {val} {f : Nat → State} (hf : ∀ n, Held p q (f n)) : AppliedHeld p q (applyCursor val f) := hf _

theorem applyFor {ch d idx sub val} (h : Held p anyMedia s) : AppliedHeld p anyMedia (applyFor ch d idx sub val s) := by
  unfold Machine.applyFor
  split
  · exact h.applyHostRange
  · exact h.applyStore
  · exact h.applyRestoreDefaults
  · exact h.applyStateCommand
  · exact h.applyPoint
  · exact h.applyResetCommand
  · exact h.applyCommit
  · exact h.applyTransitionCommand
  · exact h.applyAuthorisation
  · exact h.applyTamperHarbour
  · exact Held.applyCursor fun _ => h.setJournal
  · exact h.applySubmit
  · exact h.applyFlush
  · exact h.applyHoldSize
  · exact h.applyHoldSize
  · exact h.applyWindowUpdate
  · exact h.applyTensorCommand
  · exact h.applyImageCommand
  · exact h.applySwapRequest
  · exact h.applySwapCommand
  · exact h.applySem
  · exact h.applySem
  · exact h.applySem
  · exact h.applyChunk
  · exact h.applyRingSize
  · exact Held.applyCursor fun _ => h.frame (by rfl)
  · exact h.applyLayout
  · exact h.applyNodesAllowed
  · exact h.applyRegister
  · exact h.applyRelease
  · exact h.applyContextRecord
  · exact h.applyContextCommand
  · exact h.applyJob
  · exact h.applyReceiver
  · exact h.applyCheckMode
  · exact Held.applyCursor fun _ => h.setIntegrity
  · exact h.applyMarginCommand
  · exact h.applyInject
  · exact h.applyRow

theorem applyObject {ch idx sub val} (h : Held p anyMedia s) :
    AppliedHeld p anyMedia (applyObject ch idx sub val s) := by
  unfold Machine.applyObject
  split
  · exact h.applyFor
  · exact h.refuse

theorem execTierQuotaWrite {ch idx sub val} (h : Held p anyMedia s) :
    NextHeld p anyMedia (execTierQuotaWrite ch idx sub val s) := by
  unfold Machine.execTierQuotaWrite
  split
  · exact h.objectWrite (fun _ h1 => h1.applyTierQuota)
  · exact h.objectWrite (fun _ h1 => h1.applyObject)

theorem execReceiverSetting {ch idx sub val} (h : Held p anyMedia s) :
    NextHeld p anyMedia (execReceiverSetting ch idx sub val s) := by
  unfold Machine.execReceiverSetting
  split
  · exact h.objectWrite (fun _ h1 => h1.applyReceiver)
  · split
    · exact h.objectWrite (fun _ h2 => h2.applyCameraRecord)
    · exact h.objectWrite (fun _ h2 => h2.applyObject)

/-! ## The dictionary server -/

theorem refuseFrame {code} (h : Held p q s) : ServedHeld p q (refuseFrame code s) := by
  unfold Machine.refuseFrame
  exact h

theorem refuseTyped {d code} (h : Held p q s) : ServedHeld p q (refuseTyped d code s) := by
  unfold Machine.refuseTyped
  exact h

theorem setTransfer {ch x1} (h : Held p q s) : Held p q (setTransfer ch x1 s) := h.setChan

theorem newTransfer {ch} (h : Held p q s) : Held p q (newTransfer ch s) := h.setChan

theorem serveRead {ch d f} (h : Held p q s) : ServedHeld p q (serveRead ch d f s) := by
  unfold Machine.serveRead
  dsimp only
  split
  · exact h.refuseTyped
  · exact h

theorem answerApplied {d} : ∀ {a : Applied}, AppliedHeld p q a → ServedHeld p q (answerApplied d a)
  | .done _ _, h => h
  | .later _, h => h

theorem serveWriteFrame {ch d f} (h : Held p anyMedia s) : ServedHeld p anyMedia (serveWriteFrame ch d f s) := by
  unfold Machine.serveWriteFrame
  split
  · exact h.refuseTyped
  · refine Held.answerApplied ?_
    exact h.applyFor

theorem consume {idx sub upto} (h : Held p anyMedia s) : Held p anyMedia (consume idx sub upto s) := by
  unfold Machine.consume
  split
  · exact h.setJournal
  · exact h.setFlash
  · exact h.frame (by rfl)
  · exact h.consumeMedia
  · exact h.setIntegrity
  · exact h

theorem sendSegment {ch d x2 off} (h : Held p anyMedia s) : ServedHeld p anyMedia (sendSegment ch d x2 off s) := by
  unfold Machine.sendSegment
  exact Held.ite h.setTransfer.consume h.setTransfer

theorem startRead {ch d f} (h : Held p anyMedia s) : ServedHeld p anyMedia (startRead ch d f s) := by
  unfold Machine.startRead
  split
  · exact h.refuseTyped
  · exact h.sendSegment

theorem takeSegment {ch d x2 off f} (h : Held p anyMedia s) : ServedHeld p anyMedia (takeSegment ch d x2 off f s) := by
  unfold Machine.takeSegment
  dsimp only
  split
  · split
    · exact h.setTransfer.refuseTyped
    · refine Held.answerApplied ?_
      exact h.setTransfer.applyFor
  · exact h.setTransfer

theorem startWrite {ch d f} (h : Held p anyMedia s) : ServedHeld p anyMedia (startWrite ch d f s) := by
  unfold Machine.startWrite
  split
  · exact h.refuseTyped
  · exact h.takeSegment

theorem serveAbort {ch f} (h : Held p q s) : ServedHeld p q (serveAbort ch f s) := by
  unfold Machine.serveAbort
  dsimp only
  split
  · split
    · exact h.setChan.setVal
    · exact h
  · split
    · split
      · exact h.newTransfer
      · exact h
    · exact h

theorem continueTransfer {ch x1 f} (h : Held p anyMedia s) : ServedHeld p anyMedia (continueTransfer ch x1 f s) := by
  unfold Machine.continueTransfer
  split
  · exact h.refuseFrame
  · split
    · exact h.refuseTyped
    · split
      · exact h.takeSegment
      · exact h.sendSegment

theorem serveStart {ch f} (h : Held p anyMedia s) : ServedHeld p anyMedia (serveStart ch f s) := by
  unfold Machine.serveStart
  split
  · exact h.refuseFrame
  · split
    · exact h.serveRead
    · exact h.serveWriteFrame
    · exact h.startRead
    · exact h.startWrite

theorem serveHere {ch f} (h : Held p anyMedia s) : ServedHeld p anyMedia (serveHere ch f s) := by
  unfold Machine.serveHere
  split
  · split
    · exact h.refuseFrame
    · exact h.serveAbort
  · split
    · split
      · exact h.refuseFrame
      · exact h.continueTransfer
    · dsimp only
      split
      · exact h.newTransfer.refuseFrame
      · exact h.newTransfer.serveStart

theorem forwardFrame {ch f} (h : Held p q s) : Held p q (forwardFrame ch f s) := h.setFerry.sendDict

theorem refuseTransfer {ch code} (h : Held p q s) : ServedHeld p q (refuseTransfer ch code s) := by
  unfold Machine.refuseTransfer
  exact (Held.ite h.newTransfer h).refuseFrame

theorem serveNew {ch f} (h : Held p anyMedia s) : ServedHeld p anyMedia (serveNew ch f s) := by
  unfold Machine.serveNew
  dsimp only
  split
  · exact h.refuseFrame
  · split
    · split
      · exact h.refuseTransfer
      · exact h.serveHere
    · split
      · exact h.refuseTransfer
      · exact h.refuseFrame
    · split
      · exact h.refuseFrame
      · exact h.forwardFrame

theorem endBroken {ch f status} (h : Held p q s) : Held p q (endBroken ch f status s) := by
  unfold Machine.endBroken
  split
  · exact Held.ite h.setChan h
  · exact h

theorem serveFrame {ch f} (h : Held p anyMedia s) : Held p anyMedia (serveFrame ch f s) := by
  unfold Machine.serveFrame
  split
  · exact h.bump.postResponse
  · split
    · next e =>
      have h1 : Held p anyMedia _ := (e ▸ h.serveNew : ServedHeld p anyMedia (.answer _ _ _ _ _))
      exact h1.endBroken.countServed.respond
    · next e =>
      have h1 : Held p anyMedia _ := (e ▸ h.serveNew : ServedHeld p anyMedia (.later _))
      exact h1.bump
    · next e => exact (e ▸ h.serveNew : ServedHeld p anyMedia (.forwarded _))

theorem takeUp {a} (h : Held p q s) : Held p q (takeUp a s) := h.frame (by rfl)

theorem serveNext (h : Held p anyMedia s) : Held p anyMedia (serveNext s) := by
  unfold Machine.serveNext
  split
  · exact h.takeUp.serveFrame
  · exact h

theorem serveSome {n} (h : Held p anyMedia s) : Held p anyMedia (serveSome n s) := by
  induction n generalizing s with
  | zero => exact h
  | succ n ih => exact ih h.serveNext

theorem serveLatched (h : Held p anyMedia s) : Held p anyMedia (serveLatched s) := h.serveSome

theorem execStoreDone {programmed} (h : Held p anyMedia s) : NextHeld p anyMedia (execStoreDone programmed s) := by
  unfold Machine.execStoreDone
  split
  · exact h.next
  · split
    · exact h.next
    · exact h.finishStore.lateAnswer.serveLatched.next

/-! ## Arrivals -/

theorem latch {ch f way} (h : Held p q s) : Held p q (latch ch f way s) := h.frame (by rfl)

theorem arriveFree {ch f way} (h : Held p anyMedia s) : Held p anyMedia (arriveFree ch f way s) :=
  Held.ite h.latch.takeUp.serveFrame h.latch.wake.serveLatched

theorem arriveBusy {ch} (h : Held p anyMedia s) : Held p anyMedia (arriveBusy ch s) := by
  unfold Machine.arriveBusy
  split
  · exact h.bump
  · exact h.setChan.wake.serveLatched

theorem fillRequest {ch f} (h : Held p q s) : Held p q (fillRequest ch f s) := by
  unfold Machine.fillRequest
  split
  · exact h
  · exact h
  · exact h.setChan.linkActive

theorem arriveFrame {ch f way} (h : Held p anyMedia s) : Held p anyMedia (arriveFrame ch f way s) :=
  Held.ite h.fillRequest.arriveBusy h.fillRequest.arriveFree

theorem frameRow {ch f} (h : Held p anyMedia s) : NextHeld p anyMedia (frameRow ch f s) := by
  unfold Machine.frameRow
  split
  · exact h.next
  · exact h.arriveFrame.next

theorem execSegmentTimeout {ch} (h : Held p q s) : NextHeld p q (execSegmentTimeout ch s) := by
  unfold Machine.execSegmentTimeout
  split
  · exact h.setChan.next
  · exact h.next

theorem writeRequest {ch o data} (h : Held p q s) : Held p q (writeRequest ch o data s) := Held.ite h.setChan h

theorem writeStatus {ch v} (h : Held p q s) : Held p q (writeStatus ch v s) := h.setChan

theorem ringMailbox {ch v} (h : Held p anyMedia s) : Held p anyMedia (ringMailbox ch v s) :=
  Held.ite h (Held.ite h.arriveBusy h.arriveFree)

theorem writeMailbox {ch o data} (h : Held p anyMedia s) : Held p anyMedia (writeMailbox ch o data s) := by
  have h1 := h.writeRequest (ch := ch) (o := o) (data := data)
  unfold Machine.writeMailbox
  dsimp only
  split
  · refine Held.ringMailbox ?_
    split
    · exact h1.writeStatus
    · exact h1
  · split
    · exact h1.writeStatus
    · exact h1

theorem writeWakePage {o data} (h : Held p q s) : Held p q (writeWakePage o data s) := h.setServing

theorem writeBell {off data} (h : Held p q s) : Held p q (writeBell off data s) :=
  Held.ite h (Held.ite h.ringBell (Held.ite h.ringBell (Held.ite h.ringBell h)))

theorem writeBar0 {off data} (h : Held p anyMedia s) : Held p anyMedia (writeBar0 off data s) := by
  unfold Machine.writeBar0
  dsimp only
  split
  · exact h.linkActive.wake.serveLatched.writeBell
  · split
    · exact h.linkActive.wake.serveLatched.writeMailbox
    · exact Held.ite h.linkActive.wake.serveLatched.writeWakePage h.linkActive.wake.serveLatched

theorem execRegisterWrite {t'} (h : Held p anyMedia s) : NextHeld p anyMedia (execRegisterWrite t' s) := by
  unfold Machine.execRegisterWrite
  split
  · exact h.objectWrite (fun _ h1 => h1.applyObject)
  · split
    · exact h.next
    · exact h.writeBar0.next

theorem sideWrite {data way} (h : Held p anyMedia s) : Held p anyMedia (sideWrite data way s) :=
  Held.ite h.arriveFrame h.bump

theorem sideRead {n} (h : Held p q s) : Held p q (sideRead n s) := Held.ite (Held.ite h.emit.setChan h.emit) h.emit

theorem execI3cPrivateWrite {ddr data} (h : Held p anyMedia s) :
    NextHeld p anyMedia (execI3cPrivateWrite ddr data s) := by
  unfold Machine.execI3cPrivateWrite
  split
  · exact h.next
  · split
    · split
      · exact h.sideWrite.next
      · exact h.next
    · exact h.sideWrite.next

theorem execI3cPrivateRead {ddr n} (h : Held p q s) : NextHeld p q (execI3cPrivateRead ddr n s) := by
  unfold Machine.execI3cPrivateRead
  split
  · exact h.next
  · split
    · split
      · exact h.sideRead.next
      · exact h.emit.next
    · exact h.sideRead.next

theorem execI2cLegacyTransfer {t'} (h : Held p anyMedia s) : NextHeld p anyMedia (execI2cLegacyTransfer t' s) := by
  unfold Machine.execI2cLegacyTransfer
  split
  · exact h.next
  · split
    · exact h.emit.next
    · split
      · exact h.sideWrite.next
      · exact h.sideRead.next

theorem pollAnswered {f resp} (h : Held p q s) : Held p q (pollAnswered f resp s) := h.memberAnswered.sendDict

theorem takeResponse {src resp} (h : Held p q s) : Held p q (takeResponse src resp s) := by
  unfold Machine.takeResponse
  split
  · exact h
  · dsimp only
    split
    · exact h.dropForward.pollAnswered
    · exact h.dropForward.respond

theorem dictArrive {way src f} (h : Held p anyMedia s) : Held p anyMedia (dictArrive way src f s) :=
  Held.ite h (Held.ite h.takeResponse (Held.ite h.arriveFrame h))

theorem execDozeExitDone (h : Held p anyMedia s) : NextHeld p anyMedia (execDozeExitDone s) := by
  unfold Machine.execDozeExitDone
  split
  · exact h.enterReady.serveLatched.next
  · exact h.next

theorem execWatchExitDone (h : Held p anyMedia s) : NextHeld p anyMedia (execWatchExitDone s) := by
  unfold Machine.execWatchExitDone
  split
  · split
    · exact h.enterReady.serveLatched.next
    · exact h.next
  · exact h.next

theorem execHostL1Exit (h : Held p anyMedia s) : NextHeld p anyMedia (execHostL1Exit s) := by
  unfold Machine.execHostL1Exit
  split
  · exact h.setPower.wake.serveLatched.next
  · exact h.next

theorem execConfigurationRequest {r} (h : Held p anyMedia s) : NextHeld p anyMedia (execConfigurationRequest r s) := by
  unfold Machine.execConfigurationRequest
  split
  · exact h.next
  · exact h.linkActive.setPower.wake.serveLatched.next

theorem execDoorbell {ring part val} (h : Held p anyMedia s) : NextHeld p anyMedia (execDoorbell ring part val s) := by
  unfold Machine.execDoorbell
  dsimp only
  split
  · exact h.next
  · split
    · exact h.linkActive.wake.serveLatched.ringBell.next
    · exact h.linkActive.wake.serveLatched.ringBell.next
    · exact h.linkActive.wake.serveLatched.ringBell.next

theorem execHeldOutputTimer {b} (h : Held p anyMedia s) : NextHeld p anyMedia (execHeldOutputTimer b s) := by
  unfold Machine.execHeldOutputTimer
  split
  · split
    · exact h.next
    · exact h.hostWake.wake.serveLatched.next
  · exact h.next

theorem execHostReset {why} (h : Held p anyMedia s) : NextHeld p anyMedia (execHostReset why s) := by
  unfold Machine.execHostReset
  dsimp only
  split
  · exact (h.frame (by rfl)).next
  · refine Held.next ?_
    split
    · exact (h.frame (by rfl)).setVal.wake.serveLatched
    · exact (h.frame (by rfl)).setVal

theorem execRstNRelease (h : Held p anyMedia s) : NextHeld p anyMedia (execRstNRelease s) := by
  unfold Machine.execRstNRelease
  split
  · split
    · exact h.next
    · exact h.leaveReset.serveLatched.next
  · exact h.next

theorem execTamperEvent {src} (h : Held p anyMedia s) : NextHeld p anyMedia (execTamperEvent src s) := by
  unfold Machine.execTamperEvent
  split
  · dsimp only
    split
    · exact (h.tamperPin.tamperMark.resetStart (fun _ h2 => h2.tamperRecord)).next
    · exact h.tamperPin.tamperMark.tamperRecord.wake.serveLatched.next
  · exact h.tamperPin.next

/-! ## Packets and frames -/

theorem deliverPacket {port p'} (h : Held p anyMedia s) : Held p anyMedia (deliverPacket port p' s) := by
  unfold Machine.deliverPacket
  split
  · exact h.takeIdle
  · exact h.resendOrDown
  · exact h.takeHello
  · exact h.takeJoinPacket
  · exact h.dictArrive
  · exact h.takeBerthPacket
  · exact h.takeTurnPacket
  · exact h.takeSignal.serveLatched
  · exact h.takeWrite.serveLatched
  · exact h.takeRead
  · exact h.takeReadData
  · exact h.takeDownshift
  · exact h.takeLoss
  · exact h

theorem packetArrives {port p'} (h : Held p anyMedia s) : Held p anyMedia (packetArrives port p' s) :=
  (Held.ite h.arrive.deliverPacket h.arrive).settleGaps

theorem deliverSlow {f} (h : Held p anyMedia s) : Held p anyMedia (deliverSlow f s) := by
  unfold Machine.deliverSlow
  split
  · exact h.wake.serveLatched
  · exact h.dictArrive
  · exact h.dictArrive
  · exact h

theorem slowArrives {port f} (h : Held p anyMedia s) : Held p anyMedia (slowArrives port f s) :=
  Held.ite h.slowArrive.deliverSlow h.slowArrive

end Sys2Proof.Machine.Held

namespace Sys2Proof.Machine

variable {p : Prop} {s : State}

/-! ## The step -/

/-- Every command keeps the canonical form. -/
theorem Held.exec {s : State} : ∀ i : Instr, Held p anyMedia s → NextHeld p anyMedia (exec i s)
  | .expeditedRead .., h => h.frameRow
  | .expeditedWrite .., h => h.frameRow
  | .segmentedRead .., h => h.frameRow
  | .segmentedWrite .., h => h.frameRow
  | .abortFrame .., h => h.frameRow
  | .registerWrite .., h => h.execRegisterWrite
  | .segmentTimeout .., h => h.execSegmentTimeout
  | .i3cPrivateWrite .., h => h.execI3cPrivateWrite
  | .i3cPrivateRead .., h => h.execI3cPrivateRead
  | .i2cLegacyTransfer .., h => h.execI2cLegacyTransfer
  | .forwardTimeout .., h => h.execForwardTimeout
  | .hostRange .., h => h.objectWrite (fun _ h => h.applyHostRange)
  | .storeParameters .., h => h.objectWrite (fun _ h => h.applyStore)
  | .storeDone .., h => h.execStoreDone
  | .restoreDefaults .., h => h.objectWrite (fun _ h => h.applyRestoreDefaults)
  | .dozeNow .., h => h.execDozeNow
  | .watchNow .., h => h.execWatchNow
  | .offPrepare .., h => h.execOffPrepare
  | .offPrepareDone, h => h.execOffPrepareDone
  | .readyTimeout, h => h.execReadyTimeout
  | .dozeTimeout, h => h.execDozeTimeout
  | .watchTimeout, h => h.execWatchTimeout
  | .dozeEntry, h => h.execDozeEntry
  | .dozeEntryDone, h => h.execDozeEntryDone
  | .watchEntry, h => h.execWatchEntry
  | .watchEntryDone, h => h.execWatchEntryDone
  | .wakeSource .., h => h.wake.serveLatched.next
  | .dozeExitDone, h => h.execDozeExitDone
  | .watchExitDone, h => h.execWatchExitDone
  | .hostL1Exit, h => h.execHostL1Exit
  | .heldOutputTimer .., h => h.execHeldOutputTimer
  | .hostWakeCoalesce, h => h.execHostWakeCoalesce
  | .watchDeadlineTimer, h => h.execWatchDeadlineTimer
  | .pointChangeDone, h => h.execPointChangeDone
  | .thermalSample .., h => h.execThermalSample
  | .powerOnReset, h => h.execPowerOnReset
  | .rstNAssert, h => h.execRstNAssert
  | .rstNRelease, h => h.execRstNRelease
  | .warmReset .., h => h.objectWrite (fun _ h => h.applyReset)
  | .coldReset .., h => h.objectWrite (fun _ h => h.applyReset)
  | .harbourReset .., h => h.objectWrite (fun _ h => h.applyReset)
  | .resetDelay, h => h.execResetDelay
  | .hostReset .., h => h.execHostReset
  | .helmWatchdog, h => h.execHelmWatchdog
  | .commitCommand .., h => h.objectWrite (fun _ h => h.applyCommit)
  | .lifecycleToFactory .., h => h.objectWrite (fun _ h => h.applyTransition)
  | .lifecycleToDevelopment .., h => h.objectWrite (fun _ h => h.applyTransition)
  | .lifecycleToDeployed .., h => h.objectWrite (fun _ h => h.applyTransition)
  | .lifecycleToService .., h => h.objectWrite (fun _ h => h.applyTransition)
  | .lifecycleLeaveService .., h => h.objectWrite (fun _ h => h.applyTransition)
  | .lifecycleToEnd .., h => h.objectWrite (fun _ h => h.applyTransition)
  | .serviceAuthorisation .., h => h.objectWrite (fun _ h => h.applyAuthorisation)
  | .tamperEvent .., h => h.execTamperEvent
  | .journalRecordWritten, h => h.execJournalRecordWritten
  | .flashRead .., h => h.objectWrite (fun _ h => h.submitOp)
  | .flashProgram .., h => h.objectWrite (fun _ h => h.submitOp)
  | .flashErase .., h => h.objectWrite (fun _ h => h.submitOp)
  | .flashBlankCheck .., h => h.objectWrite (fun _ h => h.submitOp)
  | .flashVerify .., h => h.objectWrite (fun _ h => h.submitOp)
  | .flashCrc32 .., h => h.objectWrite (fun _ h => h.submitOp)
  | .descriptorStart .., h => h.execDescriptorStart
  | .programPulseDone .., h => h.execProgramPulseDone
  | .eraseDone .., h => h.execEraseDone
  | .eraseResume .., h => h.setFlash.next
  | .completionPost, h => h.postOldest.advanceInstall.next
  | .flashFlush .., h => h.objectWrite (fun _ h => h.applyFlush)
  | .regionWrite .., h => h.objectWrite (fun _ h => h.applyRegion)
  | .regionChangeEffect .., h => h.execRegionChangeEffect
  | .memoryAccess .., h => h.execMemoryAccess
  | .scrubRead .., h => h.execScrubRead
  | .regionEntryBase .., h => h.objectWrite (fun _ h => h.applyRegionBase)
  | .regionEntryLimit .., h => h.objectWrite (fun _ h => h.applyRegionLimit)
  | .windowUpdate .., h => h.objectWrite (fun _ h => h.applyWindowUpdate)
  | .hostReadTimeout .., h => h.execHostReadTimeout
  | .tensorCreate .., h => h.objectWrite (fun _ h => h.applyCreate)
  | .tensorDestroy .., h => h.objectWrite (fun _ h => h.applyDestroy)
  | .tensorSetHint .., h => h.objectWrite (fun _ h => h.applySetHint)
  | .tensorPin .., h => h.objectWrite (fun _ h => h.applyPin)
  | .tensorUnpin .., h => h.objectWrite (fun _ h => h.applyUnpin)
  | .tierQuotaWrite .., h => h.execTierQuotaWrite
  | .tierMoveStart, h => h.execTierMoveStart
  | .tierMoveDone, h => h.execTierMoveDone
  | .nop .., h => h.slotRow
  | .add .., h => h.slotRow
  | .sub .., h => h.slotRow
  | .andOp .., h => h.slotRow
  | .orOp .., h => h.slotRow
  | .xorOp .., h => h.slotRow
  | .shl .., h => h.slotRow
  | .shr .., h => h.slotRow
  | .sra .., h => h.slotRow
  | .mul .., h => h.slotRow
  | .mulhu .., h => h.slotRow
  | .slt .., h => h.slotRow
  | .sltu .., h => h.slotRow
  | .seq .., h => h.slotRow
  | .addi .., h => h.slotRow
  | .andi .., h => h.slotRow
  | .ori .., h => h.slotRow
  | .movhi .., h => h.slotRow
  | .br .., h => h.slotRow
  | .jmp .., h => h.slotRow
  | .call .., h => h.slotRow
  | .jr .., h => h.slotRow
  | .pset .., h => h.slotRow
  | .pand .., h => h.slotRow
  | .por .., h => h.slotRow
  | .pnot .., h => h.slotRow
  | .pget .., h => h.slotRow
  | .pput .., h => h.slotRow
  | .gets .., h => h.slotRow
  | .doneOp .., h => h.slotRow
  | .deckCompletion .., h => h.execDeckCompletion
  | .ld .., h => h.slotRow
  | .st .., h => h.slotRow
  | .vld .., h => h.slotRow
  | .vst .., h => h.slotRow
  | .vldr .., h => h.slotRow
  | .vstr .., h => h.slotRow
  | .wsld .., h => h.slotRow
  | .wsend .., h => h.slotRow
  | .rmld .., h => h.slotRow
  | .kvput .., h => h.slotRow
  | .fence .., h => h.slotRow
  | .semsig .., h => h.slotRow
  | .semwait .., h => h.slotRow
  | .vadd .., h => h.slotRow
  | .vsub .., h => h.slotRow
  | .vmul .., h => h.slotRow
  | .vmax .., h => h.slotRow
  | .vmin .., h => h.slotRow
  | .vand .., h => h.slotRow
  | .vor .., h => h.slotRow
  | .vxor .., h => h.slotRow
  | .vfma .., h => h.slotRow
  | .vabs .., h => h.slotRow
  | .vneg .., h => h.slotRow
  | .vcvt .., h => h.slotRow
  | .vcmplt .., h => h.slotRow
  | .vcmpeq .., h => h.slotRow
  | .vsel .., h => h.slotRow
  | .vbcast .., h => h.slotRow
  | .vextr .., h => h.slotRow
  | .vperm .., h => h.slotRow
  | .vrcp .., h => h.slotRow
  | .vrsqrt .., h => h.slotRow
  | .vexp2 .., h => h.slotRow
  | .vred .., h => h.slotRow
  | .qrow .., h => h.slotRow
  | .mma .., h => h.slotRow
  | .accz .., h => h.slotRow
  | .accst .., h => h.slotRow
  | .sequencedOperationDone .., h => (h.modDeck fun _ => by rfl).retryDeck.next
  | .storeDrain .., h => h.execStoreDrain
  | .streamStep .., h => h.execStreamStep
  | .timeLimit .., h => h.execTimeLimit
  | .deckReset .., h => h.objectWrite (fun _ h => h.command (fun _ h1 => h1.applyDeckReset))
  | .turnBarrier, h => h.execTurnBarrier
  | .layerDispatch, h => h.execLayerDispatch
  | .routingStep, h => h.execRoutingStep
  | .sampling .., h => h.execSampling
  | .commitPoint, h => h.execCommitPoint
  | .attemptAbandon, h => h.execAttemptAbandon
  | .installImage .., h => h.objectWrite (fun _ h => h.imageOp)
  | .loadImage .., h => h.objectWrite (fun _ h => h.imageOp)
  | .removeImage .., h => h.objectWrite (fun _ h => h.imageOp)
  | .imageVerify .., h => h.objectWrite (fun _ h => h.imageOp)
  | .commitVersion .., h => h.objectWrite (fun _ h => h.imageOp)
  | .imageCommandDone, h => h.execImageCommandDone
  | .swapRequest .., h => h.objectWrite (fun _ h => h.applySwapRequest)
  | .swapLayerStaged, h => h.execSwapLayerStaged
  | .swapCopyDone, h => h.execSwapCopyDone
  | .swapAbort .., h => h.objectWrite (fun _ h => h.command (fun _ h1 => h1.applySwapAbort))
  | .swapResume .., h => h.objectWrite (fun _ h => h.command (fun _ h1 => h1.applySwapResume))
  | .doorbell .., h => h.execDoorbell
  | .ringRecord .., h => h.objectWrite (fun _ h => h.applyRingRecord)
  | .generateReq .., h => h.execGenerateReq
  | .cancelReq .., h => h.execCancelReq
  | .continueReq .., h => h.execContinueReq
  | .closeReq .., h => h.execCloseReq
  | .semSignal .., h => h.execSemSignal
  | .semWait .., h => h.execSemWait
  | .semWaitSatisfied .., h => h.execSemWaitSatisfied
  | .parkLimit .., h => h.execParkLimit
  | .coalesceTime .., h => h.execCoalesceTime
  | .hostSleepIdle, h => h.execHostSleepIdle
  | .heldOutputFlush, h => h.execHeldOutputFlush
  | .partitionSets .., h => h.objectWrite (fun _ h => h.applyPartitionSets)
  | .kvPageQuota .., h => h.objectWrite (fun _ h => h.applyKvQuota)
  | .ringSize .., h => h.objectWrite (fun _ h => h.applyRingSize)
  | .biasVector .., h => h.objectWrite (fun _ h => h.applyExpert)
  | .linkTrained .., h => h.execLinkTrained
  | .idlePacket .., h => h.packetArrives.next
  | .nakPacket .., h => h.packetArrives.next
  | .retryTimeout .., h => h.execRetryTimeout
  | .helloPacket .., h => h.packetArrives.next
  | .joinDecision, h => h.execJoinDecision
  | .joinPacket .., h => h.packetArrives.next
  | .dictPacket .., h => h.packetArrives.next
  | .berthPacket .., h => h.packetArrives.next
  | .batchTable .., h => h.packetArrives.next
  | .commitReport .., h => h.packetArrives.next
  | .turnCommit .., h => h.packetArrives.next
  | .semsigPacket .., h => h.packetArrives.next
  | .writePacket .., h => h.packetArrives.next
  | .readPacket .., h => h.packetArrives.next
  | .readData .., h => h.packetArrives.next
  | .downshift .., h => h.packetArrives.next
  | .lossPacket .., h => h.packetArrives.next
  | .keepalive .., h => h.slowArrives.next
  | .keepalivePeriod, h => (h.foldl fun _ _ h => h.keepaliveOne).next
  | .keepaliveSilence .., h => h.execKeepaliveSilence
  | .wakeFrame .., h => h.slowArrives.next
  | .dictReq .., h => h.slowArrives.next
  | .dictRsp .., h => h.slowArrives.next
  | .layoutWrite .., h => h.objectWrite (fun _ h => h.applyLayout)
  | .stageMap .., h => h.objectWrite (fun _ h => h.applyStageMap)
  | .contextOpen .., h => h.objectWrite (fun _ h => h.command (fun _ h1 => h1.onCtx (fun _ _ h2 => h2.openCtx)))
  | .contextPause .., h => h.objectWrite (fun _ h => h.command (fun _ h1 => h1.onCtx (fun _ _ h2 => h2.pauseCtx)))
  | .contextResume .., h => h.objectWrite (fun _ h => h.command (fun _ h1 => h1.onCtx (fun _ _ h2 => h2.resumeCtx)))
  | .contextClose .., h => h.objectWrite (fun _ h => h.command (fun _ h1 => h1.onCtx (fun _ _ h2 => h2.closeCtx)))
  | .contextFlush .., h => h.objectWrite (fun _ h => h.command (fun _ h1 => h1.onCtx (fun _ _ h2 => h2.flushCtx)))
  | .contextRecord .., h => h.objectWrite (fun _ h => h.applyContextRecord)
  | .mediaJob .., h => h.objectWrite (fun _ h => h.applyJob)
  | .registerBuffer .., h => h.objectWrite (fun _ h => h.applyRegister)
  | .releaseBuffer .., h => h.objectWrite (fun _ h => h.applyRelease)
  | .nextFrameStart .., h => h.execNextFrameStart
  | .jobConsumed .., h => h.execJobConsumed
  | .frameDone .., h => h.execFrameDone
  | .frameBudget .., h => h.execFrameBudget
  | .receiverSetting .., h => h.execReceiverSetting
  | .frameStart .., h => h.shortPacketRow (fun _ _ h => h.receiverStart.camFrameStart)
  | .frameEnd .., h => h.shortPacketRow (fun _ _ h => Held.ite h.camFrameEnd h.csiDiscard)
  | .lineStart .., h => h.shortPacketRow (fun _ _ h => Held.ite h.setCam h.csiDiscard)
  | .lineEnd .., h => h.shortPacketRow (fun _ _ h => Held.ite h.setCam h.csiDiscard)
  | .longPacket .., h => h.execLongPacket
  | .clearSteps .., h => h.objectWrite (fun _ h => h.command (fun _ h1 => h1.applyClearSteps))
  | .retireDeck .., h => h.objectWrite (fun _ h => h.command (fun _ h1 => h1.applyRetire))
  | .restoreDeck .., h => h.objectWrite (fun _ h => h.command (fun _ h1 => h1.applyRestore))
  | .injectFault .., h => h.objectWrite (fun _ h => h.applyInject)
  | .errorReportCoalesce, h => h.execErrorReportCoalesce
  | .swPgood, h => (h.frame (by rfl)).next
  | .swPgoodTimeout, h => h.execSwPgoodTimeout
  | .railRetry, h => h.execRailRetry
  | .powerLoss, h => h.execPowerLoss
  | .configurationRequest .., h => h.execConfigurationRequest
  | .linkL12Entry, h => h.execLinkL12Entry
  | .perstNRelease, h => (h.frame (by rfl)).next
  | .pcieLinkUp, h => h.execPcieLinkUp
  | .tamperNRelease, h => (h.frame (by rfl)).next
  | .watchFllLock, h => h.execWatchFllLock
  | .dynamicAddressAssignment .., h => h.execDynamicAddressAssignment
  | .railsRemoved, h => h.execRailsRemoved

theorem Held.step (h : Held p anyMedia s) : NextHeld p anyMedia (step s) := by
  unfold Machine.step
  split
  · exact h.tick.next
  · exact Held.exec _ (h.frame (by rfl))

/-- Settles O36: every function that a step is built of keeps the canonical form, said of each once. -/
theorem stepKeepsCanonicalForm : Obligations.StepKeepsCanonicalForm := by
  intro s t hs ht
  exact (canonical_iff t).2 (((canonical_iff s).1 hs).step t ht)

end Sys2Proof.Machine
end

section
/-! SUPPORT and PROOFS. Jobs, frames and frame buffers (R318, R320 to R325). -/

namespace Sys2Proof.Machine

open Sys2Proof.Claims

/-! ### Jobs and buffers -/

section Writes

variable {val : Bytes} {s : State}

theorem applyJob_of_decoder (hlength : val.length = 32) (hc : fld val 0 1 < 32)
    (hformed : jobFormed (s.ctx (fld val 0 1)).decodes val = true) (hst : (s.ctx (fld val 0 1)).st ≠ .closed)
    (hroom : (s.ctx (fld val 0 1)).jobs.length < 64) (hdecodes : (s.ctx (fld val 0 1)).decodes = true)
    (hlow : 1 ≤ fld val 16 4) (hhigh : fld val 16 4 ≤ 16777216) :
    applyJob val s = .done 0 (s.setCtx (fld val 0 1) { s.ctx (fld val 0 1) with
      jobs := (s.ctx (fld val 0 1)).jobs ++ [⟨fld val 1 1, fld val 2 2, fld val 4 1, fld val 8 8, fld val 16 4⟩] }) := by
  rw [hdecodes] at hformed
  unfold applyJob
  dsimp only
  exact guarded_of_passes _ s (by
    simp only [hlength, hformed, hc, hst, hroom, hdecodes, hlow, hhigh, decide_true, decide_false, Bool.not_false,
      Bool.not_true, Bool.true_or, Bool.and_self, Bool.or_true, firstFail_cons_true, firstFail_nil])

theorem applyJob_of_closed (hlength : val.length = 32) (hc : fld val 0 1 < 32)
    (hformed : jobFormed (s.ctx (fld val 0 1)).decodes val = true) (hst : (s.ctx (fld val 0 1)).st = .closed) :
    applyJob val s = .done abNotIdle s := by
  unfold applyJob
  dsimp only
  exact guarded_of_firstFail _ s (by
    simp only [hlength, hformed, hc, hst, decide_true, Bool.not_true, firstFail_cons_true, firstFail_cons_false])

/-- The checks of a buffer's descriptor whose form is good and whose number is free. -/
theorem applyRegister_of_checks (hlength : val.length = 32) (hzero : (zeroAt val 3 1 && zeroAt val 28 4) = true)
    (hn : fld val 0 1 < 128) (hfree : ∀ old, aget s.media.buffers (fld val 0 1) = some old → old.free = true)
    (hformat : fld val 1 1 ≤ 2) (hranges : fld val 1 1 = 0 ∨ bufferRanges (bufferOf val) = true)
    (hplaced : fld val 1 1 = 0 ∨ (bufferOf val).planes.all (fun p => planePlaced s p.1 p.2) = true)
    (hapart : fld val 1 1 = 0 ∨ planesApart s (fld val 0 1) (bufferOf val) = true)
    (howner : fld val 1 1 = 0 ∨ ownerSuits s (bufferOf val) = true) :
    applyRegister val s = .done 0 (s.setMedia { s.media with
      buffers := if fld val 1 1 = 0 then adel s.media.buffers (fld val 0 1)
        else aset s.media.buffers (fld val 0 1) (bufferOf val) }) := by
  have hor : ∀ {b : Bool}, fld val 1 1 = 0 ∨ b = true → (decide ((bufferOf val).format = 0) || b) = true := by
    intro b h
    rcases h with h | h
    · exact Bool.or_eq_true_iff.2 (.inl (decide_eq_true h))
    · rw [h, Bool.or_true]
  have hformat' : decide ((bufferOf val).format ≤ 2) = true := decide_eq_true hformat
  unfold applyRegister
  dsimp only
  refine guarded_of_passes _ s ?_
  rw [decide_eq_true hlength, hzero, decide_eq_true hn, hor hranges, hor hplaced, hor hapart, hor howner, hformat',
    firstFail_cons_true, firstFail_cons_true]
  split
  · next h =>
    rw [hfree _ h]
    rfl
  · rfl

theorem applyRelease_of_lt (h : leNat val < 128) :
    applyRelease val s = .done 0 (s.modBuffer (leNat val) (fun f => { f with held := false })) :=
  guarded_of_passes _ s (by rw [decide_eq_true h, firstFail_cons_true, firstFail_nil])

theorem applyRelease_of_le (h : 128 ≤ leNat val) : applyRelease val s = .done abRange s :=
  guarded_of_firstFail _ s (by rw [decide_eq_false (Nat.not_lt.2 h), firstFail_cons_false])

end Writes

/-! ### The start of a frame (R322) -/

/-- What a state keeps of another while contexts wait: the jobs and the running frames, the buffers and memory. -/
structure StillWaits (s t : State) : Prop where
  running (n : Nat) : (t.ctx n).running = (s.ctx n).running
  jobs (n : Nat) : (t.ctx n).jobs = (s.ctx n).jobs
  buffers : t.media.buffers = s.media.buffers
  mem : t.mem = s.mem

theorem StillWaits.foldl_waited (l : List Nat) {s t : State} (h : StillWaits s t) :
    StillWaits s (l.foldl (fun s n => s.setCtx n { s.ctx n with waited := (s.ctx n).waited + 1 }) t) := by
  induction l generalizing t with
  | nil => exact h
  | cons c l ih =>
    refine ih ⟨fun n => ?_, fun n => ?_, h.buffers, h.mem⟩
    all_goals
      rw [ctx_setCtx]
      split
    · next hn => exact hn ▸ h.running c
    · exact h.running n
    · next hn => exact hn ▸ h.jobs c
    · exact h.jobs n

theorem freeBuffer_congr {s t : State} (h : t.media.buffers = s.media.buffers) (owner : Nat) (ok : FrameBuffer → Bool) :
    freeBuffer t owner ok = freeBuffer s owner ok := by
  rw [freeBuffer, h]
  rfl

/-- The frame that starts takes the lowest free buffer; no other context changes. -/
theorem startFrame_spec (s : State) (c : Nat) : ((startFrame s c).ctx c).running = true ∧
    ((startFrame s c).ctx c).waited = 0 ∧ ((startFrame s c).ctx c).current = freeBuffer s c (fun _ => true) ∧
    (startFrame s c).mem = s.mem ∧ ∀ n, n ≠ c → (startFrame s c).ctx n = s.ctx n := by
  obtain ⟨x, hx, hrunning, hwaited, hcurrent⟩ : ∃ x : Context, (∀ n, (startFrame s c).ctx n = (s.setCtx c x).ctx n) ∧
      x.running = true ∧ x.waited = 0 ∧ x.current = freeBuffer s c (fun _ => true) := by
    unfold startFrame
    dsimp only
    split
    · exact ⟨_, fun _ => rfl, rfl, rfl, rfl⟩
    · exact ⟨_, fun _ => rfl, rfl, rfl, rfl⟩
  have hmem : (startFrame s c).mem = s.mem := by
    unfold startFrame
    dsimp only
    split
    · rfl
    · rfl
  rw [hx, ctx_setCtx_self]
  exact ⟨hrunning, hwaited, hcurrent, hmem, fun n hn => by rw [hx, ctx_setCtx, if_neg hn.symm]⟩

theorem exec_nextFrameStart_of_chosen {pipe : Pipeline} {c : Nat} {s : State} (hrunning : s.running = true)
    (hidle : s.media.contexts.any (fun p => p.2.running && decide (fld p.2.record 0 1 = pipeKind pipe)) = false)
    (hchosen : nextCtx s (pipeKind pipe) = some c) :
    ∃ t, exec (.nextFrameStart pipe) s = .next t ∧ (t.ctx c).running = true ∧ (t.ctx c).waited = 0 ∧
      (t.ctx c).current = freeBuffer s c (fun _ => true) ∧ t.mem = s.mem ∧
      ∀ n, n ≠ c → (t.ctx n).running = (s.ctx n).running ∧ (t.ctx n).jobs = (s.ctx n).jobs := by
  have hkept := StillWaits.foldl_waited ((readyCtxs s (pipeKind pipe)).map (·.1)) (s := s)
    ⟨fun _ => rfl, fun _ => rfl, rfl, rfl⟩
  generalize hu : ((readyCtxs s (pipeKind pipe)).map (·.1)).foldl
    (fun s n => s.setCtx n { s.ctx n with waited := (s.ctx n).waited + 1 }) s = u at hkept
  obtain ⟨hrun, hwaited, hcurrent, hmem, hothers⟩ := startFrame_spec u c
  have hexec : ∃ l, exec (.nextFrameStart pipe) s
      = .next ((startFrame u c).setMedia { (startFrame u c).media with lastFile := l }) := by
    change ∃ l, execNextFrameStart pipe s = _
    simp only [execNextFrameStart, hrunning, hidle, hchosen, hu, Bool.not_true, Bool.or_self, Bool.false_eq_true, if_false]
    split
    · exact ⟨(startFrame u c).media.lastFile, rfl⟩
    · exact ⟨_, rfl⟩
  obtain ⟨l, hl⟩ := hexec
  refine ⟨_, hl, hrun, hwaited, hcurrent.trans (freeBuffer_congr hkept.buffers _ _), hmem.trans hkept.mem, fun n hn => ?_⟩
  have hn' := hothers n hn
  exact ⟨(congrArg Context.running hn').trans (hkept.running n), (congrArg Context.jobs hn').trans (hkept.jobs n)⟩

theorem exec_nextFrameStart_of_none {pipe : Pipeline} {s : State} (hchosen : nextCtx s (pipeKind pipe) = none) :
    exec (.nextFrameStart pipe) s = .next s := by
  change execNextFrameStart pipe s = _
  simp only [execNextFrameStart, hchosen, ite_self]

/-! ### Jobs that have been read, and frames that complete -/

section Completions

variable {c : Fin 32} {s : State}

theorem exec_jobConsumed_of_chunk {j : Job} {rest : List Job} (hrunning : s.running = true)
    (hst : (s.ctx c.val).st ≠ .closed) (hdecodes : (s.ctx c.val).decodes = true)
    (hroom : (s.ctx c.val).completions.length < 64) (hjobs : (s.ctx c.val).jobs = j :: rest)
    (hend : bitOf j.flags 0 = false) :
    exec (.jobConsumed c) s = .next (jobDone (s.setCtx c.val { s.ctx c.val with jobs := rest }) c.val 6 j) := by
  change execJobConsumed c s = _
  simp only [execJobConsumed, hjobs, hrunning, hst, hdecodes, hroom, hend, ne_eq, not_false_eq_true, and_self, if_true,
    Bool.false_eq_true, if_false]

variable {b : Nat} (facts : PictureFacts)

theorem exec_frameDone_of_decoder (hrunning : s.running = true) (hbusy : (s.ctx c.val).running = true)
    (hdecodes : (s.ctx c.val).decodes = true) (hcurrent : (s.ctx c.val).current = some b) :
    exec (.frameDone c facts) s = .next (frameOver (decodeDone s c.val b facts false) c.val) := by
  change execFrameDone c facts s = _
  simp only [execFrameDone, hrunning, hbusy, hdecodes, hcurrent, Bool.not_true, Bool.or_self, Bool.false_eq_true, if_false,
    if_true]

theorem exec_frameBudget_of_decoder (hrunning : s.running = true) (hbusy : (s.ctx c.val).running = true)
    (hdecodes : (s.ctx c.val).decodes = true) (hcurrent : (s.ctx c.val).current = some b) :
    exec (.frameBudget c facts) s = .next (frameOver (decodeDone s c.val b facts true) c.val) := by
  change execFrameBudget c facts s = _
  simp only [execFrameBudget, hrunning, hbusy, hdecodes, hcurrent, Bool.not_true, Bool.or_self, Bool.false_eq_true, if_false]

theorem exec_frameDone_of_encoder {j : Job} (hrunning : s.running = true) (hbusy : (s.ctx c.val).running = true)
    (hdecodes : (s.ctx c.val).decodes = false) (hencoding : (s.ctx c.val).encoding = some j) :
    exec (.frameDone c facts) s = .next (frameOver (encodeDone s c.val j facts) c.val) := by
  change execFrameDone c facts s = _
  simp only [execFrameDone, hrunning, hbusy, hdecodes, hencoding, Bool.not_true, Bool.or_self, Bool.false_eq_true, if_false]

end Completions

/-! ### Pictures that are decoded -/

/-- A context decodes: it does not wait for a random-access point. -/
def Decodes (c : Nat) (m : Media) : Prop := (agetD m.contexts c Context.blank).skipping = false

section Decoding

variable {p : Prop} {s : State} {c : Nat}

/-- A state whose context c decodes. What keeps the media keeps this, as `Held` says of each function. -/
theorem decodes_setCtx {x : Context} (h : x.skipping = false) : Held False (Decodes c) (s.setCtx c x) :=
  ⟨(congrArg Context.skipping (ctx_setCtx_self s c x)).trans h, nofun⟩

theorem decodes_modBuffer {b : Nat} {f : FrameBuffer → FrameBuffer} (h : Held False (Decodes c) s) :
    Held False (Decodes c) (s.modBuffer b f) := ⟨h.1, nofun⟩

theorem skipping_of_decodes (h : Held False (Decodes c) s) : (s.ctx c).skipping = false := h.1

theorem decodes_dropRefs {bs : List Nat} (h : Held False (Decodes c) s) : Held False (Decodes c) (dropRefs s c bs) :=
  decodes_setCtx (skipping_of_decodes (h.foldl fun _ _ h => decodes_modBuffer h))

theorem decodes_countPosted (h : Held False (Decodes c) s) : Held False (Decodes c) (countPosted s) := ⟨h.1, nofun⟩

theorem decodes_ctxPost {x : MediaCompletion} (h : Held False (Decodes c) s) : Held False (Decodes c) (ctxPost s c x) :=
  Held.mediaMsix (decodes_countPosted (decodes_setCtx (skipping_of_decodes h)))

theorem decodes_ctxSignal (h : Held False (Decodes c) s) : Held False (Decodes c) (ctxSignal s c) := Held.ite h.signalNow h

theorem decodes_delivered {w : Reorder} (h : Held False (Decodes c) s) : Held False (Decodes c)
    (if decide (w.status ≤ 2) then deliver s w.buffer else s.modBuffer w.buffer (fun f => { f with queued := false })) :=
  Held.ite (decodes_modBuffer h) (decodes_modBuffer h)

theorem decodes_postFrame {w : Reorder} (h : Held False (Decodes c) s) : Held False (Decodes c) (postFrame s c w) := by
  have hmarked := skipping_of_decodes (decodes_delivered (w := w) h)
  unfold postFrame
  dsimp only
  refine Held.ite (decodes_ctxSignal (decodes_ctxPost (decodes_setCtx ?_))) (decodes_ctxPost (decodes_setCtx ?_))
  · exact hmarked
  · exact hmarked

theorem decodes_outputFrames {k : Nat} (h : Held False (Decodes c) s) : Held False (Decodes c) (outputFrames s c k) :=
  Held.foldl (decodes_setCtx (skipping_of_decodes h)) fun _ _ h => decodes_postFrame h

/-! The parts of `decodeDone` after the picture has been written, in its order. -/

/-- The counts of a decoded picture, and the event of one that is not intact. -/
def countPicture (s : State) (c status pct : Nat) : State :=
  (if status = 0 then s else (s.bump 0x2C40 2).event 14 0 status [c, status, pct]).bumpBy 0x2C40 1 64 1

/-- The picture as a reference of the later ones. -/
def keepReference (s : State) (c b : Nat) (facts : PictureFacts) : State :=
  if facts.asReference then
    let s3 := s.modBuffer b (fun f => { f with ref := true, longTerm := facts.longTerm })
    s3.setCtx c { s3.ctx c with refs := (s3.ctx c).refs ++ [(facts.order, b)] }
  else s

/-- The picture among those that await output, unless it is not shown. -/
def awaitOutput (s : State) (c b : Nat) (facts : PictureFacts) (w : Reorder) : State :=
  if facts.shown then s.setCtx c { s.ctx c with awaiting := (s.ctx c).awaiting ++ [w] }
  else s.modBuffer b (fun f => { f with queued := false })

theorem decodes_countPicture {status pct : Nat} (h : Held False (Decodes c) s) :
    Held False (Decodes c) (countPicture s c status pct) := Held.bumpBy (Held.ite h h.bump.event)

theorem decodes_keepReference {b : Nat} {facts : PictureFacts} (h : Held False (Decodes c) s) :
    Held False (Decodes c) (keepReference s c b facts) :=
  Held.ite (decodes_setCtx (skipping_of_decodes (decodes_modBuffer h))) h

theorem decodes_awaitOutput {b : Nat} {facts : PictureFacts} {w : Reorder} (h : Held False (Decodes c) s) :
    Held False (Decodes c) (awaitOutput s c b facts w) :=
  Held.ite (decodes_setCtx (skipping_of_decodes h)) (decodes_modBuffer h)

variable {b : Nat} {facts : PictureFacts} {late : Bool}

/-- R318, R320: what is not supported, or waits for a random-access point, is not decoded. -/
theorem decodeDone_of_unsupported (h : streamSupported (s.ctx c).record facts = false ∨
    tooLarge (s.ctx c).record facts = true ∨ ((s.ctx c).skipping = true ∧ facts.randomAccess = false)) :
    decodeDone s c b facts late = notDecoded s c b facts := by
  refine if_pos ?_
  rcases h with h | h | ⟨h, h'⟩
  · simp only [h, Bool.not_false, Bool.true_or]
  · simp only [h, Bool.or_true, Bool.true_or]
  · simp only [h, h', Bool.not_false, Bool.and_self, Bool.or_true]

theorem decodeDone_of_supported (hsupported : streamSupported (s.ctx c).record facts = true)
    (hsize : tooLarge (s.ctx c).record facts = false)
    (haccess : (s.ctx c).skipping = false ∨ facts.randomAccess = true) :
    ∃ status pct w, decodeDone s c b facts late = outputFrames (awaitOutput (keepReference (countPicture
      (dropRefs (writePicture (s.setCtx c { s.ctx c with skipping := false }) c b facts) c facts.dropped)
      c status pct) c b facts) c b facts w) c facts.outputs := by
  have htaken : ((s.ctx c).skipping && !facts.randomAccess) = false := by
    rcases haccess with h | h
    · rw [h, Bool.false_and]
    · rw [h, Bool.not_true, Bool.and_false]
  exact ⟨_, _, _, if_neg (by simp only [hsupported, hsize, htaken, Bool.not_true, Bool.or_self, Bool.false_eq_true,
    not_false_eq_true])⟩

/-- After a supported picture the context no longer waits for a random-access point (R320). -/
theorem skipping_decodeDone (hsupported : streamSupported (s.ctx c).record facts = true)
    (hsize : tooLarge (s.ctx c).record facts = false)
    (haccess : (s.ctx c).skipping = false ∨ facts.randomAccess = true) :
    ((decodeDone s c b facts late).ctx c).skipping = false := by
  obtain ⟨status, pct, w, h⟩ := decodeDone_of_supported (b := b) (late := late) hsupported hsize haccess
  have hstart := decodes_setCtx (s := s) (c := c) (x := { s.ctx c with skipping := false }) rfl
  rw [h]
  exact skipping_of_decodes (decodes_outputFrames (decodes_awaitOutput (decodes_keepReference (decodes_countPicture
    (decodes_dropRefs (Held.writePicture hstart))))))

end Decoding

/-! ### Pictures that are not decoded -/

section NotDecoded

variable {s : State} {c b : Nat} {facts : PictureFacts}

theorem ctxPost_spec (x : MediaCompletion) : (ctxPost s c x).ctx c = { s.ctx c with
    completions := (s.ctx c).completions ++ [{ x with num := s.media.posted }] } ∧ (ctxPost s c x).mem = s.mem := by
  refine ⟨?_, mediaMsix_mem _⟩
  rw [ctxPost, ctx_congr (mediaMsix_media _), ctx_countPosted, ctx_setCtx_self]

/-- The completion of a picture that has no buffer to deliver. -/
theorem postFrame_of_undelivered {w : Reorder} (h : 2 < w.status) : (postFrame s c w).ctx c = { s.ctx c with
    frames := ((s.ctx c).frames + 1) % 2 ^ 32
    completions := (s.ctx c).completions ++ [⟨(s.ctx c).frames % 2 ^ 16, w.status, 0xFF, w.flags, w.concealed,
      (s.ctx c).frames, 0, s.media.posted⟩] } ∧ (postFrame s c w).mem = s.mem := by
  have hdelivers : decide (w.status ≤ 2) = false := decide_eq_false (Nat.not_le.2 h)
  unfold postFrame
  simp only [hdelivers, Bool.false_eq_true, if_false]
  obtain ⟨hctx, hmem⟩ := ctxPost_spec (s := (s.modBuffer w.buffer (fun f => { f with queued := false })).setCtx c
    { (s.modBuffer w.buffer (fun f => { f with queued := false })).ctx c with
      frames := ((s.ctx c).frames + 1) % 2 ^ 32 }) (c := c)
    ⟨(s.ctx c).frames % 2 ^ 16, w.status, 0xFF, w.flags, w.concealed, (s.ctx c).frames, 0, 0⟩
  rw [ctx_setCtx_self] at hctx
  exact ⟨hctx, hmem⟩

/-- R320: with no other picture awaiting output, the one that is not decoded completes at once, as unsupported. -/
theorem notDecoded_spec (hawaiting : (s.ctx c).awaiting = []) (houtputs : facts.outputs = 1) :
    (notDecoded s c b facts).ctx c = { s.ctx c with
      awaiting := []
      skipping := true
      frames := ((s.ctx c).frames + 1) % 2 ^ 32
      completions := (s.ctx c).completions ++ [⟨(s.ctx c).frames % 2 ^ 16, 3, 0xFF, 0, 0, (s.ctx c).frames, 0,
        s.media.posted⟩] } ∧ (notDecoded s c b facts).mem = s.mem := by
  have hfreed : (s.modBuffer b (fun f => { f with queued := false })).ctx c = s.ctx c := rfl
  unfold notDecoded outputFrames
  dsimp only
  rw [ctx_setCtx_self, hfreed, hawaiting, houtputs]
  obtain ⟨hctx, hmem⟩ := postFrame_of_undelivered (s := ((s.modBuffer b (fun f => { f with queued := false })).setCtx c
    { s.ctx c with skipping := true, awaiting := [⟨facts.order, 0xFF, 3, 0, 0⟩] }).setCtx c
    { s.ctx c with skipping := true, awaiting := [] }) (c := c) (w := ⟨facts.order, 0xFF, 3, 0, 0⟩)
    (Nat.lt_succ_self 2)
  rw [ctx_setCtx_self] at hctx
  exact ⟨hctx, hmem⟩

end NotDecoded

theorem streamSupported_iff (r : Bytes) (facts : PictureFacts) : streamSupported r facts = true ↔
    ((fld r 1 1 = 1 ∧ facts.profile = 1) ∨ (fld r 1 1 = 2 ∧ (facts.profile = 2 ∨ facts.profile = 3)) ∨
      (fld r 1 1 ≠ 1 ∧ fld r 1 1 ≠ 2 ∧ facts.profile = 4)) ∧ facts.level ≤ 51 ∧ facts.interlaced = false := by
  unfold streamSupported
  split
  · next h => simp [h, and_assoc]
  · next h => simp [h, and_assoc]
  · next h h' => simp [show fld r 1 1 ≠ 1 from h, show fld r 1 1 ≠ 2 from h', and_assoc]

theorem frameOver_of_atRest {s : State} {c : Nat} (h : atRest (s.ctx c)) :
    frameOver s c = s.setCtx c { s.ctx c with running := false, current := none, encoding := none } :=
  atBoundary_of_atRest (by rw [ctx_setCtx_self]; exact h)

/-- Settles O29: each clause is the handler's own equation under the clause's premises. A picture that is decoded ends the
wait for a random-access point because every later step of its completion keeps the context's mark, which is the reading
of `Held` at `Decodes`. -/
theorem jobsFramesAndBuffers : Obligations.JobsFramesAndBuffers := by
  unfold Obligations.JobsFramesAndBuffers
  intro ch val s
  refine ⟨?_, ?_, ?_, ?_, ?_, ?_, ?_, ?_, ?_, ?_, ?_, ?_, ?_⟩
  · intro hlength hc hformed hst hroom hdecodes hlow hhigh
    exact accepted_of_done rfl rfl (applyJob_of_decoder hlength hc hformed hst hroom hdecodes hlow hhigh)
  · intro hlength hc hformed hst
    exact turnedDown_of_done rfl rfl (applyJob_of_closed hlength hc hformed hst)
  · intro hlength hzero hzero' hn hfree
    have hreserved : (zeroAt val 3 1 && zeroAt val 28 4) = true := by rw [hzero, hzero']; rfl
    constructor
    · intro hformat
      have happly := applyRegister_of_checks hlength hreserved hn hfree (by omega) (.inl hformat) (.inl hformat)
        (.inl hformat) (.inl hformat)
      rw [if_pos hformat] at happly
      exact accepted_of_done rfl rfl happly
    · intro hlow hhigh hranges hplaced hapart howner
      have happly := applyRegister_of_checks hlength hreserved hn hfree hhigh (.inr hranges) (.inr hplaced)
        (.inr hapart) (.inr howner)
      rw [if_neg (Nat.ne_of_gt hlow)] at happly
      exact accepted_of_done rfl rfl happly
  · intro h
    exact accepted_of_done rfl rfl (applyRelease_of_lt h)
  · intro h
    exact turnedDown_of_done rfl rfl (applyRelease_of_le h)
  · intro c j rest hrunning hst hdecodes hroom hjobs hend
    obtain ⟨hctx, -, hmem⟩ := jobDone_spec (s := s.setCtx c.val { s.ctx c.val with jobs := rest }) (c := c.val)
      (status := 6) j
    rw [ctx_setCtx_self] at hctx
    exact ⟨_, exec_jobConsumed_of_chunk hrunning hst hdecodes hroom hjobs hend, congrArg Context.jobs hctx,
      congrArg Context.completions hctx, hmem⟩
  · intro pipe c hrunning hidle hchosen
    exact exec_nextFrameStart_of_chosen hrunning hidle hchosen
  · intro pipe _ hchosen
    exact exec_nextFrameStart_of_none hchosen
  · intro c b facts hrunning hbusy hdecodes hcurrent
    exact ⟨exec_frameDone_of_decoder facts hrunning hbusy hdecodes hcurrent,
      exec_frameBudget_of_decoder facts hrunning hbusy hdecodes hcurrent⟩
  · intro c b facts late
    exact ⟨decodeDone_of_unsupported, skipping_decodeDone⟩
  · rintro c b facts hawaiting houtputs hrest t rfl
    obtain ⟨hctx, hmem⟩ := notDecoded_spec (b := b) hawaiting houtputs
    have hrest' : atRest ((notDecoded s c.val b facts).ctx c.val) := by rw [hctx]; exact hrest
    rw [frameOver_of_atRest hrest', ctx_setCtx_self, hctx]
    exact ⟨rfl, rfl, rfl, rfl, hmem⟩
  · exact streamSupported_iff
  · intro c j facts hrunning hbusy hdecodes hencoding
    exact exec_frameDone_of_encoder facts hrunning hbusy hdecodes hencoding

end Sys2Proof.Machine
end
